-- ==== Sys2Proof/Word.lean ====
section
/-!
DEFINITION. The word types of the register space (16_register_map.md R394) and of the queues (15_queues_gatehouse.md R370).
-/

namespace Sys2Proof

/-- A register word (R394). -/
abbrev Word := BitVec 32

/-- A byte of the two-wire ports, the image slots and the MRAM. -/
abbrev Byte := BitVec 8

end Sys2Proof
end

