-- ==== Sys2Proof/Syntax.lean ====
section
/-!
DEFINITION. The commands of the block: one constructor of `Instr` per row of spec/opcode_table.json, and the operand
types the constructors take. What arrives from outside the part (levels, codes, frames, register words) is operand.
-/

namespace Sys2Proof

/-- The masters, in the coding of CFGERR.MASTER (03_configuration_image.md; R373). -/
inductive Master
  | hpa | hpb | fl0 | fl1 | dbg | sup
  deriving DecidableEq, Repr

/-- An instant: TBCOUNT and the fine step within its tb (R113). -/
abbrev Time := BitVec 52

/-- What an SMODg strap decodes to (R45). -/
inductive SmodStrap
  | threeLevel | paired | undecodable
  deriving DecidableEq, Repr

/-- The two core supplies whose loss enters OFF (R52). -/
inductive CoreSupply
  | vcore | vdd33
  deriving DecidableEq, Repr

/-- A word a read of the MRAM finds uncorrectable: its offset in the words read, and whether the second copy of an area that has
two is lost as well (R329). -/
structure LostWord where
  word : Nat
  both : Bool
  deriving DecidableEq, Repr

/-- What a read of an area of the MRAM finds: the words it corrects, as offsets in the words read, and those it cannot (R329). -/
structure ReadFind where
  corrected : List Nat
  lost : List LostWord
  deriving DecidableEq, Repr

/-- What the read of one word finds (R329); a word of a Plate that fails parity reads as an uncorrectable one does (R341). -/
inductive WordFind
  | clean | corrected | uncorrectable
  deriving DecidableEq, Repr

/-- What one BOOT meets outside the registers: the strap levels, whether the crystal or reference runs (R58),
and whether the calibration of every block without a spare succeeds (R19, R74). `applyA` and `applyB`
say whether the application of a checked slot succeeds (R73, R74 steps 6 and 9); the rest is what its reads of the MRAM find:
of each slot that is read in full, of the Ledger, the health area and the secure bank (R329). -/
structure BootIn where
  smod : Vector SmodStrap 6
  bootsel : Bool
  reference : Bool
  calOk : Bool
  applyA : Bool
  applyB : Bool
  readA : ReadFind
  readB : ReadFind
  ledger : ReadFind
  health : ReadFind
  secure : ReadFind
  deriving DecidableEq, Repr

/-- The slot a VERIFY names, and what its read of the slot finds (R76, R329). -/
structure SlotRead where
  slot : Bool
  found : ReadFind
  deriving DecidableEq, Repr

/-- The record LG_RDSEQ names, 0 for the pinned one, and what the load of its 64 words finds (R337, R329). -/
structure RecordRead where
  seq : Word
  found : ReadFind
  deriving DecidableEq, Repr

/-- A word of an image, and whether the read-back after its write verifies (R77, R330). -/
structure VerifiedWord where
  word : Word
  verified : Bool
  deriving DecidableEq, Repr

/-- A key slot, and whether the read-back after its write verifies (R387, R330). -/
structure VerifiedSlot where
  slot : BitVec 3
  verified : Bool
  deriving DecidableEq, Repr

/-- What one boundary window of a rail takes from outside: the error converter's inputs of the sample just ended in
units of 0.3125 mV before the converter's limiting (R11, R24), the current conversions of each phase in that sample with their
instants, oldest first (R169, R257, R281), and whether the Ephemeris word read for the sample fails parity (R185); `t` is the boundary's instant t_n. -/
structure WindowIn where
  t : Time
  convs : List Int
  icode : Vector (List (Time × BitVec 12)) 48
  ephBad : Bool
  deriving DecidableEq, Repr

/-- An event of phase n at instant t. -/
structure PhaseAt where
  n : Fin 48
  t : Time
  deriving DecidableEq, Repr

/-- An event of rail k at instant t. -/
structure RailAt where
  k : Fin 8
  t : Time
  deriving DecidableEq, Repr

/-- An event of Plate p at instant t. -/
structure PlateAt where
  p : Fin 4
  t : Time
  deriving DecidableEq, Repr

/-- Whether the modulator's comparator demands a launch at instant t (R116). -/
structure DemandAt where
  demand : Bool
  t : Time
  deriving DecidableEq, Repr

/-- Trip source src of a phase acts at instant t (R100). -/
structure SourceAt where
  src : Fin 8
  t : Time
  deriving DecidableEq, Repr

/-- The message that ends a test of phase n, with its epoch (R2, R245). -/
structure TestMessage where
  n : Fin 48
  epoch : BitVec 8
  deriving DecidableEq, Repr

/-- The PEC byte of a two-wire write or read: none, right or wrong (R357). -/
inductive Pec
  | absent | right | wrong
  deriving DecidableEq, Repr

/-- How the bytes of a two-wire write end: the PEC byte after them; `cont`, whether they go on with the write of the same
command code the port has open; and `more`, whether the transaction stays open after them, the host sending the rest later
(R351, R354, R369). -/
structure WriteEnd where
  pec : Pec
  cont : Bool
  more : Bool
  deriving DecidableEq, Repr

/-- How a pop ends: the data bytes the host reads, and whether a STOP follows them (R356, R358). -/
structure PopEnd where
  read : Nat
  stop : Bool
  deriving DecidableEq, Repr

/-- How a transaction of the PMBus subset ends (R345, R357, R358): as its row gives it, with a PEC byte or without; after
only n of its data bytes, a host that reads NACKing the n-th; or as a process call, the host sending a data byte to a command
that is only read, or repeating START to read after the data of a written one. -/
inductive PmEnd
  | plain (p : Pec)
  | early (n : Nat)
  | call
  deriving DecidableEq, Repr

/-- The fields a Fjovy command frame carries besides its opcode (R219, R220). -/
structure Frame where
  ep : Fin 4
  slot : Fin 4
  tag : BitVec 4
  arg : BitVec 8
  data : BitVec 16
  deriving DecidableEq, Repr

/-- The outcome of a lane's work on one slot (R31, R159-R163): the first computation is clean; fails parity and replays
clean; fails on a word of one store copy, which is rewritten from the other, and replays clean; fails parity twice; is clean,
but the transfer of y to the threshold DAC fails parity; fails twice with the snapshot of a state word lost; fails twice
with both store copies of a word lost; or ends without the end-of-work marker. -/
inductive SlotOutcome
  | clean | replayed | corrected | held | transfer | stateLost | storeLost | noMarker
  deriving DecidableEq, Repr

/-- The commands of the block: one constructor per row of spec/opcode_table.json, in the table's order. -/
inductive Instr
  /-- SUPPLY_GOOD (R19): VCORE and VDD33 become good with RESET# high, so the device leaves OFF and enters BOOT. -/
  | supplyGood (smod : Vector SmodStrap 6)
  /-- SUPPLY_LOSS (R52): VCORE or VDD33 stays below its falling threshold for the filter time, and the device enters OFF. -/
  | supplyLoss (which : CoreSupply)
  /-- RESET_ASSERT (R59): RESET# is held low for 1 us or more, so the device enters OFF without a soft stop and the Night Porter takes the gates. -/
  | resetAssert
  /-- RESET_RELEASE (R59): A rising edge on RESET# resamples ADDR0 and ADDR1 and allows BOOT. -/
  | resetRelease (a0 : Option (Fin 4)) (a1 : Option (Fin 4))
  /-- VAON_POWER_ON (R57): VAON rises, the always-on domain starts cold and AONCOLD is set. -/
  | vaonPowerOn (a0 : Option (Fin 4)) (a1 : Option (Fin 4))
  /-- VAON_LOSS (R57): VAON falls below its falling threshold and the whole Night Porter state is lost. -/
  | vaonLoss
  /-- VIOH_LOSS (R54): VIOH stops being good: host ports stop, EN inputs hold, TRIP pins read inactive, and VIOHLOSS is raised. -/
  | viohLoss
  /-- VIOH_GOOD (R54): VIOH becomes good again, EN pins are resampled and any change is acted on as an edge. -/
  | viohGood (en : Vector Bool 8) (a0 : Option (Fin 4)) (a1 : Option (Fin 4))
  /-- VIOL_LOSS (R55): VIOL stops being good: the link pins go high impedance, VIOLLOST is set and the link counts as silent. -/
  | violLoss
  /-- VIOL_GOOD (R238): VIOL becomes good again and each port returns to version 1. -/
  | violGood
  /-- HVIN_LOSS (R52): HVIN falls below its good threshold, the internal regulator stops and VAON runs from its capacitor. -/
  | hvinLoss
  /-- BOOT (R74): BOOT samples straps, locks the PLLs, selects, checks and applies an image, calibrates, and ends in STANDBY or SAFE. -/
  | boot (b : BootIn)
  /-- SLEEP (R402): DEVICE_CTL.SLEEP is written 1 in STANDBY, and the device enters OFF with sleep latched. -/
  | sleep (m : Master)
  /-- SAFE_EXIT (R21): DEVICE_CTL.SAFE_EXIT is written 1 in SAFE; with no device-level fault cause active, the device returns to STANDBY, otherwise the write is refused with ACTIVEFAULT. -/
  | safeExit (m : Master)
  /-- ADDRESS_MATCH_WAKE (R359): A host address match in OFF is ACKed and SCL is stretched, then the wake to BOOT proceeds and the port takes the transaction over. -/
  | addressMatchWake (x : Fin 2)
  /-- REFERENCE_LOSS (R14): The crystal or reference clock fails, both PLLs change over to the internal RC, and REFLOST is set. -/
  | referenceLoss
  /-- PLL_LOSS (R293): The working PLL loses lock: PWM goes to mid, TB changes to the other PLL, and the lost PLL takes a strike and restarts. -/
  | pllLoss
  /-- PLL_RELOCK (R293): A restarted PLL relocks within 1 ms and becomes the spare. -/
  | pllRelock
  /-- PLL_RELOCK_TIMEOUT (R293): A restarted PLL fails to relock within 1 ms and is retired; loss of the last PLL raises PLLBOTH. -/
  | pllRelockTimeout
  /-- BOUNDARY_WINDOW (R28): At each rail sample boundary, the boundary window runs outer-loop publication, fault timers, PG, SAMPLE writes, commits, hand-overs, the Transit step and the DAC loads. -/
  | boundaryWindow (k : Fin 8) (w : WindowIn)
  /-- RAILOV (R285): The overvoltage count reaches OVDLY + 1 and RAILOV is declared. -/
  | railov (k : Fin 8)
  /-- RAILUV (R286): The undervoltage count reaches UVDLY and RAILUV is declared. -/
  | railuv (k : Fin 8)
  /-- FOLLOWERR (R176): FECNT reaches FETIME and FOLLOWERR is declared with class FECLASS. -/
  | followerr (k : Fin 8)
  /-- PG_ASSERT (R211): PGADLY consecutive samples in window in ON assert PG and release PGOODk. -/
  | pgAssert (k : Fin 8)
  /-- PG_DEASSERT (R211): PGDDLY consecutive samples out of window deassert PG. -/
  | pgDeassert (k : Fin 8)
  /-- LANE_SLOT (R142): A lane computes a rail's inner graph and outer-loop slice in the first half of its slot. -/
  | laneSlot (k : Fin 8) (o : SlotOutcome)
  /-- LANE_SELF_TEST (R163): A spare or idle lane runs its test graph in a frame and compares the result with the signature. -/
  | laneSelfTest (lane : Fin 5) (ok : Bool)
  /-- LANE_MOVE_COPY_DONE (R164): Programs have been copied into the target lane, which takes each rail at its next sample boundary. -/
  | laneMoveCopyDone (lane : Fin 5)
  /-- GRAPH_STORE_SCRUB (R162): Every 1 ms both copies of the shared graph store are scrubbed and corrected. -/
  | graphStoreScrub (corrected : BitVec 16) (lost : Vector Nat 8)
  /-- COAST_EXPIRY (R157): COAST reaches COASTLIM samples, so the controller clears COAST and sets COASTEXP. -/
  | coastExpiry (k : Fin 8)
  /-- VINFF_UPDATE (R119): VINC is updated once per frame from the last four VINFF conversions.
  `none`: the converter has failed (R33). -/
  | vinffUpdate (code : Option (BitVec 10))
  /-- RIPPLE_STEP (R118): Every 4 tb the ripple accumulator and RIPCODE are updated. -/
  | rippleStep (k : Fin 8) (t : Time)
  /-- LAUNCH_DEMAND (R116): The launch comparator crosses into demand and a launch is issued to the next eligible ring phase. -/
  | launchDemand (x : RailAt)
  /-- BLANKING_END (R116): Blanking ends; with demand continuing a launch is issued, otherwise onset mode may end. -/
  | blankingEnd (k : Fin 8) (d : DemandAt)
  /-- OVERLAP_RELEASE (R117): OVL falls below the limit and a waiting launch is issued. -/
  | overlapRelease (k : Fin 8) (d : DemandAt)
  /-- LAUNCH (R92): A launch reaches the pulse engine, which starts, delays or refuses the pulse. -/
  | launch (k : Fin 8) (t : Time)
  /-- LAUNCH_DELAY_END (R92): MINOFF has elapsed for a delayed launch and its pulse starts. -/
  | launchDelayEnd (x : PhaseAt)
  /-- PERIOD_BOUNDARY (R99): A phase counter reloads; shadows transfer, trips are evaluated, the latch may clear, and the pulse starts. -/
  | periodBoundary (x : PhaseAt)
  /-- IDLE_BOUNDARY (R89): In launched mode no launch arrived within PERIOD, so the counter reloads without a pulse. -/
  | idleBoundary (x : PhaseAt)
  /-- ON_TIME_END (R94): The on-time elapses, so the high side turns off and the low interval begins. -/
  | onTimeEnd (x : PhaseAt)
  /-- DEAD_TIME_END (R94): DTLH or DTHL elapses in a paired group and the next FET turns on. -/
  | deadTimeEnd (x : PhaseAt)
  /-- ZERO_CURRENT_CROSSING (R94): In diode emulation or a tail, the zero-current crossing ends the low interval and the phase goes to its off level. -/
  | zeroCurrentCrossing (x : PhaseAt)
  /-- CYCLE_CUT (R101): A cycle-cut source becomes active, so the high level ends at once and the period is limited. -/
  | cycleCut (n : Fin 48) (x : SourceAt)
  /-- TRIP_LATCH (R103): A latch source becomes active, so the phase goes to its off level and LATCHED is set. -/
  | tripLatch (n : Fin 48) (x : SourceAt)
  /-- TRIP_PIN (R105): A TRIP pin edge passes its filter and drives its trip sources. -/
  | tripPin (t : Fin 4) (level : Bool)
  /-- PHASE_LATCH_CLEAR (R104): A write of 1 to PHASE[n].STATUS.LATCHED requests a latch clear, or is refused with CLRREFUSED. -/
  | phaseLatchClear (m : Master) (n : Fin 48)
  /-- SHLOCK_TIMEOUT (R98): SHLOCK has stayed 1 through 64 period boundaries, so the engine clears it and sets SHLOCKTO. -/
  | shlockTimeout (n : Fin 48)
  /-- SYNCI_EDGE (R107): A SYNCI edge is timestamped and is either accepted, setting t_ref, or rejected. -/
  | synciEdge (t : Time) (rising : Bool)
  /-- SYNC_REFERENCE_TICK (R107): The sync reference t_ref recurs, realigning synced phases and driving SYNCO. -/
  | syncReferenceTick
  /-- SYNC_HOLDOVER (R108): No SYNCI edge is accepted within 1.5 SYNCPER, so SYNCLOST is set and holdover begins. -/
  | syncHoldover
  /-- STAGE_WAKE_DONE (R47): WAKE has elapsed after SMODg rose and the group's phases become eligible. -/
  | stageWakeDone (g : Fin 6)
  /-- SEQUENCE_BOUNDARY (R126): A ring commit or rewrite takes effect, POS becomes 0, and the frequency lock is measured. -/
  | sequenceBoundary (k : Fin 8) (t : Time)
  /-- FORCED_SEQUENCE_BOUNDARY (R126): No sequence boundary occurred within 16 samples while a ring change waits, so a boundary is forced. -/
  | forcedSequenceBoundary (x : RailAt)
  /-- FORECAST_WINDOW_OPEN (R128): The first boundary at or after due minus ONLEAD opens the forecast window and onset mode. -/
  | forecastWindowOpen (k : Fin 8)
  /-- FORECAST_WINDOW_CLOSE (R128): ONWIN samples after due, the forecast window closes. -/
  | forecastWindowClose (k : Fin 8)
  /-- START_DELAY_EXPIRY (R204): TONDLY has elapsed and the group's turn is reached, so the rail is enabled and enters WAKE. -/
  | startDelayExpiry (k : Fin 8)
  /-- WAKE_EXPIRY (R204): The ring groups' wake time has elapsed and the rail enters RAMP. -/
  | wakeExpiry (k : Fin 8)
  /-- STOP_DELAY_EXPIRY (R206): TOFFDLY has elapsed, so the rail soft-stops or is disabled at once. -/
  | stopDelayExpiry (k : Fin 8)
  /-- START_PROGRESS_CHECK (R210): STGRACE samples after the ramp arrives, x is checked and START_SHORT may be declared. -/
  | startProgressCheck (k : Fin 8)
  /-- EN_PIN_CHANGE (R202): An ENk level change is acted on at the rail's next eligible boundary; a rising edge in OFF wakes the device. -/
  | enPinChange (k : Fin 8) (level : Bool)
  /-- RAIL_VSET_WRITE (R199): A write to RAIL[k].VSET pushes a SET entry, or is refused. -/
  | railVsetWrite (m : Master) (k : Fin 8) (v : Word)
  /-- RAIL_ON_WRITE (R199): A write to RAIL[k].ON pushes an ON or OFF entry. -/
  | railOnWrite (m : Master) (k : Fin 8) (v : Word)
  /-- SEQGRP_GEN_WRITE (R209): A write to GEN requests every member of the ordering group on or off in order. -/
  | seqgrpGenWrite (m : Master) (g : Fin 4) (v : Word)
  /-- HICCUP_RETRY (R283): HICOFF has elapsed, so the rail retries from step 2 of the start and HICCNT increments. -/
  | hiccupRetry (k : Fin 8)
  /-- HICCUP_COUNT_CLEAR (R283): PG has stayed 1 for HICGOOD ms and HICCNT returns to 0. -/
  | hiccupCountClear (k : Fin 8)
  /-- SAFE_STOP_TIMEOUT (R284): A rail is not OFF SAFETMO ms after a class 5 response and is disabled at once. -/
  | safeStopTimeout (k : Fin 8)
  /-- PHASE_HOLDOFF_END (R276): The class 2 hold-off PHOFF ends and the phase latch clears at a period boundary. -/
  | phaseHoldoffEnd (n : Fin 48)
  /-- COMPARATOR_CROSSING (R268): A comparator input crosses its threshold for FILT tb, changing OUT and setting LATCHED. -/
  | comparatorCrossing (c : Fin 128) (out : Bool) (lateLow : Bool)
  /-- OCHIC (R279): RCONS reaches HICN and OCHIC is declared against the rail. -/
  | ochic (k : Fin 8)
  /-- PHOC (R280): A phase's CONSEC reaches PHN while a neighbour ended normally, so PHOC is declared and a strike added. -/
  | phoc (n : Fin 48)
  /-- CMP_ARM (R269): A write of ARM = 1 starts arming a comparator. -/
  | cmpArm (m : Master) (c : Fin 128)
  /-- CMP_ARMED (R269): Arming completes within 20 us: OUT is set from the readback and ARMED becomes 1. -/
  | cmpArmed (c : Fin 128) (vin : BitVec 12) (dac : BitVec 12)
  /-- CMP_DISARM (R269): A write of ARM = 0 disarms the comparator at once. -/
  | cmpDisarm (m : Master) (c : Fin 128)
  /-- CMP_LATCH_CLEAR (R270): A write of 1 to CMP[c].STATUS.LATCHED requests a clear, or is refused. -/
  | cmpLatchClear (m : Master) (c : Fin 128)
  /-- COMPARATOR_CHECK (R274): The main converter checks a comparator's DAC, consistency or sweep and counts strikes. -/
  | comparatorCheck (c : Fin 128) (vin : BitVec 12) (dac : BitVec 12) (sweepOk : Bool)
  /-- COMPARATOR_SUBSTITUTION (R291): Within 10 us a spare comparator takes over a retired comparator's function. -/
  | comparatorSubstitution (f : Fin 120)
  /-- IC_CROSSCHECK (R292): The main converter cross-checks one ISEN per group against the working current converter.
  `stuck`: all eight phases of the group have read 000h or FFFh for 64 consecutive conversions each (R290). -/
  | icCrosscheck (ic : Fin 7) (n : Fin 48) (main : BitVec 12) (work : BitVec 12) (stuck : Bool)
  /-- CONVERTER_SUBSTITUTION (R292): The spare current converter takes a retired converter's group within 20 us. -/
  | converterSubstitution (g : Fin 6)
  /-- STRIKE_DECAY (R289): A strike leaves its channel's window and no longer counts. -/
  | strikeDecay (t : Fin 5) (i : Fin 128)
  /-- OTS (R287): A temperature has stayed at or above OTS for OTDLY ms and OTS is declared. -/
  | ots (sensor : Fin 9)
  /-- OPEN_PHASE (R257): Eight consecutive near-zero pulses declare a phase open, and it is retired. -/
  | openPhase (n : Fin 48)
  /-- BLIND_DECLARED (R258): A stuck, thermal or sum test fails and a phase's current sense is declared blind. -/
  | blindDeclared (n : Fin 48) (test : Fin 3)
  /-- RING_REWRITE (R252): An Innkeeper decision forms a ring rewrite that completes within 200 ns and waits for a sequence boundary. -/
  | ringRewrite (k : Fin 8)
  /-- WEAR_UPDATE (R261): Once a second WEAR and zero drift are computed, and WORN or DRIFT may be set. -/
  | wearUpdate
  /-- HEALTH_SAVE (R262): Every 3,600 s the counters and flags are written to the health area. -/
  | healthSave
  /-- RETIRE (R264): An INK_REQ RETIRE request retires a phase with RCAUSE 5h. -/
  | retire (m : Master) (n : Fin 48) (epoch : BitVec 8)
  /-- TEST (R263): An INK_REQ TEST request puts a phase into phase test mode. -/
  | test (m : Master) (n : Fin 48) (epoch : BitVec 8)
  /-- ENDTEST (R264): An INK_REQ ENDTEST request ends a phase test. -/
  | endtest (m : Master) (n : Fin 48) (epoch : BitVec 8)
  /-- PHASE_TEST_END (R263): TESTLEN period boundaries have passed, so the test ends and TESTRES is recorded. -/
  | phaseTestEnd (x : TestMessage)
  /-- HORIZON_TIMEOUT (R181): No slack report arrives within HZTO, so M is set to 0 and HZTOUT is set. -/
  | horizonTimeout (k : Fin 8)
  /-- EPHEMERIS_PERIOD_TIMEOUT (R188): No period arrives within EPTO ms and ELOST is set. -/
  | ephemerisPeriodTimeout (k : Fin 8)
  /-- EPHEMERIS_PERIOD_EDGE (R188): An edge of EVSRC gives a new period T and resets the position. -/
  | ephemerisPeriodEdge (k : Fin 8) (t : BitVec 52)
  /-- EPHEMERIS_CLEAR (R190): A write of ECLR clears the table at the next sample boundary. -/
  | ephemerisClear (m : Master) (k : Fin 8)
  /-- PING (R224): A PING frame is answered with its own data. -/
  | ping (p : Fin 2) (f : Frame)
  /-- NEGOTIATE (R233): A NEGOTIATE frame sets the port version to min(VREQ, MAXVER). -/
  | negotiate (p : Fin 2) (f : Frame)
  /-- CLRALERT (R232): A CLRALERT frame clears endpoint causes of page 01h or 02h. -/
  | clralert (p : Fin 2) (f : Frame)
  /-- GETT (R230): A GETT frame returns a temperature reading. -/
  | gett (p : Fin 2) (f : Frame)
  /-- GETSTAT (R231): A GETSTAT frame returns a status page. -/
  | getstat (p : Fin 2) (f : Frame)
  /-- GETV (R230): A GETV frame returns a rail voltage value. -/
  | getv (p : Fin 2) (f : Frame)
  /-- GETI (R230): A GETI frame returns a rail current value. -/
  | geti (p : Fin 2) (f : Frame)
  /-- SETV (R225): A SETV frame enqueues a SET entry. -/
  | setv (p : Fin 2) (f : Frame)
  /-- SETV_SLEW (R225): A SETV_SLEW frame enqueues a SET entry with a slew override. -/
  | setvSlew (p : Fin 2) (f : Frame)
  /-- MARGIN_COMMAND (R228): A MARGIN frame in command form enqueues a MARGIN entry. -/
  | marginCommand (p : Fin 2) (f : Frame)
  /-- MARGIN_REPORT (R228): A MARGIN frame in report form delivers a slack report to Horizon. -/
  | marginReport (p : Fin 2) (f : Frame)
  /-- FORECAST (R226): A FORECAST frame delivers a current step and due time to the modulator, the Innkeeper and Transit. -/
  | forecast (p : Fin 2) (f : Frame)
  /-- PERIOD (R227): A PERIOD frame gives the Ephemeris the load period and may align the position. -/
  | period (p : Fin 2) (f : Frame)
  /-- POWERSTATE (R229): A POWERSTATE frame enqueues an ON or OFF entry. -/
  | powerstate (p : Fin 2) (f : Frame)
  /-- UNKNOWN_OP (R222): A frame with an unassigned or unavailable opcode is answered UNKNOWN_OP. -/
  | unknownOp (p : Fin 2) (op : BitVec 6) (f : Frame)
  /-- CRC_ERROR (R222): A frame with a bad command CRC is answered CRC_ERROR. -/
  | crcError (p : Fin 2) (op : BitVec 6) (f : Frame)
  /-- LINK_FRAME_ERROR (R240): A frame whose second SOF bit is 1 is ignored and counted out. -/
  | linkFrameError (p : Fin 2)
  /-- LINK_CLOCK_TIMEOUT (R240): FLCLKn stops for 5 us, so the frame or response is abandoned. -/
  | linkClockTimeout (p : Fin 2) (cycle : Fin 82)
  /-- PORTER_MODEL_STEP (R299): Every 10 us the Porter latches readings, runs the breaker and FET model, applies transitions and publishes powers. -/
  | porterModelStep
  /-- FEED_PRESENT (R300): VFx has stayed above 7.6 V for 1 ms and the feed becomes present. -/
  | feedPresent (b : Bool)
  /-- FEED_ABSENT (R300): VFx falls below 7.0 V and the feed is no longer present. -/
  | feedAbsent (b : Bool)
  /-- FEED_REVERSE_OFF (R301): A reverse detector trips and the feed's gate is turned off. -/
  | feedReverseOff (b : Bool)
  /-- FEED_GATE_ON (R301): VFx - HVIN stays above +100 mV for ORDLY, so the feed gate turns on again. -/
  | feedGateOn (b : Bool)
  /-- INSERTION_DEBOUNCE_END (R304): The input has been present for INSDLY ms, so DEBOUNCE moves to INRUSH. -/
  | insertionDebounceEnd
  /-- INRUSHTO (R305): ON has not been reached INRTMO ms after INRUSH began, and INRUSHTO is declared. -/
  | inrushto
  /-- FETSHORT (R312): VBULK has stayed within 1 V of HVIN for 1 ms with HSGATE off, and FETSHORT is declared. -/
  | fetshort
  /-- RETRY_WAIT_END (R314): REMWAIT reaches 0, so WAIT moves to DEBOUNCE or IDLE. -/
  | retryWaitEnd
  /-- RETRY_COUNT_CLEAR (R313): STATE has been ON for RGOOD s and RCNT returns to 0. -/
  | retryCountClear
  /-- HOSTOFF (R304): A write of HOSTOFF forces the Porter to OFF, or releases it. -/
  | hostoff (m : Master) (v : Bool)
  /-- CLRLATCH (R304): A write of CLRLATCH moves the Porter from LATCHED to IDLE. -/
  | clrlatch (m : Master)
  /-- NP_GATE_FAULT (R316): In the Night Porter profile, limiting for NPTFLT or an inrush timeout is a gate fault. -/
  | npGateFault (timeout : Bool)
  /-- PFW_RELEASE (R317): No cause has held for PFWREL ms with STATE ON, so PFW# is released and PFWEND is set. -/
  | pfwRelease
  /-- CONVERTER_FRAME (R321): Each 10 us main-converter frame converts the fixed channels and six rotation slots, and publishes the values. -/
  | converterFrame (codes : Vector (BitVec 12) 20)
  /-- SECS_INCREMENT (R325): SECS advances every 32,768 AON ticks, TB_SECMARK latches, and the alarm may wake the device. -/
  | secsIncrement
  /-- TELEMETRY_PERIOD (R327): Every TMPER frames the listed items are captured and pushed to Q12. -/
  | telemetryPeriod
  /-- EFFICIENCY_WINDOW (R328): Every EFFWIN ms EFF, PINAVG and PRAVG are published. -/
  | efficiencyWindow
  /-- NV_RECORD_WRITE (R332): A Q15 entry is written to MRAM, verified, and remapped if needed. -/
  | nvRecordWrite (verified : Bool)
  /-- SCRUB_PASS_START (R331): Thirty days after the last pass a scrub pass starts. -/
  | scrubPassStart
  /-- SCRUB_SECTOR (R331): Every 10 ms during a pass one sector is scrubbed and corrected. -/
  | scrubSector (corrected : List (Fin 256)) (lost : List LostWord)
  /-- LEDGER_READ (R337): A write to LG_RDSEQ starts loading a record into LG_WIN. -/
  | ledgerRead (m : Master) (x : RecordRead)
  /-- LEDGER_READ_DONE (R337): Within 10 us the record is in LG_WIN and LG_RDSTAT reports the result. -/
  | ledgerReadDone
  /-- PINREL (R336): A write of PINREL clears PINVALID. -/
  | pinrel (m : Master)
  /-- HNV_DATA_ACCESS (R332): An access to HNV_DATA reads or writes the host NV word and advances WADDR. -/
  | hnvDataAccess (m : Master) (w : Option Word) (found : WordFind)
  /-- PLATE_ARM (R340): A write of RUN = 1 arms a Plate. -/
  | plateArm (m : Master) (p : Fin 4)
  /-- PLATE_STOP (R342): A write of RUN = 0 stops and abandons the capture. -/
  | plateStop (m : Master) (p : Fin 4)
  /-- TRIGNOW (R340): A write of TRIGNOW triggers the Plate. -/
  | trignow (m : Master) (p : Fin 4)
  /-- PLATE_TICK (R338): A base tick stores a sample, takes a level trigger, and completes the capture. -/
  | plateTick (x : PlateAt)
  /-- PLATE_EXPORT (R343): A write of PL_EXP.GO pushes a done Plate into Q13. -/
  | plateExport (m : Master) (p : Fin 4)
  /-- PLATE_EXPORT_RESUME (R343): Room appears in Q13 and a waiting export continues. -/
  | plateExportResume
  /-- EXTENDED_WRITE (R351): An F0h write commits 1-16 register words. -/
  | extendedWrite (x : Fin 2) (bytes : List Byte) (e : WriteEnd)
  /-- EXTENDED_READ (R352): An F0h process call reads 1-16 register words. `found`: what its reads of a word
  of a Plate and of the host NV area find (R329, R341). -/
  | extendedRead (x : Fin 2) (bytes : List Byte) (readLen : Nat) (pec : Pec) (found : WordFind)
  /-- QUEUE_PUSH (R354): An F1h push places an entry into a queue. -/
  | queuePush (x : Fin 2) (bytes : List Byte) (e : WriteEnd)
  /-- QUEUE_POP (R356): An F2h pop returns and removes the head entry of Q11-Q14. -/
  | queuePop (x : Fin 2) (bytes : List Byte) (e : PopEnd) (pec : Pec)
  /-- QFLUSH (R355): A write of QFLUSH discards the port's waiting queue entries. -/
  | qflush (m : Master) (x : Fin 2)
  /-- UNKCMD (R349): An unsupported command code is NACKed and UNKCMD is set. -/
  | unkcmd (x : Fin 2) (code : Byte)
  /-- PAGE (R361): PMBus PAGE reads or selects the rail addressed. -/
  | page (x : Fin 2) (w : Option Byte) (e : PmEnd)
  /-- OPERATION (R361): PMBus OPERATION pushes an ON or OFF entry, or reads REQON. -/
  | operation (x : Fin 2) (w : Option Byte) (e : PmEnd)
  /-- ON_OFF_CONFIG (R361): PMBus ON_OFF_CONFIG returns a code derived from ENMODE. -/
  | onOffConfig (x : Fin 2) (e : PmEnd)
  /-- CLEAR_FAULTS (R363): PMBus CLEAR_FAULTS clears the status latches of the page and the port's STATUS_CML. -/
  | clearFaults (x : Fin 2) (e : PmEnd)
  /-- CAPABILITY (R361): PMBus CAPABILITY returns D0h. -/
  | capability (x : Fin 2) (e : PmEnd)
  /-- VOUT_MODE (R361): PMBus VOUT_MODE returns 13h. -/
  | voutMode (x : Fin 2) (e : PmEnd)
  /-- VOUT_COMMAND (R361): PMBus VOUT_COMMAND pushes a SET entry, or reads VCMD. -/
  | voutCommand (x : Fin 2) (w : Option (BitVec 16)) (e : PmEnd)
  /-- VOUT_MAX (R361): PMBus VOUT_MAX reads or writes VMAX. -/
  | voutMax (x : Fin 2) (w : Option (BitVec 16)) (e : PmEnd)
  /-- VOUT_TRANSITION_RATE (R361): PMBus VOUT_TRANSITION_RATE reads or writes VSLEW. -/
  | voutTransitionRate (x : Fin 2) (w : Option (BitVec 16)) (e : PmEnd)
  /-- VOUT_DROOP (R361): PMBus VOUT_DROOP reads or writes LLR. -/
  | voutDroop (x : Fin 2) (w : Option (BitVec 16)) (e : PmEnd)
  /-- STATUS_BYTE (R363): PMBus STATUS_BYTE returns STATUS_WORD[7:0]. -/
  | statusByte (x : Fin 2) (e : PmEnd)
  /-- STATUS_WORD (R363): PMBus STATUS_WORD returns the summary status word. -/
  | statusWord (x : Fin 2) (e : PmEnd)
  /-- STATUS_VOUT (R363): PMBus STATUS_VOUT returns the output-voltage latches. -/
  | statusVout (x : Fin 2) (e : PmEnd)
  /-- STATUS_IOUT (R363): PMBus STATUS_IOUT returns the output-current latches. -/
  | statusIout (x : Fin 2) (e : PmEnd)
  /-- STATUS_INPUT (R363): PMBus STATUS_INPUT returns the input latches. -/
  | statusInput (x : Fin 2) (e : PmEnd)
  /-- STATUS_TEMPERATURE (R363): PMBus STATUS_TEMPERATURE returns the temperature latches. -/
  | statusTemperature (x : Fin 2) (e : PmEnd)
  /-- STATUS_CML (R363): PMBus STATUS_CML returns the port's communication latches. -/
  | statusCml (x : Fin 2) (e : PmEnd)
  /-- READ_VIN (R361): PMBus READ_VIN returns HVIN. -/
  | readVin (x : Fin 2) (e : PmEnd)
  /-- READ_IIN (R361): PMBus READ_IIN returns IIN. -/
  | readIin (x : Fin 2) (e : PmEnd)
  /-- READ_VOUT (R361): PMBus READ_VOUT returns VOUTM of the rail. -/
  | readVout (x : Fin 2) (e : PmEnd)
  /-- READ_IOUT (R361): PMBus READ_IOUT returns the rail current. -/
  | readIout (x : Fin 2) (e : PmEnd)
  /-- READ_TEMPERATURE_1 (R361): PMBus READ_TEMPERATURE_1 returns the hottest stage group of the rail. -/
  | readTemperature1 (x : Fin 2) (e : PmEnd)
  /-- READ_TEMPERATURE_2 (R361): PMBus READ_TEMPERATURE_2 returns the controller junction temperature. -/
  | readTemperature2 (x : Fin 2) (e : PmEnd)
  /-- READ_POUT (R361): PMBus READ_POUT returns the rail output power. -/
  | readPout (x : Fin 2) (e : PmEnd)
  /-- READ_PIN (R361): PMBus READ_PIN returns the input power. -/
  | readPin (x : Fin 2) (e : PmEnd)
  /-- PMBUS_REVISION (R361): PMBus PMBUS_REVISION returns 33h. -/
  | pmbusRevision (x : Fin 2) (e : PmEnd)
  /-- MFR_ID (R361): PMBus MFR_ID returns YUNAWIN. -/
  | mfrId (x : Fin 2) (e : PmEnd)
  /-- MFR_MODEL (R361): PMBus MFR_MODEL returns GF-9648. -/
  | mfrModel (x : Fin 2) (e : PmEnd)
  /-- MFR_REVISION (R361): PMBus MFR_REVISION returns B0. -/
  | mfrRevision (x : Fin 2) (e : PmEnd)
  /-- STRETCH_TIMEOUT (R347): A single stretch reaches 8 ms, so the port releases SCL and resets. -/
  | stretchTimeout (x : Fin 2)
  /-- SMBUS_TIMEOUT (R348): An SMBus timeout abandons the transaction. -/
  | smbusTimeout (x : Fin 2)
  /-- BUS_ERROR (R358): A misplaced START or STOP aborts the transaction. -/
  | busError (x : Fin 2) (betweenBytes : Bool)
  /-- ALERT_RESPONSE (R368): A read of the Alert Response Address is answered with the address, and HALERT# is released. -/
  | alertResponse (x : Fin 2) (won : Bool)
  /-- MASTER_GO (R364): A write of HPM_CTL.GO starts an HPB master transaction. -/
  | masterGo (m : Master) (w : Word)
  /-- ARBITRATION_LOST (R365): HPB loses arbitration, releases the bus and continues as a target. -/
  | arbitrationLost
  /-- MASTER_RETRY (R366): The backoff after an arbitration loss ends and HPB starts the transaction again. -/
  | masterRetry
  /-- OPEN (R76): IMG_CTL OPEN opens a slot for loading. -/
  | openCmd (m : Master) (slot : Bool)
  /-- IMG_WDATA_WRITE (R77): A write to IMG_WDATA stores an image word at WPTR. -/
  | imgWdataWrite (m : Master) (w : VerifiedWord)
  /-- VERIFY (R76): IMG_CTL VERIFY closes the write and starts the R71 checks. -/
  | verify (m : Master) (x : SlotRead)
  /-- VERIFY_DONE (R76): Verification completes within 1 ms and sets CAUSE and CMDRES. -/
  | verifyDone
  /-- COMMIT (R76): IMG_CTL COMMIT marks the slot preferred and trial, and enters BOOT from SAFE. -/
  | commit (m : Master) (slot : Bool)
  /-- ACCEPT (R76): IMG_CTL ACCEPT clears the trial marks and raises the security floor. -/
  | accept (m : Master)
  /-- ABORT (R76): IMG_CTL ABORT closes an open write. -/
  | abort (m : Master) (slot : Bool)
  /-- GROUP_QUERY (R81): A GROUP_COMMIT query reports a group's staging state. -/
  | groupQuery (m : Master) (group : BitVec 8) (index : BitVec 8)
  /-- GROUP_COMMIT (R81): A GROUP_COMMIT commit checks the staged group and arms it or applies it. -/
  | groupCommit (m : Master) (group : BitVec 8) (index : BitVec 8)
  /-- GROUP_ABORT (R81): A GROUP_COMMIT abort discards the staging or cancels an armed commit. -/
  | groupAbort (m : Master) (group : BitVec 8) (index : BitVec 8) (t : Time)
  /-- REQUEST (R384): GH_CHAL REQUEST increments UCNT and issues a nonce. -/
  | request (m : Master) (scope : BitVec 8) (sess : BitVec 8)
  /-- SUBMIT (R385): GH_CHAL SUBMIT compares the response and opens a session, or counts a failure. -/
  | submit (m : Master)
  /-- END (R385): GH_CHAL END ends the holder's session. -/
  | endCmd (m : Master)
  /-- NONCE_LAPSE (R385): A nonce lapses 10 s after it was issued. -/
  | nonceLapse
  /-- SESSION_EXPIRY (R385): SESS seconds pass, the session ends and its staged writes are discarded. -/
  | sessionExpiry
  /-- LOCKOUT_END (R386): The lockout time after repeated failures ends. -/
  | lockoutEnd
  /-- GH_LOCK_WRITE (R383): A write of 1 to GH_LOCK locks a scope at once. -/
  | ghLockWrite (m : Master) (v : Word)
  /-- KEY_WRITE (R387): GH_KEYCTL CMD 1h writes the staged key into a slot. -/
  | keyWrite (m : Master) (x : VerifiedSlot)
  /-- BYPASS (R388): The JTAG BYPASS instruction is served. -/
  | bypass
  /-- IDCODE (R388): The JTAG IDCODE instruction is served. -/
  | idcode
  /-- SAMPLE_PRELOAD (R388): The JTAG SAMPLE/PRELOAD instruction is served. -/
  | samplePreload
  /-- EXTEST (R388): The JTAG EXTEST instruction is served inside a DEBUG session, or BYPASS is substituted. -/
  | extest
  /-- CAPTURE (R113): A capture unit stamps an event of its source. -/
  | capture (src : BitVec 8) (falling : Bool) (fine : BitVec 4)
  /-- TB_COUNT_LO_READ (R112): A read of TB_COUNT_LO latches TB_COUNT_HI. -/
  | tbCountLoRead (m : Master)
  /-- TB_SECMARK_LO_READ (R326): A read of TB_SECMARK_LO latches TB_SECMARK_HI. -/
  | tbSecmarkLoRead (m : Master)
  /-- ENERGY_LO_READ (R319): A read of PT_EIN_LO or PT_ERAIL[k].LO latches its HI register. -/
  | energyLoRead (m : Master) (k : Option (Fin 8))
  /-- CAP_TSHI_READ (R113): A read of CAP[u].TSHI clears VALID and re-arms a single-mode unit. -/
  | capTshiRead (m : Master) (u : Fin 32)
  /-- REGISTER_WRITE (R397): A write to a register with no row of its own is judged and takes effect under the commit class of each field.
  `bad`: it reaches its block with bad parity, which the Loop Engine checks (R162). -/
  | registerWrite (m : Master) (a : BitVec 24) (v : Word) (bad : Bool)
  /-- HVIN_GOOD (R52): HVIN rises above its good threshold again, so the internal always-on regulator restarts and HVINOK is set. -/
  | hvinGood
  /-- NIGHT_PORTER_INRUSH_ON (R316): In the Night Porter's default insertion profile, HVIN - VBULK has stayed at or below 0.5 V for 1 ms, so INRUSH moves to ON. -/
  | nightPorterInrushOn
  /-- MASTER_TRANSACTION_END (R364): An HPB master transaction ends on the bus, completed or stopped by a target NACK, so MRES is set and the master-done event C7h is raised. -/
  | masterTransactionEnd (res : BitVec 4) (nackIdx : BitVec 4) (rx : List Byte)
  /-- FORECAST_DUE (R253): A forecast's due instant is reached, so FCLATE is counted and queued if an added phase is still waking, and the FCHOLD hold on shedding is referred to this instant. -/
  | forecastDue (k : Fin 8)
  /-- READ_WITHOUT_COMMAND (R349): A host-port transaction that is a read with no command byte is answered with FFh in every byte, and LASTRES becomes FORMAT. -/
  | readWithoutCommand (x : Fin 2) (n : Nat)
  /-- DBG_READ (R398): A DBG master read returns the live register value, clears its RC fields and latches HI registers as a completed read.
  `found`: as in EXTENDED_READ. -/
  | dbgRead (a : BitVec 24) (found : WordFind)
  deriving DecidableEq, Repr

end Sys2Proof
end

