-- ==== Sys2Proof/Decode.lean ====
section
/-!
DEFINITION. The block's commands are not words: no row of spec/opcode_table.json gives bits, so no word spells a command.
-/

namespace Sys2Proof

/-- The command a word spells by the table's bits; the table gives no row any bits, so there is none. -/
def decodeTableWord (_nbits _w : Nat) : Option Instr := none

end Sys2Proof
end

