-- ==== Sys2Proof/Config.lean ====
section
/-!
DEFINITION. What one unit of the hardware fixes and what the spec leaves open: opaque constants without a body, so
that no statement can rest on a value of them (free values; notes/assumptions).
-/

namespace Sys2Proof.Config

/-- FREE VALUE: the 128-bit nonce of the i-th REQUEST since production (R384: "fresh", from an internal random
source). Applied to the free-value counter of State. -/
opaque nonce : Nat → BitVec 128

/-- The unit's 64-bit serial number (DEVICE_SERIAL_LO, DEVICE_SERIAL_HI: "Production"; R401). -/
opaque serial : BitVec 64

/-- FREE VALUE: which value an instruction takes where the spec leaves the result open and the machine goes on.
Applied to the free-value counter of State. -/
opaque freeNat : Nat → Nat

/-- FREE VALUE: a signed result the spec leaves open. Applied to the free-value counter of State. -/
opaque freeInt : Nat → Int

/-- FREE VALUE: the filtered loss index of a phase, in 1/16 °C (R260 gives the filter's time constant, not its recursion).
Arguments: TTAU, the time since the last value in ns, the new loss index, the last value. -/
opaque lossFilter : Nat → Nat → Int → Int → Int

/-- FREE VALUE: the temperature in 1/16 °C an NTC channel publishes for a code, R26 and BETA (R323 states it to within
a tolerance only). Arguments: code, R26, BETA. -/
opaque ntcTemp : Nat → Nat → Nat → Int

/-- FREE VALUE: the AON ticks in a stretch of the time base, given in fine steps (R414 states the RC to within a tolerance only). -/
opaque aonElapsed : Nat → Nat

/-- What the production calibration of one unit makes of a junction-sensor code, in 1/16 °C (R323, channel 70). -/
opaque junctionTemp : Nat → Int

end Sys2Proof.Config
end

