-- ==== Sys2Proof/Machine/RegMap.lean ====
section
/-!
DEFINITION. The register map (16_register_map.md R393, R394; the register tables of files 02-16): the name of every
register, the block, offset, array dimensions, fields, access types, commit classes and reset words the spec gives.
-/

namespace Sys2Proof.Machine

/-- Access types (R7). -/
inductive Acc
  | rw | ro | wo | w1c | w1s | rc | rwl
  deriving DecidableEq, Repr

/-- Commit classes (R8); `fixed` stands for the dash of a field no write changes. -/
inductive Com
  | live | sample | boundary | group | halt | fixed
  deriving DecidableEq, Repr

/-- One field of a register: lowest bit, width, access type, commit class. -/
structure FieldSpec where
  lo : Nat
  w : Nat
  acc : Acc
  com : Com
  deriving DecidableEq, Repr

/-- Every register of the spec, arrays given once (16_register_map.md, "Register summaries"). -/
inductive RegId
  /-- DEVICE_ID, file 16. -/
  | deviceId
  /-- DEVICE_SERIAL_LO, file 16. -/
  | deviceSerialLo
  /-- DEVICE_SERIAL_HI, file 16. -/
  | deviceSerialHi
  /-- DEVICE_STATUS, file 16. -/
  | deviceStatus
  /-- DEVICE_CTL, file 16. -/
  | deviceCtl
  /-- STRAP_STATUS, file 02. -/
  | strapStatus
  /-- SUPPLY_STATUS, file 02. -/
  | supplyStatus
  /-- TB_COUNT_LO, file 04. -/
  | tbCountLo
  /-- TB_COUNT_HI, file 04. -/
  | tbCountHi
  /-- TB_SECMARK_LO, file 13. -/
  | tbSecmarkLo
  /-- TB_SECMARK_HI, file 13. -/
  | tbSecmarkHi
  /-- CAP[u].CTL, file 04. -/
  | capCtl
  /-- CAP[u].TSLO, file 04. -/
  | capTslo
  /-- CAP[u].TSHI, file 04. -/
  | capTshi
  /-- NP_SECS, file 13. -/
  | npSecs
  /-- NP_ALARM, file 13. -/
  | npAlarm
  /-- NP_INS, file 12. -/
  | npIns
  /-- NP_RSTATE, file 12. -/
  | npRstate
  /-- PT_CTL, file 12. -/
  | ptCtl
  /-- PT_INS, file 12. -/
  | ptIns
  /-- PT_SENSE, file 12. -/
  | ptSense
  /-- PT_RETRY, file 12. -/
  | ptRetry
  /-- PT_BRK[j], file 12. -/
  | ptBrk
  /-- PT_BRKCFG, file 12. -/
  | ptBrkcfg
  /-- PT_FET[i], file 12. -/
  | ptFet
  /-- PT_FETT, file 12. -/
  | ptFett
  /-- PT_PFW, file 12. -/
  | ptPfw
  /-- PT_HOLD, file 12. -/
  | ptHold
  /-- PT_LOAD, file 12. -/
  | ptLoad
  /-- PT_STATUS, file 12. -/
  | ptStatus
  /-- PT_VIN, file 12. -/
  | ptVin
  /-- PT_VFEED, file 12. -/
  | ptVfeed
  /-- PT_IIN, file 12. -/
  | ptIin
  /-- PT_POWER, file 12. -/
  | ptPower
  /-- PT_THERM, file 12. -/
  | ptTherm
  /-- PT_CNT, file 12. -/
  | ptCnt
  /-- PT_EIN_LO, file 12. -/
  | ptEinLo
  /-- PT_EIN_HI, file 12. -/
  | ptEinHi
  /-- PT_ERAIL[k].LO, file 12. -/
  | ptErailLo
  /-- PT_ERAIL[k].HI, file 12. -/
  | ptErailHi
  /-- IMG_CTL, file 03. -/
  | imgCtl
  /-- IMG_STATUS, file 03. -/
  | imgStatus
  /-- IMG_WPTR, file 03. -/
  | imgWptr
  /-- IMG_WDATA, file 03. -/
  | imgWdata
  /-- IMG_SLOT[s].STATUS, file 03. -/
  | imgSlotStatus
  /-- IMG_SLOT[s].SEQ, file 03. -/
  | imgSlotSeq
  /-- GROUP_COMMIT, file 03. -/
  | groupCommit
  /-- GROUP_STATE, file 03. -/
  | groupState
  /-- CFGERR, file 03. -/
  | cfgerr
  /-- CFGERR_COUNT, file 03. -/
  | cfgerrCount
  /-- LG_CTL, file 13. -/
  | lgCtl
  /-- LG_HEAD, file 13. -/
  | lgHead
  /-- LG_INFO, file 13. -/
  | lgInfo
  /-- LG_BOOTCNT, file 13. -/
  | lgBootcnt
  /-- LG_RDSEQ, file 13. -/
  | lgRdseq
  /-- LG_RDSTAT, file 13. -/
  | lgRdstat
  /-- NV_STATUS, file 13. -/
  | nvStatus
  /-- NV_SCRUB, file 13. -/
  | nvScrub
  /-- NV_UNCORR, file 13. -/
  | nvUncorr
  /-- HNV_ADDR, file 13. -/
  | hnvAddr
  /-- HNV_DATA, file 13. -/
  | hnvData
  /-- LG_WIN[w], file 13. -/
  | lgWin
  /-- PHASE[n].CTL, file 04. -/
  | phaseCtl
  /-- PHASE[n].PERIOD, file 04. -/
  | phasePeriod
  /-- PHASE[n].DUTY, file 04. -/
  | phaseDuty
  /-- PHASE[n].OFS, file 04. -/
  | phaseOfs
  /-- PHASE[n].DT, file 04. -/
  | phaseDt
  /-- PHASE[n].TIMING, file 04. -/
  | phaseTiming
  /-- PHASE[n].TRIPCFG, file 04. -/
  | phaseTripcfg
  /-- PHASE[n].STATUS, file 04. -/
  | phaseStatus
  /-- PHASE[n].LIMCNT, file 04. -/
  | phaseLimcnt
  /-- PHASE[n].ACTPER, file 04. -/
  | phaseActper
  /-- PHASE[n].ACTDUTY, file 04. -/
  | phaseActduty
  /-- STAGEGRP[g].CFG, file 02. -/
  | stagegrpCfg
  /-- PE_SYNC_CTL, file 04. -/
  | peSyncCtl
  /-- PE_SYNC_DLY, file 04. -/
  | peSyncDly
  /-- PE_SYNCO_CTL, file 04. -/
  | peSyncoCtl
  /-- PE_SYNC_STATUS, file 04. -/
  | peSyncStatus
  /-- PE_TRIP_CTL, file 04. -/
  | peTripCtl
  /-- RAIL[k].MCTL, file 05. -/
  | railMctl
  /-- RAIL[k].TON, file 05. -/
  | railTon
  /-- RAIL[k].TONMAX, file 05. -/
  | railTonmax
  /-- RAIL[k].RIP, file 05. -/
  | railRip
  /-- RAIL[k].SPACE, file 05. -/
  | railSpace
  /-- RAIL[k].ONSET, file 05. -/
  | railOnset
  /-- RAIL[k].DE, file 05. -/
  | railDe
  /-- RAIL[k].FF, file 05. -/
  | railFf
  /-- RAIL[k].LOCKOFS, file 05. -/
  | railLockofs
  /-- RAIL[k].LOCKCFG, file 05. -/
  | railLockcfg
  /-- RAIL[k].SEQ, file 05. -/
  | railSeq
  /-- RAIL[k].RING[j], file 05. -/
  | railRing
  /-- RAIL[k].MSTAT, file 05. -/
  | railMstat
  /-- RAIL[k].TONNOW, file 05. -/
  | railTonnow
  /-- RAIL[k].THNOW, file 05. -/
  | railThnow
  /-- RAIL[k].LOCKSTAT, file 05. -/
  | railLockstat
  /-- RAIL[k].MCNT, file 05. -/
  | railMcnt
  /-- VINFF_CFG, file 05. -/
  | vinffCfg
  /-- VINFF_FIX, file 05. -/
  | vinffFix
  /-- VINFF_DATA, file 05. -/
  | vinffData
  /-- SFE_ICAL[n], file 07. -/
  | sfeIcal
  /-- CMP[c].CTL, file 11. -/
  | cmpCtl
  /-- CMP[c].DAC, file 11. -/
  | cmpDac
  /-- CMP[c].TRACK, file 11. -/
  | cmpTrack
  /-- CMP[c].STATUS, file 11. -/
  | cmpStatus
  /-- CMP[c].RDBK, file 11. -/
  | cmpRdbk
  /-- CMPO_CTL, file 11. -/
  | cmpoCtl
  /-- MC_CH[c].DATA, file 13. -/
  | mcChData
  /-- MC_CH[c].CFG, file 13. -/
  | mcChCfg
  /-- MC_TSCAL[s], file 13. -/
  | mcTscal
  /-- MC_NTC[i], file 13. -/
  | mcNtc
  /-- TM_CTL, file 13. -/
  | tmCtl
  /-- TM_ITEM[i], file 13. -/
  | tmItem
  /-- TM_STATUS, file 13. -/
  | tmStatus
  /-- TM_EFFCFG, file 13. -/
  | tmEffcfg
  /-- TM_EFF, file 13. -/
  | tmEff
  /-- TM_PRAVG, file 13. -/
  | tmPravg
  /-- GRAPH[k].HDR, file 06. -/
  | graphHdr
  /-- GRAPH[k].PLACE, file 06. -/
  | graphPlace
  /-- GRAPH[k].CTL, file 06. -/
  | graphCtl
  /-- GRAPH[k].YINIT, file 06. -/
  | graphYinit
  /-- GRAPH[k].STATUS, file 06. -/
  | graphStatus
  /-- GRAPH[k].CNT, file 06. -/
  | graphCnt
  /-- GRAPH[k].YOUT, file 06. -/
  | graphYout
  /-- GRAPH[k].HOFS[b], file 06. -/
  | graphHofs
  /-- GRAPH[k].STG[s].DESC, file 06. -/
  | graphStgDesc
  /-- GRAPH[k].STG[s].SHIFT, file 06. -/
  | graphStgShift
  /-- GRAPH[k].STG[s].COEF[i], file 06. -/
  | graphStgCoef
  /-- GRAPH[k].STG[s].STATE[j], file 06. -/
  | graphStgState
  /-- LE_STATUS, file 06. -/
  | leStatus
  /-- LE_STORE, file 06. -/
  | leStore
  /-- LANE[m].STATUS, file 06. -/
  | laneStatus
  /-- LANE[m].CNT, file 06. -/
  | laneCnt
  /-- OL[k].CTL, file 07. -/
  | olCtl
  /-- OL[k].CB, file 07. -/
  | olCb
  /-- OL[k].CBLIM, file 07. -/
  | olCblim
  /-- OL[k].TS, file 07. -/
  | olTs
  /-- OL[k].LL, file 07. -/
  | olLl
  /-- OL[k].CL, file 07. -/
  | olCl
  /-- OL[k].FE, file 07. -/
  | olFe
  /-- OL[k].FECLS, file 07. -/
  | olFecls
  /-- OL[k].HZCTL, file 07. -/
  | olHzctl
  /-- OL[k].HZSLK, file 07. -/
  | olHzslk
  /-- OL[k].HZSTEP, file 07. -/
  | olHzstep
  /-- OL[k].HZMAX, file 07. -/
  | olHzmax
  /-- OL[k].STATUS, file 07. -/
  | olStatus
  /-- OL[k].HZNOW, file 07. -/
  | olHznow
  /-- OL[k].ITOT, file 07. -/
  | olItot
  /-- OL[k].DROOP, file 07. -/
  | olDroop
  /-- OLPH[n].TRIM, file 07. -/
  | olphTrim
  /-- RAIL[k].VSET, file 08. -/
  | railVset
  /-- RAIL[k].VLIM, file 08. -/
  | railVlim
  /-- RAIL[k].SLEW, file 08. -/
  | railSlew
  /-- RAIL[k].PROF, file 08. -/
  | railProf
  /-- RAIL[k].SEQCTL, file 08. -/
  | railSeqctl
  /-- RAIL[k].TDLY, file 08. -/
  | railTdly
  /-- RAIL[k].RAMP, file 08. -/
  | railRamp
  /-- RAIL[k].STOP, file 08. -/
  | railStop
  /-- RAIL[k].PGDLY, file 08. -/
  | railPgdly
  /-- RAIL[k].PGWIN, file 08. -/
  | railPgwin
  /-- RAIL[k].HZBK, file 08. -/
  | railHzbk
  /-- RAIL[k].ON, file 08. -/
  | railOn
  /-- RAIL[k].TSTAT, file 08. -/
  | railTstat
  /-- RAIL[k].REFNOW, file 08. -/
  | railRefnow
  /-- RAIL[k].TCNT, file 08. -/
  | railTcnt
  /-- RAIL[k].CMARGNOW, file 08. -/
  | railCmargnow
  /-- SEQGRP[g].CTL, file 08. -/
  | seqgrpCtl
  /-- SEQGRP[g].STATUS, file 08. -/
  | seqgrpStatus
  /-- EPH[k].CTL, file 07. -/
  | ephCtl
  /-- EPH[k].TBL, file 07. -/
  | ephTbl
  /-- EPH[k].GAIN, file 07. -/
  | ephGain
  /-- EPH[k].PER, file 07. -/
  | ephPer
  /-- EPH[k].SETTLE, file 07. -/
  | ephSettle
  /-- EPH[k].STATUS, file 07. -/
  | ephStatus
  /-- EPH[k].PINC, file 07. -/
  | ephPinc
  /-- EPH[k].TNOW, file 07. -/
  | ephTnow
  /-- INK[k].CTL, file 10. -/
  | inkCtl
  /-- INK[k].LIM, file 10. -/
  | inkLim
  /-- INK[k].OPEN, file 10. -/
  | inkOpen
  /-- INK[k].XSENSE, file 10. -/
  | inkXsense
  /-- INK[k].EFF[j], file 10. -/
  | inkEff
  /-- INK[k].STATUS, file 10. -/
  | inkStatus
  /-- INK[k].CNT, file 10. -/
  | inkCnt
  /-- INK[k].BASE[j], file 10. -/
  | inkBase
  /-- INK_HCFG, file 10. -/
  | inkHcfg
  /-- INK_TMODEL, file 10. -/
  | inkTmodel
  /-- INK_WEARCFG, file 10. -/
  | inkWearcfg
  /-- INK_TEST, file 10. -/
  | inkTest
  /-- INK_REQ, file 10. -/
  | inkReq
  /-- INK_REQSTAT, file 10. -/
  | inkReqstat
  /-- PHASE[n].ASSIGN, file 10. -/
  | phaseAssign
  /-- PHASE[n].ROLE, file 10. -/
  | phaseRole
  /-- PHASE[n].STALE, file 10. -/
  | phaseStale
  /-- PHASE[n].WEAR, file 10. -/
  | phaseWear
  /-- PHASE[n].LIFEAH, file 10. -/
  | phaseLifeah
  /-- PHASE[n].LIFEPL, file 10. -/
  | phaseLifepl
  /-- PHASE[n].LIFETH, file 10. -/
  | phaseLifeth
  /-- EPHTAB[w], file 07. -/
  | ephtab
  /-- FM_CTL, file 11. -/
  | fmCtl
  /-- FM_STATUS, file 11. -/
  | fmStatus
  /-- FM_CLASS[j], file 11. -/
  | fmClass
  /-- FM_STRIKE[t], file 11. -/
  | fmStrike
  /-- FM_IC, file 11. -/
  | fmIc
  /-- FM_PLL, file 11. -/
  | fmPll
  /-- FM_RAIL[k].HIC, file 11. -/
  | fmRailHic
  /-- FM_RAIL[k].PROT, file 11. -/
  | fmRailProt
  /-- FM_RAIL[k].STAT, file 11. -/
  | fmRailStat
  /-- FM_PH[n].CFG, file 11. -/
  | fmPhCfg
  /-- FM_PH[n].STAT, file 11. -/
  | fmPhStat
  /-- FM_TEMP[s], file 11. -/
  | fmTemp
  /-- FM_TJ, file 11. -/
  | fmTj
  /-- LNK[p].CTL, file 09. -/
  | lnkCtl
  /-- LNK[p].STATUS, file 09. -/
  | lnkStatus
  /-- LNK[p].CNT, file 09. -/
  | lnkCnt
  /-- LNK[p].NFRAME, file 09. -/
  | lnkNframe
  /-- LNK[p].EP[e].BIND, file 09. -/
  | lnkEpBind
  /-- LNK[p].EP[e].AMASK, file 09. -/
  | lnkEpAmask
  /-- LNK[p].EP[e].CAUSE, file 09. -/
  | lnkEpCause
  /-- LNK[p].EP[e].LAST, file 09. -/
  | lnkEpLast
  /-- LNK[p].EP[e].ARVTAG, file 09. -/
  | lnkEpArvtag
  /-- HP[x].CTL, file 14. -/
  | hpCtl
  /-- HP[x].STATUS, file 14. -/
  | hpStatus
  /-- HP[x].CNT, file 14. -/
  | hpCnt
  /-- HPM_CTL, file 14. -/
  | hpmCtl
  /-- HPM_TX[i], file 14. -/
  | hpmTx
  /-- HPM_RX[i], file 14. -/
  | hpmRx
  /-- HPM_STATUS, file 14. -/
  | hpmStatus
  /-- HP_ALERT, file 14. -/
  | hpAlert
  /-- Q[q].STAT, file 15. -/
  | qStat
  /-- EV_PHSEL[n], file 15. -/
  | evPhsel
  /-- EV_RTR[n], file 15. -/
  | evRtr
  /-- EV_INT[i], file 15. -/
  | evInt
  /-- EV_PEND, file 15. -/
  | evPend
  /-- EV_MASK, file 15. -/
  | evMask
  /-- PL[p].CTL, file 13. -/
  | plCtl
  /-- PL[p].DEC, file 13. -/
  | plDec
  /-- PL[p].TRIG, file 13. -/
  | plTrig
  /-- PL[p].TLEV, file 13. -/
  | plTlev
  /-- PL[p].PRE, file 13. -/
  | plPre
  /-- PL[p].STATUS, file 13. -/
  | plStatus
  /-- PL[p].TTSLO, file 13. -/
  | plTtslo
  /-- PL[p].TTSHI, file 13. -/
  | plTtshi
  /-- PL[p].NODE[j], file 13. -/
  | plNode
  /-- PL_EXP, file 13. -/
  | plExp
  /-- PL_DATA[p][i], file 13. -/
  | plData
  /-- GH_ACC[t], file 15. -/
  | ghAcc
  /-- GH_RAILW[m], file 15. -/
  | ghRailw
  /-- GH_LOCK, file 15. -/
  | ghLock
  /-- GH_CHAL, file 15. -/
  | ghChal
  /-- GH_NONCE[j], file 15. -/
  | ghNonce
  /-- GH_RESP[j], file 15. -/
  | ghResp
  /-- GH_SESS, file 15. -/
  | ghSess
  /-- GH_STAT, file 15. -/
  | ghStat
  /-- GH_UCNT, file 15. -/
  | ghUcnt
  /-- GH_ALARM, file 15. -/
  | ghAlarm
  /-- GH_DENY, file 15. -/
  | ghDeny
  /-- GH_DENYCNT, file 15. -/
  | ghDenycnt
  /-- GH_KEYW[j], file 15. -/
  | ghKeyw
  /-- GH_KEYCTL, file 15. -/
  | ghKeyctl
  deriving DecidableEq, Repr

/-- A register of the map: its name, the address of index 0, the (count, stride) of each array dimension, its
reset word (index 0 where it depends on the index) and its non-reserved fields. -/
structure RegSpec where
  id : RegId
  base : Nat
  dims : List (Nat × Nat)
  reset : Nat
  fields : List FieldSpec
  deriving DecidableEq, Repr

/-- Registers of the block at 000000h. -/
def mapIdentity : List RegSpec := [
  ⟨.deviceId, 0x000000, [], 0x39A5B020,
    [⟨27, 5, .ro, .fixed⟩, ⟨22, 5, .ro, .fixed⟩, ⟨8, 14, .ro, .fixed⟩, ⟨0, 8, .ro, .fixed⟩]⟩,
  ⟨.deviceSerialLo, 0x000004, [], 0x00000000,
    [⟨0, 32, .ro, .fixed⟩]⟩,
  ⟨.deviceSerialHi, 0x000008, [], 0x00000000,
    [⟨0, 32, .ro, .fixed⟩]⟩,
  ⟨.deviceStatus, 0x000010, [], 0x00000001,
    [⟨12, 4, .ro, .fixed⟩, ⟨7, 1, .ro, .fixed⟩, ⟨5, 1, .ro, .fixed⟩, ⟨0, 3, .ro, .fixed⟩]⟩,
  ⟨.deviceCtl, 0x000014, [], 0x00000000,
    [⟨1, 1, .wo, .live⟩, ⟨0, 1, .wo, .live⟩]⟩,
  ⟨.strapStatus, 0x000020, [], 0x00000000,
    [⟨16, 7, .ro, .fixed⟩, ⟨15, 1, .ro, .fixed⟩, ⟨6, 6, .ro, .fixed⟩, ⟨5, 1, .ro, .fixed⟩, ⟨2, 2, .ro, .fixed⟩, ⟨0, 2, .ro, .fixed⟩]⟩,
  ⟨.supplyStatus, 0x000024, [], 0x00000400,
    [⟨11, 1, .w1c, .live⟩, ⟨10, 1, .w1c, .live⟩, ⟨9, 1, .w1c, .live⟩, ⟨8, 1, .w1c, .live⟩, ⟨3, 1, .ro, .fixed⟩, ⟨2, 1, .ro, .fixed⟩, ⟨1, 1, .ro, .fixed⟩]⟩]

/-- Registers of the block at 010000h. -/
def mapTimeBase : List RegSpec := [
  ⟨.tbCountLo, 0x010010, [], 0x00000000,
    [⟨0, 32, .ro, .fixed⟩]⟩,
  ⟨.tbCountHi, 0x010014, [], 0x00000000,
    [⟨0, 16, .ro, .fixed⟩]⟩,
  ⟨.tbSecmarkLo, 0x010020, [], 0x00000000,
    [⟨0, 32, .ro, .fixed⟩]⟩,
  ⟨.tbSecmarkHi, 0x010024, [], 0x00000000,
    [⟨0, 16, .ro, .fixed⟩]⟩,
  ⟨.capCtl, 0x010400, [(32, 0x10)], 0x00000000,
    [⟨8, 8, .rw, .live⟩, ⟨2, 2, .rw, .live⟩, ⟨1, 1, .rw, .live⟩, ⟨0, 1, .rw, .live⟩]⟩,
  ⟨.capTslo, 0x010404, [(32, 0x10)], 0x00000000,
    [⟨0, 32, .ro, .fixed⟩]⟩,
  ⟨.capTshi, 0x010408, [(32, 0x10)], 0x00000000,
    [⟨31, 1, .rc, .live⟩, ⟨30, 1, .rc, .live⟩, ⟨29, 1, .ro, .fixed⟩, ⟨4, 16, .ro, .fixed⟩, ⟨0, 4, .ro, .fixed⟩]⟩]

/-- Registers of the block at 020000h. -/
def mapNightPorter : List RegSpec := [
  ⟨.npSecs, 0x020000, [], 0x00000000,
    [⟨0, 32, .ro, .fixed⟩]⟩,
  ⟨.npAlarm, 0x020004, [], 0x00000000,
    [⟨0, 32, .rw, .live⟩]⟩,
  ⟨.npIns, 0x020100, [], 0x590A6464,
    [⟨30, 2, .rwl, .live⟩, ⟨24, 6, .rwl, .live⟩, ⟨16, 8, .rwl, .live⟩, ⟨8, 8, .rwl, .live⟩, ⟨0, 8, .rwl, .live⟩]⟩,
  ⟨.npRstate, 0x020104, [], 0x00000000,
    [⟨28, 4, .ro, .fixed⟩, ⟨24, 4, .ro, .fixed⟩, ⟨22, 2, .ro, .fixed⟩, ⟨0, 21, .ro, .fixed⟩]⟩]

/-- Registers of the block at 030000h, part 1. -/
def mapPorter0 : List RegSpec := [
  ⟨.ptCtl, 0x030000, [], 0x000A0C40,
    [⟨16, 8, .rwl, .halt⟩, ⟨15, 1, .wo, .live⟩, ⟨14, 1, .rwl, .live⟩, ⟨10, 2, .rwl, .halt⟩, ⟨8, 2, .rwl, .halt⟩, ⟨6, 2, .rwl, .halt⟩, ⟨5, 1, .rwl, .halt⟩]⟩,
  ⟨.ptIns, 0x030004, [], 0x640A03E8,
    [⟨24, 8, .rwl, .halt⟩, ⟨16, 8, .rwl, .halt⟩, ⟨0, 16, .rwl, .halt⟩]⟩,
  ⟨.ptSense, 0x030008, [], 0x00A01388,
    [⟨20, 12, .rwl, .halt⟩, ⟨0, 16, .rwl, .halt⟩]⟩,
  ⟨.ptRetry, 0x03000C, [], 0x303C03E8,
    [⟨28, 4, .rwl, .halt⟩, ⟨16, 8, .rwl, .halt⟩, ⟨0, 16, .rwl, .halt⟩]⟩,
  ⟨.ptBrk, 0x030020, [(8, 0x4)], 0x00000000,
    [⟨20, 12, .rwl, .group⟩, ⟨0, 20, .rwl, .group⟩]⟩,
  ⟨.ptBrkcfg, 0x030040, [], 0x0000000A,
    [⟨0, 5, .rwl, .halt⟩]⟩,
  ⟨.ptFet, 0x030050, [(3, 0x4)], 0x00000000,
    [⟨16, 16, .rwl, .halt⟩, ⟨0, 16, .rwl, .halt⟩]⟩,
  ⟨.ptFett, 0x03005C, [], 0x9682C028,
    [⟨24, 8, .rwl, .halt⟩, ⟨16, 8, .rwl, .halt⟩, ⟨14, 2, .rwl, .halt⟩, ⟨0, 8, .rwl, .halt⟩]⟩,
  ⟨.ptPfw, 0x030060, [], 0x00000A07,
    [⟨8, 8, .rwl, .halt⟩, ⟨0, 3, .rwl, .halt⟩]⟩,
  ⟨.ptHold, 0x030064, [], 0x00000000,
    [⟨16, 16, .rw, .live⟩, ⟨0, 16, .rw, .live⟩]⟩,
  ⟨.ptLoad, 0x030068, [], 0xF3330000,
    [⟨16, 16, .rw, .live⟩, ⟨0, 16, .rw, .live⟩]⟩,
  ⟨.ptStatus, 0x030080, [], 0x00000000,
    [⟨28, 4, .ro, .fixed⟩, ⟨24, 4, .ro, .fixed⟩, ⟨16, 8, .ro, .fixed⟩, ⟨15, 1, .ro, .fixed⟩, ⟨12, 3, .ro, .fixed⟩, ⟨9, 1, .ro, .fixed⟩, ⟨8, 1, .ro, .fixed⟩, ⟨7, 1, .ro, .fixed⟩, ⟨6, 1, .ro, .fixed⟩, ⟨5, 1, .ro, .fixed⟩, ⟨4, 1, .ro, .fixed⟩, ⟨3, 1, .w1c, .live⟩, ⟨2, 1, .w1c, .live⟩, ⟨1, 1, .w1c, .live⟩]⟩]

/-- Registers of the block at 030000h, part 2. -/
def mapPorter1 : List RegSpec := [
  ⟨.ptVin, 0x030084, [], 0x00000000,
    [⟨16, 16, .ro, .fixed⟩, ⟨0, 16, .ro, .fixed⟩]⟩,
  ⟨.ptVfeed, 0x030088, [], 0x00000000,
    [⟨16, 16, .ro, .fixed⟩, ⟨0, 16, .ro, .fixed⟩]⟩,
  ⟨.ptIin, 0x03008C, [], 0x00000000,
    [⟨16, 16, .ro, .fixed⟩, ⟨0, 16, .ro, .fixed⟩]⟩,
  ⟨.ptPower, 0x030090, [], 0x00000000,
    [⟨16, 16, .ro, .fixed⟩, ⟨0, 16, .ro, .fixed⟩]⟩,
  ⟨.ptTherm, 0x030094, [], 0x0000FFFF,
    [⟨16, 16, .ro, .fixed⟩, ⟨0, 16, .ro, .fixed⟩]⟩,
  ⟨.ptCnt, 0x030098, [], 0x00000000,
    [⟨24, 8, .rc, .live⟩, ⟨16, 8, .rc, .live⟩, ⟨8, 8, .rc, .live⟩, ⟨0, 8, .rc, .live⟩]⟩,
  ⟨.ptEinLo, 0x0300A0, [], 0x00000000,
    [⟨0, 32, .ro, .fixed⟩]⟩,
  ⟨.ptEinHi, 0x0300A4, [], 0x00000000,
    [⟨0, 16, .ro, .fixed⟩]⟩,
  ⟨.ptErailLo, 0x0300C0, [(8, 0x8)], 0x00000000,
    [⟨0, 32, .ro, .fixed⟩]⟩,
  ⟨.ptErailHi, 0x0300C4, [(8, 0x8)], 0x00000000,
    [⟨0, 16, .ro, .fixed⟩]⟩]

/-- Registers of the block at 030000h. -/
def mapPorter : List RegSpec := mapPorter0 ++ mapPorter1

/-- Registers of the block at 040000h. -/
def mapImage : List RegSpec := [
  ⟨.imgCtl, 0x040000, [], 0x00000000,
    [⟨4, 1, .rw, .live⟩, ⟨0, 4, .wo, .live⟩]⟩,
  ⟨.imgStatus, 0x040004, [], 0x00000000,
    [⟨16, 16, .ro, .fixed⟩, ⟨6, 6, .ro, .fixed⟩, ⟨5, 1, .ro, .fixed⟩, ⟨4, 1, .ro, .fixed⟩, ⟨2, 2, .ro, .fixed⟩, ⟨1, 1, .ro, .fixed⟩, ⟨0, 1, .ro, .fixed⟩]⟩,
  ⟨.imgWptr, 0x040008, [], 0x00000000,
    [⟨0, 17, .ro, .fixed⟩]⟩,
  ⟨.imgWdata, 0x04000C, [], 0x00000000,
    [⟨0, 32, .wo, .live⟩]⟩,
  ⟨.imgSlotStatus, 0x040010, [(2, 0x4)], 0x00000100,
    [⟨16, 16, .ro, .fixed⟩, ⟨8, 4, .ro, .fixed⟩, ⟨4, 1, .ro, .fixed⟩, ⟨3, 1, .ro, .fixed⟩, ⟨2, 1, .ro, .fixed⟩, ⟨1, 1, .ro, .fixed⟩, ⟨0, 1, .ro, .fixed⟩]⟩,
  ⟨.imgSlotSeq, 0x040018, [(2, 0x4)], 0x00000000,
    [⟨0, 32, .ro, .fixed⟩]⟩,
  ⟨.groupCommit, 0x040040, [], 0x00000000,
    [⟨30, 2, .wo, .live⟩, ⟨8, 8, .wo, .live⟩, ⟨0, 8, .wo, .live⟩]⟩,
  ⟨.groupState, 0x040044, [], 0x00000000,
    [⟨24, 8, .ro, .fixed⟩, ⟨16, 8, .ro, .fixed⟩, ⟨2, 3, .ro, .fixed⟩, ⟨1, 1, .ro, .fixed⟩, ⟨0, 1, .ro, .fixed⟩]⟩,
  ⟨.cfgerr, 0x040060, [], 0x00000000,
    [⟨31, 1, .w1c, .live⟩, ⟨28, 3, .ro, .fixed⟩, ⟨24, 4, .ro, .fixed⟩, ⟨0, 24, .ro, .fixed⟩]⟩,
  ⟨.cfgerrCount, 0x040064, [], 0x00000000,
    [⟨0, 16, .rc, .live⟩]⟩]

/-- Registers of the block at 050000h. -/
def mapStore : List RegSpec := [
  ⟨.lgCtl, 0x050000, [], 0x00000400,
    [⟨8, 3, .rwl, .halt⟩, ⟨1, 1, .wo, .live⟩, ⟨0, 1, .rwl, .live⟩]⟩,
  ⟨.lgHead, 0x050010, [], 0x00000000,
    [⟨0, 32, .ro, .fixed⟩]⟩,
  ⟨.lgInfo, 0x050014, [], 0x00000000,
    [⟨16, 16, .rc, .live⟩, ⟨1, 1, .ro, .fixed⟩, ⟨0, 1, .ro, .fixed⟩]⟩,
  ⟨.lgBootcnt, 0x050018, [], 0x00000000,
    [⟨0, 32, .ro, .fixed⟩]⟩,
  ⟨.lgRdseq, 0x050020, [], 0x00000000,
    [⟨0, 32, .rw, .live⟩]⟩,
  ⟨.lgRdstat, 0x050024, [], 0x00000001,
    [⟨0, 2, .ro, .fixed⟩]⟩,
  ⟨.nvStatus, 0x050040, [], 0x00000000,
    [⟨24, 8, .ro, .fixed⟩, ⟨16, 8, .ro, .fixed⟩, ⟨0, 16, .rc, .live⟩]⟩,
  ⟨.nvScrub, 0x050044, [], 0x00000000,
    [⟨0, 32, .ro, .fixed⟩]⟩,
  ⟨.nvUncorr, 0x050048, [], 0x00000000,
    [⟨24, 8, .rc, .live⟩, ⟨0, 19, .ro, .fixed⟩]⟩,
  ⟨.hnvAddr, 0x050060, [], 0x00000000,
    [⟨15, 1, .w1c, .live⟩, ⟨14, 1, .w1c, .live⟩, ⟨2, 12, .rw, .live⟩]⟩,
  ⟨.hnvData, 0x050064, [], 0x00000000,
    [⟨0, 32, .rw, .live⟩]⟩,
  ⟨.lgWin, 0x050100, [(64, 0x4)], 0x00000000,
    [⟨0, 32, .ro, .fixed⟩]⟩]

/-- Registers of the block at 080000h, part 1. -/
def mapPulse0 : List RegSpec := [
  ⟨.phaseCtl, 0x080000, [(48, 0x100)], 0x00000000,
    [⟨18, 2, .rw, .halt⟩, ⟨17, 1, .rw, .halt⟩, ⟨15, 1, .rw, .live⟩, ⟨14, 1, .rw, .live⟩, ⟨13, 1, .rw, .boundary⟩, ⟨12, 1, .rw, .halt⟩, ⟨8, 1, .rw, .halt⟩, ⟨0, 2, .rw, .halt⟩]⟩,
  ⟨.phasePeriod, 0x080004, [(48, 0x100)], 0x00000640,
    [⟨0, 16, .rw, .group⟩]⟩,
  ⟨.phaseDuty, 0x080008, [(48, 0x100)], 0x00000000,
    [⟨0, 21, .rw, .group⟩]⟩,
  ⟨.phaseOfs, 0x08000C, [(48, 0x100)], 0x00000000,
    [⟨0, 21, .rw, .boundary⟩]⟩,
  ⟨.phaseDt, 0x080010, [(48, 0x100)], 0x00800080,
    [⟨16, 10, .rw, .boundary⟩, ⟨0, 10, .rw, .boundary⟩]⟩,
  ⟨.phaseTiming, 0x080014, [(48, 0x100)], 0x00300010,
    [⟨16, 9, .rw, .boundary⟩, ⟨0, 8, .rw, .boundary⟩]⟩,
  ⟨.phaseTripcfg, 0x080018, [(48, 0x100)], 0x00000001,
    [⟨8, 8, .rw, .boundary⟩, ⟨0, 8, .rw, .boundary⟩]⟩,
  ⟨.phaseStatus, 0x08001C, [(48, 0x100)], 0x00000000,
    [⟨16, 8, .ro, .fixed⟩, ⟨11, 1, .ro, .fixed⟩, ⟨10, 1, .w1c, .live⟩, ⟨9, 1, .w1c, .live⟩, ⟨8, 1, .w1c, .live⟩, ⟨7, 1, .w1c, .live⟩, ⟨6, 1, .w1c, .live⟩, ⟨5, 1, .w1c, .live⟩, ⟨4, 1, .ro, .fixed⟩, ⟨2, 2, .ro, .fixed⟩, ⟨0, 2, .ro, .fixed⟩]⟩,
  ⟨.phaseLimcnt, 0x080020, [(48, 0x100)], 0x00000000,
    [⟨8, 24, .rc, .live⟩, ⟨0, 8, .ro, .fixed⟩]⟩,
  ⟨.phaseActper, 0x080024, [(48, 0x100)], 0x00000640,
    [⟨0, 16, .ro, .fixed⟩]⟩,
  ⟨.phaseActduty, 0x080028, [(48, 0x100)], 0x00000000,
    [⟨0, 21, .ro, .fixed⟩]⟩,
  ⟨.stagegrpCfg, 0x083000, [(6, 0x10)], 0x00000A00,
    [⟨8, 8, .rw, .halt⟩, ⟨2, 1, .ro, .fixed⟩, ⟨1, 1, .rw, .halt⟩, ⟨0, 1, .ro, .fixed⟩]⟩]

/-- Registers of the block at 080000h, part 2. -/
def mapPulse1 : List RegSpec := [
  ⟨.peSyncCtl, 0x083100, [], 0x06400000,
    [⟨16, 16, .rw, .halt⟩, ⟨1, 1, .rw, .halt⟩, ⟨0, 1, .rw, .halt⟩]⟩,
  ⟨.peSyncDly, 0x083104, [], 0x00000000,
    [⟨0, 16, .rw, .live⟩]⟩,
  ⟨.peSyncoCtl, 0x083108, [], 0x00000100,
    [⟨12, 20, .rw, .live⟩, ⟨4, 8, .rw, .live⟩, ⟨0, 1, .rw, .live⟩]⟩,
  ⟨.peSyncStatus, 0x08310C, [], 0x00000000,
    [⟨16, 16, .ro, .fixed⟩, ⟨8, 8, .rc, .live⟩, ⟨1, 1, .ro, .fixed⟩, ⟨0, 1, .ro, .fixed⟩]⟩,
  ⟨.peTripCtl, 0x083110, [], 0x00000000,
    [⟨16, 4, .rw, .halt⟩, ⟨0, 4, .rw, .halt⟩]⟩]

/-- Registers of the block at 080000h. -/
def mapPulse : List RegSpec := mapPulse0 ++ mapPulse1

/-- Registers of the block at 0A0000h, part 1. -/
def mapModulator0 : List RegSpec := [
  ⟨.railMctl, 0x0A0000, [(8, 0x400)], 0x00000000,
    [⟨15, 1, .rw, .sample⟩, ⟨14, 1, .rw, .sample⟩, ⟨12, 2, .rw, .sample⟩, ⟨8, 1, .rw, .sample⟩]⟩,
  ⟨.railTon, 0x0A0004, [(8, 0x400)], 0x00000640,
    [⟨16, 16, .rw, .sample⟩, ⟨0, 16, .rw, .group⟩]⟩,
  ⟨.railTonmax, 0x0A0008, [(8, 0x400)], 0x0003E800,
    [⟨0, 18, .rw, .sample⟩]⟩,
  ⟨.railRip, 0x0A000C, [(8, 0x400)], 0x000C0000,
    [⟨16, 5, .rw, .sample⟩, ⟨0, 16, .rw, .group⟩]⟩,
  ⟨.railSpace, 0x0A0010, [(8, 0x400)], 0x08140220,
    [⟨24, 6, .rw, .sample⟩, ⟨16, 8, .rw, .sample⟩, ⟨8, 6, .rw, .sample⟩, ⟨0, 8, .rw, .sample⟩]⟩,
  ⟨.railOnset, 0x0A0014, [(8, 0x400)], 0x10040002,
    [⟨24, 8, .rw, .sample⟩, ⟨16, 8, .rw, .sample⟩, ⟨0, 4, .rw, .sample⟩]⟩,
  ⟨.railDe, 0x0A0018, [(8, 0x400)], 0x04000000,
    [⟨24, 8, .rw, .sample⟩, ⟨12, 12, .rw, .sample⟩, ⟨0, 12, .rw, .sample⟩]⟩,
  ⟨.railFf, 0x0A001C, [(8, 0x400)], 0x00000640,
    [⟨16, 16, .rw, .sample⟩, ⟨0, 16, .rw, .halt⟩]⟩,
  ⟨.railLockofs, 0x0A0020, [(8, 0x400)], 0x00000000,
    [⟨0, 21, .rw, .sample⟩]⟩,
  ⟨.railLockcfg, 0x0A0024, [(8, 0x400)], 0x106A0CCD,
    [⟨24, 8, .rw, .sample⟩, ⟨20, 4, .rw, .sample⟩, ⟨16, 4, .rw, .sample⟩, ⟨0, 16, .rw, .sample⟩]⟩,
  ⟨.railSeq, 0x0A0028, [(8, 0x400)], 0x00000000,
    [⟨16, 6, .ro, .fixed⟩, ⟨0, 6, .rw, .group⟩]⟩,
  ⟨.railRing, 0x0A0040, [(8, 0x400), (8, 0x4)], 0x00000000,
    [⟨24, 8, .rw, .group⟩, ⟨16, 8, .rw, .group⟩, ⟨8, 8, .rw, .group⟩, ⟨0, 8, .rw, .group⟩]⟩]

/-- Registers of the block at 0A0000h, part 2. -/
def mapModulator1 : List RegSpec := [
  ⟨.railMstat, 0x0A0060, [(8, 0x400)], 0x00000000,
    [⟨15, 1, .w1c, .live⟩, ⟨14, 1, .ro, .fixed⟩, ⟨13, 1, .w1c, .live⟩, ⟨12, 1, .ro, .fixed⟩, ⟨7, 1, .ro, .fixed⟩, ⟨6, 1, .ro, .fixed⟩, ⟨5, 1, .ro, .fixed⟩, ⟨4, 1, .ro, .fixed⟩, ⟨3, 1, .ro, .fixed⟩, ⟨2, 1, .ro, .fixed⟩, ⟨0, 2, .ro, .fixed⟩]⟩,
  ⟨.railTonnow, 0x0A0064, [(8, 0x400)], 0x00000000,
    [⟨0, 18, .ro, .fixed⟩]⟩,
  ⟨.railThnow, 0x0A0068, [(8, 0x400)], 0x00000000,
    [⟨16, 10, .ro, .fixed⟩, ⟨0, 12, .ro, .fixed⟩]⟩,
  ⟨.railLockstat, 0x0A006C, [(8, 0x400)], 0x00000000,
    [⟨16, 16, .ro, .fixed⟩, ⟨0, 16, .ro, .fixed⟩]⟩,
  ⟨.railMcnt, 0x0A0070, [(8, 0x400)], 0x00000000,
    [⟨24, 8, .rc, .live⟩, ⟨16, 8, .rc, .live⟩, ⟨8, 8, .rc, .live⟩, ⟨0, 8, .rc, .live⟩]⟩]

/-- Registers of the block at 0A0000h. -/
def mapModulator : List RegSpec := mapModulator0 ++ mapModulator1

/-- Registers of the block at 0B0000h. -/
def mapSense : List RegSpec := [
  ⟨.vinffCfg, 0x0B0100, [], 0x00009600,
    [⟨31, 1, .rw, .halt⟩, ⟨0, 20, .rw, .halt⟩]⟩,
  ⟨.vinffFix, 0x0B0104, [], 0x00001770,
    [⟨0, 16, .rw, .halt⟩]⟩,
  ⟨.vinffData, 0x0B0108, [], 0x00000000,
    [⟨30, 2, .ro, .fixed⟩, ⟨0, 16, .ro, .fixed⟩]⟩,
  ⟨.sfeIcal, 0x0B0200, [(48, 0x4)], 0x10000800,
    [⟨16, 16, .rwl, .halt⟩, ⟨0, 12, .rwl, .halt⟩]⟩]

/-- Registers of the block at 0C0000h. -/
def mapComparator : List RegSpec := [
  ⟨.cmpCtl, 0x0C0000, [(128, 0x20)], 0x00000000,
    [⟨31, 1, .rwl, .live⟩, ⟨20, 4, .rwl, .halt⟩, ⟨16, 2, .rwl, .halt⟩, ⟨15, 1, .rwl, .halt⟩, ⟨14, 1, .rwl, .halt⟩, ⟨13, 1, .rwl, .halt⟩, ⟨12, 1, .rw, .live⟩, ⟨7, 1, .ro, .fixed⟩, ⟨0, 7, .ro, .fixed⟩]⟩,
  ⟨.cmpDac, 0x0C0004, [(128, 0x20)], 0x00000000,
    [⟨16, 10, .ro, .fixed⟩, ⟨0, 10, .rwl, .live⟩]⟩,
  ⟨.cmpTrack, 0x0C0008, [(128, 0x20)], 0x15D80000,
    [⟨16, 16, .rwl, .halt⟩, ⟨0, 16, .rwl, .sample⟩]⟩,
  ⟨.cmpStatus, 0x0C000C, [(128, 0x20)], 0x00000000,
    [⟨24, 8, .ro, .fixed⟩, ⟨8, 8, .ro, .fixed⟩, ⟨7, 1, .ro, .fixed⟩, ⟨6, 1, .ro, .fixed⟩, ⟨4, 1, .w1c, .live⟩, ⟨3, 1, .w1c, .live⟩, ⟨2, 1, .w1c, .live⟩, ⟨1, 1, .ro, .fixed⟩, ⟨0, 1, .ro, .fixed⟩]⟩,
  ⟨.cmpRdbk, 0x0C0010, [(128, 0x20)], 0x00000000,
    [⟨16, 12, .ro, .fixed⟩, ⟨0, 12, .ro, .fixed⟩]⟩,
  ⟨.cmpoCtl, 0x0C1000, [], 0x00000000,
    [⟨31, 1, .rwl, .live⟩, ⟨24, 7, .rwl, .live⟩, ⟨23, 1, .rwl, .live⟩, ⟨16, 7, .rwl, .live⟩, ⟨15, 1, .rwl, .live⟩, ⟨8, 7, .rwl, .live⟩, ⟨7, 1, .rwl, .live⟩, ⟨0, 7, .rwl, .live⟩]⟩]

/-- Registers of the block at 0D0000h. -/
def mapConverter : List RegSpec := [
  ⟨.mcChData, 0x0D0000, [(96, 0x4)], 0x00000000,
    [⟨20, 12, .ro, .fixed⟩, ⟨0, 20, .ro, .fixed⟩]⟩,
  ⟨.mcChCfg, 0x0D0200, [(96, 0x4)], 0x00000000,
    [⟨0, 3, .rw, .live⟩]⟩,
  ⟨.mcTscal, 0x0D0400, [(8, 0x4)], 0xFB500960,
    [⟨16, 16, .rwl, .halt⟩, ⟨0, 16, .rwl, .halt⟩]⟩,
  ⟨.mcNtc, 0x0D0420, [(2, 0x4)], 0x0D6B03E8,
    [⟨31, 1, .rwl, .halt⟩, ⟨16, 15, .rwl, .halt⟩, ⟨0, 16, .rwl, .halt⟩]⟩,
  ⟨.tmCtl, 0x0D0800, [], 0x00000064,
    [⟨31, 1, .rw, .live⟩, ⟨0, 16, .rw, .live⟩]⟩,
  ⟨.tmItem, 0x0D0810, [(16, 0x4)], 0x000000FF,
    [⟨0, 8, .rw, .live⟩]⟩,
  ⟨.tmStatus, 0x0D0850, [], 0x00000000,
    [⟨8, 8, .ro, .fixed⟩, ⟨0, 8, .rc, .live⟩]⟩,
  ⟨.tmEffcfg, 0x0D0860, [], 0x000003E8,
    [⟨0, 16, .rw, .live⟩]⟩,
  ⟨.tmEff, 0x0D0864, [], 0x00000001,
    [⟨16, 16, .ro, .fixed⟩, ⟨1, 15, .ro, .fixed⟩, ⟨0, 1, .ro, .fixed⟩]⟩,
  ⟨.tmPravg, 0x0D0868, [], 0x00000000,
    [⟨0, 16, .ro, .fixed⟩]⟩]

/-- Registers of the block at 100000h, part 1. -/
def mapLoop0 : List RegSpec := [
  ⟨.graphHdr, 0x100000, [(8, 0x1000)], 0x00000000,
    [⟨16, 3, .rw, .halt⟩, ⟨8, 4, .rw, .halt⟩, ⟨0, 8, .rw, .halt⟩]⟩,
  ⟨.graphPlace, 0x100004, [(8, 0x1000)], 0x00000080,
    [⟨7, 1, .rw, .halt⟩, ⟨4, 3, .rw, .halt⟩, ⟨0, 1, .rw, .halt⟩]⟩,
  ⟨.graphCtl, 0x100008, [(8, 0x1000)], 0x00004000,
    [⟨8, 7, .rw, .sample⟩, ⟨2, 1, .rw, .halt⟩, ⟨1, 1, .rw, .sample⟩, ⟨0, 1, .rw, .sample⟩]⟩,
  ⟨.graphYinit, 0x10000C, [(8, 0x1000)], 0x00000000,
    [⟨0, 32, .rw, .halt⟩]⟩,
  ⟨.graphStatus, 0x100010, [(8, 0x1000)], 0x70000000,
    [⟨31, 1, .ro, .fixed⟩, ⟨28, 3, .ro, .fixed⟩, ⟨27, 1, .ro, .fixed⟩, ⟨26, 1, .ro, .fixed⟩, ⟨25, 1, .ro, .fixed⟩, ⟨24, 1, .ro, .fixed⟩, ⟨17, 7, .ro, .fixed⟩, ⟨16, 1, .w1c, .live⟩, ⟨15, 1, .w1c, .live⟩, ⟨14, 1, .w1c, .live⟩, ⟨0, 8, .ro, .fixed⟩]⟩,
  ⟨.graphCnt, 0x100014, [(8, 0x1000)], 0x00000000,
    [⟨16, 16, .rc, .live⟩, ⟨0, 16, .rc, .live⟩]⟩,
  ⟨.graphYout, 0x100018, [(8, 0x1000)], 0x00000000,
    [⟨0, 32, .ro, .fixed⟩]⟩,
  ⟨.graphHofs, 0x10001C, [(8, 0x1000), (2, 0x4)], 0x00000000,
    [⟨0, 32, .ro, .fixed⟩]⟩,
  ⟨.graphStgDesc, 0x100100, [(8, 0x1000), (16, 0x20)], 0x00000000,
    [⟨28, 4, .rw, .halt⟩, ⟨26, 2, .rw, .halt⟩, ⟨21, 5, .rw, .halt⟩, ⟨16, 5, .rw, .halt⟩, ⟨15, 1, .rw, .halt⟩]⟩,
  ⟨.graphStgShift, 0x100104, [(8, 0x1000), (16, 0x20)], 0x00000000,
    [⟨24, 6, .rw, .sample⟩, ⟨18, 6, .rw, .sample⟩, ⟨12, 6, .rw, .sample⟩, ⟨6, 6, .rw, .sample⟩, ⟨0, 6, .rw, .sample⟩]⟩,
  ⟨.graphStgCoef, 0x100108, [(8, 0x1000), (16, 0x20), (5, 0x4)], 0x00000000,
    [⟨0, 32, .rw, .sample⟩]⟩,
  ⟨.graphStgState, 0x100400, [(8, 0x1000), (16, 0x10), (4, 0x4)], 0x00000000,
    [⟨0, 32, .ro, .fixed⟩]⟩]

/-- Registers of the block at 100000h, part 2. -/
def mapLoop1 : List RegSpec := [
  ⟨.leStatus, 0x108000, [], 0x043F0000,
    [⟨27, 5, .ro, .fixed⟩, ⟨24, 3, .ro, .fixed⟩, ⟨23, 1, .ro, .fixed⟩, ⟨22, 1, .ro, .fixed⟩, ⟨19, 3, .ro, .fixed⟩, ⟨16, 3, .ro, .fixed⟩, ⟨8, 8, .ro, .fixed⟩]⟩,
  ⟨.leStore, 0x108010, [], 0x00000000,
    [⟨16, 16, .rc, .live⟩, ⟨0, 16, .rc, .live⟩]⟩,
  ⟨.laneStatus, 0x108100, [(5, 0x10)], 0x00000000,
    [⟨30, 2, .ro, .fixed⟩, ⟨19, 1, .ro, .fixed⟩, ⟨16, 3, .ro, .fixed⟩, ⟨15, 1, .ro, .fixed⟩, ⟨12, 3, .ro, .fixed⟩, ⟨0, 1, .ro, .fixed⟩]⟩,
  ⟨.laneCnt, 0x108104, [(5, 0x10)], 0x00000000,
    [⟨16, 16, .rc, .live⟩, ⟨0, 16, .rc, .live⟩]⟩,
  ⟨.olCtl, 0x109000, [(8, 0x100)], 0x00200084,
    [⟨16, 6, .rw, .halt⟩, ⟨8, 2, .rw, .sample⟩, ⟨4, 4, .rw, .halt⟩, ⟨0, 4, .rw, .halt⟩]⟩,
  ⟨.olCb, 0x109004, [(8, 0x100)], 0x00000000,
    [⟨16, 16, .rw, .sample⟩, ⟨0, 16, .rw, .sample⟩]⟩,
  ⟨.olCblim, 0x109008, [(8, 0x100)], 0x00100100,
    [⟨16, 5, .rw, .sample⟩, ⟨0, 12, .rw, .sample⟩]⟩,
  ⟨.olTs, 0x10900C, [(8, 0x100)], 0x00000000,
    [⟨16, 9, .rw, .sample⟩, ⟨0, 16, .rw, .sample⟩]⟩,
  ⟨.olLl, 0x109010, [(8, 0x100)], 0x00000000,
    [⟨0, 11, .rw, .sample⟩]⟩,
  ⟨.olCl, 0x109014, [(8, 0x100)], 0x020A0000,
    [⟨24, 4, .rw, .sample⟩, ⟨16, 8, .rw, .sample⟩, ⟨0, 12, .rw, .sample⟩]⟩,
  ⟨.olFe, 0x109018, [(8, 0x100)], 0x0FA06666,
    [⟨16, 16, .rw, .sample⟩, ⟨0, 16, .rw, .sample⟩]⟩,
  ⟨.olFecls, 0x10901C, [(8, 0x100)], 0x00000004,
    [⟨0, 3, .rwl, .halt⟩]⟩]

/-- Registers of the block at 100000h, part 3. -/
def mapLoop2 : List RegSpec := [
  ⟨.olHzctl, 0x109020, [(8, 0x100)], 0x09C40A40,
    [⟨16, 16, .rwl, .sample⟩, ⟨8, 8, .rw, .sample⟩, ⟨4, 4, .rw, .sample⟩, ⟨0, 1, .rw, .sample⟩]⟩,
  ⟨.olHzslk, 0x109024, [(8, 0x100)], 0x00640032,
    [⟨16, 16, .rw, .sample⟩, ⟨0, 16, .rw, .sample⟩]⟩,
  ⟨.olHzstep, 0x109028, [(8, 0x100)], 0x000A3205,
    [⟨16, 16, .rw, .sample⟩, ⟨8, 8, .rw, .sample⟩, ⟨0, 8, .rw, .sample⟩]⟩,
  ⟨.olHzmax, 0x10902C, [(8, 0x100)], 0x00000000,
    [⟨0, 16, .rwl, .sample⟩]⟩,
  ⟨.olStatus, 0x109040, [(8, 0x100)], 0x00000000,
    [⟨16, 16, .ro, .fixed⟩, ⟨12, 4, .ro, .fixed⟩, ⟨4, 1, .w1c, .live⟩, ⟨3, 1, .w1c, .live⟩, ⟨2, 1, .ro, .fixed⟩, ⟨1, 1, .ro, .fixed⟩, ⟨0, 1, .ro, .fixed⟩]⟩,
  ⟨.olHznow, 0x109044, [(8, 0x100)], 0x00000000,
    [⟨16, 16, .ro, .fixed⟩, ⟨0, 16, .ro, .fixed⟩]⟩,
  ⟨.olItot, 0x109048, [(8, 0x100)], 0x00000000,
    [⟨0, 32, .ro, .fixed⟩]⟩,
  ⟨.olDroop, 0x10904C, [(8, 0x100)], 0x00000000,
    [⟨0, 16, .ro, .fixed⟩]⟩,
  ⟨.olphTrim, 0x109800, [(48, 0x4)], 0x00000000,
    [⟨16, 16, .ro, .fixed⟩, ⟨0, 16, .ro, .fixed⟩]⟩]

/-- Registers of the block at 100000h. -/
def mapLoop : List RegSpec := mapLoop0 ++ mapLoop1 ++ mapLoop2

/-- Registers of the block at 110000h, part 1. -/
def mapTransit0 : List RegSpec := [
  ⟨.railVset, 0x110000, [(8, 0x100)], 0x00000000,
    [⟨16, 16, .rw, .live⟩, ⟨0, 16, .rw, .live⟩]⟩,
  ⟨.railVlim, 0x110004, [(8, 0x100)], 0x80E809C4,
    [⟨16, 16, .rwl, .halt⟩, ⟨0, 16, .rwl, .halt⟩]⟩,
  ⟨.railSlew, 0x110008, [(8, 0x100)], 0x006403E8,
    [⟨16, 16, .rw, .sample⟩, ⟨0, 16, .rw, .sample⟩]⟩,
  ⟨.railProf, 0x11000C, [(8, 0x100)], 0x40000064,
    [⟨30, 2, .rw, .sample⟩, ⟨0, 10, .rw, .sample⟩]⟩,
  ⟨.railSeqctl, 0x110010, [(8, 0x100)], 0x00000000,
    [⟨12, 2, .rw, .halt⟩, ⟨11, 1, .rw, .halt⟩, ⟨10, 1, .rw, .halt⟩, ⟨9, 1, .rw, .halt⟩, ⟨8, 1, .rw, .sample⟩, ⟨4, 3, .rw, .halt⟩, ⟨3, 1, .rw, .halt⟩, ⟨0, 2, .rw, .halt⟩]⟩,
  ⟨.railTdly, 0x110014, [(8, 0x100)], 0x00000000,
    [⟨16, 16, .rw, .halt⟩, ⟨0, 16, .rw, .halt⟩]⟩,
  ⟨.railRamp, 0x110018, [(8, 0x100)], 0x00640064,
    [⟨16, 16, .rw, .halt⟩, ⟨0, 16, .rw, .halt⟩]⟩,
  ⟨.railStop, 0x11001C, [(8, 0x100)], 0x10000000,
    [⟨24, 8, .rw, .halt⟩, ⟨0, 16, .rw, .halt⟩]⟩,
  ⟨.railPgdly, 0x110020, [(8, 0x100)], 0x00400004,
    [⟨16, 16, .rw, .sample⟩, ⟨0, 16, .rw, .sample⟩]⟩,
  ⟨.railPgwin, 0x110024, [(8, 0x100)], 0x00600060,
    [⟨31, 1, .rwl, .halt⟩, ⟨30, 1, .rw, .sample⟩, ⟨16, 9, .rw, .sample⟩, ⟨0, 9, .rw, .sample⟩]⟩,
  ⟨.railHzbk, 0x110028, [(8, 0x100)], 0x00000064,
    [⟨0, 16, .rw, .sample⟩]⟩,
  ⟨.railOn, 0x11002C, [(8, 0x100)], 0x00000000,
    [⟨0, 1, .rw, .live⟩]⟩]

/-- Registers of the block at 110000h, part 2. -/
def mapTransit1 : List RegSpec := [
  ⟨.railTstat, 0x110040, [(8, 0x100)], 0x00000000,
    [⟨16, 4, .ro, .fixed⟩, ⟨9, 1, .ro, .fixed⟩, ⟨8, 1, .w1c, .live⟩, ⟨7, 1, .w1c, .live⟩, ⟨6, 1, .w1c, .live⟩, ⟨5, 1, .w1c, .live⟩, ⟨4, 1, .ro, .fixed⟩, ⟨3, 1, .ro, .fixed⟩, ⟨2, 1, .ro, .fixed⟩, ⟨1, 1, .ro, .fixed⟩, ⟨0, 1, .ro, .fixed⟩]⟩,
  ⟨.railRefnow, 0x110044, [(8, 0x100)], 0x00000000,
    [⟨16, 16, .ro, .fixed⟩, ⟨0, 16, .ro, .fixed⟩]⟩,
  ⟨.railTcnt, 0x110048, [(8, 0x100)], 0x00000000,
    [⟨24, 8, .rc, .live⟩, ⟨16, 8, .rc, .live⟩, ⟨0, 16, .rc, .live⟩]⟩,
  ⟨.railCmargnow, 0x11004C, [(8, 0x100)], 0x00000000,
    [⟨0, 16, .ro, .fixed⟩]⟩,
  ⟨.seqgrpCtl, 0x110800, [(4, 0x10)], 0x00000000,
    [⟨1, 1, .rw, .halt⟩, ⟨0, 1, .rw, .live⟩]⟩,
  ⟨.seqgrpStatus, 0x110804, [(4, 0x10)], 0x00000000,
    [⟨2, 1, .w1c, .live⟩, ⟨1, 1, .ro, .fixed⟩, ⟨0, 1, .ro, .fixed⟩]⟩]

/-- Registers of the block at 110000h. -/
def mapTransit : List RegSpec := mapTransit0 ++ mapTransit1

/-- Registers of the block at 120000h. -/
def mapEphemeris : List RegSpec := [
  ⟨.ephCtl, 0x120000, [(8, 0x40)], 0x00000000,
    [⟨24, 4, .rw, .sample⟩, ⟨16, 8, .rw, .halt⟩, ⟨8, 8, .rw, .sample⟩, ⟨5, 1, .rw, .sample⟩, ⟨4, 1, .wo, .live⟩, ⟨3, 1, .rw, .sample⟩, ⟨1, 2, .rw, .halt⟩, ⟨0, 1, .rw, .sample⟩]⟩,
  ⟨.ephTbl, 0x120004, [(8, 0x40)], 0x00000000,
    [⟨16, 14, .rw, .halt⟩, ⟨0, 12, .rw, .halt⟩]⟩,
  ⟨.ephGain, 0x120008, [(8, 0x40)], 0x00000000,
    [⟨16, 16, .rw, .sample⟩, ⟨0, 5, .rw, .sample⟩]⟩,
  ⟨.ephPer, 0x12000C, [(8, 0x40)], 0x00000000,
    [⟨24, 8, .rw, .sample⟩, ⟨0, 24, .rw, .sample⟩]⟩,
  ⟨.ephSettle, 0x120010, [(8, 0x40)], 0x00000100,
    [⟨0, 16, .rw, .sample⟩]⟩,
  ⟨.ephStatus, 0x120014, [(8, 0x40)], 0x00000000,
    [⟨16, 12, .ro, .fixed⟩, ⟨8, 8, .rc, .live⟩, ⟨6, 1, .w1c, .live⟩, ⟨5, 1, .w1c, .live⟩, ⟨4, 1, .ro, .fixed⟩, ⟨3, 1, .ro, .fixed⟩, ⟨1, 1, .ro, .fixed⟩, ⟨0, 1, .ro, .fixed⟩]⟩,
  ⟨.ephPinc, 0x120018, [(8, 0x40)], 0x00000000,
    [⟨0, 32, .ro, .fixed⟩]⟩,
  ⟨.ephTnow, 0x12001C, [(8, 0x40)], 0x00000000,
    [⟨0, 24, .ro, .fixed⟩]⟩]

/-- Registers of the block at 130000h, part 1. -/
def mapInnkeeper0 : List RegSpec := [
  ⟨.inkCtl, 0x130000, [(8, 0x80)], 0x10080140,
    [⟨24, 8, .rw, .live⟩, ⟨16, 8, .rw, .live⟩, ⟨8, 6, .rw, .live⟩, ⟨4, 3, .rwl, .halt⟩, ⟨2, 1, .rw, .live⟩, ⟨0, 1, .rw, .live⟩]⟩,
  ⟨.inkLim, 0x130004, [(8, 0x80)], 0x00100000,
    [⟨16, 12, .rw, .live⟩, ⟨0, 8, .rwl, .halt⟩]⟩,
  ⟨.inkOpen, 0x130008, [(8, 0x80)], 0x00000005,
    [⟨12, 12, .rwl, .halt⟩, ⟨0, 8, .rwl, .halt⟩]⟩,
  ⟨.inkXsense, 0x13000C, [(8, 0x80)], 0x00000000,
    [⟨31, 1, .rwl, .halt⟩, ⟨24, 7, .rwl, .halt⟩, ⟨12, 12, .rwl, .halt⟩, ⟨0, 12, .rwl, .halt⟩]⟩,
  ⟨.inkEff, 0x130010, [(8, 0x80), (8, 0x4)], 0x00000000,
    [⟨16, 12, .rw, .live⟩, ⟨0, 6, .rw, .live⟩]⟩,
  ⟨.inkStatus, 0x130030, [(8, 0x80)], 0xFFF00000,
    [⟨20, 12, .ro, .fixed⟩, ⟨14, 6, .ro, .fixed⟩, ⟨8, 6, .ro, .fixed⟩, ⟨2, 6, .ro, .fixed⟩, ⟨1, 1, .ro, .fixed⟩, ⟨0, 1, .ro, .fixed⟩]⟩,
  ⟨.inkCnt, 0x130034, [(8, 0x80)], 0x00000000,
    [⟨24, 8, .rc, .live⟩, ⟨16, 8, .rc, .live⟩, ⟨8, 8, .rc, .live⟩, ⟨0, 8, .rc, .live⟩]⟩,
  ⟨.inkBase, 0x130040, [(8, 0x80), (8, 0x4)], 0x00000000,
    [⟨24, 8, .ro, .fixed⟩, ⟨16, 8, .ro, .fixed⟩, ⟨8, 8, .ro, .fixed⟩, ⟨0, 8, .ro, .fixed⟩]⟩,
  ⟨.inkHcfg, 0x130800, [], 0x0A326944,
    [⟨24, 8, .rwl, .halt⟩, ⟨16, 8, .rwl, .halt⟩, ⟨8, 8, .rwl, .halt⟩, ⟨4, 4, .rwl, .halt⟩, ⟨2, 2, .rwl, .halt⟩, ⟨0, 2, .rwl, .halt⟩]⟩,
  ⟨.inkTmodel, 0x130804, [], 0x00000000,
    [⟨20, 12, .rwl, .halt⟩, ⟨8, 12, .rwl, .halt⟩, ⟨0, 4, .rwl, .halt⟩]⟩,
  ⟨.inkWearcfg, 0x130808, [], 0x00000000,
    [⟨16, 16, .rwl, .halt⟩, ⟨12, 4, .rwl, .halt⟩, ⟨8, 4, .rwl, .halt⟩, ⟨4, 4, .rwl, .halt⟩, ⟨0, 4, .rwl, .halt⟩]⟩,
  ⟨.inkTest, 0x13080C, [], 0x03E80000,
    [⟨16, 16, .rw, .live⟩, ⟨0, 8, .rw, .live⟩]⟩]

/-- Registers of the block at 130000h, part 2. -/
def mapInnkeeper1 : List RegSpec := [
  ⟨.inkReq, 0x130810, [], 0x00000000,
    [⟨28, 4, .rwl, .live⟩, ⟨16, 6, .rwl, .live⟩, ⟨0, 8, .rwl, .live⟩]⟩,
  ⟨.inkReqstat, 0x130814, [], 0x00000000,
    [⟨30, 2, .ro, .fixed⟩, ⟨16, 6, .ro, .fixed⟩, ⟨0, 8, .rc, .live⟩]⟩,
  ⟨.phaseAssign, 0x131000, [(48, 0x20)], 0x00000000,
    [⟨4, 1, .rw, .group⟩, ⟨3, 1, .rw, .group⟩, ⟨0, 3, .rw, .group⟩]⟩,
  ⟨.phaseRole, 0x131004, [(48, 0x20)], 0x00000000,
    [⟨24, 8, .ro, .fixed⟩, ⟨16, 3, .ro, .fixed⟩, ⟨8, 2, .ro, .fixed⟩, ⟨6, 1, .ro, .fixed⟩, ⟨5, 1, .ro, .fixed⟩, ⟨4, 1, .ro, .fixed⟩, ⟨0, 4, .ro, .fixed⟩]⟩,
  ⟨.phaseStale, 0x131008, [(48, 0x20)], 0x00000000,
    [⟨0, 16, .rc, .live⟩]⟩,
  ⟨.phaseWear, 0x13100C, [(48, 0x20)], 0x00000000,
    [⟨16, 16, .ro, .fixed⟩, ⟨0, 12, .ro, .fixed⟩]⟩,
  ⟨.phaseLifeah, 0x131010, [(48, 0x20)], 0x00000000,
    [⟨0, 32, .ro, .fixed⟩]⟩,
  ⟨.phaseLifepl, 0x131014, [(48, 0x20)], 0x00000000,
    [⟨0, 32, .ro, .fixed⟩]⟩,
  ⟨.phaseLifeth, 0x131018, [(48, 0x20)], 0x00000000,
    [⟨16, 16, .ro, .fixed⟩, ⟨0, 16, .ro, .fixed⟩]⟩]

/-- Registers of the block at 130000h. -/
def mapInnkeeper : List RegSpec := mapInnkeeper0 ++ mapInnkeeper1

/-- Registers of the block at 140000h. -/
def mapEphTable : List RegSpec := [
  ⟨.ephtab, 0x140000, [(8192, 0x4)], 0x00000000,
    [⟨0, 32, .rw, .live⟩]⟩]

/-- Registers of the block at 150000h, part 1. -/
def mapFault0 : List RegSpec := [
  ⟨.fmCtl, 0x150000, [], 0x000A0003,
    [⟨16, 10, .rwl, .halt⟩, ⟨8, 1, .rwl, .halt⟩, ⟨0, 3, .rwl, .halt⟩]⟩,
  ⟨.fmStatus, 0x150004, [], 0x00000002,
    [⟨24, 8, .ro, .fixed⟩, ⟨21, 3, .ro, .fixed⟩, ⟨8, 8, .ro, .fixed⟩, ⟨1, 1, .ro, .fixed⟩, ⟨0, 1, .w1c, .live⟩]⟩,
  ⟨.fmClass, 0x150010, [(4, 0x4)], 0x00000000,
    [⟨28, 4, .rwl, .halt⟩, ⟨24, 4, .rwl, .halt⟩, ⟨20, 4, .rwl, .halt⟩, ⟨16, 4, .rwl, .halt⟩, ⟨12, 4, .rwl, .halt⟩, ⟨8, 4, .rwl, .halt⟩, ⟨4, 4, .rwl, .halt⟩, ⟨0, 4, .rwl, .halt⟩]⟩,
  ⟨.fmStrike, 0x150020, [(5, 0x4)], 0x03010000,
    [⟨24, 4, .rwl, .halt⟩, ⟨16, 1, .rwl, .halt⟩, ⟨0, 16, .rwl, .halt⟩]⟩,
  ⟨.fmIc, 0x150040, [], 0x0062C688,
    [⟨23, 7, .ro, .fixed⟩, ⟨20, 3, .ro, .fixed⟩, ⟨0, 18, .ro, .fixed⟩]⟩,
  ⟨.fmPll, 0x150048, [], 0x00000000,
    [⟨4, 1, .ro, .fixed⟩, ⟨3, 1, .ro, .fixed⟩, ⟨1, 1, .ro, .fixed⟩, ⟨0, 1, .ro, .fixed⟩]⟩,
  ⟨.fmRailHic, 0x150100, [(8, 0x20)], 0x40305064,
    [⟨24, 8, .rwl, .halt⟩, ⟨20, 4, .rwl, .halt⟩, ⟨10, 10, .rwl, .halt⟩, ⟨0, 10, .rwl, .halt⟩]⟩,
  ⟨.fmRailProt, 0x150104, [(8, 0x20)], 0x00100000,
    [⟨24, 8, .rwl, .halt⟩, ⟨16, 8, .rwl, .halt⟩, ⟨1, 1, .rwl, .halt⟩, ⟨0, 1, .rwl, .halt⟩]⟩,
  ⟨.fmRailStat, 0x150108, [(8, 0x20)], 0x00000000,
    [⟨28, 4, .ro, .fixed⟩, ⟨16, 8, .ro, .fixed⟩, ⟨8, 8, .ro, .fixed⟩, ⟨4, 1, .ro, .fixed⟩, ⟨3, 1, .ro, .fixed⟩, ⟨2, 1, .ro, .fixed⟩, ⟨1, 1, .ro, .fixed⟩, ⟨0, 1, .ro, .fixed⟩]⟩,
  ⟨.fmPhCfg, 0x150400, [(48, 0x10)], 0x100A0096,
    [⟨24, 8, .rwl, .halt⟩, ⟨16, 8, .rwl, .halt⟩, ⟨0, 12, .rwl, .halt⟩]⟩,
  ⟨.fmPhStat, 0x150404, [(48, 0x10)], 0x00000000,
    [⟨24, 8, .ro, .fixed⟩, ⟨16, 8, .ro, .fixed⟩, ⟨1, 1, .ro, .fixed⟩, ⟨0, 1, .ro, .fixed⟩]⟩,
  ⟨.fmTemp, 0x150800, [(8, 0x4)], 0x697D0A00,
    [⟨24, 8, .rwl, .halt⟩, ⟨16, 8, .rwl, .halt⟩, ⟨8, 8, .rwl, .halt⟩, ⟨0, 8, .rwl, .halt⟩]⟩]

/-- Registers of the block at 150000h, part 2. -/
def mapFault1 : List RegSpec := [
  ⟨.fmTj, 0x150820, [], 0x73910000,
    [⟨24, 8, .rwl, .halt⟩, ⟨16, 8, .rwl, .halt⟩]⟩]

/-- Registers of the block at 150000h. -/
def mapFault : List RegSpec := mapFault0 ++ mapFault1

/-- Registers of the block at 160000h. -/
def mapLink : List RegSpec := [
  ⟨.lnkCtl, 0x160000, [(2, 0x200)], 0x00000010,
    [⟨8, 1, .rw, .live⟩, ⟨4, 2, .rw, .halt⟩]⟩,
  ⟨.lnkStatus, 0x160004, [(2, 0x200)], 0x00010010,
    [⟨16, 2, .ro, .fixed⟩, ⟨4, 1, .ro, .fixed⟩, ⟨3, 1, .w1c, .live⟩, ⟨2, 1, .w1c, .live⟩, ⟨1, 1, .w1c, .live⟩, ⟨0, 1, .ro, .fixed⟩]⟩,
  ⟨.lnkCnt, 0x160008, [(2, 0x200)], 0x00000000,
    [⟨24, 8, .rc, .live⟩, ⟨16, 8, .rc, .live⟩, ⟨8, 8, .rc, .live⟩, ⟨0, 8, .rc, .live⟩]⟩,
  ⟨.lnkNframe, 0x16000C, [(2, 0x200)], 0x00000000,
    [⟨0, 32, .rc, .live⟩]⟩,
  ⟨.lnkEpBind, 0x160040, [(2, 0x200), (4, 0x20)], 0x00000000,
    [⟨31, 1, .rw, .halt⟩, ⟨24, 4, .rw, .halt⟩, ⟨12, 3, .rw, .halt⟩, ⟨8, 3, .rw, .halt⟩, ⟨4, 3, .rw, .halt⟩, ⟨0, 3, .rw, .halt⟩]⟩,
  ⟨.lnkEpAmask, 0x160044, [(2, 0x200), (4, 0x20)], 0x00000000,
    [⟨29, 3, .rw, .live⟩, ⟨0, 16, .rw, .live⟩]⟩,
  ⟨.lnkEpCause, 0x160048, [(2, 0x200), (4, 0x20)], 0x00000000,
    [⟨31, 1, .w1c, .live⟩, ⟨30, 1, .w1c, .live⟩, ⟨29, 1, .w1c, .live⟩, ⟨12, 4, .w1c, .live⟩, ⟨8, 4, .w1c, .live⟩, ⟨4, 4, .w1c, .live⟩, ⟨0, 4, .w1c, .live⟩]⟩,
  ⟨.lnkEpLast, 0x16004C, [(2, 0x200), (4, 0x20)], 0x00000000,
    [⟨26, 6, .ro, .fixed⟩, ⟨22, 4, .ro, .fixed⟩, ⟨18, 4, .ro, .fixed⟩, ⟨17, 1, .ro, .fixed⟩]⟩,
  ⟨.lnkEpArvtag, 0x160050, [(2, 0x200), (4, 0x20)], 0x00000000,
    [⟨12, 4, .ro, .fixed⟩, ⟨8, 4, .ro, .fixed⟩, ⟨4, 4, .ro, .fixed⟩, ⟨0, 4, .ro, .fixed⟩]⟩]

/-- Registers of the block at 170000h. -/
def mapHost : List RegSpec := [
  ⟨.hpCtl, 0x170000, [(2, 0x100)], 0x0000001D,
    [⟨8, 1, .wo, .live⟩, ⟨4, 1, .rw, .live⟩, ⟨3, 1, .rwl, .halt⟩, ⟨2, 1, .rwl, .live⟩, ⟨1, 1, .rwl, .live⟩, ⟨0, 1, .rwl, .halt⟩]⟩,
  ⟨.hpStatus, 0x170004, [(2, 0x100)], 0x00000000,
    [⟨24, 8, .ro, .fixed⟩, ⟨16, 4, .ro, .fixed⟩, ⟨7, 1, .w1c, .live⟩, ⟨6, 1, .w1c, .live⟩, ⟨5, 1, .w1c, .live⟩, ⟨4, 1, .w1c, .live⟩, ⟨3, 1, .w1c, .live⟩, ⟨2, 1, .w1c, .live⟩, ⟨1, 1, .w1c, .live⟩, ⟨0, 1, .ro, .fixed⟩]⟩,
  ⟨.hpCnt, 0x170008, [(2, 0x100)], 0x00000000,
    [⟨24, 8, .rc, .live⟩, ⟨16, 8, .rc, .live⟩, ⟨8, 8, .rc, .live⟩, ⟨0, 8, .rc, .live⟩]⟩,
  ⟨.hpmCtl, 0x170200, [], 0x00000C14,
    [⟨31, 1, .wo, .live⟩, ⟨24, 7, .rw, .live⟩, ⟨20, 4, .rw, .live⟩, ⟨16, 4, .rw, .live⟩, ⟨14, 2, .rw, .live⟩, ⟨13, 1, .rw, .live⟩, ⟨10, 3, .rw, .live⟩, ⟨2, 8, .rw, .live⟩, ⟨1, 1, .rwl, .halt⟩]⟩,
  ⟨.hpmTx, 0x170204, [(2, 0x4)], 0x00000000,
    [⟨0, 32, .rw, .live⟩]⟩,
  ⟨.hpmRx, 0x17020C, [(2, 0x4)], 0x00000000,
    [⟨0, 32, .ro, .fixed⟩]⟩,
  ⟨.hpmStatus, 0x170214, [], 0x00000000,
    [⟨28, 4, .ro, .fixed⟩, ⟨24, 4, .ro, .fixed⟩, ⟨20, 4, .ro, .fixed⟩, ⟨0, 1, .ro, .fixed⟩]⟩,
  ⟨.hpAlert, 0x170300, [], 0x00000000,
    [⟨1, 1, .ro, .fixed⟩, ⟨0, 1, .ro, .fixed⟩]⟩]

/-- Registers of the block at 180000h. -/
def mapQueue : List RegSpec := [
  ⟨.qStat, 0x180000, [(16, 0x10)], 0x00001000,
    [⟨24, 8, .rc, .live⟩, ⟨16, 1, .w1c, .live⟩, ⟨8, 8, .rw, .live⟩, ⟨0, 7, .ro, .fixed⟩]⟩,
  ⟨.evPhsel, 0x180400, [(48, 0x4)], 0x00000002,
    [⟨0, 3, .rw, .live⟩]⟩,
  ⟨.evRtr, 0x180500, [(48, 0x4)], 0x00000000,
    [⟨31, 1, .rwl, .boundary⟩, ⟨8, 1, .rwl, .boundary⟩, ⟨0, 8, .rwl, .boundary⟩]⟩,
  ⟨.evInt, 0x180600, [(16, 0x4)], 0x00000000,
    [⟨8, 2, .rw, .live⟩, ⟨0, 8, .rw, .live⟩]⟩,
  ⟨.evPend, 0x180700, [], 0x00000000,
    [⟨16, 16, .ro, .fixed⟩, ⟨0, 16, .w1c, .live⟩]⟩,
  ⟨.evMask, 0x180704, [], 0x00000000,
    [⟨0, 32, .rw, .live⟩]⟩]

/-- Registers of the block at 190000h. -/
def mapPlate : List RegSpec := [
  ⟨.plCtl, 0x190000, [(4, 0x40)], 0x0C000000,
    [⟨31, 1, .rw, .live⟩, ⟨30, 1, .wo, .live⟩, ⟨26, 2, .rw, .halt⟩, ⟨25, 1, .rw, .halt⟩, ⟨20, 4, .rw, .halt⟩, ⟨8, 8, .rw, .halt⟩]⟩,
  ⟨.plDec, 0x190004, [(4, 0x40)], 0x00000000,
    [⟨0, 16, .rw, .halt⟩]⟩,
  ⟨.plTrig, 0x190008, [(4, 0x40)], 0x00001800,
    [⟨28, 4, .rw, .halt⟩, ⟨27, 1, .rw, .halt⟩, ⟨24, 3, .rw, .halt⟩, ⟨16, 8, .rw, .halt⟩, ⟨14, 2, .rw, .halt⟩, ⟨11, 3, .rw, .halt⟩]⟩,
  ⟨.plTlev, 0x19000C, [(4, 0x40)], 0x00000000,
    [⟨0, 32, .rw, .halt⟩]⟩,
  ⟨.plPre, 0x190010, [(4, 0x40)], 0x00000000,
    [⟨0, 12, .rw, .halt⟩]⟩,
  ⟨.plStatus, 0x190014, [(4, 0x40)], 0x00000000,
    [⟨30, 2, .ro, .fixed⟩, ⟨16, 13, .ro, .fixed⟩, ⟨15, 1, .w1c, .live⟩, ⟨14, 1, .w1c, .live⟩, ⟨0, 13, .ro, .fixed⟩]⟩,
  ⟨.plTtslo, 0x190018, [(4, 0x40)], 0x00000000,
    [⟨0, 32, .ro, .fixed⟩]⟩,
  ⟨.plTtshi, 0x19001C, [(4, 0x40)], 0x00000000,
    [⟨31, 1, .ro, .fixed⟩, ⟨29, 1, .ro, .fixed⟩, ⟨4, 16, .ro, .fixed⟩, ⟨0, 4, .ro, .fixed⟩]⟩,
  ⟨.plNode, 0x190020, [(4, 0x40), (8, 0x4)], 0x00000000,
    [⟨24, 8, .rw, .halt⟩, ⟨0, 24, .rw, .halt⟩]⟩,
  ⟨.plExp, 0x190100, [], 0x00000000,
    [⟨31, 1, .wo, .live⟩, ⟨2, 1, .ro, .fixed⟩, ⟨0, 2, .rw, .live⟩]⟩]

/-- Registers of the block at 1A0000h. -/
def mapPlateData : List RegSpec := [
  ⟨.plData, 0x1A0000, [(4, 0x4000), (4096, 0x4)], 0x00000000,
    [⟨0, 32, .ro, .fixed⟩]⟩]

/-- Registers of the block at 1F0000h, part 1. -/
def mapGatehouse0 : List RegSpec := [
  ⟨.ghAcc, 0x1F0000, [(32, 0x4)], 0x00002333,
    [⟨8, 6, .rw, .halt⟩, ⟨0, 6, .rw, .halt⟩]⟩,
  ⟨.ghRailw, 0x1F0080, [(5, 0x4)], 0x000000FF,
    [⟨0, 8, .rw, .halt⟩]⟩,
  ⟨.ghLock, 0x1F0100, [], 0x00000000,
    [⟨0, 5, .w1s, .live⟩]⟩,
  ⟨.ghChal, 0x1F0104, [], 0x00003C00,
    [⟨28, 4, .wo, .live⟩, ⟨16, 8, .rw, .live⟩, ⟨8, 8, .rw, .live⟩]⟩,
  ⟨.ghNonce, 0x1F0110, [(4, 0x4)], 0x00000000,
    [⟨0, 32, .ro, .fixed⟩]⟩,
  ⟨.ghResp, 0x1F0120, [(4, 0x4)], 0x00000000,
    [⟨0, 32, .wo, .live⟩]⟩,
  ⟨.ghSess, 0x1F0130, [], 0x00000000,
    [⟨29, 3, .ro, .fixed⟩, ⟨28, 1, .ro, .fixed⟩, ⟨16, 8, .ro, .fixed⟩, ⟨0, 16, .ro, .fixed⟩]⟩,
  ⟨.ghStat, 0x1F0134, [], 0x00000000,
    [⟨28, 4, .ro, .fixed⟩, ⟨26, 2, .ro, .fixed⟩, ⟨25, 1, .ro, .fixed⟩, ⟨24, 1, .ro, .fixed⟩, ⟨0, 16, .ro, .fixed⟩]⟩,
  ⟨.ghUcnt, 0x1F0138, [], 0x00000000,
    [⟨0, 32, .ro, .fixed⟩]⟩,
  ⟨.ghAlarm, 0x1F0140, [], 0xA0000002,
    [⟨28, 4, .rw, .halt⟩, ⟨8, 8, .ro, .fixed⟩, ⟨1, 3, .rw, .halt⟩]⟩,
  ⟨.ghDeny, 0x1F0150, [], 0x00000000,
    [⟨31, 1, .w1c, .live⟩, ⟨28, 3, .ro, .fixed⟩, ⟨24, 4, .ro, .fixed⟩, ⟨0, 24, .ro, .fixed⟩]⟩,
  ⟨.ghDenycnt, 0x1F0154, [], 0x00000000,
    [⟨0, 16, .rc, .live⟩]⟩]

/-- Registers of the block at 1F0000h, part 2. -/
def mapGatehouse1 : List RegSpec := [
  ⟨.ghKeyw, 0x1F0160, [(8, 0x4)], 0x00000000,
    [⟨0, 32, .wo, .live⟩]⟩,
  ⟨.ghKeyctl, 0x1F0180, [], 0x00000000,
    [⟨28, 4, .wo, .live⟩, ⟨8, 5, .ro, .fixed⟩, ⟨0, 3, .rw, .live⟩]⟩]

/-- Registers of the block at 1F0000h. -/
def mapGatehouse : List RegSpec := mapGatehouse0 ++ mapGatehouse1

/-- The registers of the block an address falls in (R393): target t = address[23:16]. -/
def blockMap (t : Nat) : List RegSpec :=
  match t with
  | 0x00 => mapIdentity
  | 0x01 => mapTimeBase
  | 0x02 => mapNightPorter
  | 0x03 => mapPorter
  | 0x04 => mapImage
  | 0x05 => mapStore
  | 0x08 => mapPulse
  | 0x0A => mapModulator
  | 0x0B => mapSense
  | 0x0C => mapComparator
  | 0x0D => mapConverter
  | 0x10 => mapLoop
  | 0x11 => mapTransit
  | 0x12 => mapEphemeris
  | 0x13 => mapInnkeeper
  | 0x14 => mapEphTable
  | 0x15 => mapFault
  | 0x16 => mapLink
  | 0x17 => mapHost
  | 0x18 => mapQueue
  | 0x19 => mapPlate
  | 0x1A => mapPlateData
  | 0x1F => mapGatehouse
  | _ => []

end Sys2Proof.Machine
end

