-- ==== Sys2Proof/Machine/Fields.lean ====
section
/-!
DEFINITION. The name of every register address and every field of the spec's register tables: `A.X` is the address of
register X (R394), `F.X_Y` its field Y. Indices follow the order the spec writes them in the register's name.
-/

namespace Sys2Proof.Machine

/-- A field of one register: the register's address, the field's lowest bit and its width. -/
structure Fld where
  addr : Nat
  lo : Nat
  w : Nat
  deriving DecidableEq, Repr

/-- Address of DEVICE_ID (file 16). -/
def A.DEVICE_ID : Nat := 0x000000
/-- Address of DEVICE_SERIAL_LO (file 16). -/
def A.DEVICE_SERIAL_LO : Nat := 0x000004
/-- Address of DEVICE_SERIAL_HI (file 16). -/
def A.DEVICE_SERIAL_HI : Nat := 0x000008
/-- Address of DEVICE_STATUS (file 16). -/
def A.DEVICE_STATUS : Nat := 0x000010
/-- Address of DEVICE_CTL (file 16). -/
def A.DEVICE_CTL : Nat := 0x000014
/-- Address of STRAP_STATUS (file 02). -/
def A.STRAP_STATUS : Nat := 0x000020
/-- Address of SUPPLY_STATUS (file 02). -/
def A.SUPPLY_STATUS : Nat := 0x000024
/-- Address of TB_COUNT_LO (file 04). -/
def A.TB_COUNT_LO : Nat := 0x010010
/-- Address of TB_COUNT_HI (file 04). -/
def A.TB_COUNT_HI : Nat := 0x010014
/-- Address of TB_SECMARK_LO (file 13). -/
def A.TB_SECMARK_LO : Nat := 0x010020
/-- Address of TB_SECMARK_HI (file 13). -/
def A.TB_SECMARK_HI : Nat := 0x010024
/-- Address of CAP[u].CTL (file 04). -/
def A.CAP_CTL (u : Nat) : Nat := 0x010400 + u * 0x10
/-- Address of CAP[u].TSLO (file 04). -/
def A.CAP_TSLO (u : Nat) : Nat := 0x010404 + u * 0x10
/-- Address of CAP[u].TSHI (file 04). -/
def A.CAP_TSHI (u : Nat) : Nat := 0x010408 + u * 0x10
/-- Address of NP_SECS (file 13). -/
def A.NP_SECS : Nat := 0x020000
/-- Address of NP_ALARM (file 13). -/
def A.NP_ALARM : Nat := 0x020004
/-- Address of NP_INS (file 12). -/
def A.NP_INS : Nat := 0x020100
/-- Address of NP_RSTATE (file 12). -/
def A.NP_RSTATE : Nat := 0x020104
/-- Address of PT_CTL (file 12). -/
def A.PT_CTL : Nat := 0x030000
/-- Address of PT_INS (file 12). -/
def A.PT_INS : Nat := 0x030004
/-- Address of PT_SENSE (file 12). -/
def A.PT_SENSE : Nat := 0x030008
/-- Address of PT_RETRY (file 12). -/
def A.PT_RETRY : Nat := 0x03000C
/-- Address of PT_BRK[j] (file 12). -/
def A.PT_BRK (j : Nat) : Nat := 0x030020 + j * 0x4
/-- Address of PT_BRKCFG (file 12). -/
def A.PT_BRKCFG : Nat := 0x030040
/-- Address of PT_FET[i] (file 12). -/
def A.PT_FET (i : Nat) : Nat := 0x030050 + i * 0x4
/-- Address of PT_FETT (file 12). -/
def A.PT_FETT : Nat := 0x03005C
/-- Address of PT_PFW (file 12). -/
def A.PT_PFW : Nat := 0x030060
/-- Address of PT_HOLD (file 12). -/
def A.PT_HOLD : Nat := 0x030064
/-- Address of PT_LOAD (file 12). -/
def A.PT_LOAD : Nat := 0x030068
/-- Address of PT_STATUS (file 12). -/
def A.PT_STATUS : Nat := 0x030080
/-- Address of PT_VIN (file 12). -/
def A.PT_VIN : Nat := 0x030084
/-- Address of PT_VFEED (file 12). -/
def A.PT_VFEED : Nat := 0x030088
/-- Address of PT_IIN (file 12). -/
def A.PT_IIN : Nat := 0x03008C
/-- Address of PT_POWER (file 12). -/
def A.PT_POWER : Nat := 0x030090
/-- Address of PT_THERM (file 12). -/
def A.PT_THERM : Nat := 0x030094
/-- Address of PT_CNT (file 12). -/
def A.PT_CNT : Nat := 0x030098
/-- Address of PT_EIN_LO (file 12). -/
def A.PT_EIN_LO : Nat := 0x0300A0
/-- Address of PT_EIN_HI (file 12). -/
def A.PT_EIN_HI : Nat := 0x0300A4
/-- Address of PT_ERAIL[k].LO (file 12). -/
def A.PT_ERAIL_LO (k : Nat) : Nat := 0x0300C0 + k * 0x8
/-- Address of PT_ERAIL[k].HI (file 12). -/
def A.PT_ERAIL_HI (k : Nat) : Nat := 0x0300C4 + k * 0x8
/-- Address of IMG_CTL (file 03). -/
def A.IMG_CTL : Nat := 0x040000
/-- Address of IMG_STATUS (file 03). -/
def A.IMG_STATUS : Nat := 0x040004
/-- Address of IMG_WPTR (file 03). -/
def A.IMG_WPTR : Nat := 0x040008
/-- Address of IMG_WDATA (file 03). -/
def A.IMG_WDATA : Nat := 0x04000C
/-- Address of IMG_SLOT[s].STATUS (file 03). -/
def A.IMG_SLOT_STATUS (s : Nat) : Nat := 0x040010 + s * 0x4
/-- Address of IMG_SLOT[s].SEQ (file 03). -/
def A.IMG_SLOT_SEQ (s : Nat) : Nat := 0x040018 + s * 0x4
/-- Address of GROUP_COMMIT (file 03). -/
def A.GROUP_COMMIT : Nat := 0x040040
/-- Address of GROUP_STATE (file 03). -/
def A.GROUP_STATE : Nat := 0x040044
/-- Address of CFGERR (file 03). -/
def A.CFGERR : Nat := 0x040060
/-- Address of CFGERR_COUNT (file 03). -/
def A.CFGERR_COUNT : Nat := 0x040064
/-- Address of LG_CTL (file 13). -/
def A.LG_CTL : Nat := 0x050000
/-- Address of LG_HEAD (file 13). -/
def A.LG_HEAD : Nat := 0x050010
/-- Address of LG_INFO (file 13). -/
def A.LG_INFO : Nat := 0x050014
/-- Address of LG_BOOTCNT (file 13). -/
def A.LG_BOOTCNT : Nat := 0x050018
/-- Address of LG_RDSEQ (file 13). -/
def A.LG_RDSEQ : Nat := 0x050020
/-- Address of LG_RDSTAT (file 13). -/
def A.LG_RDSTAT : Nat := 0x050024
/-- Address of NV_STATUS (file 13). -/
def A.NV_STATUS : Nat := 0x050040
/-- Address of NV_SCRUB (file 13). -/
def A.NV_SCRUB : Nat := 0x050044
/-- Address of NV_UNCORR (file 13). -/
def A.NV_UNCORR : Nat := 0x050048
/-- Address of HNV_ADDR (file 13). -/
def A.HNV_ADDR : Nat := 0x050060
/-- Address of HNV_DATA (file 13). -/
def A.HNV_DATA : Nat := 0x050064
/-- Address of LG_WIN[w] (file 13). -/
def A.LG_WIN (w : Nat) : Nat := 0x050100 + w * 0x4
/-- Address of PHASE[n].CTL (file 04). -/
def A.PHASE_CTL (n : Nat) : Nat := 0x080000 + n * 0x100
/-- Address of PHASE[n].PERIOD (file 04). -/
def A.PHASE_PERIOD (n : Nat) : Nat := 0x080004 + n * 0x100
/-- Address of PHASE[n].DUTY (file 04). -/
def A.PHASE_DUTY (n : Nat) : Nat := 0x080008 + n * 0x100
/-- Address of PHASE[n].OFS (file 04). -/
def A.PHASE_OFS (n : Nat) : Nat := 0x08000C + n * 0x100
/-- Address of PHASE[n].DT (file 04). -/
def A.PHASE_DT (n : Nat) : Nat := 0x080010 + n * 0x100
/-- Address of PHASE[n].TIMING (file 04). -/
def A.PHASE_TIMING (n : Nat) : Nat := 0x080014 + n * 0x100
/-- Address of PHASE[n].TRIPCFG (file 04). -/
def A.PHASE_TRIPCFG (n : Nat) : Nat := 0x080018 + n * 0x100
/-- Address of PHASE[n].STATUS (file 04). -/
def A.PHASE_STATUS (n : Nat) : Nat := 0x08001C + n * 0x100
/-- Address of PHASE[n].LIMCNT (file 04). -/
def A.PHASE_LIMCNT (n : Nat) : Nat := 0x080020 + n * 0x100
/-- Address of PHASE[n].ACTPER (file 04). -/
def A.PHASE_ACTPER (n : Nat) : Nat := 0x080024 + n * 0x100
/-- Address of PHASE[n].ACTDUTY (file 04). -/
def A.PHASE_ACTDUTY (n : Nat) : Nat := 0x080028 + n * 0x100
/-- Address of STAGEGRP[g].CFG (file 02). -/
def A.STAGEGRP_CFG (g : Nat) : Nat := 0x083000 + g * 0x10
/-- Address of PE_SYNC_CTL (file 04). -/
def A.PE_SYNC_CTL : Nat := 0x083100
/-- Address of PE_SYNC_DLY (file 04). -/
def A.PE_SYNC_DLY : Nat := 0x083104
/-- Address of PE_SYNCO_CTL (file 04). -/
def A.PE_SYNCO_CTL : Nat := 0x083108
/-- Address of PE_SYNC_STATUS (file 04). -/
def A.PE_SYNC_STATUS : Nat := 0x08310C
/-- Address of PE_TRIP_CTL (file 04). -/
def A.PE_TRIP_CTL : Nat := 0x083110
/-- Address of RAIL[k].MCTL (file 05). -/
def A.RAIL_MCTL (k : Nat) : Nat := 0x0A0000 + k * 0x400
/-- Address of RAIL[k].TON (file 05). -/
def A.RAIL_TON (k : Nat) : Nat := 0x0A0004 + k * 0x400
/-- Address of RAIL[k].TONMAX (file 05). -/
def A.RAIL_TONMAX (k : Nat) : Nat := 0x0A0008 + k * 0x400
/-- Address of RAIL[k].RIP (file 05). -/
def A.RAIL_RIP (k : Nat) : Nat := 0x0A000C + k * 0x400
/-- Address of RAIL[k].SPACE (file 05). -/
def A.RAIL_SPACE (k : Nat) : Nat := 0x0A0010 + k * 0x400
/-- Address of RAIL[k].ONSET (file 05). -/
def A.RAIL_ONSET (k : Nat) : Nat := 0x0A0014 + k * 0x400
/-- Address of RAIL[k].DE (file 05). -/
def A.RAIL_DE (k : Nat) : Nat := 0x0A0018 + k * 0x400
/-- Address of RAIL[k].FF (file 05). -/
def A.RAIL_FF (k : Nat) : Nat := 0x0A001C + k * 0x400
/-- Address of RAIL[k].LOCKOFS (file 05). -/
def A.RAIL_LOCKOFS (k : Nat) : Nat := 0x0A0020 + k * 0x400
/-- Address of RAIL[k].LOCKCFG (file 05). -/
def A.RAIL_LOCKCFG (k : Nat) : Nat := 0x0A0024 + k * 0x400
/-- Address of RAIL[k].SEQ (file 05). -/
def A.RAIL_SEQ (k : Nat) : Nat := 0x0A0028 + k * 0x400
/-- Address of RAIL[k].RING[j] (file 05). -/
def A.RAIL_RING (k j : Nat) : Nat := 0x0A0040 + k * 0x400 + j * 0x4
/-- Address of RAIL[k].MSTAT (file 05). -/
def A.RAIL_MSTAT (k : Nat) : Nat := 0x0A0060 + k * 0x400
/-- Address of RAIL[k].TONNOW (file 05). -/
def A.RAIL_TONNOW (k : Nat) : Nat := 0x0A0064 + k * 0x400
/-- Address of RAIL[k].THNOW (file 05). -/
def A.RAIL_THNOW (k : Nat) : Nat := 0x0A0068 + k * 0x400
/-- Address of RAIL[k].LOCKSTAT (file 05). -/
def A.RAIL_LOCKSTAT (k : Nat) : Nat := 0x0A006C + k * 0x400
/-- Address of RAIL[k].MCNT (file 05). -/
def A.RAIL_MCNT (k : Nat) : Nat := 0x0A0070 + k * 0x400
/-- Address of VINFF_CFG (file 05). -/
def A.VINFF_CFG : Nat := 0x0B0100
/-- Address of VINFF_FIX (file 05). -/
def A.VINFF_FIX : Nat := 0x0B0104
/-- Address of VINFF_DATA (file 05). -/
def A.VINFF_DATA : Nat := 0x0B0108
/-- Address of SFE_ICAL[n] (file 07). -/
def A.SFE_ICAL (n : Nat) : Nat := 0x0B0200 + n * 0x4
/-- Address of CMP[c].CTL (file 11). -/
def A.CMP_CTL (c : Nat) : Nat := 0x0C0000 + c * 0x20
/-- Address of CMP[c].DAC (file 11). -/
def A.CMP_DAC (c : Nat) : Nat := 0x0C0004 + c * 0x20
/-- Address of CMP[c].TRACK (file 11). -/
def A.CMP_TRACK (c : Nat) : Nat := 0x0C0008 + c * 0x20
/-- Address of CMP[c].STATUS (file 11). -/
def A.CMP_STATUS (c : Nat) : Nat := 0x0C000C + c * 0x20
/-- Address of CMP[c].RDBK (file 11). -/
def A.CMP_RDBK (c : Nat) : Nat := 0x0C0010 + c * 0x20
/-- Address of CMPO_CTL (file 11). -/
def A.CMPO_CTL : Nat := 0x0C1000
/-- Address of MC_CH[c].DATA (file 13). -/
def A.MC_CH_DATA (c : Nat) : Nat := 0x0D0000 + c * 0x4
/-- Address of MC_CH[c].CFG (file 13). -/
def A.MC_CH_CFG (c : Nat) : Nat := 0x0D0200 + c * 0x4
/-- Address of MC_TSCAL[s] (file 13). -/
def A.MC_TSCAL (s : Nat) : Nat := 0x0D0400 + s * 0x4
/-- Address of MC_NTC[i] (file 13). -/
def A.MC_NTC (i : Nat) : Nat := 0x0D0420 + i * 0x4
/-- Address of TM_CTL (file 13). -/
def A.TM_CTL : Nat := 0x0D0800
/-- Address of TM_ITEM[i] (file 13). -/
def A.TM_ITEM (i : Nat) : Nat := 0x0D0810 + i * 0x4
/-- Address of TM_STATUS (file 13). -/
def A.TM_STATUS : Nat := 0x0D0850
/-- Address of TM_EFFCFG (file 13). -/
def A.TM_EFFCFG : Nat := 0x0D0860
/-- Address of TM_EFF (file 13). -/
def A.TM_EFF : Nat := 0x0D0864
/-- Address of TM_PRAVG (file 13). -/
def A.TM_PRAVG : Nat := 0x0D0868
/-- Address of GRAPH[k].HDR (file 06). -/
def A.GRAPH_HDR (k : Nat) : Nat := 0x100000 + k * 0x1000
/-- Address of GRAPH[k].PLACE (file 06). -/
def A.GRAPH_PLACE (k : Nat) : Nat := 0x100004 + k * 0x1000
/-- Address of GRAPH[k].CTL (file 06). -/
def A.GRAPH_CTL (k : Nat) : Nat := 0x100008 + k * 0x1000
/-- Address of GRAPH[k].YINIT (file 06). -/
def A.GRAPH_YINIT (k : Nat) : Nat := 0x10000C + k * 0x1000
/-- Address of GRAPH[k].STATUS (file 06). -/
def A.GRAPH_STATUS (k : Nat) : Nat := 0x100010 + k * 0x1000
/-- Address of GRAPH[k].CNT (file 06). -/
def A.GRAPH_CNT (k : Nat) : Nat := 0x100014 + k * 0x1000
/-- Address of GRAPH[k].YOUT (file 06). -/
def A.GRAPH_YOUT (k : Nat) : Nat := 0x100018 + k * 0x1000
/-- Address of GRAPH[k].HOFS[b] (file 06). -/
def A.GRAPH_HOFS (k b : Nat) : Nat := 0x10001C + k * 0x1000 + b * 0x4
/-- Address of GRAPH[k].STG[s].DESC (file 06). -/
def A.GRAPH_STG_DESC (k s : Nat) : Nat := 0x100100 + k * 0x1000 + s * 0x20
/-- Address of GRAPH[k].STG[s].SHIFT (file 06). -/
def A.GRAPH_STG_SHIFT (k s : Nat) : Nat := 0x100104 + k * 0x1000 + s * 0x20
/-- Address of GRAPH[k].STG[s].COEF[i] (file 06). -/
def A.GRAPH_STG_COEF (k s i : Nat) : Nat := 0x100108 + k * 0x1000 + s * 0x20 + i * 0x4
/-- Address of GRAPH[k].STG[s].STATE[j] (file 06). -/
def A.GRAPH_STG_STATE (k s j : Nat) : Nat := 0x100400 + k * 0x1000 + s * 0x10 + j * 0x4
/-- Address of LE_STATUS (file 06). -/
def A.LE_STATUS : Nat := 0x108000
/-- Address of LE_STORE (file 06). -/
def A.LE_STORE : Nat := 0x108010
/-- Address of LANE[m].STATUS (file 06). -/
def A.LANE_STATUS (m : Nat) : Nat := 0x108100 + m * 0x10
/-- Address of LANE[m].CNT (file 06). -/
def A.LANE_CNT (m : Nat) : Nat := 0x108104 + m * 0x10
/-- Address of OL[k].CTL (file 07). -/
def A.OL_CTL (k : Nat) : Nat := 0x109000 + k * 0x100
/-- Address of OL[k].CB (file 07). -/
def A.OL_CB (k : Nat) : Nat := 0x109004 + k * 0x100
/-- Address of OL[k].CBLIM (file 07). -/
def A.OL_CBLIM (k : Nat) : Nat := 0x109008 + k * 0x100
/-- Address of OL[k].TS (file 07). -/
def A.OL_TS (k : Nat) : Nat := 0x10900C + k * 0x100
/-- Address of OL[k].LL (file 07). -/
def A.OL_LL (k : Nat) : Nat := 0x109010 + k * 0x100
/-- Address of OL[k].CL (file 07). -/
def A.OL_CL (k : Nat) : Nat := 0x109014 + k * 0x100
/-- Address of OL[k].FE (file 07). -/
def A.OL_FE (k : Nat) : Nat := 0x109018 + k * 0x100
/-- Address of OL[k].FECLS (file 07). -/
def A.OL_FECLS (k : Nat) : Nat := 0x10901C + k * 0x100
/-- Address of OL[k].HZCTL (file 07). -/
def A.OL_HZCTL (k : Nat) : Nat := 0x109020 + k * 0x100
/-- Address of OL[k].HZSLK (file 07). -/
def A.OL_HZSLK (k : Nat) : Nat := 0x109024 + k * 0x100
/-- Address of OL[k].HZSTEP (file 07). -/
def A.OL_HZSTEP (k : Nat) : Nat := 0x109028 + k * 0x100
/-- Address of OL[k].HZMAX (file 07). -/
def A.OL_HZMAX (k : Nat) : Nat := 0x10902C + k * 0x100
/-- Address of OL[k].STATUS (file 07). -/
def A.OL_STATUS (k : Nat) : Nat := 0x109040 + k * 0x100
/-- Address of OL[k].HZNOW (file 07). -/
def A.OL_HZNOW (k : Nat) : Nat := 0x109044 + k * 0x100
/-- Address of OL[k].ITOT (file 07). -/
def A.OL_ITOT (k : Nat) : Nat := 0x109048 + k * 0x100
/-- Address of OL[k].DROOP (file 07). -/
def A.OL_DROOP (k : Nat) : Nat := 0x10904C + k * 0x100
/-- Address of OLPH[n].TRIM (file 07). -/
def A.OLPH_TRIM (n : Nat) : Nat := 0x109800 + n * 0x4
/-- Address of RAIL[k].VSET (file 08). -/
def A.RAIL_VSET (k : Nat) : Nat := 0x110000 + k * 0x100
/-- Address of RAIL[k].VLIM (file 08). -/
def A.RAIL_VLIM (k : Nat) : Nat := 0x110004 + k * 0x100
/-- Address of RAIL[k].SLEW (file 08). -/
def A.RAIL_SLEW (k : Nat) : Nat := 0x110008 + k * 0x100
/-- Address of RAIL[k].PROF (file 08). -/
def A.RAIL_PROF (k : Nat) : Nat := 0x11000C + k * 0x100
/-- Address of RAIL[k].SEQCTL (file 08). -/
def A.RAIL_SEQCTL (k : Nat) : Nat := 0x110010 + k * 0x100
/-- Address of RAIL[k].TDLY (file 08). -/
def A.RAIL_TDLY (k : Nat) : Nat := 0x110014 + k * 0x100
/-- Address of RAIL[k].RAMP (file 08). -/
def A.RAIL_RAMP (k : Nat) : Nat := 0x110018 + k * 0x100
/-- Address of RAIL[k].STOP (file 08). -/
def A.RAIL_STOP (k : Nat) : Nat := 0x11001C + k * 0x100
/-- Address of RAIL[k].PGDLY (file 08). -/
def A.RAIL_PGDLY (k : Nat) : Nat := 0x110020 + k * 0x100
/-- Address of RAIL[k].PGWIN (file 08). -/
def A.RAIL_PGWIN (k : Nat) : Nat := 0x110024 + k * 0x100
/-- Address of RAIL[k].HZBK (file 08). -/
def A.RAIL_HZBK (k : Nat) : Nat := 0x110028 + k * 0x100
/-- Address of RAIL[k].ON (file 08). -/
def A.RAIL_ON (k : Nat) : Nat := 0x11002C + k * 0x100
/-- Address of RAIL[k].TSTAT (file 08). -/
def A.RAIL_TSTAT (k : Nat) : Nat := 0x110040 + k * 0x100
/-- Address of RAIL[k].REFNOW (file 08). -/
def A.RAIL_REFNOW (k : Nat) : Nat := 0x110044 + k * 0x100
/-- Address of RAIL[k].TCNT (file 08). -/
def A.RAIL_TCNT (k : Nat) : Nat := 0x110048 + k * 0x100
/-- Address of RAIL[k].CMARGNOW (file 08). -/
def A.RAIL_CMARGNOW (k : Nat) : Nat := 0x11004C + k * 0x100
/-- Address of SEQGRP[g].CTL (file 08). -/
def A.SEQGRP_CTL (g : Nat) : Nat := 0x110800 + g * 0x10
/-- Address of SEQGRP[g].STATUS (file 08). -/
def A.SEQGRP_STATUS (g : Nat) : Nat := 0x110804 + g * 0x10
/-- Address of EPH[k].CTL (file 07). -/
def A.EPH_CTL (k : Nat) : Nat := 0x120000 + k * 0x40
/-- Address of EPH[k].TBL (file 07). -/
def A.EPH_TBL (k : Nat) : Nat := 0x120004 + k * 0x40
/-- Address of EPH[k].GAIN (file 07). -/
def A.EPH_GAIN (k : Nat) : Nat := 0x120008 + k * 0x40
/-- Address of EPH[k].PER (file 07). -/
def A.EPH_PER (k : Nat) : Nat := 0x12000C + k * 0x40
/-- Address of EPH[k].SETTLE (file 07). -/
def A.EPH_SETTLE (k : Nat) : Nat := 0x120010 + k * 0x40
/-- Address of EPH[k].STATUS (file 07). -/
def A.EPH_STATUS (k : Nat) : Nat := 0x120014 + k * 0x40
/-- Address of EPH[k].PINC (file 07). -/
def A.EPH_PINC (k : Nat) : Nat := 0x120018 + k * 0x40
/-- Address of EPH[k].TNOW (file 07). -/
def A.EPH_TNOW (k : Nat) : Nat := 0x12001C + k * 0x40
/-- Address of INK[k].CTL (file 10). -/
def A.INK_CTL (k : Nat) : Nat := 0x130000 + k * 0x80
/-- Address of INK[k].LIM (file 10). -/
def A.INK_LIM (k : Nat) : Nat := 0x130004 + k * 0x80
/-- Address of INK[k].OPEN (file 10). -/
def A.INK_OPEN (k : Nat) : Nat := 0x130008 + k * 0x80
/-- Address of INK[k].XSENSE (file 10). -/
def A.INK_XSENSE (k : Nat) : Nat := 0x13000C + k * 0x80
/-- Address of INK[k].EFF[j] (file 10). -/
def A.INK_EFF (k j : Nat) : Nat := 0x130010 + k * 0x80 + j * 0x4
/-- Address of INK[k].STATUS (file 10). -/
def A.INK_STATUS (k : Nat) : Nat := 0x130030 + k * 0x80
/-- Address of INK[k].CNT (file 10). -/
def A.INK_CNT (k : Nat) : Nat := 0x130034 + k * 0x80
/-- Address of INK[k].BASE[j] (file 10). -/
def A.INK_BASE (k j : Nat) : Nat := 0x130040 + k * 0x80 + j * 0x4
/-- Address of INK_HCFG (file 10). -/
def A.INK_HCFG : Nat := 0x130800
/-- Address of INK_TMODEL (file 10). -/
def A.INK_TMODEL : Nat := 0x130804
/-- Address of INK_WEARCFG (file 10). -/
def A.INK_WEARCFG : Nat := 0x130808
/-- Address of INK_TEST (file 10). -/
def A.INK_TEST : Nat := 0x13080C
/-- Address of INK_REQ (file 10). -/
def A.INK_REQ : Nat := 0x130810
/-- Address of INK_REQSTAT (file 10). -/
def A.INK_REQSTAT : Nat := 0x130814
/-- Address of PHASE[n].ASSIGN (file 10). -/
def A.PHASE_ASSIGN (n : Nat) : Nat := 0x131000 + n * 0x20
/-- Address of PHASE[n].ROLE (file 10). -/
def A.PHASE_ROLE (n : Nat) : Nat := 0x131004 + n * 0x20
/-- Address of PHASE[n].STALE (file 10). -/
def A.PHASE_STALE (n : Nat) : Nat := 0x131008 + n * 0x20
/-- Address of PHASE[n].WEAR (file 10). -/
def A.PHASE_WEAR (n : Nat) : Nat := 0x13100C + n * 0x20
/-- Address of PHASE[n].LIFEAH (file 10). -/
def A.PHASE_LIFEAH (n : Nat) : Nat := 0x131010 + n * 0x20
/-- Address of PHASE[n].LIFEPL (file 10). -/
def A.PHASE_LIFEPL (n : Nat) : Nat := 0x131014 + n * 0x20
/-- Address of PHASE[n].LIFETH (file 10). -/
def A.PHASE_LIFETH (n : Nat) : Nat := 0x131018 + n * 0x20
/-- Address of EPHTAB[w] (file 07). -/
def A.EPHTAB (w : Nat) : Nat := 0x140000 + w * 0x4
/-- Address of FM_CTL (file 11). -/
def A.FM_CTL : Nat := 0x150000
/-- Address of FM_STATUS (file 11). -/
def A.FM_STATUS : Nat := 0x150004
/-- Address of FM_CLASS[j] (file 11). -/
def A.FM_CLASS (j : Nat) : Nat := 0x150010 + j * 0x4
/-- Address of FM_STRIKE[t] (file 11). -/
def A.FM_STRIKE (t : Nat) : Nat := 0x150020 + t * 0x4
/-- Address of FM_IC (file 11). -/
def A.FM_IC : Nat := 0x150040
/-- Address of FM_PLL (file 11). -/
def A.FM_PLL : Nat := 0x150048
/-- Address of FM_RAIL[k].HIC (file 11). -/
def A.FM_RAIL_HIC (k : Nat) : Nat := 0x150100 + k * 0x20
/-- Address of FM_RAIL[k].PROT (file 11). -/
def A.FM_RAIL_PROT (k : Nat) : Nat := 0x150104 + k * 0x20
/-- Address of FM_RAIL[k].STAT (file 11). -/
def A.FM_RAIL_STAT (k : Nat) : Nat := 0x150108 + k * 0x20
/-- Address of FM_PH[n].CFG (file 11). -/
def A.FM_PH_CFG (n : Nat) : Nat := 0x150400 + n * 0x10
/-- Address of FM_PH[n].STAT (file 11). -/
def A.FM_PH_STAT (n : Nat) : Nat := 0x150404 + n * 0x10
/-- Address of FM_TEMP[s] (file 11). -/
def A.FM_TEMP (s : Nat) : Nat := 0x150800 + s * 0x4
/-- Address of FM_TJ (file 11). -/
def A.FM_TJ : Nat := 0x150820
/-- Address of LNK[p].CTL (file 09). -/
def A.LNK_CTL (p : Nat) : Nat := 0x160000 + p * 0x200
/-- Address of LNK[p].STATUS (file 09). -/
def A.LNK_STATUS (p : Nat) : Nat := 0x160004 + p * 0x200
/-- Address of LNK[p].CNT (file 09). -/
def A.LNK_CNT (p : Nat) : Nat := 0x160008 + p * 0x200
/-- Address of LNK[p].NFRAME (file 09). -/
def A.LNK_NFRAME (p : Nat) : Nat := 0x16000C + p * 0x200
/-- Address of LNK[p].EP[e].BIND (file 09). -/
def A.LNK_EP_BIND (p e : Nat) : Nat := 0x160040 + p * 0x200 + e * 0x20
/-- Address of LNK[p].EP[e].AMASK (file 09). -/
def A.LNK_EP_AMASK (p e : Nat) : Nat := 0x160044 + p * 0x200 + e * 0x20
/-- Address of LNK[p].EP[e].CAUSE (file 09). -/
def A.LNK_EP_CAUSE (p e : Nat) : Nat := 0x160048 + p * 0x200 + e * 0x20
/-- Address of LNK[p].EP[e].LAST (file 09). -/
def A.LNK_EP_LAST (p e : Nat) : Nat := 0x16004C + p * 0x200 + e * 0x20
/-- Address of LNK[p].EP[e].ARVTAG (file 09). -/
def A.LNK_EP_ARVTAG (p e : Nat) : Nat := 0x160050 + p * 0x200 + e * 0x20
/-- Address of HP[x].CTL (file 14). -/
def A.HP_CTL (x : Nat) : Nat := 0x170000 + x * 0x100
/-- Address of HP[x].STATUS (file 14). -/
def A.HP_STATUS (x : Nat) : Nat := 0x170004 + x * 0x100
/-- Address of HP[x].CNT (file 14). -/
def A.HP_CNT (x : Nat) : Nat := 0x170008 + x * 0x100
/-- Address of HPM_CTL (file 14). -/
def A.HPM_CTL : Nat := 0x170200
/-- Address of HPM_TX[i] (file 14). -/
def A.HPM_TX (i : Nat) : Nat := 0x170204 + i * 0x4
/-- Address of HPM_RX[i] (file 14). -/
def A.HPM_RX (i : Nat) : Nat := 0x17020C + i * 0x4
/-- Address of HPM_STATUS (file 14). -/
def A.HPM_STATUS : Nat := 0x170214
/-- Address of HP_ALERT (file 14). -/
def A.HP_ALERT : Nat := 0x170300
/-- Address of Q[q].STAT (file 15). -/
def A.Q_STAT (q : Nat) : Nat := 0x180000 + q * 0x10
/-- Address of EV_PHSEL[n] (file 15). -/
def A.EV_PHSEL (n : Nat) : Nat := 0x180400 + n * 0x4
/-- Address of EV_RTR[n] (file 15). -/
def A.EV_RTR (n : Nat) : Nat := 0x180500 + n * 0x4
/-- Address of EV_INT[i] (file 15). -/
def A.EV_INT (i : Nat) : Nat := 0x180600 + i * 0x4
/-- Address of EV_PEND (file 15). -/
def A.EV_PEND : Nat := 0x180700
/-- Address of EV_MASK (file 15). -/
def A.EV_MASK : Nat := 0x180704
/-- Address of PL[p].CTL (file 13). -/
def A.PL_CTL (p : Nat) : Nat := 0x190000 + p * 0x40
/-- Address of PL[p].DEC (file 13). -/
def A.PL_DEC (p : Nat) : Nat := 0x190004 + p * 0x40
/-- Address of PL[p].TRIG (file 13). -/
def A.PL_TRIG (p : Nat) : Nat := 0x190008 + p * 0x40
/-- Address of PL[p].TLEV (file 13). -/
def A.PL_TLEV (p : Nat) : Nat := 0x19000C + p * 0x40
/-- Address of PL[p].PRE (file 13). -/
def A.PL_PRE (p : Nat) : Nat := 0x190010 + p * 0x40
/-- Address of PL[p].STATUS (file 13). -/
def A.PL_STATUS (p : Nat) : Nat := 0x190014 + p * 0x40
/-- Address of PL[p].TTSLO (file 13). -/
def A.PL_TTSLO (p : Nat) : Nat := 0x190018 + p * 0x40
/-- Address of PL[p].TTSHI (file 13). -/
def A.PL_TTSHI (p : Nat) : Nat := 0x19001C + p * 0x40
/-- Address of PL[p].NODE[j] (file 13). -/
def A.PL_NODE (p j : Nat) : Nat := 0x190020 + p * 0x40 + j * 0x4
/-- Address of PL_EXP (file 13). -/
def A.PL_EXP : Nat := 0x190100
/-- Address of PL_DATA[p][i] (file 13). -/
def A.PL_DATA (p i : Nat) : Nat := 0x1A0000 + p * 0x4000 + i * 0x4
/-- Address of GH_ACC[t] (file 15). -/
def A.GH_ACC (t : Nat) : Nat := 0x1F0000 + t * 0x4
/-- Address of GH_RAILW[m] (file 15). -/
def A.GH_RAILW (m : Nat) : Nat := 0x1F0080 + m * 0x4
/-- Address of GH_LOCK (file 15). -/
def A.GH_LOCK : Nat := 0x1F0100
/-- Address of GH_CHAL (file 15). -/
def A.GH_CHAL : Nat := 0x1F0104
/-- Address of GH_NONCE[j] (file 15). -/
def A.GH_NONCE (j : Nat) : Nat := 0x1F0110 + j * 0x4
/-- Address of GH_RESP[j] (file 15). -/
def A.GH_RESP (j : Nat) : Nat := 0x1F0120 + j * 0x4
/-- Address of GH_SESS (file 15). -/
def A.GH_SESS : Nat := 0x1F0130
/-- Address of GH_STAT (file 15). -/
def A.GH_STAT : Nat := 0x1F0134
/-- Address of GH_UCNT (file 15). -/
def A.GH_UCNT : Nat := 0x1F0138
/-- Address of GH_ALARM (file 15). -/
def A.GH_ALARM : Nat := 0x1F0140
/-- Address of GH_DENY (file 15). -/
def A.GH_DENY : Nat := 0x1F0150
/-- Address of GH_DENYCNT (file 15). -/
def A.GH_DENYCNT : Nat := 0x1F0154
/-- Address of GH_KEYW[j] (file 15). -/
def A.GH_KEYW (j : Nat) : Nat := 0x1F0160 + j * 0x4
/-- Address of GH_KEYCTL (file 15). -/
def A.GH_KEYCTL : Nat := 0x1F0180

/-! Fields of DEVICE_ID (file 16). -/
def F.DEVICE_ID_FAM1 : Fld := ⟨A.DEVICE_ID, 27, 5⟩
def F.DEVICE_ID_FAM2 : Fld := ⟨A.DEVICE_ID, 22, 5⟩
def F.DEVICE_ID_MEMBER : Fld := ⟨A.DEVICE_ID, 8, 14⟩
def F.DEVICE_ID_STEP : Fld := ⟨A.DEVICE_ID, 0, 8⟩
/-! Fields of DEVICE_SERIAL_LO (file 16). -/
def F.DEVICE_SERIAL_LO_SERLO : Fld := ⟨A.DEVICE_SERIAL_LO, 0, 32⟩
/-! Fields of DEVICE_SERIAL_HI (file 16). -/
def F.DEVICE_SERIAL_HI_SERHI : Fld := ⟨A.DEVICE_SERIAL_HI, 0, 32⟩
/-! Fields of DEVICE_STATUS (file 16). -/
def F.DEVICE_STATUS_WAKESRC : Fld := ⟨A.DEVICE_STATUS, 12, 4⟩
def F.DEVICE_STATUS_REFLOST : Fld := ⟨A.DEVICE_STATUS, 7, 1⟩
def F.DEVICE_STATUS_SAFEACT : Fld := ⟨A.DEVICE_STATUS, 5, 1⟩
def F.DEVICE_STATUS_STATE : Fld := ⟨A.DEVICE_STATUS, 0, 3⟩
/-! Fields of DEVICE_CTL (file 16). -/
def F.DEVICE_CTL_SAFE_EXIT : Fld := ⟨A.DEVICE_CTL, 1, 1⟩
def F.DEVICE_CTL_SLEEP : Fld := ⟨A.DEVICE_CTL, 0, 1⟩
/-! Fields of STRAP_STATUS (file 02). -/
def F.STRAP_STATUS_HOSTADDR : Fld := ⟨A.STRAP_STATUS, 16, 7⟩
def F.STRAP_STATUS_STRAPERR : Fld := ⟨A.STRAP_STATUS, 15, 1⟩
def F.STRAP_STATUS_SGPAIRED : Fld := ⟨A.STRAP_STATUS, 6, 6⟩
def F.STRAP_STATUS_BOOTSEL : Fld := ⟨A.STRAP_STATUS, 5, 1⟩
def F.STRAP_STATUS_ADDR1LVL : Fld := ⟨A.STRAP_STATUS, 2, 2⟩
def F.STRAP_STATUS_ADDR0LVL : Fld := ⟨A.STRAP_STATUS, 0, 2⟩
/-! Fields of SUPPLY_STATUS (file 02). -/
def F.SUPPLY_STATUS_RSTPIN : Fld := ⟨A.SUPPLY_STATUS, 11, 1⟩
def F.SUPPLY_STATUS_AONCOLD : Fld := ⟨A.SUPPLY_STATUS, 10, 1⟩
def F.SUPPLY_STATUS_VIOLLOST : Fld := ⟨A.SUPPLY_STATUS, 9, 1⟩
def F.SUPPLY_STATUS_VIOHLOST : Fld := ⟨A.SUPPLY_STATUS, 8, 1⟩
def F.SUPPLY_STATUS_HVINOK : Fld := ⟨A.SUPPLY_STATUS, 3, 1⟩
def F.SUPPLY_STATUS_VIOLOK : Fld := ⟨A.SUPPLY_STATUS, 2, 1⟩
def F.SUPPLY_STATUS_VIOHOK : Fld := ⟨A.SUPPLY_STATUS, 1, 1⟩
/-! Fields of TB_COUNT_LO (file 04). -/
def F.TB_COUNT_LO_COUNTLO : Fld := ⟨A.TB_COUNT_LO, 0, 32⟩
/-! Fields of TB_COUNT_HI (file 04). -/
def F.TB_COUNT_HI_COUNTHI : Fld := ⟨A.TB_COUNT_HI, 0, 16⟩
/-! Fields of TB_SECMARK_LO (file 13). -/
def F.TB_SECMARK_LO_MARKLO : Fld := ⟨A.TB_SECMARK_LO, 0, 32⟩
/-! Fields of TB_SECMARK_HI (file 13). -/
def F.TB_SECMARK_HI_MARKHI : Fld := ⟨A.TB_SECMARK_HI, 0, 16⟩
/-! Fields of CAP[u].CTL (file 04). -/
def F.CAP_CTL_SRC (u : Nat) : Fld := ⟨(A.CAP_CTL u), 8, 8⟩
def F.CAP_CTL_EDGE (u : Nat) : Fld := ⟨(A.CAP_CTL u), 2, 2⟩
def F.CAP_CTL_CONT (u : Nat) : Fld := ⟨(A.CAP_CTL u), 1, 1⟩
def F.CAP_CTL_EN (u : Nat) : Fld := ⟨(A.CAP_CTL u), 0, 1⟩
/-! Fields of CAP[u].TSLO (file 04). -/
def F.CAP_TSLO_TSLO (u : Nat) : Fld := ⟨(A.CAP_TSLO u), 0, 32⟩
/-! Fields of CAP[u].TSHI (file 04). -/
def F.CAP_TSHI_VALID (u : Nat) : Fld := ⟨(A.CAP_TSHI u), 31, 1⟩
def F.CAP_TSHI_OVR (u : Nat) : Fld := ⟨(A.CAP_TSHI u), 30, 1⟩
def F.CAP_TSHI_TBDISC (u : Nat) : Fld := ⟨(A.CAP_TSHI u), 29, 1⟩
def F.CAP_TSHI_TSHI (u : Nat) : Fld := ⟨(A.CAP_TSHI u), 4, 16⟩
def F.CAP_TSHI_FINE (u : Nat) : Fld := ⟨(A.CAP_TSHI u), 0, 4⟩
/-! Fields of NP_SECS (file 13). -/
def F.NP_SECS_SECS : Fld := ⟨A.NP_SECS, 0, 32⟩
/-! Fields of NP_ALARM (file 13). -/
def F.NP_ALARM_ALARM : Fld := ⟨A.NP_ALARM, 0, 32⟩
/-! Fields of NP_INS (file 12). -/
def F.NP_INS_NPIG : Fld := ⟨A.NP_INS, 30, 2⟩
def F.NP_INS_NPILIM : Fld := ⟨A.NP_INS, 24, 6⟩
def F.NP_INS_NPTFLT : Fld := ⟨A.NP_INS, 16, 8⟩
def F.NP_INS_NPTMO : Fld := ⟨A.NP_INS, 8, 8⟩
def F.NP_INS_NPDLY : Fld := ⟨A.NP_INS, 0, 8⟩
/-! Fields of NP_RSTATE (file 12). -/
def F.NP_RSTATE_NPSTATE : Fld := ⟨A.NP_RSTATE, 28, 4⟩
def F.NP_RSTATE_RCNT : Fld := ⟨A.NP_RSTATE, 24, 4⟩
def F.NP_RSTATE_NPCAUSE : Fld := ⟨A.NP_RSTATE, 22, 2⟩
def F.NP_RSTATE_REMWAIT : Fld := ⟨A.NP_RSTATE, 0, 21⟩
/-! Fields of PT_CTL (file 12). -/
def F.PT_CTL_ORDLY : Fld := ⟨A.PT_CTL, 16, 8⟩
def F.PT_CTL_CLRLATCH : Fld := ⟨A.PT_CTL, 15, 1⟩
def F.PT_CTL_HOSTOFF : Fld := ⟨A.PT_CTL, 14, 1⟩
def F.PT_CTL_FEEDEN : Fld := ⟨A.PT_CTL, 10, 2⟩
def F.PT_CTL_FEEDMODE : Fld := ⟨A.PT_CTL, 8, 2⟩
def F.PT_CTL_VFWD : Fld := ⟨A.PT_CTL, 6, 2⟩
def F.PT_CTL_UVOFF : Fld := ⟨A.PT_CTL, 5, 1⟩
/-! Fields of PT_INS (file 12). -/
def F.PT_INS_INSDLY : Fld := ⟨A.PT_INS, 24, 8⟩
def F.PT_INS_SLEW : Fld := ⟨A.PT_INS, 16, 8⟩
def F.PT_INS_INRTMO : Fld := ⟨A.PT_INS, 0, 16⟩
/-! Fields of PT_SENSE (file 12). -/
def F.PT_SENSE_INRLIM : Fld := ⟨A.PT_SENSE, 20, 12⟩
def F.PT_SENSE_RSNS : Fld := ⟨A.PT_SENSE, 0, 16⟩
/-! Fields of PT_RETRY (file 12). -/
def F.PT_RETRY_RETRIES : Fld := ⟨A.PT_RETRY, 28, 4⟩
def F.PT_RETRY_RGOOD : Fld := ⟨A.PT_RETRY, 16, 8⟩
def F.PT_RETRY_RWAIT : Fld := ⟨A.PT_RETRY, 0, 16⟩
/-! Fields of PT_BRK[j] (file 12). -/
def F.PT_BRK_ICUR (j : Nat) : Fld := ⟨(A.PT_BRK j), 20, 12⟩
def F.PT_BRK_TTRIP (j : Nat) : Fld := ⟨(A.PT_BRK j), 0, 20⟩
/-! Fields of PT_BRKCFG (file 12). -/
def F.PT_BRKCFG_BRKLEAK : Fld := ⟨A.PT_BRKCFG, 0, 5⟩
/-! Fields of PT_FET[i] (file 12). -/
def F.PT_FET_RTH (i : Nat) : Fld := ⟨(A.PT_FET i), 16, 16⟩
def F.PT_FET_AF (i : Nat) : Fld := ⟨(A.PT_FET i), 0, 16⟩
/-! Fields of PT_FETT (file 12). -/
def F.PT_FETT_TFMAX : Fld := ⟨A.PT_FETT, 24, 8⟩
def F.PT_FETT_TFWARN : Fld := ⟨A.PT_FETT, 16, 8⟩
def F.PT_FETT_FETTREF : Fld := ⟨A.PT_FETT, 14, 2⟩
def F.PT_FETT_TAMBFIX : Fld := ⟨A.PT_FETT, 0, 8⟩
/-! Fields of PT_PFW (file 12). -/
def F.PT_PFW_PFWREL : Fld := ⟨A.PT_PFW, 8, 8⟩
def F.PT_PFW_PFWSRC : Fld := ⟨A.PT_PFW, 0, 3⟩
/-! Fields of PT_HOLD (file 12). -/
def F.PT_HOLD_CBULK : Fld := ⟨A.PT_HOLD, 16, 16⟩
def F.PT_HOLD_VHMIN : Fld := ⟨A.PT_HOLD, 0, 16⟩
/-! Fields of PT_LOAD (file 12). -/
def F.PT_LOAD_ETA : Fld := ⟨A.PT_LOAD, 16, 16⟩
def F.PT_LOAD_PAUX : Fld := ⟨A.PT_LOAD, 0, 16⟩
/-! Fields of PT_STATUS (file 12). -/
def F.PT_STATUS_STATE : Fld := ⟨A.PT_STATUS, 28, 4⟩
def F.PT_STATUS_RCNT : Fld := ⟨A.PT_STATUS, 24, 4⟩
def F.PT_STATUS_LATFID : Fld := ⟨A.PT_STATUS, 16, 8⟩
def F.PT_STATUS_PFWNOW : Fld := ⟨A.PT_STATUS, 15, 1⟩
def F.PT_STATUS_PFWCAUSE : Fld := ⟨A.PT_STATUS, 12, 3⟩
def F.PT_STATUS_ORBON : Fld := ⟨A.PT_STATUS, 9, 1⟩
def F.PT_STATUS_ORAON : Fld := ⟨A.PT_STATUS, 8, 1⟩
def F.PT_STATUS_HSON : Fld := ⟨A.PT_STATUS, 7, 1⟩
def F.PT_STATUS_FEEDB : Fld := ⟨A.PT_STATUS, 6, 1⟩
def F.PT_STATUS_FEEDA : Fld := ⟨A.PT_STATUS, 5, 1⟩
def F.PT_STATUS_INRLIMIT : Fld := ⟨A.PT_STATUS, 4, 1⟩
def F.PT_STATUS_FETWARN : Fld := ⟨A.PT_STATUS, 3, 1⟩
def F.PT_STATUS_REVB : Fld := ⟨A.PT_STATUS, 2, 1⟩
def F.PT_STATUS_REVA : Fld := ⟨A.PT_STATUS, 1, 1⟩
/-! Fields of PT_VIN (file 12). -/
def F.PT_VIN_HVIN : Fld := ⟨A.PT_VIN, 16, 16⟩
def F.PT_VIN_VBULK : Fld := ⟨A.PT_VIN, 0, 16⟩
/-! Fields of PT_VFEED (file 12). -/
def F.PT_VFEED_VFB : Fld := ⟨A.PT_VFEED, 16, 16⟩
def F.PT_VFEED_VFA : Fld := ⟨A.PT_VFEED, 0, 16⟩
/-! Fields of PT_IIN (file 12). -/
def F.PT_IIN_BRKLVL : Fld := ⟨A.PT_IIN, 16, 16⟩
def F.PT_IIN_IIN : Fld := ⟨A.PT_IIN, 0, 16⟩
/-! Fields of PT_POWER (file 12). -/
def F.PT_POWER_PIN : Fld := ⟨A.PT_POWER, 16, 16⟩
def F.PT_POWER_PLOAD : Fld := ⟨A.PT_POWER, 0, 16⟩
/-! Fields of PT_THERM (file 12). -/
def F.PT_THERM_TFET : Fld := ⟨A.PT_THERM, 16, 16⟩
def F.PT_THERM_HOLDUS : Fld := ⟨A.PT_THERM, 0, 16⟩
/-! Fields of PT_CNT (file 12). -/
def F.PT_CNT_BRKTRIPS : Fld := ⟨A.PT_CNT, 24, 8⟩
def F.PT_CNT_FASTTRIPS : Fld := ⟨A.PT_CNT, 16, 8⟩
def F.PT_CNT_REVOFF : Fld := ⟨A.PT_CNT, 8, 8⟩
def F.PT_CNT_RETRIED : Fld := ⟨A.PT_CNT, 0, 8⟩
/-! Fields of PT_EIN_LO (file 12). -/
def F.PT_EIN_LO_ELO : Fld := ⟨A.PT_EIN_LO, 0, 32⟩
/-! Fields of PT_EIN_HI (file 12). -/
def F.PT_EIN_HI_EHI : Fld := ⟨A.PT_EIN_HI, 0, 16⟩
/-! Fields of PT_ERAIL[k].LO (file 12). -/
def F.PT_ERAIL_LO_ELO (k : Nat) : Fld := ⟨(A.PT_ERAIL_LO k), 0, 32⟩
/-! Fields of PT_ERAIL[k].HI (file 12). -/
def F.PT_ERAIL_HI_EHI (k : Nat) : Fld := ⟨(A.PT_ERAIL_HI k), 0, 16⟩
/-! Fields of IMG_CTL (file 03). -/
def F.IMG_CTL_TARGET : Fld := ⟨A.IMG_CTL, 4, 1⟩
def F.IMG_CTL_CMD : Fld := ⟨A.IMG_CTL, 0, 4⟩
/-! Fields of IMG_STATUS (file 03). -/
def F.IMG_STATUS_SECFLOOR : Fld := ⟨A.IMG_STATUS, 16, 16⟩
def F.IMG_STATUS_SKIPPED : Fld := ⟨A.IMG_STATUS, 6, 6⟩
def F.IMG_STATUS_BUSY : Fld := ⟨A.IMG_STATUS, 5, 1⟩
def F.IMG_STATUS_PROVISIONED : Fld := ⟨A.IMG_STATUS, 4, 1⟩
def F.IMG_STATUS_CMDRES : Fld := ⟨A.IMG_STATUS, 2, 2⟩
def F.IMG_STATUS_FALLBACK : Fld := ⟨A.IMG_STATUS, 1, 1⟩
def F.IMG_STATUS_RUNSLOT : Fld := ⟨A.IMG_STATUS, 0, 1⟩
/-! Fields of IMG_WPTR (file 03). -/
def F.IMG_WPTR_WPTR : Fld := ⟨A.IMG_WPTR, 0, 17⟩
/-! Fields of IMG_WDATA (file 03). -/
def F.IMG_WDATA_WDATA : Fld := ⟨A.IMG_WDATA, 0, 32⟩
/-! Fields of IMG_SLOT[s].STATUS (file 03). -/
def F.IMG_SLOT_STATUS_SECVER (s : Nat) : Fld := ⟨(A.IMG_SLOT_STATUS s), 16, 16⟩
def F.IMG_SLOT_STATUS_CAUSE (s : Nat) : Fld := ⟨(A.IMG_SLOT_STATUS s), 8, 4⟩
def F.IMG_SLOT_STATUS_TRIED (s : Nat) : Fld := ⟨(A.IMG_SLOT_STATUS s), 4, 1⟩
def F.IMG_SLOT_STATUS_RUNNING (s : Nat) : Fld := ⟨(A.IMG_SLOT_STATUS s), 3, 1⟩
def F.IMG_SLOT_STATUS_TRIAL (s : Nat) : Fld := ⟨(A.IMG_SLOT_STATUS s), 2, 1⟩
def F.IMG_SLOT_STATUS_PREFERRED (s : Nat) : Fld := ⟨(A.IMG_SLOT_STATUS s), 1, 1⟩
def F.IMG_SLOT_STATUS_VALID (s : Nat) : Fld := ⟨(A.IMG_SLOT_STATUS s), 0, 1⟩
/-! Fields of IMG_SLOT[s].SEQ (file 03). -/
def F.IMG_SLOT_SEQ_SEQ (s : Nat) : Fld := ⟨(A.IMG_SLOT_SEQ s), 0, 32⟩
/-! Fields of GROUP_COMMIT (file 03). -/
def F.GROUP_COMMIT_OP : Fld := ⟨A.GROUP_COMMIT, 30, 2⟩
def F.GROUP_COMMIT_INDEX : Fld := ⟨A.GROUP_COMMIT, 8, 8⟩
def F.GROUP_COMMIT_GROUP : Fld := ⟨A.GROUP_COMMIT, 0, 8⟩
/-! Fields of GROUP_STATE (file 03). -/
def F.GROUP_STATE_GROUP : Fld := ⟨A.GROUP_STATE, 24, 8⟩
def F.GROUP_STATE_INDEX : Fld := ⟨A.GROUP_STATE, 16, 8⟩
def F.GROUP_STATE_LASTRESULT : Fld := ⟨A.GROUP_STATE, 2, 3⟩
def F.GROUP_STATE_ARMED : Fld := ⟨A.GROUP_STATE, 1, 1⟩
def F.GROUP_STATE_STAGED : Fld := ⟨A.GROUP_STATE, 0, 1⟩
/-! Fields of CFGERR (file 03). -/
def F.CFGERR_VALID : Fld := ⟨A.CFGERR, 31, 1⟩
def F.CFGERR_MASTER : Fld := ⟨A.CFGERR, 28, 3⟩
def F.CFGERR_CAUSE : Fld := ⟨A.CFGERR, 24, 4⟩
def F.CFGERR_ADDR : Fld := ⟨A.CFGERR, 0, 24⟩
/-! Fields of CFGERR_COUNT (file 03). -/
def F.CFGERR_COUNT_COUNT : Fld := ⟨A.CFGERR_COUNT, 0, 16⟩
/-! Fields of LG_CTL (file 13). -/
def F.LG_CTL_PINCLS : Fld := ⟨A.LG_CTL, 8, 3⟩
def F.LG_CTL_PINREL : Fld := ⟨A.LG_CTL, 1, 1⟩
def F.LG_CTL_PINHOLD : Fld := ⟨A.LG_CTL, 0, 1⟩
/-! Fields of LG_HEAD (file 13). -/
def F.LG_HEAD_HEADSEQ : Fld := ⟨A.LG_HEAD, 0, 32⟩
/-! Fields of LG_INFO (file 13). -/
def F.LG_INFO_DROPTOT : Fld := ⟨A.LG_INFO, 16, 16⟩
def F.LG_INFO_PINVALID : Fld := ⟨A.LG_INFO, 1, 1⟩
def F.LG_INFO_BUSY : Fld := ⟨A.LG_INFO, 0, 1⟩
/-! Fields of LG_BOOTCNT (file 13). -/
def F.LG_BOOTCNT_BOOTCNT : Fld := ⟨A.LG_BOOTCNT, 0, 32⟩
/-! Fields of LG_RDSEQ (file 13). -/
def F.LG_RDSEQ_RDSEQ : Fld := ⟨A.LG_RDSEQ, 0, 32⟩
/-! Fields of LG_RDSTAT (file 13). -/
def F.LG_RDSTAT_RESULT : Fld := ⟨A.LG_RDSTAT, 0, 2⟩
/-! Fields of NV_STATUS (file 13). -/
def F.NV_STATUS_SPARELEFT : Fld := ⟨A.NV_STATUS, 24, 8⟩
def F.NV_STATUS_REMAPS : Fld := ⟨A.NV_STATUS, 16, 8⟩
def F.NV_STATUS_CORR : Fld := ⟨A.NV_STATUS, 0, 16⟩
/-! Fields of NV_SCRUB (file 13). -/
def F.NV_SCRUB_LASTSCRUB : Fld := ⟨A.NV_SCRUB, 0, 32⟩
/-! Fields of NV_UNCORR (file 13). -/
def F.NV_UNCORR_UNCOR : Fld := ⟨A.NV_UNCORR, 24, 8⟩
def F.NV_UNCORR_UADDR : Fld := ⟨A.NV_UNCORR, 0, 19⟩
/-! Fields of HNV_ADDR (file 13). -/
def F.HNV_ADDR_HNVBUSY : Fld := ⟨A.HNV_ADDR, 15, 1⟩
def F.HNV_ADDR_HNVERR : Fld := ⟨A.HNV_ADDR, 14, 1⟩
def F.HNV_ADDR_WADDR : Fld := ⟨A.HNV_ADDR, 2, 12⟩
/-! Fields of HNV_DATA (file 13). -/
def F.HNV_DATA_DATA : Fld := ⟨A.HNV_DATA, 0, 32⟩
/-! Fields of LG_WIN[w] (file 13). -/
def F.LG_WIN_WORD (w : Nat) : Fld := ⟨(A.LG_WIN w), 0, 32⟩
/-! Fields of PHASE[n].CTL (file 04). -/
def F.PHASE_CTL_FORCELVL (n : Nat) : Fld := ⟨(A.PHASE_CTL n), 18, 2⟩
def F.PHASE_CTL_FORCEEN (n : Nat) : Fld := ⟨(A.PHASE_CTL n), 17, 1⟩
def F.PHASE_CTL_SHLOCK (n : Nat) : Fld := ⟨(A.PHASE_CTL n), 15, 1⟩
def F.PHASE_CTL_AUTOCLR (n : Nat) : Fld := ⟨(A.PHASE_CTL n), 14, 1⟩
def F.PHASE_CTL_LSPOL (n : Nat) : Fld := ⟨(A.PHASE_CTL n), 13, 1⟩
def F.PHASE_CTL_ALLOW100 (n : Nat) : Fld := ⟨(A.PHASE_CTL n), 12, 1⟩
def F.PHASE_CTL_SYNCEN (n : Nat) : Fld := ⟨(A.PHASE_CTL n), 8, 1⟩
def F.PHASE_CTL_MODE (n : Nat) : Fld := ⟨(A.PHASE_CTL n), 0, 2⟩
/-! Fields of PHASE[n].PERIOD (file 04). -/
def F.PHASE_PERIOD_PERIOD (n : Nat) : Fld := ⟨(A.PHASE_PERIOD n), 0, 16⟩
/-! Fields of PHASE[n].DUTY (file 04). -/
def F.PHASE_DUTY_DUTY (n : Nat) : Fld := ⟨(A.PHASE_DUTY n), 0, 21⟩
/-! Fields of PHASE[n].OFS (file 04). -/
def F.PHASE_OFS_PHASEOFS (n : Nat) : Fld := ⟨(A.PHASE_OFS n), 0, 21⟩
/-! Fields of PHASE[n].DT (file 04). -/
def F.PHASE_DT_DTHL (n : Nat) : Fld := ⟨(A.PHASE_DT n), 16, 10⟩
def F.PHASE_DT_DTLH (n : Nat) : Fld := ⟨(A.PHASE_DT n), 0, 10⟩
/-! Fields of PHASE[n].TIMING (file 04). -/
def F.PHASE_TIMING_MINOFF (n : Nat) : Fld := ⟨(A.PHASE_TIMING n), 16, 9⟩
def F.PHASE_TIMING_MINON (n : Nat) : Fld := ⟨(A.PHASE_TIMING n), 0, 8⟩
/-! Fields of PHASE[n].TRIPCFG (file 04). -/
def F.PHASE_TRIPCFG_LATCH (n : Nat) : Fld := ⟨(A.PHASE_TRIPCFG n), 8, 8⟩
def F.PHASE_TRIPCFG_CUT (n : Nat) : Fld := ⟨(A.PHASE_TRIPCFG n), 0, 8⟩
/-! Fields of PHASE[n].STATUS (file 04). -/
def F.PHASE_STATUS_TRIPIN (n : Nat) : Fld := ⟨(A.PHASE_STATUS n), 16, 8⟩
def F.PHASE_STATUS_SYNCMIS (n : Nat) : Fld := ⟨(A.PHASE_STATUS n), 11, 1⟩
def F.PHASE_STATUS_SHLOCKTO (n : Nat) : Fld := ⟨(A.PHASE_STATUS n), 10, 1⟩
def F.PHASE_STATUS_LAUNCHREF (n : Nat) : Fld := ⟨(A.PHASE_STATUS n), 9, 1⟩
def F.PHASE_STATUS_LAUNCHDLY (n : Nat) : Fld := ⟨(A.PHASE_STATUS n), 8, 1⟩
def F.PHASE_STATUS_DUTYCLIP (n : Nat) : Fld := ⟨(A.PHASE_STATUS n), 7, 1⟩
def F.PHASE_STATUS_CLRREFUSED (n : Nat) : Fld := ⟨(A.PHASE_STATUS n), 6, 1⟩
def F.PHASE_STATUS_LATCHED (n : Nat) : Fld := ⟨(A.PHASE_STATUS n), 5, 1⟩
def F.PHASE_STATUS_CUT (n : Nat) : Fld := ⟨(A.PHASE_STATUS n), 4, 1⟩
def F.PHASE_STATUS_EFFMODE (n : Nat) : Fld := ⟨(A.PHASE_STATUS n), 2, 2⟩
def F.PHASE_STATUS_OUTSTATE (n : Nat) : Fld := ⟨(A.PHASE_STATUS n), 0, 2⟩
/-! Fields of PHASE[n].LIMCNT (file 04). -/
def F.PHASE_LIMCNT_TOTAL (n : Nat) : Fld := ⟨(A.PHASE_LIMCNT n), 8, 24⟩
def F.PHASE_LIMCNT_CONSEC (n : Nat) : Fld := ⟨(A.PHASE_LIMCNT n), 0, 8⟩
/-! Fields of PHASE[n].ACTPER (file 04). -/
def F.PHASE_ACTPER_ACTPER (n : Nat) : Fld := ⟨(A.PHASE_ACTPER n), 0, 16⟩
/-! Fields of PHASE[n].ACTDUTY (file 04). -/
def F.PHASE_ACTDUTY_ACTDUTY (n : Nat) : Fld := ⟨(A.PHASE_ACTDUTY n), 0, 21⟩
/-! Fields of STAGEGRP[g].CFG (file 02). -/
def F.STAGEGRP_CFG_WAKE (g : Nat) : Fld := ⟨(A.STAGEGRP_CFG g), 8, 8⟩
def F.STAGEGRP_CFG_SMODOUT (g : Nat) : Fld := ⟨(A.STAGEGRP_CFG g), 2, 1⟩
def F.STAGEGRP_CFG_FORCEOFF (g : Nat) : Fld := ⟨(A.STAGEGRP_CFG g), 1, 1⟩
def F.STAGEGRP_CFG_PAIRED (g : Nat) : Fld := ⟨(A.STAGEGRP_CFG g), 0, 1⟩
/-! Fields of PE_SYNC_CTL (file 04). -/
def F.PE_SYNC_CTL_SYNCPER : Fld := ⟨A.PE_SYNC_CTL, 16, 16⟩
def F.PE_SYNC_CTL_SYNCIEDGE : Fld := ⟨A.PE_SYNC_CTL, 1, 1⟩
def F.PE_SYNC_CTL_SYNCSRC : Fld := ⟨A.PE_SYNC_CTL, 0, 1⟩
/-! Fields of PE_SYNC_DLY (file 04). -/
def F.PE_SYNC_DLY_SYNCIDLY : Fld := ⟨A.PE_SYNC_DLY, 0, 16⟩
/-! Fields of PE_SYNCO_CTL (file 04). -/
def F.PE_SYNCO_CTL_SYNCOOFS : Fld := ⟨A.PE_SYNCO_CTL, 12, 20⟩
def F.PE_SYNCO_CTL_SYNCOW : Fld := ⟨A.PE_SYNCO_CTL, 4, 8⟩
def F.PE_SYNCO_CTL_SYNCOEN : Fld := ⟨A.PE_SYNCO_CTL, 0, 1⟩
/-! Fields of PE_SYNC_STATUS (file 04). -/
def F.PE_SYNC_STATUS_SYNCERR : Fld := ⟨A.PE_SYNC_STATUS, 16, 16⟩
def F.PE_SYNC_STATUS_REJCNT : Fld := ⟨A.PE_SYNC_STATUS, 8, 8⟩
def F.PE_SYNC_STATUS_SYNCLOST : Fld := ⟨A.PE_SYNC_STATUS, 1, 1⟩
def F.PE_SYNC_STATUS_SYNCLOCK : Fld := ⟨A.PE_SYNC_STATUS, 0, 1⟩
/-! Fields of PE_TRIP_CTL (file 04). -/
def F.PE_TRIP_CTL_TRIPPOL : Fld := ⟨A.PE_TRIP_CTL, 16, 4⟩
def F.PE_TRIP_CTL_TRIPFLT : Fld := ⟨A.PE_TRIP_CTL, 0, 4⟩
/-! Fields of RAIL[k].MCTL (file 05). -/
def F.RAIL_MCTL_AUTOONSET (k : Nat) : Fld := ⟨(A.RAIL_MCTL k), 15, 1⟩
def F.RAIL_MCTL_LOCKEN (k : Nat) : Fld := ⟨(A.RAIL_MCTL k), 14, 1⟩
def F.RAIL_MCTL_DEMODE (k : Nat) : Fld := ⟨(A.RAIL_MCTL k), 12, 2⟩
def F.RAIL_MCTL_FFREQ (k : Nat) : Fld := ⟨(A.RAIL_MCTL k), 8, 1⟩
/-! Fields of RAIL[k].TON (file 05). -/
def F.RAIL_TON_TONADD (k : Nat) : Fld := ⟨(A.RAIL_TON k), 16, 16⟩
def F.RAIL_TON_TONSCALE (k : Nat) : Fld := ⟨(A.RAIL_TON k), 0, 16⟩
/-! Fields of RAIL[k].TONMAX (file 05). -/
def F.RAIL_TONMAX_TONMAX (k : Nat) : Fld := ⟨(A.RAIL_TONMAX k), 0, 18⟩
/-! Fields of RAIL[k].RIP (file 05). -/
def F.RAIL_RIP_RIPLEAK (k : Nat) : Fld := ⟨(A.RAIL_RIP k), 16, 5⟩
def F.RAIL_RIP_RIPGAIN (k : Nat) : Fld := ⟨(A.RAIL_RIP k), 0, 16⟩
/-! Fields of RAIL[k].SPACE (file 05). -/
def F.RAIL_SPACE_MAXOVLON (k : Nat) : Fld := ⟨(A.RAIL_SPACE k), 24, 6⟩
def F.RAIL_SPACE_BLANKON (k : Nat) : Fld := ⟨(A.RAIL_SPACE k), 16, 8⟩
def F.RAIL_SPACE_MAXOVL (k : Nat) : Fld := ⟨(A.RAIL_SPACE k), 8, 6⟩
def F.RAIL_SPACE_BLANK (k : Nat) : Fld := ⟨(A.RAIL_SPACE k), 0, 8⟩
/-! Fields of RAIL[k].ONSET (file 05). -/
def F.RAIL_ONSET_ONWIN (k : Nat) : Fld := ⟨(A.RAIL_ONSET k), 24, 8⟩
def F.RAIL_ONSET_ONLEAD (k : Nat) : Fld := ⟨(A.RAIL_ONSET k), 16, 8⟩
def F.RAIL_ONSET_ONCNT (k : Nat) : Fld := ⟨(A.RAIL_ONSET k), 0, 4⟩
/-! Fields of RAIL[k].DE (file 05). -/
def F.RAIL_DE_DEDWELL (k : Nat) : Fld := ⟨(A.RAIL_DE k), 24, 8⟩
def F.RAIL_DE_DEEXIT (k : Nat) : Fld := ⟨(A.RAIL_DE k), 12, 12⟩
def F.RAIL_DE_DEENTER (k : Nat) : Fld := ⟨(A.RAIL_DE k), 0, 12⟩
/-! Fields of RAIL[k].FF (file 05). -/
def F.RAIL_FF_FFGAIN (k : Nat) : Fld := ⟨(A.RAIL_FF k), 16, 16⟩
def F.RAIL_FF_FFPER (k : Nat) : Fld := ⟨(A.RAIL_FF k), 0, 16⟩
/-! Fields of RAIL[k].LOCKOFS (file 05). -/
def F.RAIL_LOCKOFS_LOCKOFS (k : Nat) : Fld := ⟨(A.RAIL_LOCKOFS k), 0, 21⟩
/-! Fields of RAIL[k].LOCKCFG (file 05). -/
def F.RAIL_LOCKCFG_LOCKTOL (k : Nat) : Fld := ⟨(A.RAIL_LOCKCFG k), 24, 8⟩
def F.RAIL_LOCKCFG_FLKP (k : Nat) : Fld := ⟨(A.RAIL_LOCKCFG k), 20, 4⟩
def F.RAIL_LOCKCFG_FLKI (k : Nat) : Fld := ⟨(A.RAIL_LOCKCFG k), 16, 4⟩
def F.RAIL_LOCKCFG_LOCKLIM (k : Nat) : Fld := ⟨(A.RAIL_LOCKCFG k), 0, 16⟩
/-! Fields of RAIL[k].SEQ (file 05). -/
def F.RAIL_SEQ_POS (k : Nat) : Fld := ⟨(A.RAIL_SEQ k), 16, 6⟩
def F.RAIL_SEQ_RINGLEN (k : Nat) : Fld := ⟨(A.RAIL_SEQ k), 0, 6⟩
/-! Fields of RAIL[k].RING[j] (file 05). -/
def F.RAIL_RING_ENT3 (k j : Nat) : Fld := ⟨(A.RAIL_RING k j), 24, 8⟩
def F.RAIL_RING_ENT2 (k j : Nat) : Fld := ⟨(A.RAIL_RING k j), 16, 8⟩
def F.RAIL_RING_ENT1 (k j : Nat) : Fld := ⟨(A.RAIL_RING k j), 8, 8⟩
def F.RAIL_RING_ENT0 (k j : Nat) : Fld := ⟨(A.RAIL_RING k j), 0, 8⟩
/-! Fields of RAIL[k].MSTAT (file 05). -/
def F.RAIL_MSTAT_THCLAMP (k : Nat) : Fld := ⟨(A.RAIL_MSTAT k), 15, 1⟩
def F.RAIL_MSTAT_RATELIM (k : Nat) : Fld := ⟨(A.RAIL_MSTAT k), 14, 1⟩
def F.RAIL_MSTAT_LAUNCHLOST (k : Nat) : Fld := ⟨(A.RAIL_MSTAT k), 13, 1⟩
def F.RAIL_MSTAT_TAIL (k : Nat) : Fld := ⟨(A.RAIL_MSTAT k), 12, 1⟩
def F.RAIL_MSTAT_SEQPEND (k : Nat) : Fld := ⟨(A.RAIL_MSTAT k), 7, 1⟩
def F.RAIL_MSTAT_FLOCK (k : Nat) : Fld := ⟨(A.RAIL_MSTAT k), 6, 1⟩
def F.RAIL_MSTAT_LOCKFRZ (k : Nat) : Fld := ⟨(A.RAIL_MSTAT k), 5, 1⟩
def F.RAIL_MSTAT_ONSET (k : Nat) : Fld := ⟨(A.RAIL_MSTAT k), 4, 1⟩
def F.RAIL_MSTAT_FCARMED (k : Nat) : Fld := ⟨(A.RAIL_MSTAT k), 3, 1⟩
def F.RAIL_MSTAT_DEACT (k : Nat) : Fld := ⟨(A.RAIL_MSTAT k), 2, 1⟩
def F.RAIL_MSTAT_EFFMODE (k : Nat) : Fld := ⟨(A.RAIL_MSTAT k), 0, 2⟩
/-! Fields of RAIL[k].TONNOW (file 05). -/
def F.RAIL_TONNOW_TONNOW (k : Nat) : Fld := ⟨(A.RAIL_TONNOW k), 0, 18⟩
/-! Fields of RAIL[k].THNOW (file 05). -/
def F.RAIL_THNOW_RIPCODE (k : Nat) : Fld := ⟨(A.RAIL_THNOW k), 16, 10⟩
def F.RAIL_THNOW_THCODE (k : Nat) : Fld := ⟨(A.RAIL_THNOW k), 0, 12⟩
/-! Fields of RAIL[k].LOCKSTAT (file 05). -/
def F.RAIL_LOCKSTAT_TRIM (k : Nat) : Fld := ⟨(A.RAIL_LOCKSTAT k), 16, 16⟩
def F.RAIL_LOCKSTAT_LOCKERR (k : Nat) : Fld := ⟨(A.RAIL_LOCKSTAT k), 0, 16⟩
/-! Fields of RAIL[k].MCNT (file 05). -/
def F.RAIL_MCNT_FORCEDSEQ (k : Nat) : Fld := ⟨(A.RAIL_MCNT k), 24, 8⟩
def F.RAIL_MCNT_OVLWAIT (k : Nat) : Fld := ⟨(A.RAIL_MCNT k), 16, 8⟩
def F.RAIL_MCNT_RINGSKIP (k : Nat) : Fld := ⟨(A.RAIL_MCNT k), 8, 8⟩
def F.RAIL_MCNT_ONSETCNT (k : Nat) : Fld := ⟨(A.RAIL_MCNT k), 0, 8⟩
/-! Fields of VINFF_CFG (file 05). -/
def F.VINFF_CFG_SRC : Fld := ⟨A.VINFF_CFG, 31, 1⟩
def F.VINFF_CFG_VINGAIN : Fld := ⟨A.VINFF_CFG, 0, 20⟩
/-! Fields of VINFF_FIX (file 05). -/
def F.VINFF_FIX_VINFIX : Fld := ⟨A.VINFF_FIX, 0, 16⟩
/-! Fields of VINFF_DATA (file 05). -/
def F.VINFF_DATA_SRCNOW : Fld := ⟨A.VINFF_DATA, 30, 2⟩
def F.VINFF_DATA_VINC : Fld := ⟨A.VINFF_DATA, 0, 16⟩
/-! Fields of SFE_ICAL[n] (file 07). -/
def F.SFE_ICAL_IGAIN (n : Nat) : Fld := ⟨(A.SFE_ICAL n), 16, 16⟩
def F.SFE_ICAL_IZERO (n : Nat) : Fld := ⟨(A.SFE_ICAL n), 0, 12⟩
/-! Fields of CMP[c].CTL (file 11). -/
def F.CMP_CTL_ARM (c : Nat) : Fld := ⟨(A.CMP_CTL c), 31, 1⟩
def F.CMP_CTL_FILT (c : Nat) : Fld := ⟨(A.CMP_CTL c), 20, 4⟩
def F.CMP_CTL_HYST (c : Nat) : Fld := ⟨(A.CMP_CTL c), 16, 2⟩
def F.CMP_CTL_RANGE (c : Nat) : Fld := ⟨(A.CMP_CTL c), 15, 1⟩
def F.CMP_CTL_ATTEN (c : Nat) : Fld := ⟨(A.CMP_CTL c), 14, 1⟩
def F.CMP_CTL_TRACKEN (c : Nat) : Fld := ⟨(A.CMP_CTL c), 13, 1⟩
def F.CMP_CTL_ROUTELAT (c : Nat) : Fld := ⟨(A.CMP_CTL c), 12, 1⟩
def F.CMP_CTL_SENSE (c : Nat) : Fld := ⟨(A.CMP_CTL c), 7, 1⟩
def F.CMP_CTL_FUNC (c : Nat) : Fld := ⟨(A.CMP_CTL c), 0, 7⟩
/-! Fields of CMP[c].DAC (file 11). -/
def F.CMP_DAC_DACNOW (c : Nat) : Fld := ⟨(A.CMP_DAC c), 16, 10⟩
def F.CMP_DAC_DAC (c : Nat) : Fld := ⟨(A.CMP_DAC c), 0, 10⟩
/-! Fields of CMP[c].TRACK (file 11). -/
def F.CMP_TRACK_TGAIN (c : Nat) : Fld := ⟨(A.CMP_TRACK c), 16, 16⟩
def F.CMP_TRACK_TOFS (c : Nat) : Fld := ⟨(A.CMP_TRACK c), 0, 16⟩
/-! Fields of CMP[c].STATUS (file 11). -/
def F.CMP_STATUS_STRIKES (c : Nat) : Fld := ⟨(A.CMP_STATUS c), 24, 8⟩
def F.CMP_STATUS_SERVEDBY (c : Nat) : Fld := ⟨(A.CMP_STATUS c), 8, 8⟩
def F.CMP_STATUS_RETIRED (c : Nat) : Fld := ⟨(A.CMP_STATUS c), 7, 1⟩
def F.CMP_STATUS_COVER (c : Nat) : Fld := ⟨(A.CMP_STATUS c), 6, 1⟩
def F.CMP_STATUS_INBAND (c : Nat) : Fld := ⟨(A.CMP_STATUS c), 4, 1⟩
def F.CMP_STATUS_CLRREFUSED (c : Nat) : Fld := ⟨(A.CMP_STATUS c), 3, 1⟩
def F.CMP_STATUS_LATCHED (c : Nat) : Fld := ⟨(A.CMP_STATUS c), 2, 1⟩
def F.CMP_STATUS_OUT (c : Nat) : Fld := ⟨(A.CMP_STATUS c), 1, 1⟩
def F.CMP_STATUS_ARMED (c : Nat) : Fld := ⟨(A.CMP_STATUS c), 0, 1⟩
/-! Fields of CMP[c].RDBK (file 11). -/
def F.CMP_RDBK_VINRB (c : Nat) : Fld := ⟨(A.CMP_RDBK c), 16, 12⟩
def F.CMP_RDBK_DACRB (c : Nat) : Fld := ⟨(A.CMP_RDBK c), 0, 12⟩
/-! Fields of CMPO_CTL (file 11). -/
def F.CMPO_CTL_EN3 : Fld := ⟨A.CMPO_CTL, 31, 1⟩
def F.CMPO_CTL_SEL3 : Fld := ⟨A.CMPO_CTL, 24, 7⟩
def F.CMPO_CTL_EN2 : Fld := ⟨A.CMPO_CTL, 23, 1⟩
def F.CMPO_CTL_SEL2 : Fld := ⟨A.CMPO_CTL, 16, 7⟩
def F.CMPO_CTL_EN1 : Fld := ⟨A.CMPO_CTL, 15, 1⟩
def F.CMPO_CTL_SEL1 : Fld := ⟨A.CMPO_CTL, 8, 7⟩
def F.CMPO_CTL_EN0 : Fld := ⟨A.CMPO_CTL, 7, 1⟩
def F.CMPO_CTL_SEL0 : Fld := ⟨A.CMPO_CTL, 0, 7⟩
/-! Fields of MC_CH[c].DATA (file 13). -/
def F.MC_CH_DATA_CODE (c : Nat) : Fld := ⟨(A.MC_CH_DATA c), 20, 12⟩
def F.MC_CH_DATA_VALUE (c : Nat) : Fld := ⟨(A.MC_CH_DATA c), 0, 20⟩
/-! Fields of MC_CH[c].CFG (file 13). -/
def F.MC_CH_CFG_AVG (c : Nat) : Fld := ⟨(A.MC_CH_CFG c), 0, 3⟩
/-! Fields of MC_TSCAL[s] (file 13). -/
def F.MC_TSCAL_TOFS (s : Nat) : Fld := ⟨(A.MC_TSCAL s), 16, 16⟩
def F.MC_TSCAL_TGAIN (s : Nat) : Fld := ⟨(A.MC_TSCAL s), 0, 16⟩
/-! Fields of MC_NTC[i] (file 13). -/
def F.MC_NTC_NTCEN (i : Nat) : Fld := ⟨(A.MC_NTC i), 31, 1⟩
def F.MC_NTC_BETA (i : Nat) : Fld := ⟨(A.MC_NTC i), 16, 15⟩
def F.MC_NTC_R26 (i : Nat) : Fld := ⟨(A.MC_NTC i), 0, 16⟩
/-! Fields of TM_CTL (file 13). -/
def F.TM_CTL_EN : Fld := ⟨A.TM_CTL, 31, 1⟩
def F.TM_CTL_TMPER : Fld := ⟨A.TM_CTL, 0, 16⟩
/-! Fields of TM_ITEM[i] (file 13). -/
def F.TM_ITEM_ITEM (i : Nat) : Fld := ⟨(A.TM_ITEM i), 0, 8⟩
/-! Fields of TM_STATUS (file 13). -/
def F.TM_STATUS_SEQ : Fld := ⟨A.TM_STATUS, 8, 8⟩
def F.TM_STATUS_LOST : Fld := ⟨A.TM_STATUS, 0, 8⟩
/-! Fields of TM_EFFCFG (file 13). -/
def F.TM_EFFCFG_EFFWIN : Fld := ⟨A.TM_EFFCFG, 0, 16⟩
/-! Fields of TM_EFF (file 13). -/
def F.TM_EFF_EFF : Fld := ⟨A.TM_EFF, 16, 16⟩
def F.TM_EFF_PINAVG : Fld := ⟨A.TM_EFF, 1, 15⟩
def F.TM_EFF_EFFNA : Fld := ⟨A.TM_EFF, 0, 1⟩
/-! Fields of TM_PRAVG (file 13). -/
def F.TM_PRAVG_PRAVG : Fld := ⟨A.TM_PRAVG, 0, 16⟩
/-! Fields of GRAPH[k].HDR (file 06). -/
def F.GRAPH_HDR_RATE (k : Nat) : Fld := ⟨(A.GRAPH_HDR k), 16, 3⟩
def F.GRAPH_HDR_NSTAGE (k : Nat) : Fld := ⟨(A.GRAPH_HDR k), 8, 4⟩
def F.GRAPH_HDR_OUTERCYC (k : Nat) : Fld := ⟨(A.GRAPH_HDR k), 0, 8⟩
/-! Fields of GRAPH[k].PLACE (file 06). -/
def F.GRAPH_PLACE_AUTO (k : Nat) : Fld := ⟨(A.GRAPH_PLACE k), 7, 1⟩
def F.GRAPH_PLACE_LANE (k : Nat) : Fld := ⟨(A.GRAPH_PLACE k), 4, 3⟩
def F.GRAPH_PLACE_HALF (k : Nat) : Fld := ⟨(A.GRAPH_PLACE k), 0, 1⟩
/-! Fields of GRAPH[k].CTL (file 06). -/
def F.GRAPH_CTL_COASTLIM (k : Nat) : Fld := ⟨(A.GRAPH_CTL k), 8, 7⟩
def F.GRAPH_CTL_SELSRC (k : Nat) : Fld := ⟨(A.GRAPH_CTL k), 2, 1⟩
def F.GRAPH_CTL_SELREQ (k : Nat) : Fld := ⟨(A.GRAPH_CTL k), 1, 1⟩
def F.GRAPH_CTL_COAST (k : Nat) : Fld := ⟨(A.GRAPH_CTL k), 0, 1⟩
/-! Fields of GRAPH[k].YINIT (file 06). -/
def F.GRAPH_YINIT_YINIT (k : Nat) : Fld := ⟨(A.GRAPH_YINIT k), 0, 32⟩
/-! Fields of GRAPH[k].STATUS (file 06). -/
def F.GRAPH_STATUS_GVALID (k : Nat) : Fld := ⟨(A.GRAPH_STATUS k), 31, 1⟩
def F.GRAPH_STATUS_RUNLANE (k : Nat) : Fld := ⟨(A.GRAPH_STATUS k), 28, 3⟩
def F.GRAPH_STATUS_RUNHALF (k : Nat) : Fld := ⟨(A.GRAPH_STATUS k), 27, 1⟩
def F.GRAPH_STATUS_MOVING (k : Nat) : Fld := ⟨(A.GRAPH_STATUS k), 26, 1⟩
def F.GRAPH_STATUS_SELNOW (k : Nat) : Fld := ⟨(A.GRAPH_STATUS k), 25, 1⟩
def F.GRAPH_STATUS_COASTING (k : Nat) : Fld := ⟨(A.GRAPH_STATUS k), 24, 1⟩
def F.GRAPH_STATUS_COASTN (k : Nat) : Fld := ⟨(A.GRAPH_STATUS k), 17, 7⟩
def F.GRAPH_STATUS_COASTEXP (k : Nat) : Fld := ⟨(A.GRAPH_STATUS k), 16, 1⟩
def F.GRAPH_STATUS_STATELOST (k : Nat) : Fld := ⟨(A.GRAPH_STATUS k), 15, 1⟩
def F.GRAPH_STATUS_WRPERR (k : Nat) : Fld := ⟨(A.GRAPH_STATUS k), 14, 1⟩
def F.GRAPH_STATUS_INNERCYC (k : Nat) : Fld := ⟨(A.GRAPH_STATUS k), 0, 8⟩
/-! Fields of GRAPH[k].CNT (file 06). -/
def F.GRAPH_CNT_REPLAY (k : Nat) : Fld := ⟨(A.GRAPH_CNT k), 16, 16⟩
def F.GRAPH_CNT_HELD (k : Nat) : Fld := ⟨(A.GRAPH_CNT k), 0, 16⟩
/-! Fields of GRAPH[k].YOUT (file 06). -/
def F.GRAPH_YOUT_YOUT (k : Nat) : Fld := ⟨(A.GRAPH_YOUT k), 0, 32⟩
/-! Fields of GRAPH[k].HOFS[b] (file 06). -/
def F.GRAPH_HOFS_HOFS (k b : Nat) : Fld := ⟨(A.GRAPH_HOFS k b), 0, 32⟩
/-! Fields of GRAPH[k].STG[s].DESC (file 06). -/
def F.GRAPH_STG_DESC_TYPE (k s : Nat) : Fld := ⟨(A.GRAPH_STG_DESC k s), 28, 4⟩
def F.GRAPH_STG_DESC_BRANCH (k s : Nat) : Fld := ⟨(A.GRAPH_STG_DESC k s), 26, 2⟩
def F.GRAPH_STG_DESC_SRCA (k s : Nat) : Fld := ⟨(A.GRAPH_STG_DESC k s), 21, 5⟩
def F.GRAPH_STG_DESC_SRCB (k s : Nat) : Fld := ⟨(A.GRAPH_STG_DESC k s), 16, 5⟩
def F.GRAPH_STG_DESC_NEGB (k s : Nat) : Fld := ⟨(A.GRAPH_STG_DESC k s), 15, 1⟩
/-! Fields of GRAPH[k].STG[s].SHIFT (file 06). -/
def F.GRAPH_STG_SHIFT_SH4 (k s : Nat) : Fld := ⟨(A.GRAPH_STG_SHIFT k s), 24, 6⟩
def F.GRAPH_STG_SHIFT_SH3 (k s : Nat) : Fld := ⟨(A.GRAPH_STG_SHIFT k s), 18, 6⟩
def F.GRAPH_STG_SHIFT_SH2 (k s : Nat) : Fld := ⟨(A.GRAPH_STG_SHIFT k s), 12, 6⟩
def F.GRAPH_STG_SHIFT_SH1 (k s : Nat) : Fld := ⟨(A.GRAPH_STG_SHIFT k s), 6, 6⟩
def F.GRAPH_STG_SHIFT_SH0 (k s : Nat) : Fld := ⟨(A.GRAPH_STG_SHIFT k s), 0, 6⟩
/-! Fields of GRAPH[k].STG[s].COEF[i] (file 06). -/
def F.GRAPH_STG_COEF_COEF (k s i : Nat) : Fld := ⟨(A.GRAPH_STG_COEF k s i), 0, 32⟩
/-! Fields of GRAPH[k].STG[s].STATE[j] (file 06). -/
def F.GRAPH_STG_STATE_STATE (k s j : Nat) : Fld := ⟨(A.GRAPH_STG_STATE k s j), 0, 32⟩
/-! Fields of LE_STATUS (file 06). -/
def F.LE_STATUS_RETIRED : Fld := ⟨A.LE_STATUS, 27, 5⟩
def F.LE_STATUS_SPARE : Fld := ⟨A.LE_STATUS, 24, 3⟩
def F.LE_STATUS_NOSPARE : Fld := ⟨A.LE_STATUS, 23, 1⟩
def F.LE_STATUS_MOVING : Fld := ⟨A.LE_STATUS, 22, 1⟩
def F.LE_STATUS_LASTFROM : Fld := ⟨A.LE_STATUS, 19, 3⟩
def F.LE_STATUS_LASTTO : Fld := ⟨A.LE_STATUS, 16, 3⟩
def F.LE_STATUS_MOVES : Fld := ⟨A.LE_STATUS, 8, 8⟩
/-! Fields of LE_STORE (file 06). -/
def F.LE_STORE_CORR : Fld := ⟨A.LE_STORE, 16, 16⟩
def F.LE_STORE_LOST : Fld := ⟨A.LE_STORE, 0, 16⟩
/-! Fields of LANE[m].STATUS (file 06). -/
def F.LANE_STATUS_ROLE (m : Nat) : Fld := ⟨(A.LANE_STATUS m), 30, 2⟩
def F.LANE_STATUS_AVALID (m : Nat) : Fld := ⟨(A.LANE_STATUS m), 19, 1⟩
def F.LANE_STATUS_RAILA (m : Nat) : Fld := ⟨(A.LANE_STATUS m), 16, 3⟩
def F.LANE_STATUS_BVALID (m : Nat) : Fld := ⟨(A.LANE_STATUS m), 15, 1⟩
def F.LANE_STATUS_RAILB (m : Nat) : Fld := ⟨(A.LANE_STATUS m), 12, 3⟩
def F.LANE_STATUS_TESTOK (m : Nat) : Fld := ⟨(A.LANE_STATUS m), 0, 1⟩
/-! Fields of LANE[m].CNT (file 06). -/
def F.LANE_CNT_PARITY (m : Nat) : Fld := ⟨(A.LANE_CNT m), 16, 16⟩
def F.LANE_CNT_HELD (m : Nat) : Fld := ⟨(A.LANE_CNT m), 0, 16⟩
/-! Fields of OL[k].CTL (file 07). -/
def F.OL_CTL_PMAX (k : Nat) : Fld := ⟨(A.OL_CTL k), 16, 6⟩
def F.OL_CTL_LLMODE (k : Nat) : Fld := ⟨(A.OL_CTL k), 8, 2⟩
def F.OL_CTL_KH (k : Nat) : Fld := ⟨(A.OL_CTL k), 4, 4⟩
def F.OL_CTL_KI (k : Nat) : Fld := ⟨(A.OL_CTL k), 0, 4⟩
/-! Fields of OL[k].CB (file 07). -/
def F.OL_CB_CBKP (k : Nat) : Fld := ⟨(A.OL_CB k), 16, 16⟩
def F.OL_CB_CBKI (k : Nat) : Fld := ⟨(A.OL_CB k), 0, 16⟩
/-! Fields of OL[k].CBLIM (file 07). -/
def F.OL_CBLIM_CBLEAK (k : Nat) : Fld := ⟨(A.OL_CBLIM k), 16, 5⟩
def F.OL_CBLIM_CBLIM (k : Nat) : Fld := ⟨(A.OL_CBLIM k), 0, 12⟩
/-! Fields of OL[k].TS (file 07). -/
def F.OL_TS_TSLIM (k : Nat) : Fld := ⟨(A.OL_TS k), 16, 9⟩
def F.OL_TS_TSK (k : Nat) : Fld := ⟨(A.OL_TS k), 0, 16⟩
/-! Fields of OL[k].LL (file 07). -/
def F.OL_LL_LLR (k : Nat) : Fld := ⟨(A.OL_LL k), 0, 11⟩
/-! Fields of OL[k].CL (file 07). -/
def F.OL_CL_CLN (k : Nat) : Fld := ⟨(A.OL_CL k), 24, 4⟩
def F.OL_CL_CLHYST (k : Nat) : Fld := ⟨(A.OL_CL k), 16, 8⟩
def F.OL_CL_ILIM (k : Nat) : Fld := ⟨(A.OL_CL k), 0, 12⟩
/-! Fields of OL[k].FE (file 07). -/
def F.OL_FE_FETIME (k : Nat) : Fld := ⟨(A.OL_FE k), 16, 16⟩
def F.OL_FE_FELIM (k : Nat) : Fld := ⟨(A.OL_FE k), 0, 16⟩
/-! Fields of OL[k].FECLS (file 07). -/
def F.OL_FECLS_FECLASS (k : Nat) : Fld := ⟨(A.OL_FECLS k), 0, 3⟩
/-! Fields of OL[k].HZCTL (file 07). -/
def F.OL_HZCTL_VFLOOR (k : Nat) : Fld := ⟨(A.OL_HZCTL k), 16, 16⟩
def F.OL_HZCTL_HZTO (k : Nat) : Fld := ⟨(A.OL_HZCTL k), 8, 8⟩
def F.OL_HZCTL_HZN (k : Nat) : Fld := ⟨(A.OL_HZCTL k), 4, 4⟩
def F.OL_HZCTL_HZEN (k : Nat) : Fld := ⟨(A.OL_HZCTL k), 0, 1⟩
/-! Fields of OL[k].HZSLK (file 07). -/
def F.OL_HZSLK_SLKHI (k : Nat) : Fld := ⟨(A.OL_HZSLK k), 16, 16⟩
def F.OL_HZSLK_SLKLO (k : Nat) : Fld := ⟨(A.OL_HZSLK k), 0, 16⟩
/-! Fields of OL[k].HZSTEP (file 07). -/
def F.OL_HZSTEP_SLKCRIT (k : Nat) : Fld := ⟨(A.OL_HZSTEP k), 16, 16⟩
def F.OL_HZSTEP_HZBACK (k : Nat) : Fld := ⟨(A.OL_HZSTEP k), 8, 8⟩
def F.OL_HZSTEP_HZSTEP (k : Nat) : Fld := ⟨(A.OL_HZSTEP k), 0, 8⟩
/-! Fields of OL[k].HZMAX (file 07). -/
def F.OL_HZMAX_HZMAX (k : Nat) : Fld := ⟨(A.OL_HZMAX k), 0, 16⟩
/-! Fields of OL[k].STATUS (file 07). -/
def F.OL_STATUS_FECNT (k : Nat) : Fld := ⟨(A.OL_STATUS k), 16, 16⟩
def F.OL_STATUS_GOODCNT (k : Nat) : Fld := ⟨(A.OL_STATUS k), 12, 4⟩
def F.OL_STATUS_HZCRIT (k : Nat) : Fld := ⟨(A.OL_STATUS k), 4, 1⟩
def F.OL_STATUS_HZTOUT (k : Nat) : Fld := ⟨(A.OL_STATUS k), 3, 1⟩
def F.OL_STATUS_HZLOWER (k : Nat) : Fld := ⟨(A.OL_STATUS k), 2, 1⟩
def F.OL_STATUS_FERUN (k : Nat) : Fld := ⟨(A.OL_STATUS k), 1, 1⟩
def F.OL_STATUS_CLACT (k : Nat) : Fld := ⟨(A.OL_STATUS k), 0, 1⟩
/-! Fields of OL[k].HZNOW (file 07). -/
def F.OL_HZNOW_LASTSLK (k : Nat) : Fld := ⟨(A.OL_HZNOW k), 16, 16⟩
def F.OL_HZNOW_MARGIN (k : Nat) : Fld := ⟨(A.OL_HZNOW k), 0, 16⟩
/-! Fields of OL[k].ITOT (file 07). -/
def F.OL_ITOT_ITOT (k : Nat) : Fld := ⟨(A.OL_ITOT k), 0, 32⟩
/-! Fields of OL[k].DROOP (file 07). -/
def F.OL_DROOP_DROOPR (k : Nat) : Fld := ⟨(A.OL_DROOP k), 0, 16⟩
/-! Fields of OLPH[n].TRIM (file 07). -/
def F.OLPH_TRIM_BTRIM (n : Nat) : Fld := ⟨(A.OLPH_TRIM n), 16, 16⟩
def F.OLPH_TRIM_TSO (n : Nat) : Fld := ⟨(A.OLPH_TRIM n), 0, 16⟩
/-! Fields of RAIL[k].VSET (file 08). -/
def F.RAIL_VSET_SLEWOVR (k : Nat) : Fld := ⟨(A.RAIL_VSET k), 16, 16⟩
def F.RAIL_VSET_VSET (k : Nat) : Fld := ⟨(A.RAIL_VSET k), 0, 16⟩
/-! Fields of RAIL[k].VLIM (file 08). -/
def F.RAIL_VLIM_VMAX (k : Nat) : Fld := ⟨(A.RAIL_VLIM k), 16, 16⟩
def F.RAIL_VLIM_VMIN (k : Nat) : Fld := ⟨(A.RAIL_VLIM k), 0, 16⟩
/-! Fields of RAIL[k].SLEW (file 08). -/
def F.RAIL_SLEW_ACC (k : Nat) : Fld := ⟨(A.RAIL_SLEW k), 16, 16⟩
def F.RAIL_SLEW_VSLEW (k : Nat) : Fld := ⟨(A.RAIL_SLEW k), 0, 16⟩
/-! Fields of RAIL[k].PROF (file 08). -/
def F.RAIL_PROF_TMODE (k : Nat) : Fld := ⟨(A.RAIL_PROF k), 30, 2⟩
def F.RAIL_PROF_JERK (k : Nat) : Fld := ⟨(A.RAIL_PROF k), 0, 10⟩
/-! Fields of RAIL[k].SEQCTL (file 08). -/
def F.RAIL_SEQCTL_ENMODE (k : Nat) : Fld := ⟨(A.RAIL_SEQCTL k), 12, 2⟩
def F.RAIL_SEQCTL_STOPMODE (k : Nat) : Fld := ⟨(A.RAIL_SEQCTL k), 11, 1⟩
def F.RAIL_SEQCTL_STOPDE (k : Nat) : Fld := ⟨(A.RAIL_SEQCTL k), 10, 1⟩
def F.RAIL_SEQCTL_PREBIAS (k : Nat) : Fld := ⟨(A.RAIL_SEQCTL k), 9, 1⟩
def F.RAIL_SEQCTL_FPEN (k : Nat) : Fld := ⟨(A.RAIL_SEQCTL k), 8, 1⟩
def F.RAIL_SEQCTL_SEQORD (k : Nat) : Fld := ⟨(A.RAIL_SEQCTL k), 4, 3⟩
def F.RAIL_SEQCTL_INGRP (k : Nat) : Fld := ⟨(A.RAIL_SEQCTL k), 3, 1⟩
def F.RAIL_SEQCTL_SEQGRP (k : Nat) : Fld := ⟨(A.RAIL_SEQCTL k), 0, 2⟩
/-! Fields of RAIL[k].TDLY (file 08). -/
def F.RAIL_TDLY_TOFFDLY (k : Nat) : Fld := ⟨(A.RAIL_TDLY k), 16, 16⟩
def F.RAIL_TDLY_TONDLY (k : Nat) : Fld := ⟨(A.RAIL_TDLY k), 0, 16⟩
/-! Fields of RAIL[k].RAMP (file 08). -/
def F.RAIL_RAMP_SPSLEW (k : Nat) : Fld := ⟨(A.RAIL_RAMP k), 16, 16⟩
def F.RAIL_RAMP_STSLEW (k : Nat) : Fld := ⟨(A.RAIL_RAMP k), 0, 16⟩
/-! Fields of RAIL[k].STOP (file 08). -/
def F.RAIL_STOP_STGRACE (k : Nat) : Fld := ⟨(A.RAIL_STOP k), 24, 8⟩
def F.RAIL_STOP_VSTOP (k : Nat) : Fld := ⟨(A.RAIL_STOP k), 0, 16⟩
/-! Fields of RAIL[k].PGDLY (file 08). -/
def F.RAIL_PGDLY_PGADLY (k : Nat) : Fld := ⟨(A.RAIL_PGDLY k), 16, 16⟩
def F.RAIL_PGDLY_PGDDLY (k : Nat) : Fld := ⟨(A.RAIL_PGDLY k), 0, 16⟩
/-! Fields of RAIL[k].PGWIN (file 08). -/
def F.RAIL_PGWIN_PG_STRICT (k : Nat) : Fld := ⟨(A.RAIL_PGWIN k), 31, 1⟩
def F.RAIL_PGWIN_PGTRANS (k : Nat) : Fld := ⟨(A.RAIL_PGWIN k), 30, 1⟩
def F.RAIL_PGWIN_PGWHI (k : Nat) : Fld := ⟨(A.RAIL_PGWIN k), 16, 9⟩
def F.RAIL_PGWIN_PGWLO (k : Nat) : Fld := ⟨(A.RAIL_PGWIN k), 0, 9⟩
/-! Fields of RAIL[k].HZBK (file 08). -/
def F.RAIL_HZBK_HZUP (k : Nat) : Fld := ⟨(A.RAIL_HZBK k), 0, 16⟩
/-! Fields of RAIL[k].ON (file 08). -/
def F.RAIL_ON_ON (k : Nat) : Fld := ⟨(A.RAIL_ON k), 0, 1⟩
/-! Fields of RAIL[k].TSTAT (file 08). -/
def F.RAIL_TSTAT_STATE (k : Nat) : Fld := ⟨(A.RAIL_TSTAT k), 16, 4⟩
def F.RAIL_TSTAT_ENBLK (k : Nat) : Fld := ⟨(A.RAIL_TSTAT k), 9, 1⟩
def F.RAIL_TSTAT_QFULL (k : Nat) : Fld := ⟨(A.RAIL_TSTAT k), 8, 1⟩
def F.RAIL_TSTAT_STARTSHORT (k : Nat) : Fld := ⟨(A.RAIL_TSTAT k), 7, 1⟩
def F.RAIL_TSTAT_REFCLAMP (k : Nat) : Fld := ⟨(A.RAIL_TSTAT k), 6, 1⟩
def F.RAIL_TSTAT_CMDREVOKED (k : Nat) : Fld := ⟨(A.RAIL_TSTAT k), 5, 1⟩
def F.RAIL_TSTAT_FPACT (k : Nat) : Fld := ⟨(A.RAIL_TSTAT k), 4, 1⟩
def F.RAIL_TSTAT_REQON (k : Nat) : Fld := ⟨(A.RAIL_TSTAT k), 3, 1⟩
def F.RAIL_TSTAT_TRANS (k : Nat) : Fld := ⟨(A.RAIL_TSTAT k), 2, 1⟩
def F.RAIL_TSTAT_ARRV (k : Nat) : Fld := ⟨(A.RAIL_TSTAT k), 1, 1⟩
def F.RAIL_TSTAT_PG (k : Nat) : Fld := ⟨(A.RAIL_TSTAT k), 0, 1⟩
/-! Fields of RAIL[k].REFNOW (file 08). -/
def F.RAIL_REFNOW_VCMD (k : Nat) : Fld := ⟨(A.RAIL_REFNOW k), 16, 16⟩
def F.RAIL_REFNOW_REF (k : Nat) : Fld := ⟨(A.RAIL_REFNOW k), 0, 16⟩
/-! Fields of RAIL[k].TCNT (file 08). -/
def F.RAIL_TCNT_REVOKED (k : Nat) : Fld := ⟨(A.RAIL_TCNT k), 24, 8⟩
def F.RAIL_TCNT_SUPERSEDED (k : Nat) : Fld := ⟨(A.RAIL_TCNT k), 16, 8⟩
def F.RAIL_TCNT_POPPED (k : Nat) : Fld := ⟨(A.RAIL_TCNT k), 0, 16⟩
/-! Fields of RAIL[k].CMARGNOW (file 08). -/
def F.RAIL_CMARGNOW_CMARG (k : Nat) : Fld := ⟨(A.RAIL_CMARGNOW k), 0, 16⟩
/-! Fields of SEQGRP[g].CTL (file 08). -/
def F.SEQGRP_CTL_GFAULT (g : Nat) : Fld := ⟨(A.SEQGRP_CTL g), 1, 1⟩
def F.SEQGRP_CTL_GEN (g : Nat) : Fld := ⟨(A.SEQGRP_CTL g), 0, 1⟩
/-! Fields of SEQGRP[g].STATUS (file 08). -/
def F.SEQGRP_STATUS_GBLOCK (g : Nat) : Fld := ⟨(A.SEQGRP_STATUS g), 2, 1⟩
def F.SEQGRP_STATUS_GSTOPPING (g : Nat) : Fld := ⟨(A.SEQGRP_STATUS g), 1, 1⟩
def F.SEQGRP_STATUS_GUP (g : Nat) : Fld := ⟨(A.SEQGRP_STATUS g), 0, 1⟩
/-! Fields of EPH[k].CTL (file 07). -/
def F.EPH_CTL_EOUTSH (k : Nat) : Fld := ⟨(A.EPH_CTL k), 24, 4⟩
def F.EPH_CTL_EVSRC (k : Nat) : Fld := ⟨(A.EPH_CTL k), 16, 8⟩
def F.EPH_CTL_LEAD (k : Nat) : Fld := ⟨(A.EPH_CTL k), 8, 8⟩
def F.EPH_CTL_SPMODE (k : Nat) : Fld := ⟨(A.EPH_CTL k), 5, 1⟩
def F.EPH_CTL_ECLR (k : Nat) : Fld := ⟨(A.EPH_CTL k), 4, 1⟩
def F.EPH_CTL_EFRZ (k : Nat) : Fld := ⟨(A.EPH_CTL k), 3, 1⟩
def F.EPH_CTL_PSRC (k : Nat) : Fld := ⟨(A.EPH_CTL k), 1, 2⟩
def F.EPH_CTL_EEN (k : Nat) : Fld := ⟨(A.EPH_CTL k), 0, 1⟩
/-! Fields of EPH[k].TBL (file 07). -/
def F.EPH_TBL_EBASE (k : Nat) : Fld := ⟨(A.EPH_TBL k), 16, 14⟩
def F.EPH_TBL_ELEN (k : Nat) : Fld := ⟨(A.EPH_TBL k), 0, 12⟩
/-! Fields of EPH[k].GAIN (file 07). -/
def F.EPH_GAIN_EKL (k : Nat) : Fld := ⟨(A.EPH_GAIN k), 16, 16⟩
def F.EPH_GAIN_EFORGET (k : Nat) : Fld := ⟨(A.EPH_GAIN k), 0, 5⟩
/-! Fields of EPH[k].PER (file 07). -/
def F.EPH_PER_EPTO (k : Nat) : Fld := ⟨(A.EPH_PER k), 24, 8⟩
def F.EPH_PER_EPER (k : Nat) : Fld := ⟨(A.EPH_PER k), 0, 24⟩
/-! Fields of EPH[k].SETTLE (file 07). -/
def F.EPH_SETTLE_ESETTLE (k : Nat) : Fld := ⟨(A.EPH_SETTLE k), 0, 16⟩
/-! Fields of EPH[k].STATUS (file 07). -/
def F.EPH_STATUS_POS (k : Nat) : Fld := ⟨(A.EPH_STATUS k), 16, 12⟩
def F.EPH_STATUS_EPARCNT (k : Nat) : Fld := ⟨(A.EPH_STATUS k), 8, 8⟩
def F.EPH_STATUS_ESAT (k : Nat) : Fld := ⟨(A.EPH_STATUS k), 6, 1⟩
def F.EPH_STATUS_ECLEARED (k : Nat) : Fld := ⟨(A.EPH_STATUS k), 5, 1⟩
def F.EPH_STATUS_ELOST (k : Nat) : Fld := ⟨(A.EPH_STATUS k), 4, 1⟩
def F.EPH_STATUS_EFROZEN (k : Nat) : Fld := ⟨(A.EPH_STATUS k), 3, 1⟩
def F.EPH_STATUS_ELEARN (k : Nat) : Fld := ⟨(A.EPH_STATUS k), 1, 1⟩
def F.EPH_STATUS_EACTIVE (k : Nat) : Fld := ⟨(A.EPH_STATUS k), 0, 1⟩
/-! Fields of EPH[k].PINC (file 07). -/
def F.EPH_PINC_PINC (k : Nat) : Fld := ⟨(A.EPH_PINC k), 0, 32⟩
/-! Fields of EPH[k].TNOW (file 07). -/
def F.EPH_TNOW_TNOW (k : Nat) : Fld := ⟨(A.EPH_TNOW k), 0, 24⟩
/-! Fields of INK[k].CTL (file 10). -/
def F.INK_CTL_SHEDDWELL (k : Nat) : Fld := ⟨(A.INK_CTL k), 24, 8⟩
def F.INK_CTL_FCHOLD (k : Nat) : Fld := ⟨(A.INK_CTL k), 16, 8⟩
def F.INK_CTL_NMIN (k : Nat) : Fld := ⟨(A.INK_CTL k), 8, 6⟩
def F.INK_CTL_SLCLASS (k : Nat) : Fld := ⟨(A.INK_CTL k), 4, 3⟩
def F.INK_CTL_SHEDSEL (k : Nat) : Fld := ⟨(A.INK_CTL k), 2, 1⟩
def F.INK_CTL_AUTO (k : Nat) : Fld := ⟨(A.INK_CTL k), 0, 1⟩
/-! Fields of INK[k].LIM (file 10). -/
def F.INK_LIM_SHEDHYST (k : Nat) : Fld := ⟨(A.INK_LIM k), 16, 12⟩
def F.INK_LIM_IPHMAX (k : Nat) : Fld := ⟨(A.INK_LIM k), 0, 8⟩
/-! Fields of INK[k].OPEN (file 10). -/
def F.INK_OPEN_OPENLOAD (k : Nat) : Fld := ⟨(A.INK_OPEN k), 12, 12⟩
def F.INK_OPEN_OPENTH (k : Nat) : Fld := ⟨(A.INK_OPEN k), 0, 8⟩
/-! Fields of INK[k].XSENSE (file 10). -/
def F.INK_XSENSE_XEN (k : Nat) : Fld := ⟨(A.INK_XSENSE k), 31, 1⟩
def F.INK_XSENSE_XCH (k : Nat) : Fld := ⟨(A.INK_XSENSE k), 24, 7⟩
def F.INK_XSENSE_SUMDEV (k : Nat) : Fld := ⟨(A.INK_XSENSE k), 12, 12⟩
def F.INK_XSENSE_XGAIN (k : Nat) : Fld := ⟨(A.INK_XSENSE k), 0, 12⟩
/-! Fields of INK[k].EFF[j] (file 10). -/
def F.INK_EFF_ICEIL (k j : Nat) : Fld := ⟨(A.INK_EFF k j), 16, 12⟩
def F.INK_EFF_NPH (k j : Nat) : Fld := ⟨(A.INK_EFF k j), 0, 6⟩
/-! Fields of INK[k].STATUS (file 10). -/
def F.INK_STATUS_CAPLIM (k : Nat) : Fld := ⟨(A.INK_STATUS k), 20, 12⟩
def F.INK_STATUS_NACT (k : Nat) : Fld := ⟨(A.INK_STATUS k), 14, 6⟩
def F.INK_STATUS_NAVAIL (k : Nat) : Fld := ⟨(A.INK_STATUS k), 8, 6⟩
def F.INK_STATUS_NSPARE (k : Nat) : Fld := ⟨(A.INK_STATUS k), 2, 6⟩
def F.INK_STATUS_EFFBAD (k : Nat) : Fld := ⟨(A.INK_STATUS k), 1, 1⟩
def F.INK_STATUS_REWPEND (k : Nat) : Fld := ⟨(A.INK_STATUS k), 0, 1⟩
/-! Fields of INK[k].CNT (file 10). -/
def F.INK_CNT_ADDS (k : Nat) : Fld := ⟨(A.INK_CNT k), 24, 8⟩
def F.INK_CNT_SHEDS (k : Nat) : Fld := ⟨(A.INK_CNT k), 16, 8⟩
def F.INK_CNT_PROMOTED (k : Nat) : Fld := ⟨(A.INK_CNT k), 8, 8⟩
def F.INK_CNT_FCLATE (k : Nat) : Fld := ⟨(A.INK_CNT k), 0, 8⟩
/-! Fields of INK[k].BASE[j] (file 10). -/
def F.INK_BASE_ENT3 (k j : Nat) : Fld := ⟨(A.INK_BASE k j), 24, 8⟩
def F.INK_BASE_ENT2 (k j : Nat) : Fld := ⟨(A.INK_BASE k j), 16, 8⟩
def F.INK_BASE_ENT1 (k j : Nat) : Fld := ⟨(A.INK_BASE k j), 8, 8⟩
def F.INK_BASE_ENT0 (k j : Nat) : Fld := ⟨(A.INK_BASE k j), 0, 8⟩
/-! Fields of INK_HCFG (file 10). -/
def F.INK_HCFG_TDEV : Fld := ⟨A.INK_HCFG, 24, 8⟩
def F.INK_HCFG_TDWELL : Fld := ⟨A.INK_HCFG, 16, 8⟩
def F.INK_HCFG_THOT : Fld := ⟨A.INK_HCFG, 8, 8⟩
def F.INK_HCFG_ZDMAX : Fld := ⟨A.INK_HCFG, 4, 4⟩
def F.INK_HCFG_TCYCAMP : Fld := ⟨A.INK_HCFG, 2, 2⟩
def F.INK_HCFG_TREFSRC : Fld := ⟨A.INK_HCFG, 0, 2⟩
/-! Fields of INK_TMODEL (file 10). -/
def F.INK_TMODEL_KT2 : Fld := ⟨A.INK_TMODEL, 20, 12⟩
def F.INK_TMODEL_KT1 : Fld := ⟨A.INK_TMODEL, 8, 12⟩
def F.INK_TMODEL_TTAU : Fld := ⟨A.INK_TMODEL, 0, 4⟩
/-! Fields of INK_WEARCFG (file 10). -/
def F.INK_WEARCFG_WEARMAX : Fld := ⟨A.INK_WEARCFG, 16, 16⟩
def F.INK_WEARCFG_AHSH : Fld := ⟨A.INK_WEARCFG, 12, 4⟩
def F.INK_WEARCFG_PLSH : Fld := ⟨A.INK_WEARCFG, 8, 4⟩
def F.INK_WEARCFG_HOTSH : Fld := ⟨A.INK_WEARCFG, 4, 4⟩
def F.INK_WEARCFG_CYCSH : Fld := ⟨A.INK_WEARCFG, 0, 4⟩
/-! Fields of INK_TEST (file 10). -/
def F.INK_TEST_TESTLEN : Fld := ⟨A.INK_TEST, 16, 16⟩
def F.INK_TEST_TESTIMIN : Fld := ⟨A.INK_TEST, 0, 8⟩
/-! Fields of INK_REQ (file 10). -/
def F.INK_REQ_OP : Fld := ⟨A.INK_REQ, 28, 4⟩
def F.INK_REQ_PHASE : Fld := ⟨A.INK_REQ, 16, 6⟩
def F.INK_REQ_EPOCH : Fld := ⟨A.INK_REQ, 0, 8⟩
/-! Fields of INK_REQSTAT (file 10). -/
def F.INK_REQSTAT_RESULT : Fld := ⟨A.INK_REQSTAT, 30, 2⟩
def F.INK_REQSTAT_PHASE : Fld := ⟨A.INK_REQSTAT, 16, 6⟩
def F.INK_REQSTAT_MSGLOST : Fld := ⟨A.INK_REQSTAT, 0, 8⟩
/-! Fields of PHASE[n].ASSIGN (file 10). -/
def F.PHASE_ASSIGN_ASGN (n : Nat) : Fld := ⟨(A.PHASE_ASSIGN n), 4, 1⟩
def F.PHASE_ASSIGN_POOL (n : Nat) : Fld := ⟨(A.PHASE_ASSIGN n), 3, 1⟩
def F.PHASE_ASSIGN_RAIL (n : Nat) : Fld := ⟨(A.PHASE_ASSIGN n), 0, 3⟩
/-! Fields of PHASE[n].ROLE (file 10). -/
def F.PHASE_ROLE_EPOCH (n : Nat) : Fld := ⟨(A.PHASE_ROLE n), 24, 8⟩
def F.PHASE_ROLE_ROLE (n : Nat) : Fld := ⟨(A.PHASE_ROLE n), 16, 3⟩
def F.PHASE_ROLE_TESTRES (n : Nat) : Fld := ⟨(A.PHASE_ROLE n), 8, 2⟩
def F.PHASE_ROLE_DRIFT (n : Nat) : Fld := ⟨(A.PHASE_ROLE n), 6, 1⟩
def F.PHASE_ROLE_WORN (n : Nat) : Fld := ⟨(A.PHASE_ROLE n), 5, 1⟩
def F.PHASE_ROLE_BLIND (n : Nat) : Fld := ⟨(A.PHASE_ROLE n), 4, 1⟩
def F.PHASE_ROLE_RCAUSE (n : Nat) : Fld := ⟨(A.PHASE_ROLE n), 0, 4⟩
/-! Fields of PHASE[n].STALE (file 10). -/
def F.PHASE_STALE_STALE (n : Nat) : Fld := ⟨(A.PHASE_STALE n), 0, 16⟩
/-! Fields of PHASE[n].WEAR (file 10). -/
def F.PHASE_WEAR_WEAR (n : Nat) : Fld := ⟨(A.PHASE_WEAR n), 16, 16⟩
def F.PHASE_WEAR_ZDRIFT (n : Nat) : Fld := ⟨(A.PHASE_WEAR n), 0, 12⟩
/-! Fields of PHASE[n].LIFEAH (file 10). -/
def F.PHASE_LIFEAH_AH (n : Nat) : Fld := ⟨(A.PHASE_LIFEAH n), 0, 32⟩
/-! Fields of PHASE[n].LIFEPL (file 10). -/
def F.PHASE_LIFEPL_PULSES (n : Nat) : Fld := ⟨(A.PHASE_LIFEPL n), 0, 32⟩
/-! Fields of PHASE[n].LIFETH (file 10). -/
def F.PHASE_LIFETH_HOT (n : Nat) : Fld := ⟨(A.PHASE_LIFETH n), 16, 16⟩
def F.PHASE_LIFETH_TCYC (n : Nat) : Fld := ⟨(A.PHASE_LIFETH n), 0, 16⟩
/-! Fields of EPHTAB[w] (file 07). -/
def F.EPHTAB_WORD (w : Nat) : Fld := ⟨(A.EPHTAB w), 0, 32⟩
/-! Fields of FM_CTL (file 11). -/
def F.FM_CTL_SAFETMO : Fld := ⟨A.FM_CTL, 16, 10⟩
def F.FM_CTL_HSOPEN : Fld := ⟨A.FM_CTL, 8, 1⟩
def F.FM_CTL_FPMIN : Fld := ⟨A.FM_CTL, 0, 3⟩
/-! Fields of FM_STATUS (file 11). -/
def F.FM_STATUS_LASTFID : Fld := ⟨A.FM_STATUS, 24, 8⟩
def F.FM_STATUS_LASTCLS : Fld := ⟨A.FM_STATUS, 21, 3⟩
def F.FM_STATUS_SAFEFID : Fld := ⟨A.FM_STATUS, 8, 8⟩
def F.FM_STATUS_FAULTPIN : Fld := ⟨A.FM_STATUS, 1, 1⟩
def F.FM_STATUS_FPEND : Fld := ⟨A.FM_STATUS, 0, 1⟩
/-! Fields of FM_CLASS[j] (file 11). -/
def F.FM_CLASS_CLS7 (j : Nat) : Fld := ⟨(A.FM_CLASS j), 28, 4⟩
def F.FM_CLASS_CLS6 (j : Nat) : Fld := ⟨(A.FM_CLASS j), 24, 4⟩
def F.FM_CLASS_CLS5 (j : Nat) : Fld := ⟨(A.FM_CLASS j), 20, 4⟩
def F.FM_CLASS_CLS4 (j : Nat) : Fld := ⟨(A.FM_CLASS j), 16, 4⟩
def F.FM_CLASS_CLS3 (j : Nat) : Fld := ⟨(A.FM_CLASS j), 12, 4⟩
def F.FM_CLASS_CLS2 (j : Nat) : Fld := ⟨(A.FM_CLASS j), 8, 4⟩
def F.FM_CLASS_CLS1 (j : Nat) : Fld := ⟨(A.FM_CLASS j), 4, 4⟩
def F.FM_CLASS_CLS0 (j : Nat) : Fld := ⟨(A.FM_CLASS j), 0, 4⟩
/-! Fields of FM_STRIKE[t] (file 11). -/
def F.FM_STRIKE_STH (t : Nat) : Fld := ⟨(A.FM_STRIKE t), 24, 4⟩
def F.FM_STRIKE_WUNIT (t : Nat) : Fld := ⟨(A.FM_STRIKE t), 16, 1⟩
def F.FM_STRIKE_SWIN (t : Nat) : Fld := ⟨(A.FM_STRIKE t), 0, 16⟩
/-! Fields of FM_IC (file 11). -/
def F.FM_IC_ICRET : Fld := ⟨A.FM_IC, 23, 7⟩
def F.FM_IC_ICSPARE : Fld := ⟨A.FM_IC, 20, 3⟩
def F.FM_IC_GMAP : Fld := ⟨A.FM_IC, 0, 18⟩
/-! Fields of FM_PLL (file 11). -/
def F.FM_PLL_PLL1RET : Fld := ⟨A.FM_PLL, 4, 1⟩
def F.FM_PLL_PLL0RET : Fld := ⟨A.FM_PLL, 3, 1⟩
def F.FM_PLL_SPAREOK : Fld := ⟨A.FM_PLL, 1, 1⟩
def F.FM_PLL_ACTIVE : Fld := ⟨A.FM_PLL, 0, 1⟩
/-! Fields of FM_RAIL[k].HIC (file 11). -/
def F.FM_RAIL_HIC_HICN (k : Nat) : Fld := ⟨(A.FM_RAIL_HIC k), 24, 8⟩
def F.FM_RAIL_HIC_HICRETRY (k : Nat) : Fld := ⟨(A.FM_RAIL_HIC k), 20, 4⟩
def F.FM_RAIL_HIC_HICOFF (k : Nat) : Fld := ⟨(A.FM_RAIL_HIC k), 10, 10⟩
def F.FM_RAIL_HIC_HICGOOD (k : Nat) : Fld := ⟨(A.FM_RAIL_HIC k), 0, 10⟩
/-! Fields of FM_RAIL[k].PROT (file 11). -/
def F.FM_RAIL_PROT_OVDLY (k : Nat) : Fld := ⟨(A.FM_RAIL_PROT k), 24, 8⟩
def F.FM_RAIL_PROT_UVDLY (k : Nat) : Fld := ⟨(A.FM_RAIL_PROT k), 16, 8⟩
def F.FM_RAIL_PROT_OVLOW (k : Nat) : Fld := ⟨(A.FM_RAIL_PROT k), 1, 1⟩
def F.FM_RAIL_PROT_SAFEIMM (k : Nat) : Fld := ⟨(A.FM_RAIL_PROT k), 0, 1⟩
/-! Fields of FM_RAIL[k].STAT (file 11). -/
def F.FM_RAIL_STAT_HICCNT (k : Nat) : Fld := ⟨(A.FM_RAIL_STAT k), 28, 4⟩
def F.FM_RAIL_STAT_RCONS (k : Nat) : Fld := ⟨(A.FM_RAIL_STAT k), 16, 8⟩
def F.FM_RAIL_STAT_LATFID (k : Nat) : Fld := ⟨(A.FM_RAIL_STAT k), 8, 8⟩
def F.FM_RAIL_STAT_OTRUN (k : Nat) : Fld := ⟨(A.FM_RAIL_STAT k), 4, 1⟩
def F.FM_RAIL_STAT_UVRUN (k : Nat) : Fld := ⟨(A.FM_RAIL_STAT k), 3, 1⟩
def F.FM_RAIL_STAT_OVRUN (k : Nat) : Fld := ⟨(A.FM_RAIL_STAT k), 2, 1⟩
def F.FM_RAIL_STAT_TIMERS (k : Nat) : Fld := ⟨(A.FM_RAIL_STAT k), 1, 1⟩
def F.FM_RAIL_STAT_UVARM (k : Nat) : Fld := ⟨(A.FM_RAIL_STAT k), 0, 1⟩
/-! Fields of FM_PH[n].CFG (file 11). -/
def F.FM_PH_CFG_PHN (n : Nat) : Fld := ⟨(A.FM_PH_CFG n), 24, 8⟩
def F.FM_PH_CFG_PHOFF (n : Nat) : Fld := ⟨(A.FM_PH_CFG n), 16, 8⟩
def F.FM_PH_CFG_OCDIG (n : Nat) : Fld := ⟨(A.FM_PH_CFG n), 0, 12⟩
/-! Fields of FM_PH[n].STAT (file 11). -/
def F.FM_PH_STAT_STRIKES (n : Nat) : Fld := ⟨(A.FM_PH_STAT n), 24, 8⟩
def F.FM_PH_STAT_LASTFID (n : Nat) : Fld := ⟨(A.FM_PH_STAT n), 16, 8⟩
def F.FM_PH_STAT_DIGOC (n : Nat) : Fld := ⟨(A.FM_PH_STAT n), 1, 1⟩
def F.FM_PH_STAT_PHOFFACT (n : Nat) : Fld := ⟨(A.FM_PH_STAT n), 0, 1⟩
/-! Fields of FM_TEMP[s] (file 11). -/
def F.FM_TEMP_OTW (s : Nat) : Fld := ⟨(A.FM_TEMP s), 24, 8⟩
def F.FM_TEMP_OTS (s : Nat) : Fld := ⟨(A.FM_TEMP s), 16, 8⟩
def F.FM_TEMP_OTDLY (s : Nat) : Fld := ⟨(A.FM_TEMP s), 8, 8⟩
def F.FM_TEMP_RMASK (s : Nat) : Fld := ⟨(A.FM_TEMP s), 0, 8⟩
/-! Fields of FM_TJ (file 11). -/
def F.FM_TJ_TJW : Fld := ⟨A.FM_TJ, 24, 8⟩
def F.FM_TJ_TJSD : Fld := ⟨A.FM_TJ, 16, 8⟩
/-! Fields of LNK[p].CTL (file 09). -/
def F.LNK_CTL_PEN (p : Nat) : Fld := ⟨(A.LNK_CTL p), 8, 1⟩
def F.LNK_CTL_MAXVER (p : Nat) : Fld := ⟨(A.LNK_CTL p), 4, 2⟩
/-! Fields of LNK[p].STATUS (file 09). -/
def F.LNK_STATUS_VER (p : Nat) : Fld := ⟨(A.LNK_STATUS p), 16, 2⟩
def F.LNK_STATUS_SILENT (p : Nat) : Fld := ⟨(A.LNK_STATUS p), 4, 1⟩
def F.LNK_STATUS_FRAMEERR (p : Nat) : Fld := ⟨(A.LNK_STATUS p), 3, 1⟩
def F.LNK_STATUS_CRCERR (p : Nat) : Fld := ⟨(A.LNK_STATUS p), 2, 1⟩
def F.LNK_STATUS_FRAMETO (p : Nat) : Fld := ⟨(A.LNK_STATUS p), 1, 1⟩
def F.LNK_STATUS_ACTIVE (p : Nat) : Fld := ⟨(A.LNK_STATUS p), 0, 1⟩
/-! Fields of LNK[p].CNT (file 09). -/
def F.LNK_CNT_CRC (p : Nat) : Fld := ⟨(A.LNK_CNT p), 24, 8⟩
def F.LNK_CNT_FRAME (p : Nat) : Fld := ⟨(A.LNK_CNT p), 16, 8⟩
def F.LNK_CNT_TIMEOUT (p : Nat) : Fld := ⟨(A.LNK_CNT p), 8, 8⟩
def F.LNK_CNT_DUP (p : Nat) : Fld := ⟨(A.LNK_CNT p), 0, 8⟩
/-! Fields of LNK[p].NFRAME (file 09). -/
def F.LNK_NFRAME_FRAMES (p : Nat) : Fld := ⟨(A.LNK_NFRAME p), 0, 32⟩
/-! Fields of LNK[p].EP[e].BIND (file 09). -/
def F.LNK_EP_BIND_EPEN (p e : Nat) : Fld := ⟨(A.LNK_EP_BIND p e), 31, 1⟩
def F.LNK_EP_BIND_SVALID (p e : Nat) : Fld := ⟨(A.LNK_EP_BIND p e), 24, 4⟩
def F.LNK_EP_BIND_RAIL3 (p e : Nat) : Fld := ⟨(A.LNK_EP_BIND p e), 12, 3⟩
def F.LNK_EP_BIND_RAIL2 (p e : Nat) : Fld := ⟨(A.LNK_EP_BIND p e), 8, 3⟩
def F.LNK_EP_BIND_RAIL1 (p e : Nat) : Fld := ⟨(A.LNK_EP_BIND p e), 4, 3⟩
def F.LNK_EP_BIND_RAIL0 (p e : Nat) : Fld := ⟨(A.LNK_EP_BIND p e), 0, 3⟩
/-! Fields of LNK[p].EP[e].AMASK (file 09). -/
def F.LNK_EP_AMASK_DEVMASK (p e : Nat) : Fld := ⟨(A.LNK_EP_AMASK p e), 29, 3⟩
def F.LNK_EP_AMASK_SLOTMASK (p e : Nat) : Fld := ⟨(A.LNK_EP_AMASK p e), 0, 16⟩
/-! Fields of LNK[p].EP[e].CAUSE (file 09). -/
def F.LNK_EP_CAUSE_PFW (p e : Nat) : Fld := ⟨(A.LNK_EP_CAUSE p e), 31, 1⟩
def F.LNK_EP_CAUSE_PFWEND (p e : Nat) : Fld := ⟨(A.LNK_EP_CAUSE p e), 30, 1⟩
def F.LNK_EP_CAUSE_DEVSTATE (p e : Nat) : Fld := ⟨(A.LNK_EP_CAUSE p e), 29, 1⟩
def F.LNK_EP_CAUSE_FAULT (p e : Nat) : Fld := ⟨(A.LNK_EP_CAUSE p e), 12, 4⟩
def F.LNK_EP_CAUSE_CAPLOW (p e : Nat) : Fld := ⟨(A.LNK_EP_CAUSE p e), 8, 4⟩
def F.LNK_EP_CAUSE_REVOKED (p e : Nat) : Fld := ⟨(A.LNK_EP_CAUSE p e), 4, 4⟩
def F.LNK_EP_CAUSE_ARRIVED (p e : Nat) : Fld := ⟨(A.LNK_EP_CAUSE p e), 0, 4⟩
/-! Fields of LNK[p].EP[e].LAST (file 09). -/
def F.LNK_EP_LAST_OP (p e : Nat) : Fld := ⟨(A.LNK_EP_LAST p e), 26, 6⟩
def F.LNK_EP_LAST_TAG (p e : Nat) : Fld := ⟨(A.LNK_EP_LAST p e), 22, 4⟩
def F.LNK_EP_LAST_ACK (p e : Nat) : Fld := ⟨(A.LNK_EP_LAST p e), 18, 4⟩
def F.LNK_EP_LAST_LVALID (p e : Nat) : Fld := ⟨(A.LNK_EP_LAST p e), 17, 1⟩
/-! Fields of LNK[p].EP[e].ARVTAG (file 09). -/
def F.LNK_EP_ARVTAG_TAG3 (p e : Nat) : Fld := ⟨(A.LNK_EP_ARVTAG p e), 12, 4⟩
def F.LNK_EP_ARVTAG_TAG2 (p e : Nat) : Fld := ⟨(A.LNK_EP_ARVTAG p e), 8, 4⟩
def F.LNK_EP_ARVTAG_TAG1 (p e : Nat) : Fld := ⟨(A.LNK_EP_ARVTAG p e), 4, 4⟩
def F.LNK_EP_ARVTAG_TAG0 (p e : Nat) : Fld := ⟨(A.LNK_EP_ARVTAG p e), 0, 4⟩
/-! Fields of HP[x].CTL (file 14). -/
def F.HP_CTL_QFLUSH (x : Nat) : Fld := ⟨(A.HP_CTL x), 8, 1⟩
def F.HP_CTL_ARAEN (x : Nat) : Fld := ⟨(A.HP_CTL x), 4, 1⟩
def F.HP_CTL_PMBEN (x : Nat) : Fld := ⟨(A.HP_CTL x), 3, 1⟩
def F.HP_CTL_SMBTO (x : Nat) : Fld := ⟨(A.HP_CTL x), 2, 1⟩
def F.HP_CTL_PECEN (x : Nat) : Fld := ⟨(A.HP_CTL x), 1, 1⟩
def F.HP_CTL_EN (x : Nat) : Fld := ⟨(A.HP_CTL x), 0, 1⟩
/-! Fields of HP[x].STATUS (file 14). -/
def F.HP_STATUS_PAGE (x : Nat) : Fld := ⟨(A.HP_STATUS x), 24, 8⟩
def F.HP_STATUS_LASTRES (x : Nat) : Fld := ⟨(A.HP_STATUS x), 16, 4⟩
def F.HP_STATUS_STRETCHTO (x : Nat) : Fld := ⟨(A.HP_STATUS x), 7, 1⟩
def F.HP_STATUS_SMBTOUT (x : Nat) : Fld := ⟨(A.HP_STATUS x), 6, 1⟩
def F.HP_STATUS_BUSERR (x : Nat) : Fld := ⟨(A.HP_STATUS x), 5, 1⟩
def F.HP_STATUS_PECERR (x : Nat) : Fld := ⟨(A.HP_STATUS x), 4, 1⟩
def F.HP_STATUS_NOPEC (x : Nat) : Fld := ⟨(A.HP_STATUS x), 3, 1⟩
def F.HP_STATUS_OVERRUN (x : Nat) : Fld := ⟨(A.HP_STATUS x), 2, 1⟩
def F.HP_STATUS_UNKCMD (x : Nat) : Fld := ⟨(A.HP_STATUS x), 1, 1⟩
def F.HP_STATUS_BUSY (x : Nat) : Fld := ⟨(A.HP_STATUS x), 0, 1⟩
/-! Fields of HP[x].CNT (file 14). -/
def F.HP_CNT_ABORTS (x : Nat) : Fld := ⟨(A.HP_CNT x), 24, 8⟩
def F.HP_CNT_PECERRS (x : Nat) : Fld := ⟨(A.HP_CNT x), 16, 8⟩
def F.HP_CNT_TIMEOUTS (x : Nat) : Fld := ⟨(A.HP_CNT x), 8, 8⟩
def F.HP_CNT_NACKS (x : Nat) : Fld := ⟨(A.HP_CNT x), 0, 8⟩
/-! Fields of HPM_CTL (file 14). -/
def F.HPM_CTL_GO : Fld := ⟨A.HPM_CTL, 31, 1⟩
def F.HPM_CTL_MADDR : Fld := ⟨A.HPM_CTL, 24, 7⟩
def F.HPM_CTL_NWR : Fld := ⟨A.HPM_CTL, 20, 4⟩
def F.HPM_CTL_NRD : Fld := ⟨A.HPM_CTL, 16, 4⟩
def F.HPM_CTL_MSPEED : Fld := ⟨A.HPM_CTL, 14, 2⟩
def F.HPM_CTL_MPEC : Fld := ⟨A.HPM_CTL, 13, 1⟩
def F.HPM_CTL_MRETRY : Fld := ⟨A.HPM_CTL, 10, 3⟩
def F.HPM_CTL_MBACK : Fld := ⟨A.HPM_CTL, 2, 8⟩
def F.HPM_CTL_MEN : Fld := ⟨A.HPM_CTL, 1, 1⟩
/-! Fields of HPM_TX[i] (file 14). -/
def F.HPM_TX_BYTES (i : Nat) : Fld := ⟨(A.HPM_TX i), 0, 32⟩
/-! Fields of HPM_RX[i] (file 14). -/
def F.HPM_RX_BYTES (i : Nat) : Fld := ⟨(A.HPM_RX i), 0, 32⟩
/-! Fields of HPM_STATUS (file 14). -/
def F.HPM_STATUS_MRES : Fld := ⟨A.HPM_STATUS, 28, 4⟩
def F.HPM_STATUS_ATTEMPTS : Fld := ⟨A.HPM_STATUS, 24, 4⟩
def F.HPM_STATUS_NACKIDX : Fld := ⟨A.HPM_STATUS, 20, 4⟩
def F.HPM_STATUS_MBUSY : Fld := ⟨A.HPM_STATUS, 0, 1⟩
/-! Fields of HP_ALERT (file 14). -/
def F.HP_ALERT_ACKED : Fld := ⟨A.HP_ALERT, 1, 1⟩
def F.HP_ALERT_DRIVE : Fld := ⟨A.HP_ALERT, 0, 1⟩
/-! Fields of Q[q].STAT (file 15). -/
def F.Q_STAT_DROPS (q : Nat) : Fld := ⟨(A.Q_STAT q), 24, 8⟩
def F.Q_STAT_OVF (q : Nat) : Fld := ⟨(A.Q_STAT q), 16, 1⟩
def F.Q_STAT_WMARK (q : Nat) : Fld := ⟨(A.Q_STAT q), 8, 8⟩
def F.Q_STAT_COUNT (q : Nat) : Fld := ⟨(A.Q_STAT q), 0, 7⟩
/-! Fields of EV_PHSEL[n] (file 15). -/
def F.EV_PHSEL_KIND (n : Nat) : Fld := ⟨(A.EV_PHSEL n), 0, 3⟩
/-! Fields of EV_RTR[n] (file 15). -/
def F.EV_RTR_EN (n : Nat) : Fld := ⟨(A.EV_RTR n), 31, 1⟩
def F.EV_RTR_INV (n : Nat) : Fld := ⟨(A.EV_RTR n), 8, 1⟩
def F.EV_RTR_SRC (n : Nat) : Fld := ⟨(A.EV_RTR n), 0, 8⟩
/-! Fields of EV_INT[i] (file 15). -/
def F.EV_INT_EDGE (i : Nat) : Fld := ⟨(A.EV_INT i), 8, 2⟩
def F.EV_INT_SRC (i : Nat) : Fld := ⟨(A.EV_INT i), 0, 8⟩
/-! Fields of EV_PEND (file 15). -/
def F.EV_PEND_LEVEL : Fld := ⟨A.EV_PEND, 16, 16⟩
def F.EV_PEND_STICKY : Fld := ⟨A.EV_PEND, 0, 16⟩
/-! Fields of EV_MASK (file 15). -/
def F.EV_MASK_MASK : Fld := ⟨A.EV_MASK, 0, 32⟩
/-! Fields of PL[p].CTL (file 13). -/
def F.PL_CTL_RUN (p : Nat) : Fld := ⟨(A.PL_CTL p), 31, 1⟩
def F.PL_CTL_TRIGNOW (p : Nat) : Fld := ⟨(A.PL_CTL p), 30, 1⟩
def F.PL_CTL_NCHC (p : Nat) : Fld := ⟨(A.PL_CTL p), 26, 2⟩
def F.PL_CTL_DECMODE (p : Nat) : Fld := ⟨(A.PL_CTL p), 25, 1⟩
def F.PL_CTL_BASE (p : Nat) : Fld := ⟨(A.PL_CTL p), 20, 4⟩
def F.PL_CTL_BIDX (p : Nat) : Fld := ⟨(A.PL_CTL p), 8, 8⟩
/-! Fields of PL[p].DEC (file 13). -/
def F.PL_DEC_DEC (p : Nat) : Fld := ⟨(A.PL_DEC p), 0, 16⟩
/-! Fields of PL[p].TRIG (file 13). -/
def F.PL_TRIG_TSRC (p : Nat) : Fld := ⟨(A.PL_TRIG p), 28, 4⟩
def F.PL_TRIG_CMP (p : Nat) : Fld := ⟨(A.PL_TRIG p), 27, 1⟩
def F.PL_TRIG_TCH (p : Nat) : Fld := ⟨(A.PL_TRIG p), 24, 3⟩
def F.PL_TRIG_EVSRC (p : Nat) : Fld := ⟨(A.PL_TRIG p), 16, 8⟩
def F.PL_TRIG_EDGE (p : Nat) : Fld := ⟨(A.PL_TRIG p), 14, 2⟩
def F.PL_TRIG_TCLS (p : Nat) : Fld := ⟨(A.PL_TRIG p), 11, 3⟩
/-! Fields of PL[p].TLEV (file 13). -/
def F.PL_TLEV_TLEV (p : Nat) : Fld := ⟨(A.PL_TLEV p), 0, 32⟩
/-! Fields of PL[p].PRE (file 13). -/
def F.PL_PRE_PRE (p : Nat) : Fld := ⟨(A.PL_PRE p), 0, 12⟩
/-! Fields of PL[p].STATUS (file 13). -/
def F.PL_STATUS_STATE (p : Nat) : Fld := ⟨(A.PL_STATUS p), 30, 2⟩
def F.PL_STATUS_NSAMP (p : Nat) : Fld := ⟨(A.PL_STATUS p), 16, 13⟩
def F.PL_STATUS_PERR (p : Nat) : Fld := ⟨(A.PL_STATUS p), 15, 1⟩
def F.PL_STATUS_TBGAP (p : Nat) : Fld := ⟨(A.PL_STATUS p), 14, 1⟩
def F.PL_STATUS_PREGOT (p : Nat) : Fld := ⟨(A.PL_STATUS p), 0, 13⟩
/-! Fields of PL[p].TTSLO (file 13). -/
def F.PL_TTSLO_TTSLO (p : Nat) : Fld := ⟨(A.PL_TTSLO p), 0, 32⟩
/-! Fields of PL[p].TTSHI (file 13). -/
def F.PL_TTSHI_TVALID (p : Nat) : Fld := ⟨(A.PL_TTSHI p), 31, 1⟩
def F.PL_TTSHI_TBDISC (p : Nat) : Fld := ⟨(A.PL_TTSHI p), 29, 1⟩
def F.PL_TTSHI_TSHI (p : Nat) : Fld := ⟨(A.PL_TTSHI p), 4, 16⟩
def F.PL_TTSHI_FINE (p : Nat) : Fld := ⟨(A.PL_TTSHI p), 0, 4⟩
/-! Fields of PL[p].NODE[j] (file 13). -/
def F.PL_NODE_KIND (p j : Nat) : Fld := ⟨(A.PL_NODE p j), 24, 8⟩
def F.PL_NODE_INDEX (p j : Nat) : Fld := ⟨(A.PL_NODE p j), 0, 24⟩
/-! Fields of PL_EXP (file 13). -/
def F.PL_EXP_GO : Fld := ⟨A.PL_EXP, 31, 1⟩
def F.PL_EXP_BUSY : Fld := ⟨A.PL_EXP, 2, 1⟩
def F.PL_EXP_PLATE : Fld := ⟨A.PL_EXP, 0, 2⟩
/-! Fields of PL_DATA[p][i] (file 13). -/
def F.PL_DATA_WORD (p i : Nat) : Fld := ⟨(A.PL_DATA p i), 0, 32⟩
/-! Fields of GH_ACC[t] (file 15). -/
def F.GH_ACC_WR (t : Nat) : Fld := ⟨(A.GH_ACC t), 8, 6⟩
def F.GH_ACC_RD (t : Nat) : Fld := ⟨(A.GH_ACC t), 0, 6⟩
/-! Fields of GH_RAILW[m] (file 15). -/
def F.GH_RAILW_RAILS (m : Nat) : Fld := ⟨(A.GH_RAILW m), 0, 8⟩
/-! Fields of GH_LOCK (file 15). -/
def F.GH_LOCK_LOCK : Fld := ⟨A.GH_LOCK, 0, 5⟩
/-! Fields of GH_CHAL (file 15). -/
def F.GH_CHAL_CMD : Fld := ⟨A.GH_CHAL, 28, 4⟩
def F.GH_CHAL_SCOPE : Fld := ⟨A.GH_CHAL, 16, 8⟩
def F.GH_CHAL_SESS : Fld := ⟨A.GH_CHAL, 8, 8⟩
/-! Fields of GH_NONCE[j] (file 15). -/
def F.GH_NONCE_NONCE (j : Nat) : Fld := ⟨(A.GH_NONCE j), 0, 32⟩
/-! Fields of GH_RESP[j] (file 15). -/
def F.GH_RESP_RESP (j : Nat) : Fld := ⟨(A.GH_RESP j), 0, 32⟩
/-! Fields of GH_SESS (file 15). -/
def F.GH_SESS_MASTER : Fld := ⟨A.GH_SESS, 29, 3⟩
def F.GH_SESS_OPEN : Fld := ⟨A.GH_SESS, 28, 1⟩
def F.GH_SESS_SCOPE : Fld := ⟨A.GH_SESS, 16, 8⟩
def F.GH_SESS_REMAIN : Fld := ⟨A.GH_SESS, 0, 16⟩
/-! Fields of GH_STAT (file 15). -/
def F.GH_STAT_FAILCNT : Fld := ⟨A.GH_STAT, 28, 4⟩
def F.GH_STAT_RESULT : Fld := ⟨A.GH_STAT, 26, 2⟩
def F.GH_STAT_NONCEVALID : Fld := ⟨A.GH_STAT, 25, 1⟩
def F.GH_STAT_ALARMED : Fld := ⟨A.GH_STAT, 24, 1⟩
def F.GH_STAT_LOCKREM : Fld := ⟨A.GH_STAT, 0, 16⟩
/-! Fields of GH_UCNT (file 15). -/
def F.GH_UCNT_UCNT : Fld := ⟨A.GH_UCNT, 0, 32⟩
/-! Fields of GH_ALARM (file 15). -/
def F.GH_ALARM_ALARMTH : Fld := ⟨A.GH_ALARM, 28, 4⟩
def F.GH_ALARM_CAUSE : Fld := ⟨A.GH_ALARM, 8, 8⟩
def F.GH_ALARM_POLICY : Fld := ⟨A.GH_ALARM, 0, 4⟩
/-! Fields of GH_DENY (file 15). -/
def F.GH_DENY_VALID : Fld := ⟨A.GH_DENY, 31, 1⟩
def F.GH_DENY_MASTER : Fld := ⟨A.GH_DENY, 28, 3⟩
def F.GH_DENY_KIND : Fld := ⟨A.GH_DENY, 24, 4⟩
def F.GH_DENY_ADDR : Fld := ⟨A.GH_DENY, 0, 24⟩
/-! Fields of GH_DENYCNT (file 15). -/
def F.GH_DENYCNT_COUNT : Fld := ⟨A.GH_DENYCNT, 0, 16⟩
/-! Fields of GH_KEYW[j] (file 15). -/
def F.GH_KEYW_WORD (j : Nat) : Fld := ⟨(A.GH_KEYW j), 0, 32⟩
/-! Fields of GH_KEYCTL (file 15). -/
def F.GH_KEYCTL_CMD : Fld := ⟨A.GH_KEYCTL, 28, 4⟩
def F.GH_KEYCTL_PRESENT : Fld := ⟨A.GH_KEYCTL, 8, 5⟩
def F.GH_KEYCTL_SLOT : Fld := ⟨A.GH_KEYCTL, 0, 3⟩

end Sys2Proof.Machine
end

