-- ==== Sys2Proof/Machine/SMap.lean ====
section
/-!
DEFINITION. Sparse storage in one canonical form: a list of (key, value) pairs, keys strictly rising, no entry equal to
what an unlisted key reads as. The register file, the image slots, the Ephemeris tables, the Plates and the MRAM areas
are held so, so that equal contents are equal data.
-/

namespace Sys2Proof.Machine

/-- A sparse map from Nat keys. -/
abbrev SMap (α : Type) := List (Nat × α)

/-- The value listed under key k, if any. -/
def SMap.find {α : Type} : SMap α → Nat → Option α
  | [], _ => none
  | (a, v) :: m, k => if a = k then some v else SMap.find m k

/-- What key k reads as, where an unlisted key reads as d k. -/
def SMap.get {α : Type} (d : Nat → α) (m : SMap α) (k : Nat) : α :=
  (SMap.find m k).getD (d k)

/-- Remove key k. -/
def SMap.erase {α : Type} (m : SMap α) (k : Nat) : SMap α := m.filter fun x => x.1 != k

/-- Put value v under key k, keeping the keys rising. -/
def SMap.insert {α : Type} : SMap α → Nat → α → SMap α
  | [], k, v => [(k, v)]
  | (a, w) :: m, k, v =>
    if k < a then (k, v) :: (a, w) :: m
    else if a = k then (k, v) :: m
    else (a, w) :: SMap.insert m k v

/-- Write v under key k; writing what an unlisted key reads as removes the entry. -/
def SMap.set {α : Type} [DecidableEq α] (d : Nat → α) (m : SMap α) (k : Nat) (v : α) : SMap α :=
  if v = d k then SMap.erase m k else SMap.insert m k v

/-- Keys strictly above b, rising, and no value equal to its default. -/
def SMap.wfFrom {α : Type} [DecidableEq α] (d : Nat → α) : Option Nat → SMap α → Bool
  | _, [] => true
  | b, (a, v) :: m =>
    (match b with | none => true | some x => decide (x < a)) && decide (v ≠ d a) && SMap.wfFrom d (some a) m

/-- The canonical form. -/
def SMap.wf {α : Type} [DecidableEq α] (d : Nat → α) (m : SMap α) : Bool := SMap.wfFrom d none m

end Sys2Proof.Machine
end

