-- ==== Sys2Proof/Machine/RegFile.lean ====
section
/-!
DEFINITION. The register file: address decoding over the register map (R393-R395), the reset word of every address
(R400), and reading or writing one field of a stored word.
-/

namespace Sys2Proof.Machine

/-- Where an address lands: the register and its indices, in the order of the register's name. -/
structure Loc where
  spec : RegSpec
  i : Nat
  j : Nat
  l : Nat
  deriving DecidableEq, Repr

/-- Indices of an offset in an array of the given (count, stride) dimensions; none beyond a last index (R395). -/
def indices : List (Nat × Nat) → Nat → Option (List Nat)
  | [], off => if off = 0 then some [] else none
  | (c, st) :: ds, off =>
    if off / st < c then
      match indices ds (off % st) with
      | some is => some (off / st :: is)
      | none => none
    else none

/-- The register of a map at address a, if one occupies it. -/
def locateIn : List RegSpec → Nat → Option Loc
  | [], _ => none
  | r :: rs, a =>
    if r.base ≤ a then
      match indices r.dims (a - r.base) with
      | some is => some ⟨r, is.getD 0 0, is.getD 1 0, is.getD 2 0⟩
      | none => locateIn rs a
    else locateIn rs a

/-- The register at address a; none where the address is unmapped (R393, R395). -/
def locate (a : Nat) : Option Loc := locateIn (blockMap (a / 0x10000)) a

/-- Reset classes of FM_CLASS[j] (R275, R312); the nibbles of FID 09h and 0Dh read the reset of FECLASS and SLCLASS. -/
def fmClassReset (j : Nat) : Nat :=
  match j with
  | 0 => 0x40222310
  | 1 => 0x44440343
  | 2 => 0x00005500
  | _ => 0

/-- Reset words of PT_BRK[j] (R306). -/
def ptBrkReset (j : Nat) : Nat :=
  match j with
  | 0 => 0x050186A0 | 1 => 0x0780C350 | 2 => 0x0A004E20 | 3 => 0x0C802710
  | 4 => 0x0F001388 | 5 => 0x140003E8 | 6 => 0x190000C8 | _ => 0x1E000000

/-- The function of comparator c senses below its threshold (R267). -/
def senseBelow (c : Nat) : Bool :=
  (48 ≤ c && c < 96) || (104 ≤ c && c < 113) || (115 ≤ c && c < 120)

/-- The reset word of a located register: the map's word, or the value its index or its keyword source gives. -/
def resetOf (x : Loc) : Nat :=
  match x.spec.id with
  | .fmClass => fmClassReset x.i
  | .fmStrike =>
    match x.i with
    | 0 => 0x03010E10 | 1 => 0x0301000A | 2 => 0x0301000A | 3 => 0x040003E8 | _ => 0x02010E10
  | .ptBrk => ptBrkReset x.i
  | .ptFet => match x.i with | 0 => 0x00330C7C | 1 => 0x019A0083 | _ => 0x06000007
  | .mcChCfg => if (54 ≤ x.i && x.i ≤ 61) || (71 ≤ x.i && x.i ≤ 76) then 2 else 0
  | .mcChData => if 62 ≤ x.i && x.i ≤ 70 then 0xF8000 else 0
  | .qStat =>
    if x.i < 8 || x.i = 10 then 0x1000 else if x.i = 11 || x.i = 12 then 0x4000 else 0x2000
  | .ghAcc => if x.i = 0x11 then 0x2F33 else 0x2333
  | .cmpCtl => (if senseBelow x.i then 0x80 else 0) + (if x.i < 120 then x.i else 0x7F)
  | .cmpStatus => x.i * 0x100
  | _ => x.spec.reset

/-- The word an address holds at reset; 0 where it is unmapped. -/
def resetWord (a : Nat) : Word :=
  match locate a with
  | some x => BitVec.ofNat 32 (resetOf x)
  | none => 0

/-- The register file: the words that differ from their reset values. -/
abbrev RegFile := SMap Word

/-- The word held at address a. -/
def RegFile.word (r : RegFile) (a : Nat) : Word := SMap.get resetWord r a

/-- Hold word w at address a. -/
def RegFile.setWord (r : RegFile) (a : Nat) (w : Word) : RegFile := SMap.set resetWord r a w

/-- The field at lowest bit lo of width w, of a word. -/
def getBits (x : Word) (lo w : Nat) : Nat := x.toNat / 2 ^ lo % 2 ^ w

/-- The word with the field at lo of width w replaced by v modulo 2^w. -/
def setBits (x : Word) (lo w v : Nat) : Word :=
  BitVec.ofNat 32 (x.toNat - getBits x lo w * 2 ^ lo + v % 2 ^ w * 2 ^ lo)

/-- A field as a two's complement number (R7, "signed" fields). -/
def toSigned (w n : Nat) : Int := if n < 2 ^ (w - 1) then (n : Int) else (n : Int) - 2 ^ w

/-- A number as a field of width w, two's complement, wrapping. -/
def ofSigned (w : Nat) (i : Int) : Nat := (i % (2 ^ w : Int)).toNat

end Sys2Proof.Machine
end

