-- ==== Sys2Proof/Machine/State.lean ====
section
/-!
DEFINITION. The state of the GF-9648 as plain data: the register file (every register of 16_register_map.md at its
address), and beside it the state the spec gives the block that no register holds. A register that only reports such
state is a view of it (Machine/View.lean). INVENTORY.md, "State", names the rule of each.
-/

namespace Sys2Proof.Machine

/-- Device states (R17, R19). -/
inductive DevState
  | off | boot | standby | run | safe | lockdown
  deriving DecidableEq, Repr

/-- Sequencing states of a rail (R203). -/
inductive SeqState
  | off | delay | wake | ramp | on | stopdly | stopping | hiccup | latched
  deriving DecidableEq, Repr

/-- Output states of a phase (R93): the off level (mid, or both low), low side on, high side on. -/
inductive OutState
  | off | low | high
  deriving DecidableEq, Repr

/-- The dead time running in a paired group (R94): none, before the high side turns on, after it turned off. -/
inductive DeadTime
  | none | lh | hl
  deriving DecidableEq, Repr

/-- Roles of a phase (R243). -/
inductive Role
  | unassigned | active | shed | spare | test | retired | unavailable
  deriving DecidableEq, Repr

/-- Stages of a host capture of a Plate (R340). -/
inductive PlateState
  | idle | armed | capturing | done
  deriving DecidableEq, Repr

/-- Roles of a lane (R140, LANE[m].STATUS.ROLE). -/
inductive LaneRole
  | working | spare | idle | retired
  deriving DecidableEq, Repr

/-- A queue entry (R370): data, tag, meta. -/
structure QEntry where
  data : BitVec 32
  tag : BitVec 16
  met : BitVec 16
  deriving DecidableEq, Repr

/-- The upper halves a read of a LO register latches, one set per master (R398). -/
structure HiLatch where
  tb : BitVec 16
  mark : BitVec 16
  ein : BitVec 16
  erail : Vector (BitVec 16) 8
  deriving DecidableEq, Repr

/-- Supplies, pins and straps (R45, R49, R52, R59) and the latches of the always-on domain that no register shows. -/
structure Supplies where
  vcore : Bool
  vdd33 : Bool
  vaon : Bool
  vioh : Bool
  viol : Bool
  hvin : Bool
  /-- RESET# level. -/
  resetHigh : Bool
  smod : Vector SmodStrap 6
  addr0 : Option (Fin 4)
  addr1 : Option (Fin 4)
  /-- A sample of ADDR0 and ADDR1 waits for VIOH (R50). -/
  addrWait : Bool
  bootsel : Bool
  /-- EN0-EN7, held while VIOH is not good (R54). -/
  en : Vector Bool 8
  /-- Their latest changes, newest first: the instant in fine steps and the level before (R27, R202). -/
  enHist : Vector (List (Nat × Bool)) 8
  /-- TRIP pins at the ball. -/
  tripPin : Vector Bool 4
  /-- Stage groups past their wake time (R47). -/
  groupAwake : Vector Bool 6
  /-- Sleep latched (R19). -/
  sleep : Bool
  /-- A wake event is present, with its WAKESRC code (R19). -/
  wake : Option (Fin 6)
  deriving DecidableEq, Repr

/-- One staged member write (R81): group, instance, register address, field, value, master. -/
structure Staged where
  group : Nat
  index : Nat
  addr : Nat
  lo : Nat
  w : Nat
  val : Nat
  by_ : Master
  deriving DecidableEq, Repr

/-- An armed commit (R81 rule 5): group, instance, the master that wrote it, and the instant it completed (R97, R126). -/
structure Armed where
  group : Nat
  index : Nat
  by_ : Master
  at_ : Nat
  deriving DecidableEq, Repr

/-- An armed commit an abort has cancelled, with the values it had staged and the instant of the abort: until it is certain that the
abort came in time, the commit may still apply (R81 rule 7). -/
structure Cancelled where
  commit : Armed
  values : List Staged
  at_ : Nat
  deriving DecidableEq, Repr

/-- One image slot in the non-volatile store with its persistent marks (R72, R425). -/
structure Slot where
  /-- The slot's 98,304 bytes; an unlisted offset reads 00h. -/
  bytes : SMap Byte
  /-- Words found uncorrectable, until they are written again (R329). -/
  badw : List Nat
  preferred : Bool
  trial : Bool
  tried : Bool
  /-- CAUSE found by the last full check of the present content, none when there is none (R425). -/
  kept : Option Nat
  /-- The declaration word of the content last checked in full (R425). -/
  decl : Option Nat
  /-- CAUSE as IMG_SLOT[s].STATUS reports it. -/
  cause : Nat
  /-- The present content passed VERIFY, and nothing has been written since (R76). -/
  verified : Bool
  /-- SECVER and SEQ as reported: from the header, 0 if the header check failed. -/
  secver : Nat
  seq : Nat
  deriving DecidableEq, Repr

/-- The image manager (03_configuration_image.md). -/
structure ImageMgr where
  slots : Vector Slot 2
  /-- A host load is open on this slot. -/
  openSlot : Option (Fin 2)
  /-- The slot applied at the last BOOT. -/
  running : Option (Fin 2)
  /-- A VERIFY in progress, and of which slot. -/
  verifying : Option (Fin 2)
  staging : List Staged
  armed : List Armed
  /-- Commits cancelled by an abort (R81 rule 7). -/
  cancelled : List Cancelled
  /-- BOOT was held by BOOTSEL (R51). -/
  held : Bool
  /-- An image is applied. -/
  applied : Bool
  /-- A calibration failed in a block without a spare (R21). -/
  calFailed : Bool
  /-- What the read of the slot finds that the VERIFY in progress makes (R329). -/
  found : ReadFind
  deriving DecidableEq, Repr

/-- A launch on its way from the modulator to the pulse engine (R116, R125). -/
structure Launch where
  phase : Fin 48
  epoch : BitVec 8
  onTime : Nat
  deriving DecidableEq, Repr

/-- One phase of the pulse engine beside its registers (04_pulse_engine.md). -/
structure PhaseState where
  out : OutState
  dead : DeadTime
  /-- A full-period high level runs (R95, 100 % code). -/
  full : Bool
  /-- The phase has passed its first period boundary since its block started (R91). -/
  started : Bool
  /-- The present period is counted as limited (R101). -/
  limited : Bool
  /-- A launch delayed by MINOFF, with its on-time (R92). -/
  delayed : Option Nat
  /-- Mode the rail modulator's hand-over imposes (R88); none leaves CTL.MODE in force. -/
  modeOver : Option Nat
  /-- Duty the modulator loaded into the duty shadow, and the one the last reload moved into the active duty (R96, R134). -/
  dutyShadow : Option Nat
  dutyActive : Option Nat
  /-- Handed over to forced fixed-frequency mode, its first boundary there still to come (R133). -/
  ffFirst : Bool
  /-- Instants of the last period boundary (R87) and of the end of the last high level (R92, R123), in fine steps. -/
  bound : Option Nat
  offAt : Option Nat
  /-- Ends of high levels whose first current conversion afterwards, IEND, is still to come (R257), oldest first. -/
  ends : List Nat
  /-- Offset the modulator supplies in forced fixed-frequency mode (R133): in force, and loaded into the shadow. -/
  ofsOver : Option Nat
  ofsNext : Option Nat
  /-- The latest changes of what the phase counts as (R118), newest first: their instants in fine steps, and what it counted as
  before (2 high, 1 low, 0 mid). -/
  hist : List (Nat × Nat)
  /-- The high level under way belongs to a pulse that started while the phase was ACTIVE (R257). -/
  watched : Bool
  /-- BOUNDARY writes waiting for the period boundary: address and word, in completion order. -/
  boundary : List (Nat × Word)
  /-- Boundaries SHLOCK has stayed 1 through (R98). -/
  shCount : Nat
  /-- An accepted latch clear waits for the boundary (R104). -/
  clearPend : Bool
  /-- The class 2 latch clears at the first boundary with every latch source inactive (R276). -/
  holdClear : Bool
  /-- The class 2 latch is held until the retirement takes effect (R282). -/
  holdRetire : Bool
  /-- The instant at which a hold-off latched a phase that was not latched before (R278, R297), in fine steps. -/
  holdAt : Option Nat
  /-- The digital limit's state of source OC (R281). -/
  digOc : Bool
  /-- The on-time model's request of source OC, followed at period boundaries (R281). -/
  modelReq : Bool
  modelOc : Bool
  /-- Another phase of the ring has ended a pulse at its programmed on-time since CONSEC was last 0 (R280). -/
  neighbour : Bool
  /-- Diode emulation in force for the phase (R94). -/
  de : Bool
  /-- Alignment error left to work off, and the adjustment of the present period, in fine steps (R109). -/
  alignErr : Int
  alignAdj : Int
  /-- The phase is in its rail's tail (R137). -/
  tail : Option (Fin 8)
  deriving DecidableEq, Repr

/-- Sync reference (R107, R108) and SYNCO (R110); times in fine steps of the time base. -/
structure SyncState where
  tref : Nat
  lastEdge : Option Nat
  good : Nat
  /-- The rising and falling edges of SYNCO's pulses, newest first: a pulse can still stand when the next one rises. -/
  synco : List (Nat × Nat)
  deriving DecidableEq, Repr

/-- A forecast handed over by the link (R226), while the rail, the Innkeeper or Transit still acts on it. -/
structure Forecast where
  /-- Current step in amperes. -/
  deltaI : Int
  /-- The instant it reached its destinations (R220), and its due instant (R226), in fine steps. -/
  at_ : Nat
  dueAt : Nat
  /-- The modulator's window is open; it has closed, or is one forced fixed-frequency mode never opens (R128). -/
  windowOpen : Bool
  closed : Bool
  /-- The Innkeeper has taken note of its due instant (R253). -/
  due : Bool
  /-- Transit took the term at its first window: FP and DROOP0; and it acts on it (R201). -/
  term : Option (Int × Int)
  taken : Bool
  deriving DecidableEq, Repr

/-- Who a set-point transition answers to (R196, R235): the tag of its entry. -/
structure Trans where
  tag : BitVec 16
  met : BitVec 16
  deriving DecidableEq, Repr

/-- Transit and the sequencer of one rail (08_setpoints_sequencing.md). -/
structure TransitState where
  st : SeqState
  /-- State a stop began from (R207). -/
  origin : SeqState
  /-- Samples the delay or wake time now running has lasted. -/
  cnt : Nat
  /-- Samples since step 4 of the start, until the progress check (R210). -/
  grace : Option Nat
  /-- Samples of RAMP so far (R210). -/
  ramp : Nat
  /-- After SAFE_EXIT the request has yet to be seen false (R21). -/
  needOff : Bool
  /-- The request as last acted on. -/
  req : Bool
  /-- Profile position, velocity and acceleration, in u = 0.1 mV / 65536 (R192, R194). -/
  p : Int
  v : Int
  a : Int
  /-- Applied Horizon margin in u (R200). -/
  meff : Int
  /-- The transition under way: the latest SET or MARGIN entry not yet arrived (R198). -/
  trans : Option Trans
  /-- Slew override in force for the latest SET entry (R195). -/
  slewOvr : Nat
  /-- ON and OFF entries popped and not yet answered (R235). -/
  onOff : List Trans
  /-- Consecutive samples in window and out of window (R211). -/
  inCnt : Nat
  outCnt : Nat
  /-- PG has asserted since the rail's latest start (R286). -/
  pgSeen : Bool
  /-- Reference of the sample before, of the present sample (r[n-1], r[n]); r[n+1] is REFNOW.REF (R25). -/
  rPrev : Nat
  rCur : Nat
  /-- Forecast term f, and the FP, DROOP0 and samples since due it is formed from (R201). -/
  f : Int
  fterm : Option (Int × Int × Nat)
  /-- Samples since the rail was enabled, while its groups wake (R204). -/
  wake : Nat
  /-- The modulator is held in diode emulation by PREBIAS or STOPDE (R205, R206). -/
  holdDe : Bool
  deriving DecidableEq, Repr

/-- The modulator of one rail beside its registers (05_rail_modulator.md). -/
structure ModState where
  /-- Synthesizer accumulator (R118). -/
  acc : Int
  ripcode : Int
  /-- Hand-over offsets (R115, R135). -/
  thho : Int
  yho : Int
  dho : Int
  /-- Values latched for the present sample (R120). -/
  vsetc : Nat
  vinc : Nat
  trimi : Int
  /-- Consecutive good lock measurements (R130) and sequence boundaries left of the PLL freeze. -/
  lockGood : Nat
  lockFreeze : Nat
  /-- TON of the present sample before per-phase trims (R120). -/
  ton : Int
  /-- Blanking runs; a launch waits for OVL, and whether continued demand issued it (R116, R117). -/
  blanking : Bool
  waiting : Bool
  waitCont : Bool
  /-- The instant of the hand-over to forced fixed-frequency mode, in fine steps (R133). -/
  ffRef : Nat
  /-- A forced sequence boundary waits for the delivery of the launch in flight (R126). -/
  forcePend : Bool
  /-- The ring phase whose period boundary came last in forced fixed-frequency mode (R135). -/
  lastPh : Option (Fin 48)
  /-- Consecutive launches by continued demand (R127). -/
  cont : Nat
  /-- Launches issued, not yet delivered (R116, R125). -/
  inFlight : List Launch
  pos : Nat
  /-- A ring commit or rewrite waits, and for how many samples (R126). -/
  seqPend : Bool
  seqWait : Nat
  /-- Samples the rail current has stayed at or below DEENTER (R131). -/
  deDwell : Nat
  /-- A hand-over out of diode emulation is requested by onset entry or a forecast window (R127, R131). -/
  deExit : Bool
  fc : Option Forecast
  deriving DecidableEq, Repr

/-- The graph of one rail beside its registers (06_loop_engine.md). -/
structure GraphState where
  /-- Stage states s0-s3, and v last formed (R146, R148). -/
  st : Vector (Vector (BitVec 32) 4) 16
  v : Vector (BitVec 32) 16
  /-- Output register, to be loaded at the next boundary (R142). -/
  y : BitVec 32
  /-- The next computed sample is marked for initialisation (R150). -/
  mark : Bool
  /-- Latest code of the fast error converter (R11). -/
  code : Int
  /-- Inputs latched for the present frame: x, EPH correction, VINC (R145). -/
  x : Int
  eph : Int
  /-- The WINDOW flag of the sample just ended, and whether a negative code set it (R11, R210). -/
  win : Bool
  winNeg : Bool
  /-- x and the latest code as the Plate nodes hold them through a lane move (R344). -/
  nodes : Option (Int × Int)
  /-- Half-frame held: lane and half (R139); none when the rail holds none. -/
  place : Option (Fin 5 × Bool)
  /-- The lane a move takes the rail to, and the half (R164). -/
  moveTo : Option (Fin 5 × Bool)
  /-- The program has been copied into the target lane. -/
  copied : Bool
  /-- The move has no spare: its rails were spread (R164 step 3). -/
  spread : Bool
  /-- The rail was latched off with cause NOLANE: only an image places it again (R139, R165). -/
  noLane : Bool
  deriving DecidableEq, Repr

/-- What the current group latches at the start of an outer period (R32, R169-R174): the ring and the tail, IPH of every
phase, which phases were sighted, T_g of the groups with a valid sensor, the integrators and epochs the period starts with,
and the settings its results are formed with. -/
structure CurrentIn where
  ring : List (Fin 48)
  tail : List (Fin 48)
  iph : Vector Int 48
  seen : Vector Bool 48
  tg : Vector (Option Int) 6
  cbi : Vector Int 48
  epoch : Vector (BitVec 8) 48
  llr : Nat
  cbki : Nat
  cbkp : Nat
  cbleak : Nat
  cblim : Nat
  tsk : Nat
  tslim : Nat
  deriving DecidableEq, Repr

/-- The outer loops of one rail beside its registers (07_outer_loops.md). -/
structure OuterState where
  /-- Inner samples since the current group's and Horizon's outer period began (R32). -/
  ci : Nat
  ch : Nat
  /-- Inputs of the current-group period under way, none before the first one (R32). -/
  inp : Option CurrentIn
  /-- Droop, OUT1 and OUT3 as last published (R168, R174). -/
  droopR : Int
  droopE : Int
  out1 : Int
  out3 : Int
  cbi : Vector Int 48
  blindFrozen : Vector Bool 48
  /-- The phase took part in the period now running (R173). -/
  joined : Vector Bool 48
  clCount : Nat
  /-- Slack reports that no boundary has acted on yet: their instants of arrival, in fine steps, and slacks (R27, R228). -/
  reports : List (Nat × Int)
  /-- Smallest slack among the reports that became eligible in the period (R179). -/
  smin : Option Int
  /-- The smallest slack latched at the start of the present Horizon period, and whether one is under way (R32). -/
  sminL : Option Int
  freshH : Bool
  /-- Instants of events that set M to 0 at step 2 of the first window they are eligible for (R27, R181), in fine steps. -/
  mZero : List Nat
  /-- CAPACITY_LOW was sent since the latest arrival (R180). -/
  capLowSent : Bool
  /-- Endpoints that have reported since the last arrival (R181): bit 4p + e. -/
  reported : BitVec 8
  /-- The period's results are discarded: a sample was held (R191); of the current group, and of Horizon. -/
  spoiled : Bool
  spoiledH : Bool
  deriving DecidableEq, Repr

/-- The Ephemeris of one rail beside its registers and table (07_outer_loops.md). -/
structure EphState where
  ph : BitVec 32
  /-- Period in force, in ns; none when no period has been taken. -/
  t : Option Nat
  /-- Samples learning stays frozen (R187). -/
  settle : Nat
  /-- PERIOD messages that no boundary has acted on yet: the instant of arrival in fine steps, the period, none for one that gave
  none, and the alignment flag (R27, R188, R227). -/
  msgs : List (Nat × Option Nat × Bool)
  /-- PH becomes 0, the table is cleared, at the next boundary (R188, R190). -/
  zero : Bool
  clear : Bool
  /-- Stamp of the last EVSRC edge in fine steps (R188). -/
  edge : Option Nat
  deriving DecidableEq, Repr

/-- Protection timers of one rail (11_protection.md). -/
structure ProtState where
  ov : Nat
  ovDone : Bool
  uv : Nat
  uvDone : Bool
  /-- Low side held on after a RAILOV disable (R284). -/
  ovLow : Bool
  /-- A soft stop of a class 5 response is under way (R284). -/
  safeStop : Bool
  /-- SENSELOST has been declared for the converters the rail has lost (R292). -/
  senseLost : Bool
  deriving DecidableEq, Repr

/-- The Innkeeper's view of one rail beside its registers (10_innkeeper.md). -/
structure InnRail where
  /-- Base order of the rail's phases (R248). -/
  base : List (Fin 48)
  /-- The phases the latest add or shed wants active, while no rewrite carries it yet (R250-R253). -/
  want : Option (List (Fin 48))
  /-- A formed rewrite that waits for its sequence boundary: the working-pool phases it makes active (R252). -/
  rewrite : Option (List (Fin 48))
  /-- The instant at which it, or the last decision merged into it, completed (R126, R252), in fine steps. -/
  rewriteAt : Nat
  /-- The retirements it carries, and the promotions: retired phase, spare (R256). -/
  ret : List (Fin 48)
  promo : List (Fin 48 × Fin 48)
  /-- Publications the shed condition has stood (R250). -/
  shedCnt : Nat
  /-- Publications since a forecast's due instant (R253). -/
  sinceDue : Nat
  /-- The capacity last reported (R254). -/
  cap : Option Nat
  /-- Sum test: consecutive publications out of agreement (R258). -/
  sumBad : Nat
  /-- A forecast whose due instant is still to come (R253). -/
  fcPending : Bool
  /-- Phases the forecast added. -/
  fcAdded : List (Fin 48)
  deriving DecidableEq, Repr

/-- One rail. -/
structure RailState where
  tr : TransitState
  md : ModState
  gr : GraphState
  ol : OuterState
  ep : EphState
  pr : ProtState
  ink : InnRail
  /-- SAMPLE writes waiting for the boundary: the instant of completion, address and word, in completion order (R27, R28
  step 5). -/
  sample : List (Nat × Nat × Word)
  /-- The instants at which the entries of the rail's queue completed, oldest first (R27). -/
  pushed : List Nat
  deriving DecidableEq, Repr

/-- What the health and calibration area keeps of one phase (R244, R255, R261, R262), the counters' remainders included. -/
structure PhaseHealth where
  rcause : Nat
  testres : Nat
  blind : Bool
  worn : Bool
  drift : Bool
  ah : Nat
  pulses : Nat
  hot : Nat
  tcyc : Nat
  wear : Nat
  zdrift : Int
  ahFrac : Nat
  plFrac : Nat
  hotFrac : Nat
  deriving DecidableEq, Repr

/-- The health and calibration area (R67, R262, R289, R325). -/
structure Health where
  phase : Vector PhaseHealth 48
  cmpRetired : BitVec 128
  icRetired : BitVec 7
  laneRetired : BitVec 5
  pllRetired : BitVec 2
  bootcnt : Nat
  secs : Nat
  deriving DecidableEq, Repr

/-- A Ledger record (R334); `snap` holds bytes 40h-A1h, `event` bytes 20h-3Fh. -/
structure LedgerRec where
  seq : Nat
  rtype : Nat
  tbdisc : Bool
  notb : Bool
  dstate : Nat
  secs : Nat
  bootcnt : Nat
  tb : Nat
  dropped : Nat
  fine : Nat
  event : List Byte
  snap : List Byte
  deriving DecidableEq, Repr

/-- A write waiting in Q15 (R332): a Ledger record, pinned or not, the counters and flags of the health area, one
retirement, or a host NV word. -/
inductive NvWrite
  | record (r : LedgerRec) (pin : Bool)
  | health
  | retire (chan : Nat) (index : Nat) (cause : Nat)
  | hostWord (index : Nat) (w : Word)
  deriving DecidableEq, Repr

/-- The non-volatile store beside its registers, the image slots and the secure bank (R329-R337). -/
structure NvState where
  health : Health
  hnv : SMap Word
  /-- The ring, newest record first, 240 at most (R333). -/
  ring : List LedgerRec
  pinned : Option LedgerRec
  /-- Sequence numbers of records that read as bad (R329, R334). -/
  bad : List Nat
  /-- The pinned copy reads as bad; words of the host NV area found uncorrectable (R329). -/
  pinBad : Bool
  hnvBad : List Nat
  nextSeq : Nat
  /-- Records dropped since the last one written (R332). -/
  dropped : Nat
  /-- A PLL changeover since the last record's stamp (R334, TBDISC). -/
  disc : Bool
  q15 : List NvWrite
  /-- Health and retirement writes and the alarm's record that wait for room in Q15 (R372, R389). -/
  waiting : List NvWrite
  /-- Records of events raised in OFF or BOOT, written after entry to STANDBY or SAFE (R335). -/
  deferred : List (LedgerRec × Bool)
  /-- A record load in progress (R337). -/
  reading : Option Nat
  /-- What that load finds in the MRAM (R329). -/
  found : ReadFind
  /-- The record LG_WIN shows. -/
  win : Option LedgerRec
  winPin : Bool
  /-- Spare sectors left, remaps, SECS of the last completed scrub pass (NV_STATUS, NV_SCRUB: "Remap table"). -/
  spare : Nat
  remaps : Nat
  /-- Writes of each logical sector since its present physical one was taken (R330). -/
  writes : SMap Nat
  lastScrub : Nat
  /-- SECS at the last entry to STANDBY or SAFE from BOOT (R331). -/
  ready : Nat
  /-- The scrub's next sector, while a pass runs (R331). -/
  scrub : Option Nat
  /-- Sectors a word of which this pass, and the pass before, corrected (R330). -/
  corrNow : List Nat
  corrPrev : List Nat
  deriving DecidableEq, Repr

/-- The secure bank (R387): its two copies hold the same, so the content stands here once. -/
structure SecureBank where
  /-- Keys 0-3 and the unlock key, 4. -/
  keys : Vector (Option (BitVec 256)) 5
  provisioned : Bool
  floor : Nat
  ucnt : BitVec 32
  failcnt : Nat
  /-- SECS at which the lockout ends (R386). -/
  lockEnd : Nat
  /-- The per-unit test data; neither its length nor its content is given. -/
  test : List Byte
  deriving DecidableEq, Repr

/-- An open session (R385). -/
structure Session where
  holder : Master
  scopes : BitVec 8
  /-- Seconds of SECS left. -/
  left : Nat
  deriving DecidableEq, Repr

/-- A nonce that awaits SUBMIT (R384). -/
structure Nonce where
  value : BitVec 128
  by_ : Master
  scopes : BitVec 8
  sess : Nat
  deriving DecidableEq, Repr

/-- The Gatehouse beside its registers (15_queues_gatehouse.md). -/
structure GateState where
  bank : SecureBank
  session : Option Session
  nonce : Option Nonce
  resp : Vector Word 4
  keyw : Vector Word 8
  /-- GRANT of the DBG access status: the last access of DBG was not refused by the Gatehouse (R381). -/
  grant : Bool
  deriving DecidableEq, Repr

/-- JTAG instructions (R388). -/
inductive JtagIr
  | bypass | idcode | samplePreload | extest
  deriving DecidableEq, Repr

/-- Role, epoch and tests of one phase (R243-R264). -/
structure RoleState where
  role : Role
  /-- Latest current conversion of the phase, 12-bit code (R169, R258). -/
  code : Nat
  /-- Sum and number of its conversions in the present outer period (R169). -/
  isum : Nat
  icnt : Nat
  /-- Consecutive near-zero pulses (R257), and consecutive conversions of 000h or FFFh (R258 test 1). -/
  near : Nat
  stuckN : Nat
  /-- The filtered loss index q_n in 1/16 °C (R260). -/
  heat : Int
  /-- Role before a phase test (R263). -/
  before : Role
  epoch : BitVec 8
  /-- Phase test: period boundaries run, readings summed, sum of the readings (R263). -/
  testRun : Nat
  testSum : Int
  testCnt : Nat
  /-- Test 1 of R258 failed during the phase test. -/
  stuck : Bool
  /-- Charge below one A.h, pulses below 2^20, hot time below 8 h (R261). -/
  ahFrac : Nat
  plFrac : Nat
  hotFrac : Nat
  /-- Thermal cycle detector: last extreme and direction (R261). -/
  cycExt : Option Int
  cycUp : Bool
  /-- Readings averaged for the zero drift: their sum and number (R261). -/
  zSum : Nat
  zCnt : Nat
  deriving DecidableEq, Repr

/-- Strikes within the window, per channel (R289). -/
structure Strikes where
  phase : Vector Nat 48
  cmp : Vector Nat 128
  ic : Vector Nat 7
  lane : Vector Nat 5
  pll : Vector Nat 2
  deriving DecidableEq, Repr

/-- A PLL (R293): locked, or restarted and not yet relocked. -/
structure PllState where
  locked : Vector Bool 2
  restarting : Vector Bool 2
  deriving DecidableEq, Repr

/-- One Plate beside its registers (R338-R342). -/
structure PlateRun where
  st : PlateState
  /-- Base ticks since the last stored sample, and the sums of DECMODE 1. -/
  ticks : Nat
  sums : List Int
  /-- Samples held, oldest first, each a word per channel. -/
  buf : List (List Word)
  /-- Pre-trigger samples held (PREGOT). -/
  pre : Nat
  /-- A trigger came; the next stored sample is the trigger sample. -/
  trig : Bool
  /-- Samples still to store after the trigger sample was stored. -/
  left : Nat
  /-- The instant the Plate was armed, in fine steps (R340). -/
  at_ : Nat
  /-- NCHC the Plate was armed with: it lays out the samples held until the Plate is next armed (R341). -/
  nchc : Nat
  /-- Occurrences of the base that PLATE_TICK has yet to take (R338). -/
  owed : Nat
  /-- A PLL changeover fell since the arming (R113). -/
  gap : Bool
  deriving DecidableEq, Repr

/-- A temperature sensor as the fault manager sees it (R287): TSEN0-TSEN7, then the junction. -/
structure SensorState where
  /-- OTW may be raised (the reading has fallen since the last time). -/
  armed : Bool
  /-- OTS declared in this episode. -/
  done : Bool
  /-- The timer runs: the reading is at or above the threshold. -/
  hot : Bool
  /-- Converted since BOOT, and the last reading was valid (R324). -/
  seen : Bool
  valid : Bool
  /-- The filter's value, none before the first valid conversion (R322, R324). -/
  filt : Option Int
  deriving DecidableEq, Repr

/-- The main converter beside its registers (R321, R322, R327, R328). -/
structure ConvState where
  /-- Frame of the 1 ms round, 0-99. -/
  frame : Nat
  /-- Turns of the ISEN cross-check, and of the spare comparators. -/
  isenTurn : Vector Nat 6
  spareTurn : Nat
  /-- Channels converted since BOOT. -/
  done : BitVec 96
  sensor : Vector SensorState 9
  /-- Bases of the efficiency window: EIN, and the sum of ERAIL. -/
  effEin : Int
  effEr : Int
  deriving DecidableEq, Repr

/-- What an endpoint's duplicate memory holds beside the fields LNK[p].EP[e].LAST shows (R223). -/
structure DupMem where
  arg : BitVec 8
  data : BitVec 16
  resp : BitVec 16
  deriving DecidableEq, Repr

/-- A response on the link (R219): ACK, tag echo, data, CRC-8. -/
structure Response where
  ack : Nat
  tag : BitVec 4
  data : BitVec 16
  crc : Byte
  deriving DecidableEq, Repr

/-- One port of the Fjovy link beside its registers (09_fjovy_link.md). -/
structure PortState where
  dup : Vector (Option DupMem) 4
  /-- The response to the port's last frame; none where the port did not answer. -/
  resp : Option Response
  deriving DecidableEq, Repr

/-- The PMBus status latches of one rail (R363). -/
structure RailLatches where
  vout : BitVec 8
  iout : BitVec 8
  input : BitVec 8
  temp : BitVec 8
  deriving DecidableEq, Repr

/-- A write transaction of a host port that still waits for bytes: its command code, its bytes after the code so far, and
PECEN as it stood at its START (R350, R369; HP[x].CTL). -/
structure OpenWrite where
  code : Byte
  bytes : List Byte
  pecen : Bool
  deriving DecidableEq, Repr

/-- One two-wire port beside its registers (14_host_ports.md). -/
structure HostPort where
  /-- The write the port has open, waiting for its next byte (R351, R354, R369). -/
  part : Option OpenWrite
  /-- The queue whose head the port's open pop transaction holds (R356). -/
  hold : Option (Fin 16)
  /-- Copies of the entries last removed from Q11-Q14 (R356). -/
  copies : Vector (Option QEntry) 4
  /-- STATUS_CML (R363). -/
  cml : BitVec 8
  /-- The bytes the controller sent in the last transaction, and whether it NACKed one of the host's. -/
  sent : List Byte
  nacked : Bool
  deriving DecidableEq, Repr

/-- What the Night Porter keeps beside its registers (R300, R301, R314-R316). -/
structure NightPorter where
  /-- Presence watches of feeds A and B. -/
  watch : Vector Bool 2
  /-- ORAGATE and ORBGATE driven on. -/
  gate : Vector Bool 2
  /-- HSGATE driven on. -/
  hs : Bool
  /-- Copies of RETRIES, RWAIT, RGOOD (R314), and of FEEDMODE and FEEDEN, last in force (R302). -/
  retries : Nat
  rwait : Nat
  rgood : Nat
  feedmode : Nat
  feeden : Nat
  /-- VFWD last in force, kept by the feed controllers in OFF (R302). -/
  vfwd : Nat
  /-- No BOOT since VAON rose: the next BOOT is a cold insertion (R314). -/
  cold : Bool
  /-- Night Porter gate faults the next BOOT records (R316). -/
  toRecord : Bool
  /-- The instant REMWAIT was last brought up to date, none where the time base has restarted since; and whether that was
  within a second of SECS (R314). -/
  remAt : Option Nat
  remMid : Bool
  deriving DecidableEq, Repr

/-- The Porter beside its registers (12_porter.md). -/
structure PorterState where
  /-- VT in half codes of 2 mV (R305). -/
  vt : Nat
  brk : Nat
  theta : Vector Int 3
  /-- Consecutive steps with HVIN - VBULK at or below 0.5 V (R304). -/
  near : Nat
  /-- The input has been present for the insertion delay since DEBOUNCE was entered (R304, R316). -/
  debounced : Bool
  /-- To be acted on at step 5 of the next model step: the fast trip acted (R309), C113 tripped in INRUSH or ON, HSSHORT
  with HSOPEN 1, INRTMO ms passed in INRUSH (R305), CLRLATCH written in LATCHED (R304). -/
  fast : Bool
  inov : Bool
  short : Bool
  late : Bool
  clr : Bool
  /-- FETWARN may be raised (R311). -/
  warnArmed : Bool
  /-- SECS at which FEEDOFF was last raised, per feed (R312). -/
  raised : Vector (Option Nat) 2
  /-- EIN in 1/1,600,000 mJ and ERAIL in 1/64,000,000 mJ, remainders included (R319). -/
  ein : Int
  erail : Vector Int 8
  /-- PL as last computed, in 1/16 W (R318). -/
  pl : Int
  /-- The Porter drives the gates: an image has been applied since OFF (R315). -/
  inCharge : Bool
  deriving DecidableEq, Repr

/-- What the comparator checks and the current-converter cross-check keep (R274, R292). -/
structure CheckState where
  /-- The last consistency check of the comparator found a disagreement. -/
  cmpBad : BitVec 128
  /-- Results of the last 16 cross-checks of each converter, newest first: the phase that disagreed. -/
  ic : Vector (List (Option (Fin 48))) 7
  /-- The function each spare comparator C120-C127 served when it was retired (R291). -/
  served : Vector (Option Nat) 8
  /-- Since when the measured temperature of each stage group has been too far from the estimated one (R258 test 2, R260), in
  fine steps. -/
  warm : Vector (Option Nat) 6
  deriving DecidableEq, Repr

/-- Why a command cannot be run: no command of this part meets a fault of the model; every error the spec describes is
an effect on State (a status flag, a refused result, a fault-manager event). -/
inductive Fault
  deriving DecidableEq, Repr

/-- What the model refuses. -/
inductive Refusal
  /-- A command without a meaning yet; raised by `exec` alone. Safe: nothing is concluded of it. -/
  | notModelled (mnemonic : String)
  deriving DecidableEq, Repr

/-- The whole block. -/
structure State where
  sup : Supplies
  dev : DevState
  /-- TBCOUNT (R112), and the fine step within the tb at which the last timed command came (R113). -/
  tb : BitVec 48
  fine : BitVec 4
  /-- TBCOUNT latched at the last SECS increment (R326). -/
  secMark : BitVec 48
  hi : Vector HiLatch 6
  /-- A PLL changeover since the unit's last stamp or its enabling (R113). -/
  capDisc : BitVec 32
  regs : RegFile
  img : ImageMgr
  phase : Vector PhaseState 48
  role : Vector RoleState 48
  sync : SyncState
  /-- The latest changes of SEQGRP[g].CTL.GEN, newest first: the instant in fine steps and the value before (R27, R209). -/
  genHist : Vector (List (Nat × Bool)) 4
  rail : Vector RailState 8
  queue : Vector (List QEntry) 16
  /-- Ephemeris table entries 0-16383 (R183). -/
  ephTab : SMap (BitVec 16)
  strikes : Strikes
  pll : PllState
  nv : NvState
  conv : ConvState
  plate : Vector PlateRun 4
  /-- An export in progress: the Plate and the next entry (R343). -/
  exp : Option (Fin 4 × Nat)
  /-- Enabled interrupt bits as last evaluated (R378). -/
  evSeen : BitVec 32
  gate : GateState
  jtag : JtagIr
  port : Vector PortState 2
  host : Vector HostPort 2
  /-- HPB lost arbitration and waits to start again (R366). -/
  masterWait : Bool
  latches : Vector RailLatches 8
  np : NightPorter
  pt : PorterState
  chk : CheckState
  /-- The last four VINFF conversions, newest first, and whether that converter has failed (R119). -/
  vinff : List Nat
  vinffFailed : Bool
  /-- The word the last register read returned to its master (R397, R398). -/
  answer : Word
  /-- Free-value counter: the model's own field, not the spec's. -/
  free : Nat
  pending : List Instr
  deriving DecidableEq, Repr

/-! ### Reset -/

/-- An upper-half latch at reset. -/
def HiLatch.reset : HiLatch := ⟨0, 0, 0, .replicate 8 0⟩

/-- Supplies and pins at reset: every supply good, RESET# high, straps three-level and low (DESIGN CHOICE). -/
def Supplies.reset : Supplies :=
  { vcore := true, vdd33 := true, vaon := true, vioh := true, viol := true, hvin := true, resetHigh := true,
    smod := .replicate 6 .threeLevel, addr0 := some 0, addr1 := some 0, addrWait := false, bootsel := false,
    en := .replicate 8 false, enHist := .replicate 8 [], tripPin := .replicate 4 false, groupAwake := .replicate 6 false,
    sleep := false, wake := none }

/-- An empty image slot (R71: CAUSE 1h). -/
def Slot.reset : Slot := ⟨[], [], false, false, false, none, none, 1, false, 0, 0⟩

/-- The image manager of a part without an image. -/
def ImageMgr.reset : ImageMgr :=
  { slots := .replicate 2 Slot.reset, openSlot := none, running := none, verifying := none,
    staging := [], armed := [], cancelled := [], held := false, applied := false, calFailed := false, found := ⟨[], []⟩ }

/-- A phase whose block is stopped. -/
def PhaseState.reset : PhaseState :=
  { out := .off, dead := .none, full := false, started := false, limited := false, delayed := none,
    modeOver := none, dutyShadow := none, dutyActive := none, ffFirst := false, bound := none, offAt := none, ends := [],
    ofsOver := none, ofsNext := none, hist := [], watched := false, boundary := [], shCount := 0, clearPend := false, holdClear := false, holdRetire := false, holdAt := none, digOc := false, modelReq := false, modelOc := false,
    neighbour := false, de := false, alignErr := 0, alignAdj := 0, tail := none }

/-- Transit of a rail in OFF. -/
def TransitState.reset : TransitState :=
  { st := .off, origin := .off, cnt := 0, grace := none, ramp := 0, needOff := false, req := false, p := 0, v := 0,
    a := 0, meff := 0, trans := none, slewOvr := 0, onOff := [], inCnt := 0, outCnt := 0, pgSeen := false, rPrev := 0, rCur := 0, f := 0,
    fterm := none, wake := 0, holdDe := false }

/-- The modulator of a rail in OFF. -/
def ModState.reset : ModState :=
  { acc := 0, ripcode := 0, thho := 0, yho := 0, dho := 0, vsetc := 0, vinc := 0, trimi := 0, lockGood := 0,
    lockFreeze := 0, ton := 0, blanking := false, waiting := false, waitCont := false,
    ffRef := 0, forcePend := false, lastPh := none, cont := 0, inFlight := [], pos := 0, seqPend := false,
    seqWait := 0, deDwell := 0, deExit := false, fc := none }

/-- The graph of a rail in OFF. -/
def GraphState.reset : GraphState :=
  { st := .replicate 16 (.replicate 4 0), v := .replicate 16 0, y := 0, mark := false, code := 0, x := 0,
    eph := 0, win := false, winNeg := false, nodes := none, place := none, moveTo := none, copied := false, spread := false, noLane := false }

/-- The outer loops of a rail in OFF. -/
def OuterState.reset : OuterState :=
  { ci := 0, ch := 0, inp := none, droopR := 0, droopE := 0, out1 := 0, out3 := 0, cbi := .replicate 48 0,
    blindFrozen := .replicate 48 false, joined := .replicate 48 false, clCount := 0, reports := [], smin := none, sminL := none,
    freshH := false, mZero := [], capLowSent := false,
    reported := 0, spoiled := false, spoiledH := false }

/-- The Ephemeris of a rail at BOOT. -/
def EphState.reset : EphState :=
  { ph := 0, t := none, settle := 0, msgs := [], zero := false, clear := false, edge := none }

/-- The protection timers of a rail at BOOT. -/
def ProtState.reset : ProtState :=
  { ov := 0, ovDone := false, uv := 0, uvDone := false, ovLow := false, safeStop := false, senseLost := false }

/-- The Innkeeper's view of a rail without an image. -/
def InnRail.reset : InnRail :=
  { base := [], want := none, rewrite := none, rewriteAt := 0, ret := [], promo := [], shedCnt := 0, sinceDue := 256, cap := none, sumBad := 0, fcPending := false,
    fcAdded := [] }

/-- A rail at BOOT. -/
def RailState.reset : RailState :=
  { tr := .reset, md := .reset, gr := .reset, ol := .reset, ep := .reset, pr := .reset, ink := .reset, sample := [], pushed := [] }

/-- A phase no test has run on. -/
def RoleState.reset : RoleState :=
  { role := .unassigned, code := 0, isum := 0, icnt := 0, near := 0, stuckN := 0, heat := 0, before := .unassigned, epoch := 0, testRun := 0, testSum := 0, testCnt := 0,
    stuck := false, ahFrac := 0, plFrac := 0,
    hotFrac := 0, cycExt := none, cycUp := false, zSum := 0, zCnt := 0 }

/-- The health and calibration area of a new part. -/
def Health.reset : Health :=
  { phase := .replicate 48 ⟨0, 0, false, false, false, 0, 0, 0, 0, 0, 0, 0, 0, 0⟩, cmpRetired := 0, icRetired := 0, laneRetired := 0,
    pllRetired := 0, bootcnt := 0, secs := 0 }

/-- The non-volatile store of a new part (R330, R333: 64 spare sectors, no record). -/
def NvState.reset : NvState :=
  { health := .reset, hnv := [], ring := [], pinned := none, bad := [], pinBad := false, hnvBad := [], nextSeq := 1, dropped := 0, disc := false,
    q15 := [], waiting := [], deferred := [], reading := none, found := ⟨[], []⟩, win := none, winPin := false, spare := 64, remaps := 0, writes := [],
    lastScrub := 0, ready := 0, scrub := none, corrNow := [], corrPrev := [] }

/-- The Porter before it takes over the gates. -/
def PorterState.reset : PorterState :=
  { vt := 0, brk := 0, theta := .replicate 3 0, near := 0, debounced := false, fast := false, inov := false,
    short := false, late := false, clr := false, warnArmed := true, raised := .replicate 2 none, ein := 0, erail := .replicate 8 0,
    pl := 0, inCharge := false }

/-- The secure bank of a part that is not provisioned (R387). -/
def SecureBank.reset : SecureBank := ⟨.replicate 5 none, false, 0, 0, 0, 0, []⟩

/-- The whole block right after reset, a cold start: BOOT, every register at its reset value, but NP_SECS at one more than the larger of the
saved value and the newest record's, which are 0 (R325); no image, nothing waiting. -/
def State.reset : State :=
  { sup := .reset, dev := .boot, tb := 0, fine := 0, secMark := 0, hi := .replicate 6 .reset, capDisc := 0, regs := [(0x020000, 1)],
    img := .reset, phase := .replicate 48 .reset, role := .replicate 48 .reset,
    sync := ⟨0, none, 0, []⟩, genHist := .replicate 4 [], rail := .replicate 8 .reset, queue := .replicate 16 [], ephTab := [],
    strikes := ⟨.replicate 48 0, .replicate 128 0, .replicate 7 0, .replicate 5 0, .replicate 2 0⟩,
    pll := ⟨.replicate 2 false, .replicate 2 false⟩, nv := .reset,
    conv := ⟨0, .replicate 6 0, 0, 0, .replicate 9 ⟨true, false, false, false, false, none⟩, 0, 0⟩,
    plate := .replicate 4 ⟨.idle, 0, [], [], 0, false, 0, 0, 3, 0, false⟩, exp := none, evSeen := 0,
    gate := ⟨.reset, none, none, .replicate 4 0, .replicate 8 0, false⟩, jtag := .idcode,
    port := .replicate 2 ⟨.replicate 4 none, none⟩,
    host := .replicate 2 ⟨none, none, .replicate 4 none, 0, [], false⟩, masterWait := false,
    latches := .replicate 8 ⟨0, 0, 0, 0⟩,
    np := { watch := .replicate 2 false, gate := .replicate 2 false, hs := false, retries := 3, rwait := 1000,
            rgood := 60, feedmode := 0, feeden := 3, vfwd := 1, cold := true, toRecord := false, remAt := none, remMid := false },
    pt := PorterState.reset,
    chk := ⟨0, .replicate 7 [], .replicate 8 none, .replicate 6 none⟩, vinff := [], vinffFailed := false, answer := 0, free := 0, pending := [] }

end Sys2Proof.Machine
end

