-- ==== Sys2Proof/Machine/Operands.lean ====
section
/-!
DEFINITION. The arithmetic of the spec's operands: clamping, saturation, wrapping, scaled products (R144), integer
square root (R194), counts that hold at their maximum, and little-endian bytes (R60).
-/

namespace Sys2Proof.Machine

/-- clamp(x, lo, hi) of the pseudocode. -/
def clampInt (x lo hi : Int) : Int := max lo (min x hi)

/-- The sign of x: -1, 0 or 1. -/
def signInt (x : Int) : Int := if 0 < x then 1 else if x < 0 then -1 else 0

/-- Arithmetic shift right of an exact integer: floor (R144). -/
def asr (x : Int) (n : Nat) : Int := x / (2 ^ n : Int)

/-- x reduced to 32 bits, two's complement (R144, low32). -/
def low32 (x : Int) : Int := (BitVec.ofInt 32 x).toInt

/-- T(a, c, sh) = low32((a * c) >> sh) (R144). -/
def scaled (a c : Int) (sh : Nat) : Int := low32 (asr (a * c) sh)

/-- Limit to ±(2^31 - 1) (R118, sat32). -/
def sat32 (x : Int) : Int := clampInt x (-2147483647) 2147483647

/-- Limit to -32768 .. 32767 (R186, sat16). -/
def sat16 (x : Int) : Int := clampInt x (-32768) 32767

/-- Binary search for the floor square root, from the given power of two down. -/
def isqrtFrom : Nat → Nat → Nat → Nat
  | 0, _, r => r
  | k + 1, n, r => isqrtFrom k n (if (r + 2 ^ k) * (r + 2 ^ k) ≤ n then r + 2 ^ k else r)

/-- The exact floor square root of a number below 2^128 (R194, isqrt). -/
def isqrt (n : Nat) : Nat := isqrtFrom 64 n 0

/-- A count of width w that holds at its maximum. -/
def incHold (w n : Nat) : Nat := min (n + 1) (2 ^ w - 1)

/-- a / b rounded up. -/
def ceilDiv (a b : Nat) : Nat := (a + b - 1) / b

/-- Little-endian bytes of a number, n of them (R60). -/
def leBytes : Nat → Nat → List Byte
  | 0, _ => []
  | n + 1, x => BitVec.ofNat 8 x :: leBytes n (x / 256)

/-- The number little-endian bytes spell. -/
def leNat : List Byte → Nat
  | [] => 0
  | b :: bs => b.toNat + 256 * leNat bs

/-- The first n bytes of a list, padded with 00h. -/
def padTo : Nat → List Byte → List Byte
  | 0, _ => []
  | n + 1, [] => 0 :: padTo n []
  | n + 1, b :: bs => b :: padTo n bs

/-- The frames per sample of a loop rate code (R23): 1, 2, 4, 8, 16. -/
def framesOf (rate : Nat) : Nat := 2 ^ rate

/-- The sample time in ns of a loop rate code (R23). -/
def tsNs (rate : Nat) : Nat := 250 * framesOf rate

/-- Element i of a vector. -/
abbrev vget {α : Type} {n : Nat} (v : Vector α n) (i : Fin n) : α := v[i.val]

/-- The vector with element i replaced. -/
abbrev vset {α : Type} {n : Nat} (v : Vector α n) (i : Fin n) (x : α) : Vector α n := v.set i.val x

/-- The indices of a bank of n, in rising order. -/
def allFin (n : Nat) : List (Fin n) := List.finRange n

end Sys2Proof.Machine
end

