-- ==== Sys2Proof/Machine/Ops.lean ====
section
/-!
DEFINITION. The shared operations over State: reading and writing fields of the register file, the banks of phases and
rails, queues (R370-R372), refusals (R83, R381), the event router (R374, R375, R378) and Ledger records (R332-R336).
-/

namespace Sys2Proof.Machine

/-! ### Registers -/

/-- The word held at an address. -/
def State.word (s : State) (a : Nat) : Word := s.regs.word a

/-- Hold a word at an address. -/
def State.setWord (s : State) (a : Nat) (w : Word) : State := { s with regs := s.regs.setWord a w }

/-- The value of a field, unsigned. -/
def State.g (s : State) (f : Fld) : Nat := getBits (s.word f.addr) f.lo f.w

/-- The value of a field, two's complement. -/
def State.gi (s : State) (f : Fld) : Int := toSigned f.w (s.g f)

/-- A one-bit field. -/
def State.gb (s : State) (f : Fld) : Bool := s.g f != 0

/-- Put a value, modulo its width, into a field. -/
def State.p (s : State) (f : Fld) (v : Nat) : State :=
  s.setWord f.addr (setBits (s.word f.addr) f.lo f.w v)

/-- Put a two's complement value into a field, wrapping. -/
def State.pi (s : State) (f : Fld) (v : Int) : State := s.p f (ofSigned f.w v)

/-- Set or clear a one-bit field. -/
def State.pb (s : State) (f : Fld) (b : Bool) : State := s.p f (if b then 1 else 0)

/-- Count once in a field that holds at its maximum. -/
def State.inc (s : State) (f : Fld) : State := s.p f (incHold f.w (s.g f))

/-- Count n times in a field that holds at its maximum. -/
def State.incBy (s : State) (f : Fld) (n : Nat) : State := s.p f (min (s.g f + n) (2 ^ f.w - 1))

/-! ### Banks -/

/-- Phase n beside its registers. -/
def State.ph (s : State) (n : Fin 48) : PhaseState := vget s.phase n

/-- Change phase n. -/
def State.modPh (s : State) (n : Fin 48) (f : PhaseState → PhaseState) : State :=
  { s with phase := vset s.phase n (f (s.ph n)) }

/-- Role, epoch and tests of phase n. -/
def State.rl (s : State) (n : Fin 48) : RoleState := vget s.role n

/-- Change role, epoch and tests of phase n. -/
def State.modRl (s : State) (n : Fin 48) (f : RoleState → RoleState) : State :=
  { s with role := vset s.role n (f (s.rl n)) }

/-- Rail k beside its registers. -/
def State.ra (s : State) (k : Fin 8) : RailState := vget s.rail k

/-- Change rail k. -/
def State.modRa (s : State) (k : Fin 8) (f : RailState → RailState) : State :=
  { s with rail := vset s.rail k (f (s.ra k)) }

/-- Change Transit's state of rail k. -/
def State.modTr (s : State) (k : Fin 8) (f : TransitState → TransitState) : State :=
  s.modRa k fun r => { r with tr := f r.tr }

/-- Change the modulator's state of rail k. -/
def State.modMd (s : State) (k : Fin 8) (f : ModState → ModState) : State :=
  s.modRa k fun r => { r with md := f r.md }

/-- Change the graph's state of rail k. -/
def State.modGr (s : State) (k : Fin 8) (f : GraphState → GraphState) : State :=
  s.modRa k fun r => { r with gr := f r.gr }

/-- Change the outer loops' state of rail k. -/
def State.modOl (s : State) (k : Fin 8) (f : OuterState → OuterState) : State :=
  s.modRa k fun r => { r with ol := f r.ol }

/-- Change the Ephemeris state of rail k. -/
def State.modEp (s : State) (k : Fin 8) (f : EphState → EphState) : State :=
  s.modRa k fun r => { r with ep := f r.ep }

/-- Change the protection state of rail k. -/
def State.modPr (s : State) (k : Fin 8) (f : ProtState → ProtState) : State :=
  s.modRa k fun r => { r with pr := f r.pr }

/-- Change the Innkeeper's state of rail k. -/
def State.modInk (s : State) (k : Fin 8) (f : InnRail → InnRail) : State :=
  s.modRa k fun r => { r with ink := f r.ink }

/-- Fold an operation over every index of a bank. -/
def forAll {n : Nat} (f : State → Fin n → State) (s : State) : State := (allFin n).foldl f s

/-- Fold an operation over a list. -/
def forEach {α : Type} (f : State → α → State) (l : List α) (s : State) : State := l.foldl f s

/-! ### The clock -/

/-- The present instant in fine steps: TBCOUNT and the fine step (R113). -/
def State.clock (s : State) : Nat := 16 * s.tb.toNat + s.fine.toNat

/-- A timed command comes at instant t, and the time base has counted up to it; in OFF the time base is stopped (R112). -/
def State.atTime (t : Time) (s : State) : State :=
  if s.dev = .off then s else { s with tb := BitVec.ofNat 48 (t.toNat / 16), fine := BitVec.ofNat 4 t.toNat }

/-- One SYS cycle (10 ns, 8 tb) passes: a batch and a burst complete their words so far apart (R350, R355). -/
def State.sysStep (s : State) : State := s.atTime (BitVec.ofNat 52 (s.clock + 128))

/-- Fine steps from instant a to instant b; the count of instants wraps (R112). -/
def elapsed (a b : Nat) : Nat := (b + 2 ^ 52 - a % 2 ^ 52) % 2 ^ 52

/-- Fine steps from a to b, negative where b is the earlier of the two. -/
def between (a b : Nat) : Int := if elapsed a b < 2 ^ 51 then elapsed a b else (elapsed a b : Int) - 2 ^ 52

/-- At least w fine steps lie between instant c and the present one. -/
def State.atLeast (s : State) (w c : Nat) : Bool := decide ((w : Int) ≤ between c s.clock)

/-! ### Device state -/

/-- The core runs: the part is outside OFF (R15, R377). -/
def State.core (s : State) : Bool := s.dev != .off

/-- The device takes a state; a nonce lapses at any change of it (R19, R385). -/
def State.setDev (s : State) (d : DevState) : State :=
  if s.dev = d then s else { s with dev := d, gate := { s.gate with nonce := none } }

/-- STANDBY, RUN or LOCKDOWN: where a block not listed in R78 runs. -/
def State.running (s : State) : Bool := s.dev == .standby || s.dev == .run || s.dev == .lockdown

/-- The code of DEVICE_STATUS.STATE (R17); OFF cannot be read. -/
def DevState.code : DevState → Nat
  | .off => 0 | .boot => 1 | .standby => 2 | .run => 3 | .safe => 4 | .lockdown => 5

/-- The code of RAIL[k].TSTAT.STATE (R203). -/
def SeqState.code : SeqState → Nat
  | .off => 0 | .delay => 1 | .wake => 2 | .ramp => 3 | .on => 4
  | .stopdly => 5 | .stopping => 6 | .hiccup => 7 | .latched => 8

/-- The rail is enabled in this sequencing state (R203). -/
def SeqState.enabled : SeqState → Bool
  | .wake | .ramp | .on | .stopdly | .stopping => true
  | _ => false

/-- Sequencing state of rail k. -/
def State.st (s : State) (k : Fin 8) : SeqState := (s.ra k).tr.st

/-- Rail k is enabled (R78). -/
def State.enabled (s : State) (k : Fin 8) : Bool := (s.st k).enabled

/-- The code of a master in CFGERR.MASTER. -/
def masterCode : Master → Nat
  | .hpa => 0 | .hpb => 1 | .fl0 => 2 | .fl1 => 3 | .dbg => 4 | .sup => 5

/-- The master of host port x: HPA, HPB. -/
def hostMaster (x : Fin 2) : Master := if x.val = 0 then .hpa else .hpb

/-- The master of link port p: FL0, FL1. -/
def linkMaster (p : Fin 2) : Master := if p.val = 0 then .fl0 else .fl1

/-! ### Refusals -/

/-- Causes of CFGERR.CAUSE. -/
inductive CfgCause
  | halt | grpBusy | grpInvalid | state | slotBusy | imgCmd | range | activeFault
  deriving DecidableEq, Repr

/-- The code of a cause in CFGERR.CAUSE. -/
def CfgCause.code : CfgCause → Nat
  | .halt => 0 | .grpBusy => 1 | .grpInvalid => 2 | .state => 3
  | .slotBusy => 4 | .imgCmd => 5 | .range => 6 | .activeFault => 7

/-- A refusal is counted, and held in CFGERR unless one is held already (R83). -/
def cfgRefuse (m : Master) (c : CfgCause) (a : Nat) (s : State) : State :=
  let s1 := s.inc F.CFGERR_COUNT_COUNT
  if s1.gb F.CFGERR_VALID then s1
  else s1.setWord A.CFGERR (BitVec.ofNat 32 (2 ^ 31 + masterCode m * 2 ^ 28 + c.code * 2 ^ 24 + a % 2 ^ 24))

/-- A refusal of the Gatehouse is counted, and held in GH_DENY unless one is held already (R381). -/
def ghRefuse (m : Master) (kind a : Nat) (s : State) : State :=
  let s1 := s.inc F.GH_DENYCNT_COUNT
  if s1.gb F.GH_DENY_VALID then s1
  else s1.setWord A.GH_DENY (BitVec.ofNat 32 (2 ^ 31 + masterCode m * 2 ^ 28 + kind * 2 ^ 24 + a % 2 ^ 24))

/-! ### The event router -/

/-- EDGE selects this edge: 00b rising, 01b falling, 10b both (R374). -/
def edgeMatches (edge : Nat) (rising : Bool) : Bool :=
  if edge = 0 then rising else if edge = 1 then !rising else edge == 2

/-- Sticky bit i is set when its source shows the selected edge (R378). -/
def stickyEvent (src : Nat) (rising : Bool) (s : State) : State :=
  forAll (n := 16) (fun s i =>
    if s.g (F.EV_INT_SRC i.val) = src && edgeMatches (s.g (F.EV_INT_EDGE i.val)) rising then
      s.p F.EV_PEND_STICKY (s.g F.EV_PEND_STICKY ||| 2 ^ i.val)
    else s) s

/-- Change the run state of Plate p. -/
def State.modPl (s : State) (p : Fin 4) (f : PlateRun → PlateRun) : State :=
  { s with plate := vset s.plate p (f (vget s.plate p)) }

/-- A trigger for Plate p, taken when it is the first after arming: its stamp goes to TTS (R340). -/
def plateTrigger (p : Fin 4) (s : State) : State :=
  let r := vget s.plate p
  if r.st = .armed && !r.trig then
    let s1 := s.modPl p fun r => { r with trig := true }
    let s2 := s1.setWord (A.PL_TTSLO p.val) (BitVec.ofNat 32 s.tb.toNat)
    let s3 := s2.pb (F.PL_TTSHI_TVALID p.val) true
    ((s3.pb (F.PL_TTSHI_TBDISC p.val) r.gap).p (F.PL_TTSHI_TSHI p.val) (s.tb.toNat / 2 ^ 32)).p (F.PL_TTSHI_FINE p.val) s.fine.toNat
  else s

/-- An edge of a router source triggers the Plates whose TSRC is 1h and that select it (R340). -/
def plateEvent (src : Nat) (rising : Bool) (s : State) : State :=
  forAll (n := 4) (fun s p =>
    if s.g (F.PL_TRIG_TSRC p.val) = 1 && s.g (F.PL_TRIG_EVSRC p.val) = src
        && edgeMatches (s.g (F.PL_TRIG_EDGE p.val)) rising then plateTrigger p s
    else s) s

/-- A fault manager event of class c triggers the Plates whose TSRC is 3h and whose TCLS is c or below (R340). -/
def plateFault (c : Nat) (s : State) : State :=
  forAll (n := 4) (fun s p =>
    if s.g (F.PL_TRIG_TSRC p.val) = 3 && s.g (F.PL_TRIG_TCLS p.val) ≤ c then plateTrigger p s else s) s

/-- An occurrence of base BASE with index BIDX: each running Plate that selects it owes a base tick (R338), which
PLATE_TICK takes. -/
def plateBase (base idx : Nat) (s : State) : State :=
  forAll (n := 4) (fun s p =>
    if ((vget s.plate p).st == .armed || (vget s.plate p).st == .capturing) && s.g (F.PL_CTL_BASE p.val) == base
        && (base == 2 || s.g (F.PL_CTL_BIDX p.val) == idx) then s.modPl p fun r => { r with owed := r.owed + 1 }
    else s) s

/-- An edge of event-router source src (R374); the router runs only while the core runs (R377). A source occurs at its rising
edges: a momentary one has no other, and a level one is taken so for the ticks of R338 (DEDUCED, log entry 132). -/
def routerEdge (src : Nat) (rising : Bool) (s : State) : State :=
  if s.core then
    let s1 := plateEvent src rising (stickyEvent src rising s)
    if rising then plateBase 4 src s1 else s1
  else s

/-- An occurrence of a momentary source (R374). -/
def routerEvent (src : Nat) (s : State) : State := routerEdge src true s

/-- A phase event: turn-on 0, turn-off 1, period boundary 2, cut 3, latch set 4 (R375). -/
def phaseEvent (n : Fin 48) (kind : Nat) (s : State) : State :=
  let s1 := if kind = 2 then plateBase 3 n.val s else s
  if s1.g (F.EV_PHSEL_KIND n.val) = kind then routerEvent (0x80 + n.val) s1 else s1

/-! ### Queues -/

/-- Depth of queue q (R370). -/
def qDepth (q : Nat) : Nat :=
  if q < 8 then 16 else if q = 10 then 16 else if q = 11 || q = 12 then 64 else 32

/-- Entries queue q holds. -/
def State.q (s : State) (q : Fin 16) : List QEntry := vget s.queue q

/-- Replace the entries of queue q. -/
def State.setQ (s : State) (q : Fin 16) (l : List QEntry) : State := { s with queue := vset s.queue q l }

/-- A dropped entry, a refused push or a dropped period of queue q (R372). -/
def qDrop (q : Fin 16) (s : State) : State := (s.inc (F.Q_STAT_DROPS q.val)).pb (F.Q_STAT_OVF q.val) true

/-- Queue q has room for n entries. -/
def State.room (s : State) (q : Fin 16) (n : Nat) : Bool := (s.q q).length + n ≤ qDepth q.val

/-- The instant at which an entry of a rail's queue completes is kept beside it (R27). -/
def markPushed (q : Fin 16) (s : State) : State :=
  if q.val < 8 then s.modRa (Fin.ofNat 8 q.val) fun r => { r with pushed := r.pushed ++ [s.clock] } else s

/-- Append an entry to a queue that has room, and present source B0h + q (R374). -/
def qAppend (q : Fin 16) (e : QEntry) (s : State) : State :=
  routerEvent (0xB0 + q.val) (markPushed q (s.setQ q (s.q q ++ [e])))

/-- The entry of a register write, of KIND 1h: data the value, tag address [15:0], meta address [23:16] (R355). -/
def regEntry (a : Nat) (w : Word) : QEntry := ⟨w, BitVec.ofNat 16 a, BitVec.ofNat 16 (0x1000 + a / 65536)⟩

/-- A write of the supervisor passes through Q10 (R371): its entry is pushed, which source BAh shows (R374), and leaves the queue to be
performed as soon as it is at the head, so that the queue is empty again when a command ends. -/
def supPush (a : Nat) (w : Word) (s : State) : State :=
  let s1 := qAppend 10 (regEntry a w) s
  s1.setQ 10 (s.q 10)

/-- An access by master m: SUP's pass through Q10 (R371). -/
def viaQ10 (m : Master) (a : Nat) (w : Word) (s : State) : State := if m = .sup then supPush a w s else s

/-- Push an entry; where the queue is full the new entry is dropped (R370, R372). -/
def qPush (q : Fin 16) (e : QEntry) (s : State) : State :=
  if s.room q 1 then qAppend q e s else qDrop q s

/-! ### Interrupt -/

/-- A level bit of EV_PEND (R378), weighted. -/
def bitIf (b : Bool) (i : Nat) : Nat := if b then 2 ^ i else 0

/-- OVF of any queue is 1. -/
def State.anyOvf (s : State) : Bool := (List.range 16).any fun q => s.gb (F.Q_STAT_OVF q)

/-- The level bits of EV_PEND (R378). -/
def State.evLevel (s : State) : Nat :=
  bitIf (!(s.q 11).isEmpty) 31 + bitIf (decide (s.g (F.Q_STAT_WMARK 12) ≤ (s.q 12).length)) 30
  + bitIf (!(s.q 13).isEmpty) 29 + bitIf (!(s.q 14).isEmpty) 28 + bitIf (s.gb F.CFGERR_VALID) 27
  + bitIf (s.gb F.FM_STATUS_FPEND) 26 + bitIf (s.gb F.GH_DENY_VALID) 25 + bitIf (s.gb F.GH_STAT_ALARMED) 24
  + bitIf s.anyOvf 23 + bitIf (s.gb F.PT_STATUS_PFWNOW) 22

/-- EV_PEND as it reads: level bits and sticky bits. -/
def State.evPend (s : State) : Nat := s.evLevel + s.g F.EV_PEND_STICKY

/-- EV_PEND & EV_MASK: the host interrupt is asserted while it is not 0 (R378). -/
def State.evActive (s : State) : BitVec 32 :=
  if s.g F.EV_MASK_MASK = 0 then 0 else BitVec.ofNat 32 s.evPend &&& BitVec.ofNat 32 (s.g F.EV_MASK_MASK)

/-- HALERT# is driven low afresh (R368). -/
def raiseAlert (s : State) : State := (s.pb F.HP_ALERT_DRIVE true).pb F.HP_ALERT_ACKED false

/-- Evaluate the host interrupt after a command: an enabled bit that changed from 0 to 1 raises it, and HALERT# is driven
low only while it is asserted (R367, R378). -/
def evalInterrupt (s : State) : State :=
  let now := s.evActive
  let s1 := if now &&& ~~~ s.evSeen = 0 then (if now = 0 then s.pb F.HP_ALERT_DRIVE false else s) else raiseAlert s
  { s1 with evSeen := now }

/-! ### The Ledger -/

/-- Sixteen bits of a signed number, little-endian. -/
def le16 (x : Int) : List Byte := leBytes 2 (ofSigned 16 x)

/-- Bytes 40h-A1h of a record: the last published values (R334). -/
def snapshot (s : State) : List Byte :=
  (allFin 8).flatMap (fun k =>
    le16 (s.gi (F.MC_CH_DATA_VALUE (54 + k.val))) ++ le16 (asr (s.gi (F.OL_ITOT_ITOT k.val)) 6)
    ++ leBytes 2 (s.g (F.RAIL_REFNOW_REF k.val))
    ++ [BitVec.ofNat 8 ((s.st k).code + bitIf (s.gb (F.RAIL_TSTAT_PG k.val)) 4),
        BitVec.ofNat 8 (s.g (F.FM_RAIL_STAT_HICCNT k.val))])
  ++ leBytes 2 (s.g F.PT_VIN_HVIN) ++ leBytes 2 (s.g F.PT_VIN_VBULK)
  ++ leBytes 2 (s.g F.PT_VFEED_VFA) ++ leBytes 2 (s.g F.PT_VFEED_VFB)
  ++ leBytes 2 (s.g F.PT_IIN_IIN) ++ leBytes 2 (s.g F.PT_THERM_TFET) ++ leBytes 2 (s.g F.PT_THERM_HOLDUS)
  ++ [BitVec.ofNat 8 (s.g F.NP_RSTATE_NPSTATE + 16 * s.g F.NP_RSTATE_RCNT),
      BitVec.ofNat 8 (s.g F.PT_STATUS_PFWNOW + 2 * s.g F.PT_STATUS_PFWCAUSE)]
  ++ le16 (s.gi (F.MC_CH_DATA_VALUE 70))
  ++ (List.range 8).flatMap fun i => le16 (s.gi (F.MC_CH_DATA_VALUE (62 + i)))

/-- The record of an event of type rtype with the bytes ev at 20h (R334). -/
def makeRecord (rtype : Nat) (ev : List Byte) (s : State) : LedgerRec :=
  { seq := s.nv.nextSeq, rtype := rtype, tbdisc := s.nv.disc, notb := !s.core,
    dstate := s.dev.code + bitIf (s.gb F.DEVICE_STATUS_SAFEACT) 3, secs := s.g F.NP_SECS_SECS,
    bootcnt := s.nv.health.bootcnt, tb := if s.core then s.tb.toNat else 0,
    dropped := s.nv.dropped, fine := if s.core then s.fine.toNat else 0, event := ev, snap := snapshot s }

/-- Entries Q15 holds. -/
def State.q15Len (s : State) : Nat := s.nv.q15.length

/-- Put a write into Q15 (R332), and present source BFh; where its 32 entries are taken, the write waits for room in order (R370,
R372). -/
def q15Put (w : NvWrite) (s : State) : State :=
  if s.q15Len < 32 && s.nv.waiting.isEmpty then routerEvent 0xBF { s with nv := { s.nv with q15 := s.nv.q15 ++ [w] } }
  else { s with nv := { s.nv with waiting := s.nv.waiting ++ [w] } }

/-- The head of Q15 is taken, and the first write that waits for room comes in. -/
def q15Pop (s : State) : State :=
  let rest := s.nv.q15.drop 1
  match s.nv.waiting with
  | [] => { s with nv := { s.nv with q15 := rest } }
  | w :: ws => routerEvent 0xBF { s with nv := { s.nv with q15 := rest ++ [w], waiting := ws } }

/-- A ring record whose entry in Q15 is taken: it consumes a sequence number and carries the dropped count. -/
def putRecord (r : LedgerRec) (pin : Bool) (s : State) : State :=
  let r1 := { r with seq := s.nv.nextSeq, dropped := s.nv.dropped }
  q15Put (.record r1 pin)
    { s with nv := { s.nv with nextSeq := s.nv.nextSeq + 1, dropped := 0, disc := false } }

/-- Queue a record: in OFF and BOOT it waits for STANDBY or SAFE (R335); with fewer than nine entries of Q15 free it is
dropped and counted (R332, R372), unless it goes through the reserved entries. -/
def queueRecord (r : LedgerRec) (pin reserved : Bool) (s : State) : State :=
  if s.dev = .off || s.dev = .boot then { s with nv := { s.nv with deferred := s.nv.deferred ++ [(r, pin)] } }
  else if 24 ≤ s.q15Len && !reserved then
    qDrop 15 ({ s with nv := { s.nv with dropped := s.nv.dropped + 1 } }.inc F.LG_INFO_DROPTOT)
  else putRecord r pin s

/-- Record an event of the Ledger (R335). -/
def record (rtype : Nat) (ev : List Byte) (s : State) : State :=
  queueRecord (makeRecord rtype ev s) false false s

/-- One byte of a number. -/
def byte (n : Nat) : Byte := BitVec.ofNat 8 n

/-- The bytes of a queue entry as a record carries them: data, tag, meta (R335). -/
def QEntry.bytes (e : QEntry) : List Byte :=
  leBytes 4 e.data.toNat ++ leBytes 2 e.tag.toNat ++ leBytes 2 e.met.toNat

/-- A free value: the counter it is drawn at, and the state with the counter advanced. -/
def State.draw (s : State) : Nat × State := (s.free, { s with free := s.free + 1 })

end Sys2Proof.Machine
end

