-- ==== Sys2Proof/Machine/Flags.lean ====
section
/-!
DEFINITION. Conditions and flags computed from State: strap and stage-group facts (R45, R46), which comparator serves a
function (R267, R291), level sources of the router (R374), the trip sources of a phase (R100), ring membership (R122),
and the standing conditions other rules ask for.
-/

namespace Sys2Proof.Machine

/-- Bit i of a number. -/
def bitAt (x i : Nat) : Bool := x / 2 ^ i % 2 == 1

/-- Bit i of a number set or cleared. -/
def putBit (x i : Nat) (b : Bool) : Nat := x - bitIf (bitAt x i) i + bitIf b i

/-- Stage group of phase n: eight phases each (02_balls_supplies.md). -/
def groupOf (n : Nat) : Nat := n / 8

/-- Stage group g is strapped paired (R45). -/
def State.paired (s : State) (g : Nat) : Bool := (s.sup.smod.toList.getD g .undecodable) == .paired

/-- Phase n exists: odd phases of a paired group do not (R87 registers, R267). -/
def State.exists_ (s : State) (n : Nat) : Bool := !(s.paired (groupOf n) && n % 2 == 1)

/-- The comparator serving function f: SERVEDBY, FFh while only interim cover stands (R291). -/
def State.servedBy (s : State) (f : Nat) : Nat := s.g (F.CMP_STATUS_SERVEDBY f)

/-- Interim cover is in force for function f (R291). -/
def State.covered (s : State) (f : Nat) : Bool := s.gb (F.CMP_STATUS_COVER f)

/-- The output of function f: of its serving comparator, or of the interim cover, which drives OUT of CMP[f]. -/
def State.fnOut (s : State) (f : Nat) : Bool :=
  if s.covered f then s.gb (F.CMP_STATUS_OUT f)
  else if s.servedBy f < 128 then s.gb (F.CMP_STATUS_OUT (s.servedBy f)) else false

/-- The comparator serving function f is armed, or its interim cover watches it. -/
def State.fnArmed (s : State) (f : Nat) : Bool :=
  s.covered f || (s.servedBy f < 128 && s.gb (F.CMP_STATUS_ARMED (s.servedBy f)))

/-- TRIP pin i after polarity; inactive while VIOH is not good (R54, R105). -/
def State.trip (s : State) (i : Fin 4) : Bool :=
  s.sup.vioh && (vget s.sup.tripPin i != (s.g F.PE_TRIP_CTL_TRIPPOL / 2 ^ i.val % 2 == 1))

/-- PFW# is asserted (R317). -/
def State.pfw (s : State) : Bool := s.gb F.PT_STATUS_PFWNOW

/-- The function a retired comparator served: its own, or the one a spare had taken (R291). -/
def State.servedLast (s : State) (c : Nat) : Option Nat :=
  if c < 120 then some c else s.chk.served.toList.getD (c - 120) none

/-- The comparator whose output a route to comparator c follows: where c is retired, the one that serves its function,
and comparator f's own number while the interim cover of function f stands (R273, R291). -/
def State.routed (s : State) (c : Nat) : Nat :=
  if s.gb (F.CMP_STATUS_RETIRED c) then
    match s.servedLast c with
    | some f => if s.servedBy f < 128 then s.servedBy f else f
    | none => c
  else c

/-- What the router sees of comparator c itself: OUT or LATCHED (R272). -/
def State.routeLevel (s : State) (c : Nat) : Bool :=
  if s.gb (F.CMP_CTL_ROUTELAT c) then s.gb (F.CMP_STATUS_LATCHED c) else s.gb (F.CMP_STATUS_OUT c)

/-- The level of router source src: comparators under ROUTELAT, TRIP pins, PG, PFW# (R374); 0 for momentary ones. -/
def State.level (s : State) (src : Nat) : Bool :=
  if src < 128 then s.routeLevel (s.routed src)
  else if 0xC1 ≤ src ∧ src ≤ 0xC4 then s.trip (Fin.ofNat 4 (src - 0xC1))
  else if 0xC8 ≤ src ∧ src ≤ 0xCF then s.gb (F.RAIL_TSTAT_PG (src - 0xC8))
  else if src = 0xE0 then s.pfw
  else false

/-- A source number of the level kind (R374). -/
def isLevelSource (src : Nat) : Bool :=
  src < 128 || (0xC1 ≤ src && src ≤ 0xC4) || (0xC8 ≤ src && src ≤ 0xCF) || src == 0xE0

/-- The routed trip line of phase n (R376). -/
def State.rtr (s : State) (n : Nat) : Bool :=
  s.gb (F.EV_RTR_EN n) && (s.level (s.g (F.EV_RTR_SRC n)) != s.gb (F.EV_RTR_INV n))

/-- The rail phase n is assigned to by PHASE[n].ASSIGN (R246). -/
def State.railOf (s : State) (n : Nat) : Option (Fin 8) :=
  if s.gb (F.PHASE_ASSIGN_ASGN n) then some (Fin.ofNat 8 (s.g (F.PHASE_ASSIGN_RAIL n))) else none

/-- Current sense of phase n is declared implausible (R258). -/
def State.blind (s : State) (n : Nat) : Bool := s.gb (F.PHASE_ROLE_BLIND n)

/-- The group of phase n has no working current converter: GMAP names a retired one (R292). -/
def State.noConverter (s : State) (g : Nat) : Bool :=
  let ic := s.g F.FM_IC_GMAP / 8 ^ g % 8
  s.g F.FM_IC_ICRET / 2 ^ ic % 2 == 1

/-- Source OC follows the on-time model for phase n (R281). -/
def State.onModel (s : State) (n : Nat) : Bool := s.blind n || s.noConverter (groupOf n)

/-- Source OC of phase n: comparator, digital limit or on-time model (R100, R281). -/
def State.oc (s : State) (n : Fin 48) : Bool :=
  if s.onModel n.val then (s.ph n).modelOc
  else if s.covered n.val then (s.ph n).digOc
  else s.fnOut n.val

/-- The eight trip sources of phase n, in R100 order. -/
def State.trips (s : State) (n : Fin 48) : Nat :=
  bitIf (s.oc n) 0
  + bitIf (match s.railOf n.val with | some k => s.fnOut (96 + k.val) | none => false) 1
  + bitIf (s.fnOut 114) 2
  + bitIf (s.trip 0) 3 + bitIf (s.trip 1) 4 + bitIf (s.trip 2) 5 + bitIf (s.trip 3) 6
  + bitIf (s.rtr n.val) 7

/-- Some latch source of phase n is active: an assigned trip source, or the latch source the fault manager holds
active (R103, R276, R282). -/
def State.latchActive (s : State) (n : Fin 48) : Bool :=
  (s.trips n &&& s.g (F.PHASE_TRIPCFG_LATCH n.val)) != 0 || s.gb (F.FM_PH_STAT_PHOFFACT n.val)
    || (s.ph n).holdRetire

/-- Some cycle-cut source of phase n is active; a source assigned to both latches (R100, R101). -/
def State.cutActive (s : State) (n : Fin 48) : Bool :=
  (s.trips n &&& s.g (F.PHASE_TRIPCFG_CUT n.val) &&& (255 - s.g (F.PHASE_TRIPCFG_LATCH n.val))) != 0

/-- Entry i of rail k's ring (RAIL[k].RING). -/
def State.ringEnt (s : State) (k i : Nat) : Nat :=
  getBits (s.word (A.RAIL_RING k (i / 4))) (8 * (i % 4)) 8

/-- The ring of rail k: entries 0 to RINGLEN - 1 that name a phase (R122). -/
def State.ring (s : State) (k : Fin 8) : List (Fin 48) :=
  (List.range (s.g (F.RAIL_SEQ_RINGLEN k.val))).filterMap fun i =>
    let e := s.ringEnt k.val i
    if h : e < 48 then some ⟨e, h⟩ else none

/-- The tail phases of rail k (R137). -/
def State.tail (s : State) (k : Fin 8) : List (Fin 48) :=
  (allFin 48).filter fun n => (s.ph n).tail == some k

/-- Phases of the ring and tail of rail k. -/
def State.ringTail (s : State) (k : Fin 8) : List (Fin 48) := s.ring k ++ s.tail k

/-- Phase n belongs to an enabled rail: it is ACTIVE in it or in its tail (R244). -/
def State.belongs (s : State) (n : Fin 48) : Bool :=
  ((s.rl n).role == .active && match s.railOf n.val with | some k => s.enabled k | none => false)
    || (match (s.ph n).tail with | some k => s.enabled k | none => false)

/-- The block of phase n runs: it belongs to an enabled rail or is in phase test mode (R78). -/
def State.phRuns (s : State) (n : Fin 48) : Bool := (s.rl n).role == .test || s.belongs n

/-- Mode in force of phase n (R88). -/
def State.mode (s : State) (n : Fin 48) : Nat :=
  if s.phRuns n then
    if (s.rl n).role == .test then 2 else (s.ph n).modeOver.getD (s.g (F.PHASE_CTL_MODE n.val))
  else 0

/-- Latch of phase n. -/
def State.latched (s : State) (n : Nat) : Bool := s.gb (F.PHASE_STATUS_LATCHED n)

/-- The stage group g is in its wake time or not raised: its phases are not eligible (R47, R123). -/
def State.awake (s : State) (g : Nat) : Bool := vget s.sup.groupAwake (Fin.ofNat 6 g)

/-- Rails temperature sensor i affects (R287): those with a non-retired phase of group i, or those of RMASK. -/
def State.affects (s : State) (i : Nat) (k : Fin 8) : Bool :=
  if i < 6 then (allFin 48).any fun n => groupOf n.val == i && s.railOf n.val == some k && (s.rl n).role != .retired
  else if i < 8 then bitAt (s.g (F.FM_TEMP_RMASK i)) k.val else false

/-- The OTS timer of a sensor that affects rail k runs (R287, R288). -/
def State.otRun (s : State) (k : Fin 8) : Bool :=
  (allFin 9).any fun i => (vget s.conv.sensor i).hot && s.affects i.val k

/-- Any fault timer of rail k runs (R288). -/
def State.timers (s : State) (k : Fin 8) : Bool :=
  s.g (F.OL_STATUS_FECNT k.val) != 0 || (s.ra k).pr.ov != 0 || (s.ra k).pr.uv != 0
    || s.g (F.FM_RAIL_STAT_RCONS k.val) != 0 || s.otRun k

/-- Rate code of rail k (R23). -/
def State.rate (s : State) (k : Nat) : Nat := s.g (F.GRAPH_HDR_RATE k)

/-- Sample time of rail k in ns. -/
def State.ts (s : State) (k : Nat) : Nat := tsNs (s.rate k)

/-- The target of rail k: VCMD + CMARG, in 0.1 mV (R197). -/
def State.target (s : State) (k : Nat) : Int :=
  (s.g (F.RAIL_REFNOW_VCMD k) : Int) + s.gi (F.RAIL_CMARGNOW_CMARG k)

/-- A code lies within VMIN-VMAX of rail k. -/
def State.inLimits (s : State) (k : Nat) (c : Int) : Bool :=
  decide ((s.g (F.RAIL_VLIM_VMIN k) : Int) ≤ c) && decide (c ≤ (s.g (F.RAIL_VLIM_VMAX k) : Int))

/-- A forecast window of rail k is open (R128). -/
def State.windowOpen (s : State) (k : Fin 8) : Bool :=
  match (s.ra k).md.fc with | some f => f.windowOpen | none => false

/-- The block of rail k runs for Transit's SEQCTL, TDLY, RAMP and STOP: STATE is not OFF. -/
def State.seqBusy (s : State) (k : Fin 8) : Bool := s.st k != .off

end Sys2Proof.Machine
end

