-- ==== Sys2Proof/Machine/PulseOps.lean ====
section
/-!
DEFINITION. The pulse engine's shared operations on one phase (04_pulse_engine.md): output states (R93, R94), duty
limits (R95), shadow transfer (R96, R98), cuts and latches (R101-R104), limited cycles (R106), and the stage groups
(R47).
-/

namespace Sys2Proof.Machine

/-- The phase leaves its high level: the instant its high level ended, which for a pulse that started on an ACTIVE phase awaits its
IEND (R257), and its turn-off event (R92, R375). -/
def turnOff (n : Fin 48) (s : State) : State :=
  if (s.ph n).out = .high then
    phaseEvent n 1 (s.modPh n fun p =>
      { p with offAt := some s.clock, ends := if p.watched then p.ends ++ [s.clock] else p.ends, watched := false })
  else s

/-- What phase n counts as in the synthesized ripple (R118): 2 high, 1 low, 0 mid. Dead time and a cut with LSPOL 1 count as low;
an off level of diode emulation, of a latch, or before the first boundary is mid. -/
def State.rippleClass (s : State) (n : Fin 48) : Nat :=
  match (s.ph n).out with
  | .high => 2
  | .low => 1
  | .off =>
    if (s.ph n).dead != .none || (s.gb (F.PHASE_STATUS_CUT n.val) && s.gb (F.PHASE_CTL_LSPOL n.val)
      && (s.ph n).started && !s.latched n.val) then 1 else 0

/-- An operation on phase n, which notes the instant where it changes what the phase counts as: the latest changes, more than come
within the 4 tb a ripple step looks back (R118) or the sample whose conversions a boundary window brings (R282). -/
def noting (n : Fin 48) (f : State → State) (s : State) : State :=
  let s1 := f s
  if s1.rippleClass n = s.rippleClass n then s1
  else s1.modPh n fun p => { p with hist := ((s.clock, s.rippleClass n) :: p.hist).take 64 }

/-- What phase n counted as at instant t (R118). -/
def State.classAt (s : State) (n : Fin 48) (t : Nat) : Nat :=
  match ((s.ph n).hist.filter fun x => decide (between x.1 t < 0)).getLast? with
  | some x => x.2
  | none => s.rippleClass n

/-- At instant t the phase's last high level had ended at least 200 ns before, and its next one had not started (R282). -/
def State.lateAt (s : State) (n : Fin 48) (t : Nat) : Bool :=
  let ends := ((s.ph n).hist.filter fun x => x.2 == 2).map (·.1) ++ (s.ph n).offAt.toList
  s.classAt n t != 2 && match ends.find? fun e => decide (0 ≤ between e t) with
    | some e => decide (2560 ≤ elapsed e t)
    | none => false

/-- MINOFF has elapsed since the last high level of phase n (R92, R123). -/
def State.minOffDone (s : State) (n : Fin 48) : Bool :=
  match (s.ph n).offAt with
  | none => true
  | some a => decide (16 * s.g (F.PHASE_TIMING_MINOFF n.val) ≤ elapsed a s.clock)

/-- The phase goes to its off level (R93, R41, R42). -/
def phOff (n : Fin 48) (s : State) : State :=
  noting n (fun s => (turnOff n s).modPh n fun p => { p with out := .off, dead := .none, full := false, delayed := none }) s

/-- The low side turns on (R94). -/
def phLow (n : Fin 48) (s : State) : State :=
  noting n (fun s => (turnOff n s).modPh n fun p => { p with out := .low, dead := .none, full := false }) s

/-- The high side turns on (R94). -/
def phHigh (n : Fin 48) (s : State) : State :=
  noting n (fun s => phaseEvent n 0 (s.modPh n fun p =>
    { p with out := .high, dead := .none, watched := p.watched || (s.rl n).role == .active })) s

/-- A pulse starts: high at once in a three-level group, after DTLH in a paired one (R94). -/
def startPulse (n : Fin 48) (s : State) : State :=
  if s.paired (groupOf n.val) then
    noting n (fun s => (turnOff n s).modPh n fun p =>
      { p with out := .off, dead := .lh, delayed := none, watched := (s.rl n).role == .active }) s
  else phHigh n (s.modPh n fun p => { p with delayed := none })

/-- The on-time ends: low in a three-level group, both off for DTHL in a paired one (R94). -/
def endPulse (n : Fin 48) (s : State) : State :=
  if s.paired (groupOf n.val) then
    noting n (fun s => (turnOff n s).modPh n fun p => { p with out := .off, dead := .hl, full := false }) s
  else phLow n s

/-- D_max of R95 for phase n; where MINOFF reaches PERIOD, or DTLH what is left, it is 0 (DESIGN CHOICE, log entry 91: the
rule's difference is negative there). -/
def dMax (s : State) (n : Fin 48) (period : Nat) : Nat :=
  (period - s.g (F.PHASE_TIMING_MINOFF n.val)) * 16
    - (if s.paired (groupOf n.val) then s.g (F.PHASE_DT_DTLH n.val) else 0)

/-- What R95 applies for a duty or on-time d: the applied code, whether DUTYCLIP is set, and whether the high level
fills the period. -/
def applyDuty (s : State) (n : Fin 48) (period d : Nat) : Nat × Bool × Bool :=
  if d = 0 then (0, false, false)
  else if d < s.g (F.PHASE_TIMING_MINON n.val) * 16 then (s.g (F.PHASE_TIMING_MINON n.val) * 16, true, false)
  else if d ≤ dMax s n period then (d, false, false)
  else if period * 16 ≤ d && s.gb (F.PHASE_CTL_ALLOW100 n.val) then (period * 16, decide (period * 16 < d), true)
  else (dMax s n period, true, false)

/-- Period of phase n in force: FFPER under the modulator's override, PERIOD otherwise (R88, R133). -/
def periodOf (s : State) (n : Fin 48) : Nat :=
  if (s.ph n).modeOver = some 2 then
    match s.railOf n.val with
    | some k => s.g (F.RAIL_FF_FFPER k.val)
    | none => s.g (F.PHASE_PERIOD_PERIOD n.val)
  else s.g (F.PHASE_PERIOD_PERIOD n.val)

/-- Bits of the BOUNDARY fields of a register. -/
def comMask (c : Com) (r : RegSpec) : List FieldSpec :=
  r.fields.filter fun f => f.com == c && (f.acc == .rw || f.acc == .rwl)

/-- Replace the given fields of the word at a by those of w. -/
def putFields (a : Nat) (fs : List FieldSpec) (w : Word) (s : State) : State :=
  fs.foldl (fun s f => s.p ⟨a, f.lo, f.w⟩ (getBits w f.lo f.w)) s

/-- The fields of commit class c of the register at a, from word w, take effect. -/
def commitFields (c : Com) (a : Nat) (w : Word) (s : State) : State :=
  match locate a with
  | some x => putFields a (comMask c x.spec) w s
  | none => s

/-- Waiting BOUNDARY writes of phase n to addresses that satisfy p move to the active registers. -/
def transferSome (p : Nat → Bool) (n : Fin 48) (s : State) : State :=
  (((s.ph n).boundary.filter fun x => p x.1).foldl (fun s aw => commitFields .boundary aw.1 aw.2 s) s).modPh n
    fun x => { x with boundary := x.boundary.filter fun y => !p y.1 }

/-- Waiting BOUNDARY writes of phase n move to the active registers (R96). -/
def transferShadows (n : Fin 48) (s : State) : State := transferSome (fun _ => true) n s

/-- The BOUNDARY writes of phase n's own block take effect as it stops; one of EV_RTR[n], whose block is the router, goes on waiting
for a boundary of the phase (R8, R78, R376). -/
def transferOwn (n : Fin 48) (s : State) : State := transferSome (fun a => a != A.EV_RTR n.val) n s

/-- SHLOCK stays 1 through one more boundary; at the 64th the engine clears it (R98). -/
def shlockBoundary (n : Fin 48) (s : State) : State :=
  let c := (s.ph n).shCount + 1
  if c = 64 then
    ((s.pb (F.PHASE_CTL_SHLOCK n.val) false).pb (F.PHASE_STATUS_SHLOCKTO n.val) true).modPh n
      fun p => { p with shCount := 0 }
  else s.modPh n fun p => { p with shCount := c }

/-- The rail a limited cycle of phase n counts for: the rail of its tail, else of its ring (R279). -/
def limRail (s : State) (n : Fin 48) : Option (Fin 8) :=
  match (s.ph n).tail with
  | some k => some k
  | none =>
    match s.railOf n.val with
    | some k => if (s.ring k).contains n then some k else none
    | none => none

/-- A limited cycle: LIMCNT, and the limited-cycle count of an enabled rail (R106, R279). -/
def limCycle (n : Fin 48) (s : State) : State :=
  let s1 := (s.inc (F.PHASE_LIMCNT_TOTAL n.val)).inc (F.PHASE_LIMCNT_CONSEC n.val)
  match limRail s1 n with
  | some k => if s1.enabled k then s1.inc (F.FM_RAIL_STAT_RCONS k.val) else s1
  | none => s1

/-- A pulse of phase n ended at its programmed on-time (R106, R279); a ring phase that did is a neighbour of the others
(R280). -/
def normalEnd (n : Fin 48) (s : State) : State :=
  let s1 := (s.p (F.PHASE_LIMCNT_CONSEC n.val) 0).modPh n fun p => { p with neighbour := false }
  match limRail s1 n with
  | some k =>
    let s2 := s1.p (F.FM_RAIL_STAT_RCONS k.val) 0
    if (s2.ring k).contains n then
      forEach (fun s m =>
        if m ≠ n && s.g (F.PHASE_LIMCNT_CONSEC m.val) != 0 then s.modPh m fun p => { p with neighbour := true }
        else s) (s2.ring k) s2
    else s2
  | none => s1

/-- The output under a cut: with LSPOL 1 the off level; with LSPOL 0 the low side, at the end of DTHL where the high side has
conducted and at once where it has not (R94, R101, R102). Before the first period boundary, once the block has stopped, and in
a group FORCEOFF holds, the off level stays (R47, R91). -/
def cutOutput (n : Fin 48) (s : State) : State :=
  if s.gb (F.PHASE_CTL_LSPOL n.val) || !(s.ph n).started || !s.phRuns n
      || s.gb (F.STAGEGRP_CFG_FORCEOFF (groupOf n.val)) then phOff n s
  else if (s.ph n).out = .high then endPulse n s
  else if (s.ph n).dead = .hl then s
  else phLow n s

/-- A cycle-cut source acts: the high level ends or is cancelled, the low side follows LSPOL, and the period is a limited
cycle once (R101, R102, R106). -/
def cutPhase (n : Fin 48) (s : State) : State :=
  let s3 := noting n (fun s => cutOutput n (s.pb (F.PHASE_STATUS_CUT n.val) true)) s
  let s4 := phaseEvent n 3 (s3.modPh n fun p => { p with delayed := none })
  if (s4.ph n).limited then s4 else limCycle n (s4.modPh n fun p => { p with limited := true })

/-- The phase latches: off level, LATCHED, and the latch event (R103). -/
def latchPhase (n : Fin 48) (s : State) : State :=
  noting n (fun s => phaseEvent n 4 ((phOff n s).pb (F.PHASE_STATUS_LATCHED n.val) true)) s

/-- The latch of phase n clears (R104, R276). -/
def unlatchPhase (n : Fin 48) (s : State) : State :=
  noting n (fun s => (s.pb (F.PHASE_STATUS_LATCHED n.val) false).modPh n fun p =>
    { p with clearPend := false, holdClear := false, holdAt := none }) s

/-- Some phase of group g belongs to an enabled rail or is in phase test mode (R47). -/
def State.groupWanted (s : State) (g : Fin 6) : Bool :=
  (List.range 8).any fun i => s.phRuns (Fin.ofNat 48 (8 * g.val + i))

/-- The device lets a phase of group g be wanted: in STANDBY, RUN and LOCKDOWN any, in SAFE those of rails still on their way
to OFF (R47, R284). -/
def State.groupMayRise (s : State) (g : Fin 6) : Bool :=
  if s.running then s.groupWanted g
  else s.dev == .safe && (List.range 8).any fun i => s.belongs (Fin.ofNat 48 (8 * g.val + i))

/-- SMODg follows its rule: it rises with the first phase wanted, and its wake time begins; it falls when none is, or
while FORCEOFF is 1, once every phase of the group is at its off level (R47). -/
def updateSmod (g : Fin 6) (s : State) : State :=
  let want := s.groupMayRise g && !s.gb (F.STAGEGRP_CFG_FORCEOFF g.val)
  let have_ := s.gb (F.STAGEGRP_CFG_SMODOUT g.val)
  if want && !have_ then
    let s1 := s.pb (F.STAGEGRP_CFG_SMODOUT g.val) true
    { s1 with sup := { s1.sup with groupAwake := vset s1.sup.groupAwake g (s1.g (F.STAGEGRP_CFG_WAKE g.val) == 0) } }
  else if !want && have_ && (List.range 8).all (fun i => (s.ph (Fin.ofNat 48 (8 * g.val + i))).out == .off) then
    let s2 := s.pb (F.STAGEGRP_CFG_SMODOUT g.val) false
    { s2 with sup := { s2.sup with groupAwake := vset s2.sup.groupAwake g false } }
  else s

/-- Every SMODg follows its rule (R47). -/
def updateSmods (s : State) : State := forAll (n := 6) (fun s g => updateSmod g s) s

/-- A group whose FORCEOFF is written 1 while phases of it are under test goes to its off level (R47, R48); SMODg then falls, and
its wake time passes again before the next pulse. -/
def forceOff (g : Nat) (s : State) : State :=
  forAll (n := 48) (fun s n => if groupOf n.val = g && s.phRuns n then phOff n s else s) s

/-- The block of phase n starts: off level until its first boundary, FORCEEN cleared (R91, PHASE[n].CTL). -/
def startPhase (n : Fin 48) (s : State) : State :=
  (phOff n (s.pb (F.PHASE_CTL_FORCEEN n.val) false)).modPh n
    fun p => { p with started := false, limited := false, modeOver := none, dutyShadow := none, dutyActive := none,
                      ffFirst := false, ofsOver := none, ofsNext := none, bound := none, alignErr := 0, alignAdj := 0,
                      tail := none }

end Sys2Proof.Machine
end

