-- ==== Sys2Proof/Machine/RailOps.lean ====
section
/-!
DEFINITION. The shared operations on rails: causes at link endpoints and the outcome of queue entries (R235, R236),
roles, messages and rings (R243-R256, R265), coupled groups and their staging (R80-R82), and enabling or disabling a
rail (R91, R137, R204, R284).
-/

namespace Sys2Proof.Machine

/-! ### Link endpoints -/

/-- The rail slot s of endpoint e of port p names, if the slot is valid (R216). -/
def State.slotRail (s : State) (p e sl : Nat) : Option (Fin 8) :=
  let w := s.word (A.LNK_EP_BIND p e)
  if getBits w (24 + sl) 1 = 1 then some (Fin.ofNat 8 (getBits w (4 * sl) 3)) else none

/-- Endpoint e of port p is enabled. -/
def State.epOn (s : State) (p e : Nat) : Bool := s.gb (F.LNK_EP_BIND_EPEN p e)

/-- The slots of endpoint e of port p whose valid binding names rail k. -/
def State.slotsOf (s : State) (p e : Nat) (k : Fin 8) : List Nat :=
  (List.range 4).filter fun sl => s.slotRail p e sl == some k

/-- The slot causes, by the lowest bit of their field in CAUSE: ARRIVED 0, REVOKED 4, CAPLOW 8, FAULT 12. -/
def setSlotCause (p e lo sl : Nat) (s : State) : State :=
  let a := A.LNK_EP_CAUSE p e
  s.setWord a (setBits (s.word a) (lo + sl) 1 1)

/-- Every port and endpoint. -/
def endpoints : List (Nat × Nat) := [(0, 0), (0, 1), (0, 2), (0, 3), (1, 0), (1, 1), (1, 2), (1, 3)]

/-- A cause of rail k is set in every slot bound to it on every enabled endpoint (R236). -/
def railCause (lo : Nat) (k : Fin 8) (s : State) : State :=
  forEach (fun s pe => if s.epOn pe.1 pe.2 then
      forEach (fun s sl => setSlotCause pe.1 pe.2 lo sl s) (s.slotsOf pe.1 pe.2 k) s
    else s) endpoints s

/-- A device cause (PFW 31, PFWEND 30, DEVSTATE 29) is set on every enabled endpoint (R236). -/
def deviceCause (bit : Nat) (s : State) : State :=
  forEach (fun s pe => if s.epOn pe.1 pe.2 then
      s.setWord (A.LNK_EP_CAUSE pe.1 pe.2) (setBits (s.word (A.LNK_EP_CAUSE pe.1 pe.2)) bit 1 1)
    else s) endpoints s

/-- The port and endpoint a queue entry's tag names; none for a master that is no link port (R196). -/
def tagSource (tag : BitVec 16) : Option (Nat × Nat) :=
  let m := tag.toNat / 8192
  if m = 2 then some (0, tag.toNat / 2048 % 4)
  else if m = 3 then some (1, tag.toNat / 2048 % 4) else none

/-- An entry of rail k arrives: ARRIVED, and ARVTAG takes its tag (R235). -/
def entryArrived (tag : BitVec 16) (k : Fin 8) (s : State) : State :=
  match tagSource tag with
  | none => s
  | some (p, e) =>
    if s.epOn p e then
      match s.slotsOf p e k with
      | [] => s
      | sl :: _ =>
        let s1 := setSlotCause p e 0 sl s
        let a := A.LNK_EP_ARVTAG p e
        s1.setWord a (setBits (s1.word a) (4 * sl) 4 (tag.toNat % 16))
    else s

/-- An entry of rail k is superseded by another source, discarded or lost to a latch: REVOKED (R235). -/
def entryRevoked (tag : BitVec 16) (k : Fin 8) (s : State) : State :=
  match tagSource tag with
  | none => s
  | some (p, e) =>
    if s.epOn p e then
      match s.slotsOf p e k with
      | [] => s
      | sl :: _ => setSlotCause p e 4 sl s
    else s

/-- Two tags name the same endpoint of the same port. -/
def sameSource (a b : BitVec 16) : Bool := (tagSource a).isSome && tagSource a == tagSource b

/-! ### Outcomes of a rail's entries -/

/-- The transition under way arrives (R198, R235): its slew override ends with it (R195), and the Ephemeris freezes (R187). -/
def transArrives (k : Fin 8) (s : State) : State :=
  match (s.ra k).tr.trans with
  | none => s
  | some t =>
    let s1 := ((s.modTr k fun r => { r with trans := none, slewOvr := 0 }).modOl k
      fun o => { o with capLowSent := false, reported := 0 }).modEp k
      fun e => { e with settle := s.g (F.EPH_SETTLE_ESETTLE k.val) }
    routerEvent (0xD8 + k.val)
      (entryArrived t.tag k ((s1.pb (F.RAIL_TSTAT_TRANS k.val) false).pb (F.RAIL_TSTAT_ARRV k.val) true))

/-- The popped entries of a KIND (3h ON, 4h OFF) that still wait arrive. -/
def onOffArrive (k : Fin 8) (kind : Nat) (s : State) : State :=
  let l := (s.ra k).tr.onOff
  let hit := l.filter fun t => t.met.toNat / 4096 == kind
  forEach (fun s t => entryArrived t.tag k s) hit
    (s.modTr k fun r => { r with onOff := l.filter fun t => !(t.met.toNat / 4096 == kind) })

/-- The rail latched: nothing pending arrives, and each entry ends as REVOKED (R198, R235). -/
def pendingLost (k : Fin 8) (s : State) : State :=
  let tr := (s.ra k).tr
  let s1 := (s.modTr k fun r => { r with trans := none, onOff := [], slewOvr := 0 }).pb (F.RAIL_TSTAT_TRANS k.val) false
  forEach (fun s t => entryRevoked t.tag k s) (tr.trans.toList ++ tr.onOff) s1

/-- PG takes a value; PGOODk follows, and its router source shows the edge (R211, R213, R374). -/
def setPG (k : Fin 8) (b : Bool) (s : State) : State :=
  if s.gb (F.RAIL_TSTAT_PG k.val) == b then s
  else routerEdge (0xC8 + k.val) b
    ((s.pb (F.RAIL_TSTAT_PG k.val) b).modTr k fun r => { r with pgSeen := r.pgSeen || b })

/-- A forecast of the rail is discarded (R226). -/
def dropForecast (k : Fin 8) (s : State) : State :=
  ((((s.modMd k fun m => { m with fc := none }).modInk k fun i => { i with fcPending := false, fcAdded := [] }).modTr k
    fun t => { t with f := 0, fterm := none }).pb
    (F.RAIL_MSTAT_FCARMED k.val) false).pb (F.RAIL_TSTAT_FPACT k.val) false

/-- The sequencing state changes, with the outcomes its entry decides: arrivals in STOPDLY, STOPPING, OFF and ON,
losses in LATCHED, the FAULT cause in HICCUP and LATCHED, PG outside ON (R198, R211, R235, R236). -/
def enterState (k : Fin 8) (st : SeqState) (s : State) : State :=
  let s1 := s.modTr k fun t => { t with st := st, cnt := 0, inCnt := 0, outCnt := 0 }
  let s2 := if st = .on then s1 else setPG k false s1
  let s3 := match st with
    | .wake | .ramp | .on => s2
    | _ => dropForecast k s2
  match st with
  | .on => onOffArrive k 3 s3
  | .stopdly | .stopping => transArrives k s3
  | .off => onOffArrive k 4 (transArrives k s3)
  | .latched => railCause 12 k (pendingLost k s3)
  | .hiccup => railCause 12 k s3
  | _ => s3

/-! ### Messages, roles and rings -/

/-- Codes of PHASE[n].ROLE.ROLE (R243). -/
def Role.code : Role → Nat
  | .unassigned => 0 | .active => 1 | .shed => 2 | .spare => 3 | .test => 4 | .retired => 5 | .unavailable => 6

/-- A message of the Innkeeper to Q14 (R265); BLIND, WORN, DRIFT and CAPACITY messages are recorded too (R335). -/
def inkMessage (kind : Nat) (n : Option (Fin 48)) (rail before after val : Nat) (s : State) : State :=
  let ep := match n with | some n => (s.rl n).epoch.toNat | none => 0
  let ph := match n with | some n => n.val | none => 0x3F
  let e : QEntry := ⟨BitVec.ofNat 32 (before * 2 ^ 29 + after * 2 ^ 26 + ep * 65536 + val % 65536),
    BitVec.ofNat 16 (ph * 1024 + rail * 128), BitVec.ofNat 16 (kind * 4096)⟩
  let s1 := if s.room 14 1 then qAppend 14 e s
    else (qDrop 14 s).inc F.INK_REQSTAT_MSGLOST
  if 2 ≤ kind && kind ≤ 5 then record 4 e.bytes s1 else s1

/-- The rail number a message of phase n carries. -/
def State.msgRail (s : State) (n : Fin 48) : Nat := match s.railOf n.val with | some k => k.val | none => 0

/-- Phase n takes a role: its epoch is incremented and a ROLE message sent (R244, R265). -/
def changeRole (n : Fin 48) (r : Role) (val : Nat) (s : State) : State :=
  let old := (s.rl n).role
  if old = r then s
  else inkMessage 1 (some n) (s.msgRail n) old.code r.code val
    (s.modRl n fun x => { x with role := r, epoch := x.epoch + 1 })

/-- NAVAIL: the working pool's phases that are not retired (R246, R254). -/
def State.navail (s : State) (k : Fin 8) : Nat :=
  ((s.ra k).ink.base.filter fun n => (s.rl n).role != .retired).length

/-- CAP of rail k, none where IPHMAX is 0 (R254). -/
def State.capOf (s : State) (k : Fin 8) : Option Nat :=
  if s.g (F.INK_LIM_IPHMAX k.val) = 0 then none else some (s.g (F.INK_LIM_IPHMAX k.val) * s.navail k)

/-- CAP stands below ILIM, an ILIM of 0 standing for no limit (R254). -/
def State.capBelow (s : State) (k : Fin 8) : Bool :=
  match s.capOf k with
  | none => false
  | some c => s.g (F.OL_CL_ILIM k.val) = 0 || decide (c < s.g (F.OL_CL_ILIM k.val))

/-- NAVAIL may have changed: where CAP fell and stands below ILIM, CAPLOW, a CAPACITY message and its record (R254). -/
def capacityCheck (k : Fin 8) (s : State) : State :=
  let c := s.capOf k
  let fell := match (s.ra k).ink.cap, c with
    | some a, some b => decide (b < a)
    | none, some _ => true
    | _, none => false
  let s1 := s.modInk k fun i => { i with cap := c }
  if fell && s.capBelow k then
    inkMessage 5 none k.val 0 0 (c.getD 0) (railCause 8 k (s1.modOl k fun o => { o with capLowSent := true }))
  else s1

/-- RATELIM is evaluated again (R129). -/
def updateRateLim (k : Fin 8) (s : State) : State :=
  s.pb (F.RAIL_MSTAT_RATELIM k.val)
    (decide (s.g (F.RAIL_TON_TONSCALE k.val) < 20 * s.g (F.RAIL_SEQ_RINGLEN k.val)))

/-- TAIL is evaluated again (R137). -/
def updateTail (k : Fin 8) (s : State) : State := s.pb (F.RAIL_MSTAT_TAIL k.val) (!(s.tail k).isEmpty)

/-- Write a ring into RAIL[k].RING and SEQ.RINGLEN, unused entries 0 (R248). -/
def writeRing (k : Fin 8) (l : List (Fin 48)) (s : State) : State :=
  let s1 := (List.range 32).foldl (fun s i =>
    let a := A.RAIL_RING k.val (i / 4)
    let v := match l[i]? with | some n => n.val | none => 0
    s.setWord a (setBits (s.word a) (8 * (i % 4)) 8 v)) s
  updateRateLim k (s1.p (F.RAIL_SEQ_RINGLEN k.val) l.length)

/-- The balance of a phase that leaves the ring of rail k is discarded (R173). -/
def dropTrim (k : Fin 8) (n : Fin 48) (s : State) : State :=
  (s.pi (F.OLPH_TRIM_BTRIM n.val) 0).modOl k fun o =>
    { o with cbi := vset o.cbi n 0, joined := vset o.joined n false, blindFrozen := vset o.blindFrozen n false }

/-- A phase leaves the ring of rail k at a sequence boundary (R136, R137, R173); a BOUNDARY write still waiting stays waiting
(log entry 92). -/
def leaveRing (k : Fin 8) (n : Fin 48) (s : State) : State :=
  let s1 := dropTrim k n s
  if (s1.ph n).out = .off && (s1.ph n).dead = .none then phOff n s1
  else s1.modPh n fun p => { p with tail := some k, delayed := none }

/-- Phase n leaves its rail's tail (R137). -/
def dropTail (n : Fin 48) (s : State) : State :=
  match (s.ph n).tail with
  | none => s
  | some k => updateTail k (s.modPh n fun p => { p with tail := none })

/-- A phase's tail ends at its off level (R137). -/
def endTail (n : Fin 48) (s : State) : State :=
  if (s.ph n).tail.isSome then dropTail n (phOff n s) else s

/-- PHASEOFS of ring position i in forced fixed-frequency mode (R133). -/
def State.ffOfs (s : State) (k : Fin 8) (i : Nat) : Nat :=
  s.g (F.RAIL_LOCKOFS_LOCKOFS k.val)
    + i * s.g (F.RAIL_FF_FFPER k.val) * 16 / max 1 (s.g (F.RAIL_SEQ_RINGLEN k.val))

/-- The ring phase at position i follows forced fixed-frequency mode: a phase that is high keeps its mode until its high level
ends, and any other switches at once; the offset of its position is loaded into its shadow (R133, R134). -/
def ffPhase (k : Fin 8) (i : Nat) (n : Fin 48) (s : State) : State :=
  if (s.ph n).modeOver = some 2 then s.modPh n fun p => { p with ofsNext := some (s.ffOfs k i) }
  else if (s.ph n).out = .high then s
  else s.modPh n fun p => { p with modeOver := some 2, delayed := none, ffFirst := true, ofsNext := some (s.ffOfs k i) }

/-- Every ring phase follows forced fixed-frequency mode (R133). -/
def ffRing (k : Fin 8) (s : State) : State :=
  (s.ring k).zipIdx.foldl (fun s x => ffPhase k x.2 x.1 s) s

/-- The rail is in onset mode. -/
def State.onset (s : State) (k : Fin 8) : Bool := s.gb (F.RAIL_MSTAT_ONSET k.val)

/-- The modulator runs constant on-time (1) or forced fixed-frequency (2), 0 while the rail is off. -/
def State.effMode (s : State) (k : Fin 8) : Nat := s.g (F.RAIL_MSTAT_EFFMODE k.val)

/-- A condition that freezes the lock holds (R130). -/
def State.lockFrozen (s : State) (k : Fin 8) : Bool :=
  !s.gb (F.RAIL_MCTL_LOCKEN k.val) || s.onset k || s.gb (F.RAIL_MSTAT_DEACT k.val) || s.effMode k == 2
    || decide (0 < (s.ra k).md.lockFreeze)

/-- LOCKFRZ follows the conditions that freeze the lock of an enabled rail; a freeze clears FLOCK (R127, R130). -/
def settleLock (k : Fin 8) (s : State) : State :=
  if s.enabled k && s.lockFrozen k then
    ((s.pb (F.RAIL_MSTAT_FLOCK k.val) false).pb (F.RAIL_MSTAT_LOCKFRZ k.val) true).modMd k fun m => { m with lockGood := 0 }
  else s.pb (F.RAIL_MSTAT_LOCKFRZ k.val) false

/-- One sequence boundary of the freeze after a PLL changeover has passed (R130). -/
def lockTick (k : Fin 8) (s : State) : State := settleLock k (s.modMd k fun m => { m with lockFreeze := m.lockFreeze - 1 })

/-- The high level of phase n has ended: in forced fixed-frequency mode the phase now switches (R133). -/
def ffSwitch (n : Fin 48) (s : State) : State :=
  match limRail s n with
  | some k => if s.g (F.RAIL_MSTAT_EFFMODE k.val) = 2 then ffRing k s else s
  | none => s

/-- A ring change of rail k waits for a sequence boundary (R126). -/
def ringChangeWaits (k : Fin 8) (s : State) : State :=
  if s.enabled k then
    (s.modMd k fun m => { m with seqWait := if m.seqPend then m.seqWait else 0, seqPend := true }).pb
      (F.RAIL_MSTAT_SEQPEND k.val) true
  else s

/-- A commit of group 02h or a rewrite of rail k's ring waits (R126). -/
def State.ringWaits (s : State) (k : Fin 8) : Bool :=
  s.img.armed.any (fun x => x.group == 2 && x.index == k.val) || (s.ra k).ink.rewrite.isSome

/-- SEQPEND follows what still waits after a sequence boundary, and its samples are counted anew (R126). -/
def seqSettle (k : Fin 8) (s : State) : State :=
  let w := s.enabled k && s.ringWaits k
  (s.modMd k fun m => { m with seqPend := w, seqWait := 0, forcePend := false }).pb (F.RAIL_MSTAT_SEQPEND k.val) w

/-- The ring of rail k becomes l, POS 0 (R126, R136); phases added start, phases removed leave. -/
def changeRing (k : Fin 8) (l : List (Fin 48)) (s : State) : State :=
  let old := s.ring k
  let s2 := (writeRing k l s).modMd k fun m => { m with pos := 0 }
  let gone := old.filter fun n => !l.contains n
  let come := l.filter fun n => !old.contains n
  if s.enabled k then
    let s3 := forEach (fun s n => leaveRing k n s) gone s2
    let s4 := forEach (fun s n => startPhase n (dropTrim k n s)) come s3
    let s5 := if s4.g (F.RAIL_MSTAT_EFFMODE k.val) = 2 then ffRing k s4 else s4
    updateSmods (updateTail k (s5.modEp k fun e => { e with settle := s5.g (F.EPH_SETTLE_ESETTLE k.val) }))
  else forEach (fun s n => dropTrim k n s) (gone ++ come) s2

/-- The phases PHASE[n].ASSIGN puts into a pool of rail k (R246): 0 working, 1 spare. -/
def State.pool (s : State) (k : Fin 8) (pool : Nat) : List (Fin 48) :=
  (allFin 48).filter fun n => s.railOf n.val == some k && s.g (F.PHASE_ASSIGN_POOL n.val) == pool
    && (s.rl n).role != .retired && (s.rl n).role != .unavailable

/-- The order in which a commit changes roles (R265): the new base order, then the phases that leave the old one in its order,
then every other phase by number. -/
def State.roleOrder (s : State) (k : Fin 8) (old : List (Fin 48)) : List (Fin 48) :=
  let base := (s.ra k).ink.base
  let gone := old.filter fun n => !base.contains n
  base ++ gone ++ (allFin 48).filter fun n => !base.contains n && !gone.contains n

/-- A phase under test takes a role by a commit (R246): its pulses end, and no result is recorded (DESIGN CHOICE, log entry 125: R263
does not name this end of a test). -/
def abandonTest (n : Fin 48) (r : Role) (s : State) : State :=
  changeRole n r 0 ((phOff n s).modRl n fun x => { x with testRun := 0, testSum := 0, testCnt := 0, stuck := false })

/-- Roles follow ASSIGN for the phases of rail k and those that left it (R246); a phase of no rail stays under test. -/
def assignRoles (k : Fin 8) (old : List (Fin 48)) (s : State) : State :=
  forEach (fun s n =>
    let want : Option Role :=
      if s.railOf n.val = some k then (if s.g (F.PHASE_ASSIGN_POOL n.val) = 0 then some .active else some .spare)
      else if s.railOf n.val = none then some .unassigned else none
    match want, (s.rl n).role with
    | none, _ => s
    | some _, .retired => s
    | some _, .unavailable => s
    | some r, .test => if r = .unassigned && (s.rl n).before == .unassigned then s else abandonTest n r s
    | some r, _ => changeRole n r 0 s) (s.roleOrder k old) s

/-- A group 02h commit takes effect: the committed ring is the base order, roles follow ASSIGN, and what the Innkeeper had
decided on the old ring falls away (R82, R246). -/
def ringCommitted (k : Fin 8) (old : List (Fin 48)) (s : State) : State :=
  let l := s.ring k
  let base := (s.ra k).ink.base
  let s1 := assignRoles k base (s.modInk k fun i => { i with base := l, want := none, rewrite := none, ret := [], promo := [] })
  let live := l.filter fun n => (s1.rl n).role == .active
  let s2 := writeRing k old s1
  capacityCheck k (changeRing k live s2)

/-! ### Coupled groups -/

/-- Staged writes of one group instance. -/
def State.stagedOf (s : State) (g i : Nat) : List Staged :=
  s.img.staging.filter fun x => x.group == g && x.index == i

/-- A commit of the group instance is armed. -/
def State.isArmed (s : State) (g i : Nat) : Bool := s.img.armed.any fun x => x.group == g && x.index == i

/-- Put the staged values of a group instance into their registers and empty its staging. -/
def putStaging (g i : Nat) (s : State) : State :=
  let l := s.stagedOf g i
  let s1 := forEach (fun s x => s.p ⟨x.addr, x.lo, x.w⟩ x.val) l s
  { s1 with img := { s1.img with
      staging := s1.img.staging.filter fun x => !(x.group == g && x.index == i)
      armed := s1.img.armed.filter fun x => !(x.group == g && x.index == i) } }

/-- A result of a group access, where GROUP_STATE names that group (R81). -/
def groupResult (g i r : Nat) (s : State) : State :=
  if s.g F.GROUP_STATE_GROUP = g && s.g F.GROUP_STATE_INDEX = i then s.p F.GROUP_STATE_LASTRESULT r else s

/-- The staged commit of a group instance takes effect (R80-R82). -/
def applyGroup (g i : Nat) (s : State) : State :=
  let old := s.ring (Fin.ofNat 8 i)
  let s1 := groupResult g i 1 (putStaging g i s)
  if g = 2 then ringCommitted (Fin.ofNat 8 i) old s1
  else if g = 3 then updateRateLim (Fin.ofNat 8 i) s1 else s1

/-- An armed commit of a group instance takes effect, if there is one. -/
def applyArmed (g i : Nat) (s : State) : State := if s.isArmed g i then applyGroup g i s else s

/-- 35 ns in fine steps (R97, R126). -/
def ns35 : Nat := 448

/-- The armed commit of a group instance completed at least w fine steps before the present instant (R27, R97, R126). -/
def State.isDue (s : State) (w g i : Nat) : Bool :=
  s.img.armed.any fun x => x.group == g && x.index == i && s.atLeast w x.at_

/-- Fine steps before its boundary at which an abort of group g still cancels (R81 rule 7): before the window of group 03h opens, at
least 35 ns before the other groups' boundaries. -/
def abortLead (g : Nat) : Nat := if g = 3 then ns35 + 1 else ns35

/-- A cancelled commit of a group instance that is eligible for the boundary now coming, and whose abort is not (R81 rule 7). -/
def State.lateAbort (s : State) (w g i : Nat) : Option Cancelled :=
  s.img.cancelled.find? fun x => x.commit.group == g && x.commit.index == i && s.atLeast w x.commit.at_
    && !s.atLeast (abortLead g) x.at_

/-- At the boundary of a group instance a commit whose abort came too late stands again, with its values, beside what has been staged
since; aborts that came in time are settled (R81 rule 7). -/
def reviveLate (w g i : Nat) (s : State) : State :=
  let own := fun (x : Cancelled) => x.commit.group == g && x.commit.index == i
  let s1 := { s with img := { s.img with cancelled := s.img.cancelled.filter fun x => !own x } }
  match s.lateAbort w g i with
  | none => s1
  | some x => { s1 with img := { s1.img with staging := x.values ++ s1.img.staging, armed := s1.img.armed ++ [x.commit] } }

/-- An armed commit of a group instance takes effect at its boundary, if it is eligible. -/
def applyDue (w g i : Nat) (s : State) : State :=
  let s1 := reviveLate w g i s
  if s1.isDue w g i then applyGroup g i s1 else s1

/-- Entry to SAFE discards all staging and armed commits, entry to LOCKDOWN those of every master but SUP (R81 rule 8). -/
def discardStaging (keepSup : Bool) (s : State) : State :=
  let keepS := s.img.staging.filter fun x => keepSup && x.by_ == .sup
  let keepA := s.img.armed.filter fun x => keepSup && x.by_ == .sup
  let s1 := { s with img := { s.img with staging := keepS, armed := keepA, cancelled := [] } }
  if keepS.length == s.img.staging.length && keepA.length == s.img.armed.length then s1
  else s1.p F.GROUP_STATE_LASTRESULT 4

/-! ### Retirement, promotion and the ring rewrite -/

/-- Retirements decided and still to take effect in rail k's base order, in base order (R255). -/
def State.retiring (s : State) (k : Fin 8) : List (Fin 48) :=
  (s.ra k).ink.base.filter fun n => s.g (F.PHASE_ROLE_RCAUSE n.val) != 0 && (s.rl n).role != .retired

/-- The qualifying spare of rail k with the lowest WEAR, ties to the lower phase (R256); one that stands in the base order already is
on its way in. -/
def State.bestSpare (s : State) (k : Fin 8) (taken : List (Fin 48)) : Option (Fin 48) :=
  let l := (allFin 48).filter fun n => s.railOf n.val == some k && (s.rl n).role == .spare
    && decide (s.g (F.PHASE_ROLE_TESTRES n.val) < 2) && !taken.contains n && !(s.ra k).ink.base.contains n
  l.foldl (fun b n => match b with
    | none => some n
    | some m => if s.g (F.PHASE_WEAR_WEAR n.val) < s.g (F.PHASE_WEAR_WEAR m.val) then some n else some m) none

/-- The promotions for a list of retirements, in base order (R256). -/
def State.promotions (s : State) (k : Fin 8) (l : List (Fin 48)) : List (Fin 48 × Fin 48) :=
  l.foldl (fun ps n => match s.bestSpare k (ps.map (·.2)) with
    | some m => ps ++ [(n, m)]
    | none => ps) []

/-! ### The efficiency table (R249) -/

/-- Entries of rail k's efficiency table in use: ICEIL and NPH. -/
def State.effTable (s : State) (k : Nat) : List (Nat × Nat) :=
  ((List.range 8).map fun j => (s.g (F.INK_EFF_ICEIL k j), s.g (F.INK_EFF_NPH k j))).takeWhile fun x => x.2 != 0

/-- Both columns rise strictly. -/
def strictlyRising : List (Nat × Nat) → Bool
  | a :: b :: l => decide (a.1 < b.1) && decide (a.2 < b.2) && strictlyRising (b :: l)
  | _ => true

/-- EFFBAD: the table breaks its ordering. -/
def State.effBad (s : State) (k : Nat) : Bool := !strictlyRising (s.effTable k)

/-- N(I), within NMIN and NAVAIL. -/
def State.nOf (s : State) (k : Fin 8) (i : Int) : Nat :=
  let n := match (s.effTable k.val).find? (fun x => decide (i ≤ (x.1 : Int))) with
    | some x => x.2
    | none => s.navail k
  min (max n (s.g (F.INK_CTL_NMIN k.val))) (s.navail k)

/-- The ACTIVE phases of rail k in base order. -/
def State.activeOf (s : State) (k : Fin 8) : List (Fin 48) :=
  (s.ra k).ink.base.filter fun n => (s.rl n).role == .active

/-- The rail decides by R250 how many phases it needs: AUTO is 1 and it is in ON. -/
def State.autoOn (s : State) (k : Fin 8) : Bool := s.gb (F.INK_CTL_AUTO k.val) && (s.ra k).tr.st == .on

/-- The phases N(IRAIL) asks for (R249, R250). -/
def State.needed (s : State) (k : Fin 8) : Nat := s.nOf k (asr (s.gi (F.OL_ITOT_ITOT k.val)) 6)

/-- A decision or a retirement of rail k waits that no rewrite carries yet (R252). -/
def State.unmerged (s : State) (k : Fin 8) : Bool :=
  (s.ra k).ink.want.isSome || (s.retiring k).any fun n => !(s.ra k).ink.ret.contains n

/-- The registers in which the ring l of rail k differs from the present one, with their new words: what a ring rewrite writes. -/
def State.ringWrites (s : State) (k : Fin 8) (l : List (Fin 48)) : List (Nat × Word) :=
  let s1 := writeRing k l s
  let as := (List.range 8).map (A.RAIL_RING k.val) ++ [A.RAIL_SEQ k.val]
  (as.filter fun a => s1.word a != s.word a).map fun a => (a, s1.word a)

/-- Form the ring rewrite of rail k (R252): retirements leave, promoted spares take their places, adds and sheds follow
the latest decision. Its writes pass through Q10 (R371; DEDUCED, log entry 105). A promoted spare is active if the rail then needs it under R250: while that rule runs, if fewer
phases stay than N(IRAIL); otherwise if the phase it replaces was active (R256). -/
def formRewrite (k : Fin 8) (s : State) : State :=
  let ink := (s.ra k).ink
  let ret := s.retiring k
  if !s.unmerged k then s
  else
    let promo := s.promotions k ret
    let held := ink.promo.filter fun x => (s.rl x.1).role == .retired
    let act := (ink.want <|> ink.rewrite).getD (s.activeOf k)
    let keep := ink.base.filter fun n => act.contains n && !ret.contains n
    let used := promo.zipIdx.filter fun x =>
      if s.autoOn k then decide (keep.length + x.2 < s.needed k) else act.contains x.1.1
    let swap := fun (n : Fin 48) => match promo.find? (fun x => x.1 == n) with | some x => x.2 | none => n
    let want := (ink.base.map swap).filter fun n => keep.contains n || used.any fun x => x.1.2 == n
    (forEach (fun s x => supPush x.1 x.2 s) (s.ringWrites k want) s).modInk k fun i => { i with want := none, rewrite := some want, ret := ret, promo := promo ++ held, rewriteAt := s.clock }

/-- A retirement that was held takes effect: the class 2 latch that waited for it is released (R282, R297). -/
def releaseHold (n : Fin 48) (s : State) : State :=
  if (s.ph n).holdRetire || s.gb (F.FM_PH_STAT_PHOFFACT n.val) then
    unlatchPhase n ((s.pb (F.FM_PH_STAT_PHOFFACT n.val) false).modPh n fun p => { p with holdRetire := false })
  else s

/-- Spare m takes the place of retired phase n in the working pool of rail k, in a role (R256). -/
def promote (k : Fin 8) (n m : Fin 48) (r : Role) (s : State) : State :=
  ((changeRole m r n.val s).p (F.PHASE_ASSIGN_POOL m.val) 0).inc (F.INK_CNT_PROMOTED k.val)

/-- One base position of a rewrite: the phase retires and its spare is promoted, or the phase is added or shed (R252-R256). -/
def rewriteOne (k : Fin 8) (act : List (Fin 48)) (ret : List (Fin 48)) (promo : List (Fin 48 × Fin 48)) (s : State)
    (n : Fin 48) : State :=
  if ret.contains n then
    let s1 := releaseHold n (changeRole n .retired (s.g (F.PHASE_ROLE_RCAUSE n.val)) s)
    match promo.find? (fun x => x.1 == n) with
    | some x => promote k n x.2 (if act.contains x.2 then .active else .shed) s1
    | none => s1
  else
    match (s.rl n).role, act.contains n with
    | .active, false => (changeRole n .shed 0 s).inc (F.INK_CNT_SHEDS k.val)
    | .shed, true => (changeRole n .active 0 s).inc (F.INK_CNT_ADDS k.val)
    | .spare, true => match promo.find? (fun x => x.2 == n) with
      | some x => promote k x.1 n .active s
      | none => s
    | _, _ => s

/-- A formed rewrite takes effect: role changes in ascending base position, a retirement before its promotion (R252-R256,
R265). -/
def applyRewrite (k : Fin 8) (s : State) : State :=
  let ink := (s.ra k).ink
  match ink.rewrite with
  | none => s
  | some act =>
    let ret := ink.ret.filter fun n => (s.rl n).role != .retired
    let promo := ink.promo.filter fun x => (s.rl x.2).role == .spare
    let s1 := forEach (rewriteOne k act ret promo) ink.base s
    let base := (ink.base.map fun n => match promo.find? (fun x => x.1 == n) with | some x => x.2 | none => n).filter
      fun n => (s1.rl n).role != .retired
    let s2 := s1.modInk k fun i => { i with base := base, rewrite := none, ret := [], promo := [], want := none }
    capacityCheck k (changeRing k (base.filter fun n => (s2.rl n).role == .active) s2)

/-- The rewrite of rail k completed at least 35 ns before the present instant (R126); one that a decision is still to be merged into is
not complete (R252). -/
def State.rewriteDue (s : State) (k : Fin 8) : Bool :=
  (s.ra k).ink.rewrite.isSome && !s.unmerged k && s.atLeast ns35 (s.ra k).ink.rewriteAt

/-- A sequence boundary of rail k (R126, R82): an armed group 02h commit first, after which the Innkeeper evaluates again what
it still requires; otherwise the waiting rewrite. -/
def ringBoundary (k : Fin 8) (s0 : State) : State :=
  let s := reviveLate ns35 2 k.val s0
  seqSettle k (if s.isDue ns35 2 k.val then formRewrite k (applyGroup 2 k.val s)
    else if s.rewriteDue k then applyRewrite k s else s)

/-- A forced sequence boundary of rail k (R126): a ring change that still waits takes effect, and no lock error is measured. -/
def forceSequence (k : Fin 8) (s : State) : State :=
  if s.enabled k && (s.ra k).md.seqPend then lockTick k (ringBoundary k (s.inc (F.RAIL_MCNT_FORCEDSEQ k.val))) else s

/-! ### Disabling a rail -/

/-- SAMPLE writes take effect, in completion order (R28 step 5). -/
def putSamples (l : List (Nat × Nat × Word)) (s : State) : State :=
  l.foldl (fun s x => commitFields .sample x.2.1 x.2.2 s) s

/-- Every SAMPLE write of rail k that waits takes effect. -/
def applySamples (k : Fin 8) (s : State) : State :=
  (putSamples (s.ra k).sample s).modRa k fun r => { r with sample := [] }

/-- What completed at instant c completed before the boundary window of the present instant started, 35 ns earlier (R27). -/
def State.beforeWindow (s : State) (c : Nat) : Bool := s.atLeast (ns35 + 1) c

/-- The level a boundary acts on: the present one, unless it changed too late, from its latest changes (R27). -/
def State.levelAt (s : State) (now : Bool) (hist : List (Nat × Bool)) : Bool :=
  match (hist.filter fun x => !s.beforeWindow x.1).getLast? with
  | some x => x.2
  | none => now

/-- A change of a level is noted with its instant; the latest ones are kept (R27). -/
def State.noteLevel (s : State) (was now : Bool) (hist : List (Nat × Bool)) : List (Nat × Bool) :=
  if was == now then hist else ((s.clock, was) :: hist).take 64

/-- ENk as the present boundary acts on it (R202). -/
def State.enAt (s : State) (k : Fin 8) : Bool := s.levelAt (vget s.sup.en k) (vget s.sup.enHist k)

/-- GEN of group g as the present boundary acts on it (R209). -/
def State.genAt (s : State) (g : Fin 4) : Bool := s.levelAt (s.gb (F.SEQGRP_CTL_GEN g.val)) (vget s.genHist g)

/-- GEN of group g has changed from `was` (R209). -/
def noteGen (g : Fin 4) (was : Bool) (s : State) : State :=
  { s with genHist := vset s.genHist g (s.noteLevel was (s.gb (F.SEQGRP_CTL_GEN g.val)) (vget s.genHist g)) }

/-- The SAMPLE writes of rail k that completed before the boundary window take effect (R27, R28 step 5). -/
def dueSamples (k : Fin 8) (s : State) : State :=
  (putSamples ((s.ra k).sample.takeWhile fun x => s.beforeWindow x.1) s).modRa k
    fun r => { r with sample := r.sample.dropWhile fun x => s.beforeWindow x.1 }

/-- A rail of retired lane f no longer waits: once none does, LASTFROM, LASTTO and MOVES record the move (R164). -/
def recordMove (src : Option (Fin 5 × Bool)) (spread : Bool) (dest : Nat) (s : State) : State :=
  match src with
  | none => s
  | some f =>
    if (allFin 8).any fun j => (s.ra j).gr.moveTo.isSome && (match (s.ra j).gr.place with
        | some x => x.1 == f.1 | none => false) then s
    else ((s.p F.LE_STATUS_LASTFROM f.1.val).p F.LE_STATUS_LASTTO (if spread then 7 else dest)).inc F.LE_STATUS_MOVES

/-- A rail disabled during a lane move leaves the move, and holds no half-frame until its next start (R297). -/
def leaveMove (k : Fin 8) (s : State) : State :=
  let g := (s.ra k).gr
  match g.moveTo with
  | none => s
  | some t =>
    recordMove g.place g.spread t.1.val
      ((s.modGr k fun g => { g with place := none, moveTo := none, copied := false }).pb (F.GRAPH_STATUS_MOVING k.val) false)

/-- The blocks of rail k stop: waiting SAMPLE and BOUNDARY writes of the rail and of its ring and tail phases take effect, those of
EV_RTR apart (DESIGN CHOICE, log entry 92: R8 is silent; those of a phase that leaves a ring, a tail or a test alone stay waiting), armed
commits take effect (R81 rule 5), a waiting rewrite's role changes too (R266), RCONS returns to 0 (R279), and the modulator,
graph and supervisor leave their modes. -/
def stopBlocks (k : Fin 8) (s : State) : State :=
  let s1 := applySamples k s
  let s2 := forEach (fun s n => applyArmed 1 n.val (transferOwn n s)) (s1.ringTail k) s1
  let s3 := applyArmed 3 k.val (applyArmed 2 k.val s2)
  let s4 := applyRewrite k (formRewrite k s3)
  let s5 := (s4.p (F.FM_RAIL_STAT_RCONS k.val) 0).p (F.OL_STATUS_FECNT k.val) 0
  let s6 := (s5.p (F.RAIL_MSTAT_EFFMODE k.val) 0).pb (F.RAIL_MSTAT_DEACT k.val) false
  let s7 := (s6.pb (F.RAIL_MSTAT_ONSET k.val) false).pb (F.RAIL_MSTAT_SEQPEND k.val) false
  let s9 := ((s7.pb (F.GRAPH_STATUS_COASTING k.val) false).pb (F.RAIL_MSTAT_FLOCK k.val) false).pb
    (F.RAIL_MSTAT_LOCKFRZ k.val) false
  let s10 := s9.modMd k fun m => { m with inFlight := [], waiting := false, blanking := false, seqPend := false,
                                          seqWait := 0, forcePend := false, cont := 0, deExit := false, lockGood := 0 }
  let s11 := s10.modTr k fun t => { t with grace := none, ramp := 0, v := 0, a := 0, holdDe := false }
  let s12 := leaveMove k (s11.modPr k fun p => { p with safeStop := false, senseLost := false })
  s12.modInk k fun i => { i with shedCnt := 0, fcPending := false, fcAdded := [] }

/-- A phase of a rail that stops: with `hard` its high level ends at once, otherwise at its programmed time (R91, R284);
its tail ends with the rail. -/
def stopPhase (hard : Bool) (n : Fin 48) (s : State) : State :=
  let s1 := s.modPh n fun p => { p with tail := none, delayed := none, modeOver := none, dutyShadow := none,
                                        dutyActive := none, ffFirst := false, ofsOver := none, ofsNext := none }
  if hard || (s.ph n).out != .high then phOff n s1 else s1

/-- Rail k is disabled: softly at the end of a stop (R91, R206), or hard by a response (R284); the state it
enters is `st`. -/
def stopRail (hard : Bool) (st : SeqState) (k : Fin 8) (s : State) : State :=
  let phs := s.ringTail k
  if s.enabled k then updateTail k (forEach (fun s n => stopPhase hard n s) phs (enterState k st (stopBlocks k s)))
  else enterState k st s

/-- Rail k is disabled, and SMODg follows (R47). -/
def disableRail (hard : Bool) (st : SeqState) (k : Fin 8) (s : State) : State := updateSmods (stopRail hard st k s)

end Sys2Proof.Machine
end

