-- ==== Sys2Proof/Machine/PowerOps.lean ====
section
/-!
DEFINITION. Shared operations of the input stage (R303, R317) and of the PMBus status latches (R363): the state of the
hot-swap FET, HSGATE, the early warning, and the latches a recorded fault sets.
-/

namespace Sys2Proof.Machine

/-! ### PMBus status latches (R363) -/

/-- Set bits of the latches of rail k. -/
def latchRail (k : Fin 8) (vo io inp tmp : Nat) (s : State) : State :=
  let l := vget s.latches k
  let l1 : RailLatches := ⟨l.vout ||| BitVec.ofNat 8 vo, l.iout ||| BitVec.ofNat 8 io,
    l.input ||| BitVec.ofNat 8 inp, l.temp ||| BitVec.ofNat 8 tmp⟩
  { s with latches := vset s.latches k l1 }

/-- Set bits of the latches of one rail, or of every rail for a device source. -/
def latchScope (k : Option (Fin 8)) (vo io inp tmp : Nat) (s : State) : State :=
  match k with
  | some k => latchRail k vo io inp tmp s
  | none => forAll (n := 8) (fun s k => latchRail k vo io inp tmp s) s

/-- The latch a FID sets (R363). -/
def latchFid (fid : Nat) (k : Option (Fin 8)) (s : State) : State :=
  match fid with
  | 0x07 => latchScope k 0x80 0 0 0 s
  | 0x08 => latchScope k 0x10 0 0 0 s
  | 0x0A => latchScope k 0x04 0 0 0 s
  | 0x09 => latchScope k 0x01 0 0 0 s
  | 0x02 => latchScope k 0 0x80 0 0 s
  | 0x03 => latchScope k 0 0x20 0 0 s
  | 0x0D => latchScope k 0 0x08 0 0 s
  | 0x1C => latchScope none 0 0 0x80 0 s
  | 0x18 | 0x19 => latchScope none 0 0 0x04 0 s
  | 0x0C => latchScope k 0 0 0 0x80 s
  | 0x12 | 0x1A => latchScope none 0 0 0 0x80 s
  | 0x0B | 0x11 | 0x1F => latchScope none 0 0 0 0x40 s
  | _ => s

/-! ### The hot-swap FET -/

/-- STATE of the hot-swap FET: NP_RSTATE.NPSTATE, which PT_STATUS.STATE shows (R303). -/
def State.ptSt (s : State) : Nat := s.g F.NP_RSTATE_NPSTATE

/-- Some rail is enabled. -/
def State.anyEnabled (s : State) : Bool := (allFin 8).any fun k => s.enabled k

/-- Feed b (0 A, 1 B) is present: its watch holds and FEEDEN does not mask it (R300). -/
def State.feed (s : State) (b : Fin 2) : Bool :=
  vget s.np.watch b && bitAt (if s.pt.inCharge then s.g F.PT_CTL_FEEDEN else s.np.feeden) b.val

/-- Some feed is present. -/
def State.anyFeed (s : State) : Bool := s.feed 0 || s.feed 1

/-- The input is present: a feed is, and outside OFF C112 is not tripped (R300). -/
def State.inputPresent (s : State) : Bool := s.anyFeed && !(s.core && s.fnOut 112)

/-- PFW# asserts with a cause that PFWSRC enables, outside BOOT and OFF: PFW on every endpoint, the router edge, the
record and the latches (R317, R335, R363). While it is asserted, PFWCAUSE keeps the first cause. -/
def pfwAssert (cause : Nat) (s : State) : State :=
  if s.dev = .off || s.dev = .boot || s.pfw || !bitAt (s.g F.PT_PFW_PFWSRC) (cause - 1) then s
  else
    let s1 := (s.pb F.PT_STATUS_PFWNOW true).p F.PT_STATUS_PFWCAUSE cause
    let s2 := routerEdge 0xE0 true (deviceCause 31 s1)
    let s3 := latchScope none 0 0 (if cause = 2 then 0x30 else 0x20) 0 s2
    record 5 ([byte 1, byte cause] ++ leBytes 2 (s3.g F.PT_THERM_HOLDUS)) s3

/-- The Porter's block runs while a gate is driven on (R78). -/
def State.porterRuns (s : State) : Bool := s.np.hs || vget s.np.gate 0 || vget s.np.gate 1

/-- A group 04h commit still armed when the Porter's block stops takes effect (R81 rule 5). -/
def porterStopped (s : State) : State := if s.porterRuns then s else applyArmed 4 0xFF s

/-- HSGATE is turned off; while a rail is enabled that is cause 011b of the early warning (R317). -/
def hsOff (s : State) : State :=
  if s.np.hs then
    let s1 := { s with np := { s.np with hs := false } }
    if s1.anyEnabled then pfwAssert 3 s1 else s1
  else s

/-- The hot-swap FET takes a state; HSGATE is driven in INRUSH and ON (R303), and PT_CNT.RETRIED counts an entry to WAIT
(R313). -/
def setPt (st : Nat) (s : State) : State :=
  let s0 := if st = 4 && s.ptSt != 4 && s.dev != .off then s.inc F.PT_CNT_RETRIED else s
  let s1 := s0.p F.NP_RSTATE_NPSTATE st
  if st = 2 || st = 3 then { s1 with np := { s1.np with hs := true } } else hsOff s1

/-- AON ticks of RWAIT ms, rounded up: ceil(RWAIT * 32.768) (R313). -/
def aonTicks (ms : Nat) : Nat := ceilDiv (ms * 32768) 1000

/-- RETRIES and RWAIT in force: the Porter's fields while it is in charge, the Night Porter's copies otherwise (R314). -/
def State.retryCfg (s : State) : Nat × Nat :=
  if s.pt.inCharge then (s.g F.PT_RETRY_RETRIES, s.g F.PT_RETRY_RWAIT) else (s.np.retries, s.np.rwait)

/-- A retry is counted and its wait starts (R313). -/
def startWait (s : State) : State :=
  let s1 := (s.p F.NP_RSTATE_RCNT (min 15 (s.g F.NP_RSTATE_RCNT + 1))).p F.NP_RSTATE_REMWAIT (aonTicks s.retryCfg.2)
  { s1 with np := { s1.np with remAt := some s.clock, remMid := true } }

/-- A gate fault (R313): HSGATE off, then LATCHED, or a counted retry and WAIT. With HOSTOFF it is counted, the wait starts and
the state is OFF (R320). -/
def gateFault (s : State) : State :=
  let retries := s.retryCfg.1
  if s.pt.inCharge && s.gb F.PT_CTL_HOSTOFF then setPt 6 (startWait s)
  else if retries ≠ 15 && retries ≤ s.g F.NP_RSTATE_RCNT then setPt 5 s
  else setPt 4 (startWait s)

/-- REMWAIT of the present instant (R314): it falls by one every AON tick, and RETRY_WAIT_END brings it to 0. The AON ticks since
it was last brought up to date lie within the accuracy of the RC (3 %, R414) and within a second; where the time base cannot tell, within a second. -/
def State.remNow (s : State) : Nat :=
  let r := s.g F.NP_RSTATE_REMWAIT
  let ticks := match s.np.remAt with
    | none => min 32768 (Config.aonElapsed s.clock)
    | some c =>
      let d := elapsed c s.clock
      if d = 0 then 0 else min 32768 (max (97 * d / 39062500) (min (103 * d / 39062500 + 1) (Config.aonElapsed d)))
  if r = 0 then 0 else max 1 (r - ticks)

end Sys2Proof.Machine
end

