-- ==== Sys2Proof/Machine/Fault.lean ====
section
/-!
DEFINITION. The fault manager's shared operations (11_protection.md): lane placement (R139, R140, R164), interim cover
(R291), class responses (R276-R278, R283, R284), reports (R294, R295, R335, R336, R363), strikes and retirement (R289,
R290), and entry to SAFE and LOCKDOWN (R19, R22, R284).
-/

namespace Sys2Proof.Machine

/-! ### Lanes -/

/-- Lane m is retired. -/
def State.laneRet (s : State) (m : Nat) : Bool := bitAt (s.g F.LE_STATUS_RETIRED) m

/-- The half-frame rail k holds or moves to. -/
def GraphState.home (g : GraphState) : Option (Fin 5 × Bool) := g.moveTo <|> g.place

/-- Half-frame h of lane m is free. -/
def State.halfFree (s : State) (m : Fin 5) (h : Bool) : Bool :=
  (allFin 8).all fun k => (s.ra k).gr.home != some (m, h)

/-- Lane m serves a rail. -/
def State.laneBusy (s : State) (m : Fin 5) : Bool := !(s.halfFree m false && s.halfFree m true)

/-- The half-frames in the order of R139, retired lanes skipped. -/
def State.freeHalves (s : State) : List (Fin 5 × Bool) :=
  ((allFin 5).flatMap fun m => [(m, false), (m, true)]).filter fun x => !s.laneRet x.1.val && s.halfFree x.1 x.2

/-- The spare lane: the lowest-numbered lane neither retired nor serving a rail (R140). -/
def State.spareLane (s : State) : Option (Fin 5) :=
  (allFin 5).find? fun m => !s.laneRet m.val && !s.laneBusy m

/-- Some rail is on its way to lane m as its lane's spare (R164). -/
def State.spareAwaits (s : State) (m : Fin 5) : Bool :=
  (allFin 8).any fun k => !(s.ra k).gr.spread && match (s.ra k).gr.moveTo with | some t => t.1 == m | none => false

/-- The spare lane as named: until a lane move ends the spare it takes stays named, and then the spare is named again (R140,
R164). -/
def State.spareNamed (s : State) : Option (Fin 5) := (allFin 5).find? s.spareAwaits <|> s.spareLane

/-- Rail k is in a lane move: its output, Transit and commands are held (R33, R164). -/
def State.moving (s : State) (k : Fin 8) : Bool := (s.ra k).gr.moveTo.isSome

/-! ### Interim cover (R291) -/

/-- The latest unfiltered code of main-converter channel c. -/
def State.mcCode (s : State) (c : Nat) : Int := s.g (F.MC_CH_DATA_CODE c)

/-- The input of function f from the main converter, in half codes of 1.2 V / 4096 (R267, R323); 0 for functions without
interim cover. -/
def State.coverIn (s : State) (f : Nat) : Int :=
  if 96 ≤ f ∧ f < 112 then (if s.gb (F.CMP_CTL_ATTEN f) then 3 else 6) * s.mcCode (54 + f % 8)
  else 2 * (if f = 112 ∨ f = 113 then 2 * s.mcCode 71
    else if f = 114 then s.mcCode 75
    else if f = 115 then 2048 + 1600 * (s.mcCode 73 - s.mcCode 71)
    else if f = 116 then 2048 + 1600 * (s.mcCode 74 - s.mcCode 71)
    else if f = 117 then 2 * s.mcCode 73
    else if f = 118 then 2 * s.mcCode 74
    else if f = 119 then 2 * s.mcCode 72
    else 0)

/-- VH of comparator c in thirtieths of a code of 1.2 V / 4096 (R268): 5 mV is 512 of them. -/
def State.hystOf (s : State) (c : Nat) : Int :=
  let h : Int := match s.g (F.CMP_CTL_HYST c) with | 0 => 0 | 1 => 512 | 2 => 1024 | _ => 2048
  if s.gb (F.CMP_CTL_RANGE c) then 2 * h else h

/-- VDAC of comparator c in thirtieths of a code of 1.2 V / 4096 (R268). -/
def State.vdacOf (s : State) (c : Nat) : Int :=
  (if s.gb (F.CMP_CTL_RANGE c) then 240 else 120) * s.g (F.CMP_DAC_DACNOW c)

/-- What an input of v thirtieths makes of an output `out` at function f (R268): above, below, and in band. -/
def State.senseOut (s : State) (f : Nat) (v : Int) (out : Bool) : Bool :=
  if senseBelow f then
    if v < s.vdacOf f then true else if s.vdacOf f + s.hystOf f < v then false else out
  else
    if s.vdacOf f < v then true else if v < s.vdacOf f - s.hystOf f then false else out

/-- The interim cover of function f evaluates its own reading (R291, R297). -/
def State.coverOut (s : State) (f : Nat) : Bool :=
  if f < 48 then (s.phase.toList.getD f PhaseState.reset).digOc
  else if f < 96 then false
  else s.senseOut f (15 * s.coverIn f) (s.gb (F.CMP_STATUS_OUT f))

/-! ### Events -/

/-- One event of the fault manager: FID, scope, the channel it names (type of R294, index), the reading it reports, and
whether it adds a strike or is permanent at once. -/
structure FmEvent where
  fid : Nat
  rail : Option (Fin 8)
  phase : Option (Fin 48)
  chan : Option (Nat × Nat)
  value : Option Int
  strike : Bool
  perm : Bool
  /-- Fixed class that overrides FM_CLASS, for sources set elsewhere (R275). -/
  cls : Option Nat
  deriving DecidableEq, Repr

/-- An event of device scope. -/
def devEvent (fid : Nat) : FmEvent := ⟨fid, none, none, none, none, false, false, none⟩

/-- An event of rail scope. -/
def railEvent (fid : Nat) (k : Fin 8) : FmEvent := ⟨fid, some k, none, none, none, false, false, none⟩

/-- An event of phase scope: it names the phase's channel. -/
def phEvent (fid : Nat) (n : Fin 48) (k : Option (Fin 8)) (strike perm : Bool) : FmEvent :=
  ⟨fid, k, some n, some (1, n.val), none, strike, perm, none⟩

/-- An event of a comparator (2), converter (3), lane (4) or PLL (5). -/
def chanEvent (fid t i : Nat) (strike perm : Bool) : FmEvent :=
  ⟨fid, none, none, some (t, i), none, strike, perm, none⟩

/-- A source of phase scope (R275). -/
def isPhaseFid (fid : Nat) : Bool := fid = 1 || (3 ≤ fid && fid ≤ 6)

/-- A source of rail scope (R275). -/
def isRailFid (fid : Nat) : Bool := fid = 2 || (7 ≤ fid && fid ≤ 10) || (12 ≤ fid && fid ≤ 15)

/-- The class of a FID for rail k: FM_CLASS, OL[k].FECLS for FOLLOWERR, INK[k].CTL for SENSELOST (R275). -/
def State.classOf (s : State) (fid : Nat) (k : Option (Fin 8)) : Nat :=
  let own := getBits (s.word (A.FM_CLASS (fid / 8))) (4 * (fid % 8)) 4
  match fid, k with
  | 0x09, some k => s.g (F.OL_FECLS_FECLASS k.val)
  | 0x0D, some k => s.g (F.INK_CTL_SLCLASS k.val)
  | _, _ => own

/-! ### Responses -/

/-- A member of an ordering group latched: with GFAULT 1 the group stops and GEN is cleared, else GBLOCK (R209). -/
def groupLatched (k : Fin 8) (s : State) : State :=
  if s.gb (F.RAIL_SEQCTL_INGRP k.val) then
    let g := s.g (F.RAIL_SEQCTL_SEQGRP k.val)
    if s.gb (F.SEQGRP_CTL_GFAULT g) then noteGen (Fin.ofNat 4 g) (s.gb (F.SEQGRP_CTL_GEN g)) (s.pb (F.SEQGRP_CTL_GEN g) false)
    else if s.gb (F.SEQGRP_CTL_GEN g) then s.pb (F.SEQGRP_STATUS_GBLOCK g) true else s
  else s

/-- A hold-off that latched phase n in this very SYS cycle (8 tb) gives way to the response that disables the rail (R278,
R297). -/
def releaseSameCycle (n : Fin 48) (s : State) : State :=
  match (s.ph n).holdAt with
  | some c =>
    if s.gb (F.FM_PH_STAT_PHOFFACT n.val) && c / 128 == s.clock / 128 then
      unlatchPhase n (s.pb (F.FM_PH_STAT_PHOFFACT n.val) false)
    else s
  | none => s

/-- Rail k is disabled at once by a response (R284) into a state; with OVLOW 1 a RAILOV disable holds its phases
low-side on while C96 + k is tripped, those of a group FORCEOFF holds apart (R47). -/
def respondDisable (fid : Nat) (st : SeqState) (k : Fin 8) (s : State) : State :=
  let phs := s.ringTail k
  let s1 := forEach (fun s n => releaseSameCycle n s) phs (stopRail true st k s)
  updateSmods (if fid = 7 && s.gb (F.FM_RAIL_PROT_OVLOW k.val) && s.enabled k && s.fnOut (96 + k.val) then
      forEach (fun s n => if s.gb (F.STAGEGRP_CFG_FORCEOFF (groupOf n.val)) then s else phLow n s) phs (s1.modPr k fun p => { p with ovLow := true })
    else s1)

/-- STANDBY and RUN follow the rails (R17, R19). -/
def updateDev (s : State) : State :=
  match s.dev with
  | .standby => if s.anyEnabled then s.setDev .run else s
  | .run => if s.anyEnabled then s else s.setDev .standby
  | _ => s

/-- The rail actions of a class 5 response (R284). -/
def safeRail (fid : Nat) (own : Option (Fin 8)) (s : State) (k : Fin 8) : State :=
  match s.st k with
  | .off => s
  | .latched => s
  | .delay | .hiccup => enterState k .off s
  | _ =>
    if own = some k || s.gb (F.FM_RAIL_PROT_SAFEIMM k.val) then respondDisable fid .off k s
    else
      let s1 := if s.st k = .stopping then s else enterState k .stopping s
      (s1.modPr k fun p => { p with safeStop := true }).modTr k fun t =>
        { t with holdDe := t.holdDe || s.gb (F.RAIL_SEQCTL_STOPDE k.val) }

/-- A class 5 response enters SAFE; in LOCKDOWN the rail actions apply and SAFEACT is set (R19, R22, R284). -/
def enterSafe (fid : Nat) (own : Option (Fin 8)) (s : State) : State :=
  match s.dev with
  | .lockdown => (forAll (safeRail fid own) s).pb F.DEVICE_STATUS_SAFEACT true
  | .standby | .run | .boot =>
    let s1 := forAll (safeRail fid own) s
    let s2 := (discardStaging false (s1.setDev .safe)).p F.FM_STATUS_SAFEFID fid
    let s3 := deviceCause 29 s2
    queueRecord (makeRecord 8 [byte 4, byte fid] s3) true false s3
  | .safe => forAll (safeRail fid own) s
  | .off => s

/-- Entry to LOCKDOWN (R19, R22): staging of every master but SUP is discarded, DEVSTATE set, the entry recorded. -/
def enterLockdown (s : State) : State :=
  match s.dev with
  | .standby | .run | .safe =>
    let s1 := deviceCause 29 (discardStaging true (s.setDev .lockdown))
    record 8 [byte 5, byte (s1.g F.FM_STATUS_SAFEFID)] s1
  | _ => s

/-- The class a class 3 response takes against rail k: 4 when the retries are used up (R283). -/
def State.hiccupClass (s : State) (k : Fin 8) : Nat :=
  if s.enabled k && s.g (F.FM_RAIL_HIC_HICRETRY k.val) ≠ 15
      && s.g (F.FM_RAIL_STAT_HICCNT k.val) = s.g (F.FM_RAIL_HIC_HICRETRY k.val) then 4 else 3

/-- The response of class c to a source of rail k: the state after it and the class it is recorded with; class 1 and 2
act as class 0 (R276-R278, R283, R284). -/
def railRespond (fid c : Nat) (k : Fin 8) (s : State) : State × Nat :=
  let s0 := (setPG k false s).modTr k fun t => { t with inCnt := 0, outCnt := 0 }
  if c = 3 then
    match s.st k with
    | .off | .delay | .hiccup | .latched => (s0, 3)
    | _ =>
      if s.hiccupClass k = 4 then
        (groupLatched k ((respondDisable fid .latched k s0).p (F.FM_RAIL_STAT_LATFID k.val) fid), 4)
      else ((respondDisable fid .hiccup k s0).p (F.FM_RAIL_STAT_LATFID k.val) fid, 3)
  else if c = 4 then
    match s.st k with
    | .latched => (s0, 4)
    | _ => (groupLatched k ((respondDisable fid .latched k s0).p (F.FM_RAIL_STAT_LATFID k.val) fid), 4)
  else if c = 5 then
    let s1 := if fid = 7 && s.st k = .off then
        groupLatched k ((respondDisable fid .latched k s0).p (F.FM_RAIL_STAT_LATFID k.val) fid)
      else s0
    (enterSafe fid (some k) s1, 5)
  else (s0, 0)

/-- The class 2 response to phase n: the hold-off latches it, and its tail ends (R137, R276); a phase whose block does not
run, as one of a rail being disabled, is not held off (R278). -/
def phaseHold (n : Fin 48) (keep : Bool) (s : State) : State :=
  if !s.phRuns n then s
  else
    let s1 := s.pb (F.FM_PH_STAT_PHOFFACT n.val) true
    let s2 := if s1.latched n.val then phOff n s1
      else (latchPhase n s1).modPh n fun p => { p with holdAt := some s.clock }
    dropTail n (ffSwitch n (s2.modPh n fun p => { p with holdClear := false, holdRetire := p.holdRetire || keep }))

/-- The response to an event of class c: the state after it and the class recorded (R276-R278); a class 1 or 2 given to a
rail or device source acts as class 0 (R277). -/
def respond (e : FmEvent) (c : Nat) (s : State) : State × Nat :=
  if isPhaseFid e.fid then
    match e.phase with
    | none => (s, c)
    | some n =>
      if c = 2 then (phaseHold n e.perm s, 2)
      else if 3 ≤ c then
        match e.rail with
        | some k => railRespond e.fid c k s
        | none => (s, c)
      else (s, c)
  else if isRailFid e.fid then
    match e.rail with
    | some k => railRespond e.fid c k s
    | none => (s, c)
  else if c = 5 then
    (enterSafe e.fid none (forAll (fun s k => if s.enabled k then setPG k false s else s) s), 5)
  else if c = 4 then
    (forAll (fun s k => if s.enabled k then (railRespond e.fid 4 k s).1 else s) s, 4)
  else (s, if c ≤ 2 then 0 else c)

/-! ### Reports -/

/-- The strike count a channel shows. -/
def State.strikesOf (s : State) (ch : Option (Nat × Nat)) : Nat :=
  match ch with
  | some (1, i) => s.strikes.phase.toList.getD i 0
  | some (2, i) => s.strikes.cmp.toList.getD i 0
  | some (3, i) => s.strikes.ic.toList.getD i 0
  | some (4, i) => s.strikes.lane.toList.getD i 0
  | some (5, i) => s.strikes.pll.toList.getD i 0
  | _ => 0

/-- Data [15:0] of the Q11 entry (R294). -/
def State.reportValue (s : State) (e : FmEvent) (c : Nat) : Nat :=
  match e.value with
  | some v => ofSigned 16 v
  | none =>
    match e.rail, e.chan with
    | some k, _ => if isRailFid e.fid && (c = 3 || c = 4) then s.g (F.FM_RAIL_STAT_HICCNT k.val)
        else match e.chan with | some x => x.2 | none => 0
    | none, some x => x.2
    | none, none => 0

/-- The Q11 entry of an event recorded with class c (R294). -/
def State.reportEntry (s : State) (e : FmEvent) (c : Nat) (perm : Bool) : QEntry :=
  let ct := match e.chan with | some x => x.1 | none => 0
  let ph := match e.phase with | some n => n.val | none => 0x3F
  let rl := match e.rail with | some k => k.val * 128 + 64 | none => 0
  ⟨BitVec.ofNat 32 (e.fid * 2 ^ 24 + c * 2 ^ 21 + bitIf perm 20 + ct * 2 ^ 16 + s.reportValue e c),
    BitVec.ofNat 16 (ph * 1024 + rl), BitVec.ofNat 16 (s.strikesOf e.chan * 256)⟩

/-- Report an event (R276, R294, R295, R335, R336, R340, R363, R374). -/
def report (e : FmEvent) (c : Nat) (perm : Bool) (s : State) : State :=
  let q := s.reportEntry e c perm
  let s1 := qPush 11 q s
  let s2 := (s1.p F.FM_STATUS_LASTFID e.fid).p F.FM_STATUS_LASTCLS c
  let s3 := if s2.g F.FM_CTL_FPMIN ≤ c then s2.pb F.FM_STATUS_FPEND true else s2
  let s4 := match e.phase with | some n => s3.p (F.FM_PH_STAT_LASTFID n.val) e.fid | none => s3
  let s5 := latchFid e.fid e.rail s4
  let s6 := queueRecord (makeRecord 1 q.bytes s5) (decide (s5.g F.LG_CTL_PINCLS ≤ c)) false s5
  plateFault c (routerEvent 0xE1 s6)

/-! ### Feeds (R300-R302) -/

/-- FEEDMODE in force: the register's while the Porter is in charge, the controllers' copy otherwise (R302, R315). -/
def State.feedmode (s : State) : Nat := if s.pt.inCharge then s.g F.PT_CTL_FEEDMODE else s.np.feedmode

/-- The undervoltage comparator of feed b is tripped; the controllers use none in OFF (R302). -/
def State.feedUv (s : State) (b : Fin 2) : Bool := s.core && s.fnOut (117 + b.val)

/-- The other feed. -/
def otherFeed (b : Fin 2) : Fin 2 := if b = 0 then 1 else 0

/-- Feed b is the one FEEDMODE prefers. -/
def State.preferred (s : State) (b : Fin 2) : Bool := s.feedmode == b.val + 1

/-- The other feed is preferred and holds the gate of feed b off (R302). -/
def State.heldOff (s : State) (b : Fin 2) : Bool :=
  let o := otherFeed b
  s.preferred o && s.feed o && !s.feedUv o

/-- UVOFF keeps feed b from conducting (R302). -/
def State.uvHeld (s : State) (b : Fin 2) : Bool := s.core && s.gb F.PT_CTL_UVOFF && s.feedUv b

/-- Feed b is enabled for conduction (R301, R302). -/
def State.mayConduct (s : State) (b : Fin 2) : Bool :=
  bitAt (if s.pt.inCharge then s.g F.PT_CTL_FEEDEN else s.np.feeden) b.val && !s.heldOff b && !s.uvHeld b

/-- The gate of feed b is driven on or off. -/
def setGate (b : Fin 2) (v : Bool) (s : State) : State := { s with np := { s.np with gate := vset s.np.gate b v } }

/-- FEEDOFF for feed b, of fixed class 0, at most once a second (R312). -/
def feedOff (b : Fin 2) (s : State) : State :=
  if s.core && vget s.pt.raised b != some (s.g F.NP_SECS_SECS) then
    report (devEvent 0x1E) 0 false { s with pt := { s.pt with raised := vset s.pt.raised b (some (s.g F.NP_SECS_SECS)) } }
  else s

/-- A reverse detector of feed b trips: the gate is turned off and counted (R301). -/
def reverseOff (b : Fin 2) (s : State) : State :=
  if vget s.np.gate b then
    let s1 := setGate b false s
    if s1.core then
      let s2 := (s1.inc F.PT_CNT_REVOFF).pb (if b = 0 then F.PT_STATUS_REVA else F.PT_STATUS_REVB) true
      feedOff b s2
    else s1
  else s

/-- The gate of feed b follows what changed: off when it may no longer conduct, on without ORDLY when the preferred feed
no longer holds it off (R302). -/
def settleGate (was : State) (b : Fin 2) (s : State) : State :=
  if vget s.np.gate b && !s.mayConduct b then
    let s1 := setGate b false s
    if s.uvHeld b then feedOff b s1 else s1
  else if !vget s.np.gate b && was.heldOff b && !s.heldOff b && s.mayConduct b then setGate b true s
  else s

/-- Both gates follow a change from state `was`. -/
def settleGates (was : State) (s : State) : State := settleGate was 1 (settleGate was 0 s)

/-! ### Outputs and routes (R267-R272) -/

/-- The router sources that follow comparator c's output: its own number, and those of the comparators it replaced. -/
def State.routesTo (s : State) (c : Nat) : List Nat := (List.range 128).filter fun x => s.routed x == c

/-- Apply an operation on comparator c, and show the router the change of its level (R272, R374). -/
def withRoutes (c : Nat) (f : State → State) (s : State) : State :=
  let s1 := f s
  let v := s1.routeLevel c
  if s.routeLevel c == v then s1 else forEach (fun s x => routerEdge x v s) (s1.routesTo c) s1

/-- The phases of a rail held low-side on after a RAILOV disable go to their off level (R284). -/
def releaseOvLow (k : Fin 8) (s : State) : State :=
  if (s.ra k).pr.ovLow then
    let s1 := s.modPr k fun p => { p with ovLow := false }
    if s1.enabled k then s1
    else forAll (n := 48) (fun s n => if s.railOf n.val = some k && !s.phRuns n then phOff n s else s) s1
  else s

/-- What a change of function f's output does beside trips, routes and timers (R284, R301, R302, R304, R309, R317); the
overcurrent functions' part is `hsShort`. -/
def functionEffect (f : Nat) (out : Bool) (was : State) (s : State) : State :=
  if 96 ≤ f && f < 104 then (if out then s else releaseOvLow (Fin.ofNat 8 (f - 96)) s)
  else if f = 112 then (if out then pfwAssert 2 s else s)
  else if f = 113 then
    (if out && (s.ptSt = 2 || s.ptSt = 3) then { s with pt := { s.pt with inov := true } } else s)
  else if f = 114 then
    (if out && s.np.hs && s.pt.inCharge then hsOff { s with pt := { s.pt with fast := true } } else s)
  else if f = 115 || f = 116 then (if out then reverseOff (Fin.ofNat 2 (f - 115)) s else s)
  else if f = 117 || f = 118 then
    let s1 := settleGates was s
    let b : Fin 2 := Fin.ofNat 2 (f - 117)
    if out && s1.feed b && !(s1.feed (otherFeed b) && !s1.feedUv (otherFeed b)) then pfwAssert 1 s1 else s1
  else s

/-- Apply an operation that may change the output of function f in whatever serves it, and let a change act (R272, R291). -/
def withFunction (f : Nat) (op : State → State) (s : State) : State :=
  let s1 := op s
  let s2 := forEach (fun x c => if s.level c == s1.level c then x else routerEdge c (s1.level c) x) (List.range 128) s1
  if f < 120 && s.fnOut f != s1.fnOut f then functionEffect f (s1.fnOut f) s s2 else s2

/-- Function f loses its comparator: interim cover takes it, except for a zero-current function (R291, R132). -/
def coverFunction (f : Nat) (s : State) : State :=
  withFunction f (fun s =>
    let s1 := s.p (F.CMP_STATUS_SERVEDBY f) 0xFF
    if 48 ≤ f && f < 96 then s1
    else
      let s2 := s1.pb (F.CMP_STATUS_COVER f) true
      s2.pb (F.CMP_STATUS_OUT f) (s2.coverOut f)) s

/-! ### Strikes and retirement -/

/-- A count of strikes kept by element i of a bank. -/
def bump {n : Nat} (v : Vector Nat n) (i : Nat) : Vector Nat n :=
  if h : i < n then v.set i (min 15 (v[i] + 1)) else v

/-- The strike counts shown in FM_PH[n].STAT and CMP[c].STATUS. -/
def showStrikes (t i : Nat) (s : State) : State :=
  if t = 1 then s.p (F.FM_PH_STAT_STRIKES i) (s.strikesOf (some (1, i)))
  else if t = 2 then s.p (F.CMP_STATUS_STRIKES i) (s.strikesOf (some (2, i))) else s

/-- Add one strike to a channel (R289). -/
def addStrike (t i : Nat) (s : State) : State :=
  let k := s.strikes
  showStrikes t i { s with strikes :=
    { phase := if t = 1 then bump k.phase i else k.phase, cmp := if t = 2 then bump k.cmp i else k.cmp,
      ic := if t = 3 then bump k.ic i else k.ic, lane := if t = 4 then bump k.lane i else k.lane,
      pll := if t = 5 then bump k.pll i else k.pll } }

/-- The channel is retired already. -/
def State.chanRetired (s : State) (t i : Nat) : Bool :=
  if t = 1 then s.g (F.PHASE_ROLE_RCAUSE i) != 0
  else if t = 2 then s.gb (F.CMP_STATUS_RETIRED i)
  else if t = 3 then bitAt (s.g F.FM_IC_ICRET) i
  else if t = 4 then s.laneRet i
  else if i = 0 then s.gb F.FM_PLL_PLL0RET else s.gb F.FM_PLL_PLL1RET

/-- Record a retirement (R335) and write it to the health and calibration area (R255, R289). -/
def recordRetire (t i cause : Nat) (s : State) : State :=
  q15Put (.retire t i cause) (record 2 [byte t, byte i, byte cause] s)

/-- A phase outside any running ring retires at once (R244); a hold-off that waited for it ends (R282). -/
def retireNow (n : Fin 48) (cause : Nat) (s : State) : State :=
  phOff n (releaseHold n (changeRole n .retired cause s))

/-- The spare promoted in place of a phase that retired outside a running ring (R256): on a rail that is not enabled ACTIVE if the
replaced phase was, and SHED otherwise; on an enabled one ACTIVE with the rewrite at a sequence boundary where the rail needs it
under R250 beside the phases it is heading for (R244, R252), and SHED at once otherwise. -/
def promoteNow (k : Fin 8) (n m : Fin 48) (was : Role) (s : State) : State :=
  let heads := ((s.ra k).ink.want <|> (s.ra k).ink.rewrite).getD (s.activeOf k)
  if !s.enabled k then promote k n m (if was = .active then .active else .shed) s
  else if s.autoOn k && decide (heads.length < s.needed k) then
    s.modInk k fun i => { i with want := some (heads ++ [m]), promo := i.promo ++ [(n, m)] }
  else promote k n m .shed s

/-- Phase n retires with a cause (R255): at once, or with its ring's next rewrite (R244). -/
def retirePhase (n : Fin 48) (cause : Nat) (s : State) : State :=
  if s.g (F.PHASE_ROLE_RCAUSE n.val) != 0 then s
  else
    let s1 := recordRetire 1 n.val cause (s.p (F.PHASE_ROLE_RCAUSE n.val) cause)
    match s1.railOf n.val with
    | none => retireNow n cause s1
    | some k =>
      if s1.enabled k && (s1.ring k).contains n then s1
      else if (s1.ra k).ink.base.contains n then
        let was := (s1.rl n).role
        let s2 := retireNow n cause s1
        let swap := s2.bestSpare k []
        let base := ((s2.ra k).ink.base.map fun x => if x = n then swap.getD n else x).filter
          fun x => (s2.rl x).role != .retired
        let s3 := s2.modInk k fun i => { i with base := base }
        let s4 := match swap with
          | some m => promoteNow k n m was s3
          | none => s3
        let s5 := if s4.enabled k then s4 else changeRing k (base.filter fun x => (s4.rl x).role == .active) s4
        capacityCheck k s5
      else retireNow n cause s1

/-- Comparator c retires (R290, R291): every function it serves passes to interim cover; a spare serves none any more. -/
def retireCmp (c fid : Nat) (s : State) : State :=
  let s1 := recordRetire 2 c fid s
  let fs := (List.range 120).filter fun f => s1.servedBy f == c
  let s2 := withRoutes c (fun s =>
    let s1 := (s.pb (F.CMP_STATUS_RETIRED c) true).pb (F.CMP_STATUS_ARMED c) false
    if c < 120 then s1
    else (s1.p (F.CMP_CTL_FUNC c) 0x7F) |> fun s =>
      { s with chk := { s.chk with served := Vector.ofFn fun i => if i.val + 120 = c then fs.head? else vget s.chk.served i } }) s1
  let s3 := forEach (fun s f => coverFunction f s) fs s2
  if s3.covered c then s3 else withRoutes c (fun s => s.pb (F.CMP_STATUS_OUT c) false) s3

/-- SENSELOST of a rail is answered where it follows a converter's retirement (R259, R292). -/
def raiseSense (k : Fin 8) (s : State) : State :=
  let e := railEvent 0x0D k
  let r := respond e (s.classOf 0x0D (some k)) s
  report e r.2 false r.1

/-- With no spare converter left, the ring of rail k has no sighted phase, and a retired converter has its share in that (R292). -/
def State.sightLost (s : State) (k : Fin 8) : Bool :=
  s.enabled k && s.g F.FM_IC_ICSPARE == 7 && (s.ring k).all (fun n => s.onModel n.val)
    && (s.ring k).any fun n => s.noConverter (groupOf n.val)

/-- SENSELOST of a rail that has lost its last sighted phase to retired converters: once, until it sees a phase again (R259, R292). -/
def senseCheck (k : Fin 8) (s : State) : State :=
  let lost := s.sightLost k
  let s1 := s.modPr k fun p => { p with senseLost := lost }
  if lost && !(s.ra k).pr.senseLost then raiseSense k s1 else s1

/-- Current converter i retires (R290, R292). -/
def retireIc (i fid : Nat) (s : State) : State :=
  let s1 := recordRetire 3 i fid (s.p F.FM_IC_ICRET (putBit (s.g F.FM_IC_ICRET) i true))
  forAll (n := 8) (fun s k => senseCheck k s) (if s1.g F.FM_IC_ICSPARE = i then s1.p F.FM_IC_ICSPARE 7 else s1)

/-- PLL i retires (R290, R293). -/
def retirePll (i fid : Nat) (s : State) : State :=
  recordRetire 5 i fid (if i = 0 then s.pb F.FM_PLL_PLL0RET true else s.pb F.FM_PLL_PLL1RET true)

/-- A rail of a retired lane is sent to a half-frame, its output held (R164 steps 2, 3). -/
def sendRail (k : Fin 8) (dest : Fin 5 × Bool) (spread : Bool) (s : State) : State :=
  (s.modGr k fun g => { g with moveTo := some dest, copied := false, spread := spread,
                               y := BitVec.ofNat 32 (s.g (F.GRAPH_YOUT_YOUT k.val)) }).pb (F.GRAPH_STATUS_MOVING k.val) true

/-- Lane m retires: the spare takes both its half-frames as they were held; with no spare each rail takes the first free
half-frame (R164); the rails left without one are answered for their NOLANE (R165). -/
def retireLane (m fid : Nat) (s : State) : State × List (Fin 8) :=
  let rails := (allFin 8).filter fun k => match (s.ra k).gr.home with | some x => x.1.val == m | none => false
  let s1 := recordRetire 4 m fid (s.p F.LE_STATUS_RETIRED (putBit (s.g F.LE_STATUS_RETIRED) m true))
  match s1.spareLane with
  | some sp =>
    (forEach (fun s k => match (s.ra k).gr.home with
      | some x => sendRail k (sp, x.2) false s
      | none => s) rails s1, [])
  | none =>
    rails.foldl (fun (x : State × List (Fin 8)) k =>
      match x.1.freeHalves with
      | h :: _ => (sendRail k h true x.1, x.2)
      | [] => (x.1.modGr k fun g => { g with place := none, moveTo := none, noLane := true }, x.2 ++ [k])) (s1, [])

/-- A rail without a half-frame is latched off with NOLANE (R165). -/
def raiseNoLane (k : Fin 8) (s : State) : State :=
  let e := railEvent 0x0F k
  let r := railRespond 0x0F 4 k s
  report e r.2 false (r.1.pb (F.GRAPH_STATUS_MOVING k.val) false)

/-- The channel an event names retires, if the event made its fault permanent (R289, R290). -/
def retireChannel (e : FmEvent) (s : State) : State :=
  match e.chan with
  | none => s
  | some (t, i) =>
    if s.chanRetired t i then s
    else if t = 1 then
      match e.phase with | some n => retirePhase n (if e.fid = 5 then 2 else 1) s | none => s
    else if t = 2 then retireCmp i e.fid s
    else if t = 3 then retireIc i e.fid s
    else if t = 4 then
      let r := retireLane i e.fid s
      forEach (fun s k => raiseNoLane k s) r.2 r.1
    else retirePll i e.fid s

/-- A fault event reaches the fault manager (R275-R278, R289, R294): strike, response, report, retirement. -/
def raise (e : FmEvent) (s : State) : State :=
  let s1 := if e.strike then
      match e.chan with | some (t, i) => addStrike t i s | none => s
    else s
  let th := match e.chan with | some (t, _) => s1.g (F.FM_STRIKE_STH (t - 1)) | none => 0
  let fresh := match e.chan with | some (t, i) => !s1.chanRetired t i | none => false
  let perm := fresh && (e.perm || (e.strike && decide (th ≤ s1.strikesOf e.chan)))
  let c := e.cls.getD (s1.classOf e.fid e.rail)
  let r := respond { e with perm := perm } c s1
  let s2 := report e r.2 perm r.1
  updateDev (if perm then retireChannel e s2 else s2)

/-- A fault of a phase, with its rail. -/
def raisePhase (fid : Nat) (n : Fin 48) (strike perm : Bool) (s : State) : State :=
  raise (phEvent fid n (limRail s n <|> s.railOf n.val) strike perm) s

/-- A fault of a rail. -/
def raiseRail (fid : Nat) (k : Fin 8) (s : State) : State := raise (railEvent fid k) s

/-- A fault of the device. -/
def raiseDev (fid : Nat) (s : State) : State := raise (devEvent fid) s

/-- A gate fault of the Porter is declared and acted on (R312, R313): LATFID takes the lowest FID of the step. -/
def raiseGate (fids : List Nat) (s : State) : State :=
  match fids with
  | [] => s
  | f :: _ =>
    let cls := fun (x : Nat) => s.classOf x none
    let order := fids.filter (fun x => cls x == 5) ++ fids.filter (fun x => cls x == 4) ++ fids.filter (fun x => decide (cls x < 4))
    forEach (fun s x => raiseDev x s) order (gateFault (s.p F.PT_STATUS_LATFID f))

/-- The armed commits of phases whose block does not run take effect, and so does an armed breaker curve of a stopped Porter
(R81 rule 5). -/
def stoppedArmed (s : State) : State :=
  forEach (fun s x => if x.group == 1 && !s.phRuns (Fin.ofNat 48 x.index) then applyArmed 1 x.index s else s)
    s.img.armed (porterStopped s)

/-- What every command ends with: armed commits of stopped blocks take effect (R81), SMODg follows the phases (R47), STANDBY
and RUN follow the rails (R19), and the host interrupt is evaluated (R378). -/
def finish (s : State) : State := evalInterrupt (updateDev (updateSmods (stoppedArmed s)))

/-- The outcome of a command. -/
abbrev Answer : Type := Host.Outcome State Fault Refusal

/-- The command has taken effect. -/
def done (s : State) : Answer := .next (finish s)

end Sys2Proof.Machine
end

