-- ==== Sys2Proof/Machine/Pulse.lean ====
section
/-!
DEFINITION. The phase pulse engine (04_pulse_engine.md): launches, period and idle boundaries, pulse ends, dead times,
cuts and latches, trip pins, the sync reference, stage wake, and the capture units.
-/

namespace Sys2Proof.Machine

/-! ### Cuts and latches -/

/-- A latch source takes phase n to its off level (R103): LATCHED, the phase's tail ends (R137), PHLATCH is raised with a
strike where the source is OC (R275, R289), and an accepted clear that still waits is void. -/
def setLatch (n : Fin 48) (oc : Bool) (s : State) : State :=
  let s1 := latchPhase n (s.modPh n fun p => { p with clearPend := false })
  dropTail n (ffSwitch n (raisePhase 6 n oc false s1))

/-- The active sources of phase n that TRIPCFG assigns to the latch (R100). -/
def State.latchTrips (s : State) (n : Fin 48) : Nat := s.trips n &&& s.g (F.PHASE_TRIPCFG_LATCH n.val)

/-- CYCLE_CUT: an active source assigned to cycle-cut, and not to the latch, ends the high level, one that runs on after a soft stop
too (R91, R100-R102, R106). -/
def cycleCut (n : Fin 48) (src : Fin 8) (s : State) : State :=
  if (s.phRuns n || (s.ph n).out == .high) && !s.latched n.val && bitAt (s.trips n) src.val && bitAt (s.g (F.PHASE_TRIPCFG_CUT n.val)) src.val
      && !bitAt (s.g (F.PHASE_TRIPCFG_LATCH n.val)) src.val then ffSwitch n (cutPhase n s)
  else s

/-- CYCLE_CUT. -/
def execCycleCut (n : Fin 48) (x : SourceAt) (s : State) : Answer := done (cycleCut n x.src (s.atTime x.t))

/-- TRIP_LATCH: an active source assigned to the latch takes the phase to its off level (R103). -/
def tripLatch (n : Fin 48) (src : Fin 8) (s : State) : State :=
  if bitAt (s.latchTrips n) src.val then
    if s.latched n.val then phOff n (s.modPh n fun p => { p with clearPend := false })
    else setLatch n (src.val == 0) s
  else s

/-- TRIP_LATCH. -/
def execTripLatch (n : Fin 48) (x : SourceAt) (s : State) : Answer := done (tripLatch n x.src (s.atTime x.t))

/-- Source OC of phase n became active by a digital limit (R281): it latches, or cuts the period. -/
def ocActs (n : Fin 48) (s : State) : State := cycleCut n 0 (tripLatch n 0 s)

/-! ### Boundaries and pulses -/

/-- PHASEOFS in force (R133), modulo PERIOD x 16 at use (R91). -/
def State.ofsOf (s : State) (n : Fin 48) : Nat := (s.ph n).ofsOver.getD (s.g (F.PHASE_OFS_PHASEOFS n.val))

/-- The reload edge of a fixed-mode phase whose period boundary falls at b: PHASEOFS[3:0] fine steps before it (R87). -/
def State.reloadEdge (s : State) (n : Fin 48) (b : Nat) : Nat := elapsed (s.ofsOf n % 16) b

/-- The 16-bit counter of phase n (R87, R88): 0 in Off mode and before the first boundary; in fixed mode the tb since the reload edge,
modulo the period; in launched mode those since the last boundary, to PERIOD. -/
def State.phaseCount (s : State) (n : Fin 48) : Nat :=
  match s.mode n, (s.ph n).bound with
  | 2, some b => elapsed (s.reloadEdge n b) s.clock / 16 % max 1 (periodOf s n)
  | 1, some b => min (elapsed b s.clock / 16) (periodOf s n)
  | _, _ => 0

/-- The phase is synced: CTL.SYNCEN, or LOCKEN of the rail under the override of forced fixed-frequency mode (R109, R133). -/
def State.syncOn (s : State) (n : Fin 48) : Bool :=
  if (s.ph n).modeOver = some 2 then
    match limRail s n with | some k => s.gb (F.RAIL_MCTL_LOCKEN k.val) | none => false
  else s.gb (F.PHASE_CTL_SYNCEN n.val)

/-- SYNCPER is m whole periods of the phase, m from 1 to 64 (R109). -/
def State.periodFits (s : State) (n : Fin 48) : Bool :=
  let m := s.g F.PE_SYNC_CTL_SYNCPER / max 1 (periodOf s n)
  periodOf s n * m == s.g F.PE_SYNC_CTL_SYNCPER && decide (1 ≤ m) && decide (m ≤ 64)

/-- A synced phase in fixed mode whose period fits: each t_ref realigns it (R109). -/
def State.aligned (s : State) (n : Fin 48) : Bool := s.phRuns n && s.mode n == 2 && s.syncOn n && s.periodFits n

/-- The present instant is ref + ofs + whole periods of phase n. -/
def State.onGrid (s : State) (n : Fin 48) (ref ofs : Nat) : Bool :=
  (between ref s.clock - ofs) % (max 1 (16 * periodOf s n) : Nat) == 0

/-- The instant the first boundary under forced fixed-frequency mode is placed from: t_ref, or the hand-over with LOCKEN 0 (R133). -/
def State.ffOrigin (s : State) (n : Fin 48) : Nat :=
  if s.syncOn n then s.sync.tref
  else match limRail s n with | some k => (s.ra k).md.ffRef | none => s.clock

/-- A period boundary of a phase in fixed mode can fall at the present instant: the first one after a hand-over falls on its grid, at
least MINOFF after the last high level, its offset being the one in the shadow (R133); the first one of a synced phase that
started in fixed mode falls on the grid of t_ref (R91). -/
def State.boundaryFalls (s : State) (n : Fin 48) : Bool :=
  let p := s.ph n
  if p.ffFirst then s.minOffDone n && s.onGrid n (s.ffOrigin n) (p.ofsNext.getD (s.ofsOf n))
  else p.started || !s.syncOn n || s.onGrid n s.sync.tref (s.ofsOf n)

/-- Step 1 of R99: shadows transfer, the modulator's duty and offset among them (R96, R133), and an eligible group 01h commit takes effect,
unless SHLOCK holds them (R96-R98). -/
def boundaryLoad (n : Fin 48) (s : State) : State :=
  if s.gb (F.PHASE_CTL_SHLOCK n.val) then shlockBoundary n s
  else (applyDue (ns35 + 1) 1 n.val (transferShadows n s)).modPh n
    fun p => { p with shCount := 0, dutyActive := p.dutyShadow <|> p.dutyActive, ofsOver := p.ofsNext <|> p.ofsOver }

/-- Step 2 of R99: an active latch source under the TRIPCFG now active latches a phase that is not latched. -/
def boundaryLatch (n : Fin 48) (s : State) : State :=
  if s.latchTrips n != 0 && !s.latched n.val then setLatch n (bitAt (s.latchTrips n) 0) s else s

/-- Step 3 of R99: with every latch source inactive the latch clears where auto-clear, an accepted request or the end of a
hold-off allows (R104, R276). -/
def boundaryClear (n : Fin 48) (s : State) : State :=
  let p := s.ph n
  if s.latched n.val && !s.latchActive n && (p.clearPend || s.gb (F.PHASE_CTL_AUTOCLR n.val) || p.holdClear) then
    unlatchPhase n s
  else s

/-- The adjustment of the period that begins: of an aligned phase what is left of its error, by at most PERIOD x 2 fine steps; any
other phase runs free (R109). -/
def alignPeriod (n : Fin 48) (s : State) : State :=
  let err := if s.aligned n then (s.ph n).alignErr else 0
  let adj := clampInt err (-(2 * periodOf s n : Int)) (2 * periodOf s n)
  s.modPh n fun p => { p with alignAdj := adj, alignErr := err - adj }

/-- CUT is lifted at a boundary with every cycle-cut source inactive (R101). -/
def liftCut (n : Fin 48) (s : State) : State :=
  if s.cutActive n then s else noting n (fun s => s.pb (F.PHASE_STATUS_CUT n.val) false) s

/-- Steps 1 to 3 of R99, the period's bookkeeping, and the period-boundary event (R87, R96-R98, R101, R104, R109). -/
def boundaryPrep (n : Fin 48) (s : State) : State :=
  let s1 := boundaryLoad n s
  let dea := match limRail s1 n with | some k => s1.gb (F.RAIL_MSTAT_DEACT k.val) | none => false
  let s2 := s1.modPh n fun p => { p with started := true, limited := false, de := dea, ffFirst := false,
                                         modelOc := p.modelReq, bound := some s1.clock }
  let s5 := alignPeriod n (boundaryClear n (boundaryLatch n (liftCut n s2)))
  phaseEvent n 2 (s5.p (F.PHASE_ACTPER_ACTPER n.val) (periodOf s5 n))

/-- One pulse started: the life count in units of 2^20 (R261). -/
def countPulse (n : Fin 48) (s : State) : State :=
  let c := (s.rl n).plFrac + 1
  if c = 2 ^ 20 then (s.modRl n fun r => { r with plFrac := 0 }).inc (F.PHASE_LIFEPL_PULSES n.val)
  else s.modRl n fun r => { r with plFrac := c }

/-- A high level that has filled its period ends at the boundary, at its programmed on-time (R95, R106). -/
def endFull (n : Fin 48) (s : State) : State :=
  if (s.ph n).full then normalEnd n (endPulse n s) else s

/-- A pulse follows a high level that filled the period before: in a three-level group the output stays high without an edge,
in a paired one the high side turns off at the boundary and on again after DTLH (R94, R95). -/
def pulseOn (n : Fin 48) (s : State) : State :=
  if (s.ph n).full then
    let s1 := normalEnd n s
    if s1.paired (groupOf n.val) then startPulse n (s1.modPh n fun p => { p with full := false })
    else s1.modPh n fun p => { p with full := false }
  else startPulse n s

/-- Form the applied duty from d and start the pulse (R95, R99 step 6): in fixed mode a high level for the whole period runs on
over boundaries, in launched mode it ends with its on-time. -/
def pulseFrom (n : Fin 48) (d : Nat) (s : State) : State :=
  let a := applyDuty s n (periodOf s n) d
  let s1 := (s.p (F.PHASE_ACTDUTY_ACTDUTY n.val) a.1).pb (F.PHASE_STATUS_DUTYCLIP n.val)
    (s.gb (F.PHASE_STATUS_DUTYCLIP n.val) || a.2.1)
  if a.1 = 0 then endFull n s1
  else if a.2.2 then
    let fixed := s1.mode n == 2
    if (s1.ph n).out = .high then s1.modPh n fun p => { p with full := fixed }
    else countPulse n ((phHigh n s1).modPh n fun p => { p with full := fixed, delayed := none })
  else countPulse n (pulseOn n s1)

/-- The duty in effect at a boundary in fixed mode: under the modulator's override the duty its shadow last moved into the
active register, PHASE[n].DUTY otherwise (R88, R96, R134). -/
def dutyIn (s : State) (n : Fin 48) : Nat :=
  if (s.ph n).modeOver = some 2 then (s.ph n).dutyActive.getD 0 else s.g (F.PHASE_DUTY_DUTY n.val)

/-- Current of phase n in 1/64 A for a code: ((code - IZERO) * IGAIN) >> 12 (R169, R281). -/
def State.ampsOf (s : State) (n : Nat) (code : Int) : Int :=
  asr ((code - s.g (F.SFE_ICAL_IZERO n)) * s.g (F.SFE_ICAL_IGAIN n)) 12

/-- The phase test counts a boundary after its group's wake and, in its second half, the reading (R263). -/
def testBoundary (n : Fin 48) (s : State) : State :=
  if (s.rl n).role = .test && s.awake (groupOf n.val) then
    let half := s.g F.INK_TEST_TESTLEN / 2
    s.modRl n fun r =>
      if half ≤ r.testRun then
        { r with testRun := r.testRun + 1, testSum := r.testSum + s.ampsOf n.val r.code, testCnt := r.testCnt + 1 }
      else { r with testRun := r.testRun + 1 }
  else s

/-- The rail of phase n in the mode its hand-overs left, noting the boundary of a ring phase for POS; the override ends with
the period in which the rail left forced fixed-frequency mode (R135). -/
def ffBoundary (n : Fin 48) (s : State) : State :=
  match limRail s n with
  | none => s
  | some k =>
    if s.effMode k = 2 then
      if (s.ring k).contains n then s.modMd k fun m => { m with lastPh := some n } else s
    else s.modPh n fun p => { p with modeOver := none, dutyShadow := none, dutyActive := none, ofsOver := none, ofsNext := none }

/-- A cycle-cut source is active at a boundary: no pulse starts, the output follows LSPOL, a high level that filled the period before
ending with it, and the period is limited (R99 step 5, R101). -/
def cutBoundary (n : Fin 48) (s : State) : State :=
  let s1 := noting n (fun s => cutOutput n (s.pb (F.PHASE_STATUS_CUT n.val) true)) s
  limCycle n (s1.modPh n fun p => { p with limited := true })

/-- PERIOD_BOUNDARY of a phase in fixed mode (R87, R99, R137), where one can fall (R91, R133). The override that ends with the period
before ends first (R88, R135); no pulse starts while the group is not awake (R47). -/
def periodBoundary (n : Fin 48) (s : State) : State :=
  if s.phRuns n && s.mode n = 2 && s.boundaryFalls n then
    let s1 := boundaryPrep n (testBoundary n (ffBoundary n s))
    if (s1.ph n).tail.isSome then endTail n s1
    else if s1.mode n ≠ 2 then endFull n s1
    else if s1.latched n.val then s1
    else if s1.cutActive n then cutBoundary n s1
    else if s1.awake (groupOf n.val) then pulseFrom n (dutyIn s1 n) s1
    else s1
  else s

/-- PERIOD_BOUNDARY. -/
def execPeriodBoundary (x : PhaseAt) (s : State) : Answer := done (periodBoundary x.n (s.atTime x.t))

/-- IDLE_BOUNDARY: in launched mode the counter reloads without a pulse; it is no limited cycle (R89). The first boundary of a phase
in that mode is its first launch, so that none comes before it (R91). -/
def idleBoundary (n : Fin 48) (s : State) : State :=
  if s.phRuns n && s.mode n = 1 && (s.ph n).started then endTail n (boundaryPrep n s) else s

/-- IDLE_BOUNDARY. -/
def execIdleBoundary (x : PhaseAt) (s : State) : Answer := done (idleBoundary x.n (s.atTime x.t))

/-! ### Launches -/

/-- A launch was lost (R122, R124). -/
def launchLost (k : Fin 8) (s : State) : State := s.pb (F.RAIL_MSTAT_LAUNCHLOST k.val) true

/-- A launch is refused on delivery (R92, R124). -/
def launchRefused (k : Fin 8) (n : Fin 48) (s : State) : State :=
  launchLost k (s.pb (F.PHASE_STATUS_LAUNCHREF n.val) true)

/-- The launch of a phase that may take one: its instant is a period boundary (R88), after which it is refused, cut, delayed by
MINOFF or started (R92, R99). One that comes while an earlier launch is still delayed takes its place, and one pulse starts
(DESIGN CHOICE, log entry 118: R92 is silent). -/
def startLaunch (k : Fin 8) (l : Launch) (s : State) : State :=
  let n := l.phase
  let s1 := boundaryPrep n s
  if s1.latched n.val then launchRefused k n s1
  else if s1.cutActive n then cutBoundary n s1
  else if !s1.minOffDone n then
    (s1.pb (F.PHASE_STATUS_LAUNCHDLY n.val) true).modPh n fun p => { p with delayed := some l.onTime }
  else pulseFrom n l.onTime s1

/-- A launch reaches the pulse engine (R92, R124, R125). A pulse in its DTLH counts as a high level in progress (DESIGN CHOICE, log
entry 119: R92 is silent); a launch to a phase still under the fixed-frequency override is lost (DESIGN CHOICE, log entry 120:
R123 calls the phase eligible and no rule says what such a launch does). -/
def deliver (k : Fin 8) (l : Launch) (s : State) : State :=
  let n := l.phase
  if l.epoch ≠ (s.rl n).epoch then launchLost k (s.inc (F.PHASE_STALE_STALE n.val))
  else if (s.ph n).out = .high || (s.ph n).dead = .lh then launchRefused k n s
  else if !s.phRuns n || s.mode n ≠ 1 then (if s.latched n.val then launchRefused k n s else launchLost k s)
  else startLaunch k l s

/-- LAUNCH: the oldest launch of rail k in delivery reaches its phase; a forced sequence boundary that waited for the
delivery falls at it (R126). -/
def launch (k : Fin 8) (s : State) : State :=
  match (s.ra k).md.inFlight with
  | [] => s
  | l :: rest =>
    let s1 := deliver k l (s.modMd k fun m => { m with inFlight := rest })
    if (s1.ra k).md.forcePend && rest.isEmpty then forceSequence k s1 else s1

/-- LAUNCH. -/
def execLaunch (k : Fin 8) (t : Time) (s : State) : Answer := done (launch k (s.atTime t))

/-- LAUNCH_DELAY_END: MINOFF has elapsed, the delayed pulse starts (R92). -/
def launchDelayEnd (n : Fin 48) (s : State) : State :=
  match (s.ph n).delayed with
  | none => s
  | some t =>
    let s1 := s.modPh n fun p => { p with delayed := none }
    if s1.phRuns n && !s1.latched n.val then pulseFrom n t s1 else s1

/-- LAUNCH_DELAY_END. -/
def execLaunchDelayEnd (x : PhaseAt) (s : State) : Answer := done (launchDelayEnd x.n (s.atTime x.t))

/-! ### Pulse ends -/

/-- ON_TIME_END: the high level ends at its programmed on-time (R94, R106), in forced fixed-frequency mode the phase then
switches (R133); a block that has stopped goes to the off level, a high level that fills its period too (R91). -/
def onTimeEnd (n : Fin 48) (s : State) : State :=
  if (s.ph n).out = .high && (!(s.ph n).full || !s.phRuns n) then
    ffSwitch n (normalEnd n (if s.phRuns n then endPulse n s else phOff n s))
  else s

/-- ON_TIME_END. -/
def execOnTimeEnd (x : PhaseAt) (s : State) : Answer := done (onTimeEnd x.n (s.atTime x.t))

/-- DEAD_TIME_END: the next FET of a paired group turns on (R94). -/
def deadTimeEnd (n : Fin 48) (s : State) : State :=
  match (s.ph n).dead with
  | .none => s
  | .lh => if s.phRuns n && !s.latched n.val then phHigh n s else phOff n s
  | .hl => if s.phRuns n && !s.latched n.val then phLow n s else phOff n s

/-- DEAD_TIME_END. -/
def execDeadTimeEnd (x : PhaseAt) (s : State) : Answer := done (deadTimeEnd x.n (s.atTime x.t))

/-- ZERO_CURRENT_CROSSING: in diode emulation or a tail the low interval ends at the crossing of the comparator serving
the phase's zero-current function; without one it lasts on (R94, R132, R137). -/
def zeroCurrentCrossing (n : Fin 48) (s : State) : State :=
  if (s.ph n).out = .low && ((s.ph n).de || (s.ph n).tail.isSome) && decide (s.servedBy (48 + n.val) < 128) then
    if (s.ph n).tail.isSome then endTail n s else phOff n s
  else s

/-- ZERO_CURRENT_CROSSING. -/
def execZeroCurrentCrossing (x : PhaseAt) (s : State) : Answer := done (zeroCurrentCrossing x.n (s.atTime x.t))

/-! ### Trips -/

/-- TRIP_PIN: an edge of TRIPi passes its filter (R105); its router source shows the change (R374). -/
def tripPin (i : Fin 4) (level : Bool) (s : State) : State :=
  let s1 := { s with sup := { s.sup with tripPin := vset s.sup.tripPin i level } }
  if s.trip i == s1.trip i then s1 else routerEdge (0xC1 + i.val) (s1.trip i) s1

/-- TRIP_PIN. -/
def execTripPin (i : Fin 4) (level : Bool) (s : State) : Answer := done (tripPin i level s)

/-- A request to clear the latch of phase n (R104): refused while a latch source is active. A phase whose block does not run
has no period boundary: its latch clears at once (DESIGN CHOICE, log entry 93). -/
def latchClearRequest (n : Fin 48) (s : State) : State :=
  if !s.latched n.val then s
  else if s.latchActive n then s.pb (F.PHASE_STATUS_CLRREFUSED n.val) true
  else if s.phRuns n then s.modPh n fun p => { p with clearPend := true }
  else unlatchPhase n s

/-- SHLOCK_TIMEOUT: SHLOCK stayed 1 through 64 boundaries (R98). -/
def shlockTimeout (n : Fin 48) (s : State) : State :=
  if s.gb (F.PHASE_CTL_SHLOCK n.val) then
    ((s.pb (F.PHASE_CTL_SHLOCK n.val) false).pb (F.PHASE_STATUS_SHLOCKTO n.val) true).modPh n
      fun p => { p with shCount := 0 }
  else s

/-- SHLOCK_TIMEOUT. -/
def execShlockTimeout (n : Fin 48) (s : State) : Answer := done (shlockTimeout n s)

/-- PHASE_HOLDOFF_END: PHOFF has elapsed; the latch clears at the first boundary with every latch source inactive, unless
a retirement holds it (R276, R282). -/
def phaseHoldoffEnd (n : Fin 48) (s : State) : State :=
  if s.gb (F.FM_PH_STAT_PHOFFACT n.val) then
    let s1 := s.pb (F.FM_PH_STAT_PHOFFACT n.val) false
    if s1.phRuns n then s1.modPh n fun p => { p with holdClear := true }
    else if s1.latchActive n then s1.modPh n fun p => { p with holdClear := true }
    else unlatchPhase n s1
  else s

/-- PHASE_HOLDOFF_END. -/
def execPhaseHoldoffEnd (n : Fin 48) (s : State) : Answer := done (phaseHoldoffEnd n s)

/-! ### Stage wake -/

/-- STAGE_WAKE_DONE: WAKE has elapsed since SMODg rose (R47). -/
def stageWakeDone (g : Fin 6) (s : State) : State :=
  if s.gb (F.STAGEGRP_CFG_SMODOUT g.val) then
    { s with sup := { s.sup with groupAwake := vset s.sup.groupAwake g true } }
  else s

/-- STAGE_WAKE_DONE. -/
def execStageWakeDone (g : Fin 6) (s : State) : Answer := done (stageWakeDone g s)

/-! ### Sync reference -/

/-- SYNCPER in fine steps. -/
def State.syncFine (s : State) : Nat := s.g F.PE_SYNC_CTL_SYNCPER * 16

/-- A difference of times reduced to the nearest repeat of the sync period. -/
def nearest (d : Int) (per : Nat) : Int :=
  let r := d % (per : Int)
  if (per : Int) ≤ 2 * r then r - per else r

/-- The alignment error of phase n: its last period boundary minus the nearest instant t_ref + PHASEOFS + whole periods, in
fine steps (R107, R109). -/
def State.placeErr (s : State) (n : Fin 48) : Int :=
  match (s.ph n).bound with
  | some b => nearest (between s.sync.tref b - s.ofsOf n) (max 1 (16 * periodOf s n))
  | none => 0

/-- A new t_ref: every aligned phase takes its alignment error, less the adjustment under way, to be worked off from its next period
(R109). -/
def realign (s : State) : State :=
  forAll (n := 48) (fun s n =>
    if s.aligned n then s.modPh n fun p => { p with alignErr := s.placeErr n - p.alignAdj } else s) s

/-- STATUS.SYNCMIS of phase n: synced, and its period does not fit (R109). -/
def State.syncMis (s : State) (n : Fin 48) : Bool := s.phRuns n && s.mode n == 2 && s.syncOn n && !s.periodFits n

/-- SYNCO's next pulse is placed after t_ref, or none with SYNCOEN 0 (R110). A pulse placed after an earlier t_ref, which has not
fallen when this one comes, stands to its own end. -/
def placeSynco (s : State) : State :=
  let rise := (s.sync.tref + s.g F.PE_SYNCO_CTL_SYNCOOFS) % 2 ^ 52
  let old := s.sync.synco.filter fun x => x.1 != rise && decide (0 < between s.sync.tref x.2)
  let out := if s.gb F.PE_SYNCO_CTL_SYNCOEN then (rise, (rise + 16 * s.g F.PE_SYNCO_CTL_SYNCOW) % 2 ^ 52) :: old.take 2 else []
  { s with sync := { s.sync with synco := out } }

/-- t_ref takes a value: SYNCO is placed and the synced phases are measured against it (R109, R110). -/
def setTref (x : Nat) (s : State) : State := realign (placeSynco { s with sync := { s.sync with tref := x } })

/-- A SYNCI edge that R107 rejects. -/
def synciReject (s : State) : State :=
  (s.inc F.PE_SYNC_STATUS_REJCNT).pb F.PE_SYNC_STATUS_SYNCLOCK false |> fun s =>
    { s with sync := { s.sync with good := 0 } }

/-- Accepted edges with a good prediction have been counted: at the eighth SYNCLOCK is set and SYNCLOST clears, which is an
event (R108). -/
def synciGood (s : State) : State :=
  let good := min 8 (s.sync.good + 1)
  let s1 := { s with sync := { s.sync with good := good } }
  if good = 8 && (!s1.gb F.PE_SYNC_STATUS_SYNCLOCK || s1.gb F.PE_SYNC_STATUS_SYNCLOST) then
    routerEvent 0xC5 ((s1.pb F.PE_SYNC_STATUS_SYNCLOCK true).pb F.PE_SYNC_STATUS_SYNCLOST false)
  else s1

/-- A SYNCI edge accepted at fine-step time t, with its error from the prediction, if there was one (R107, R108). -/
def synciAccept (t : Nat) (e : Option Int) (s : State) : State :=
  let s1 := { s with sync := { s.sync with lastEdge := some t } }
  let s2 := setTref (((t : Int) + s.gi F.PE_SYNC_DLY_SYNCIDLY) % (2 ^ 52 : Int)).toNat s1
  match e with
  | none => s2
  | some e =>
    let s3 := s2.pi F.PE_SYNC_STATUS_SYNCERR (clampInt e (-32767) 32767)
    if e.natAbs ≤ 32 then synciGood s3
    else { s3.pb F.PE_SYNC_STATUS_SYNCLOCK false with sync := { s3.sync with good := 0 } }

/-- SYNCI_EDGE: an edge at the ball is an event of source C0h, and with SYNCSRC 1 and the chosen polarity it is judged
against the previous accepted edge (R107, R108, R374). The first edge has none: it is accepted, without an error (DESIGN
CHOICE, log entry 94). In holdover an edge within 1/16 SYNCPER of any multiple of SYNCPER after the last accepted one is
accepted (DESIGN CHOICE, log entry 95). -/
def synciEdge (t : Nat) (rising : Bool) (s : State) : State :=
  let s1 := routerEvent 0xC0 s
  if s1.core && s1.gb F.PE_SYNC_CTL_SYNCSRC && (s1.gb F.PE_SYNC_CTL_SYNCIEDGE != rising) then
    let per := s1.syncFine
    match s1.sync.lastEdge with
    | none => synciAccept t none s1
    | some p =>
      let d := elapsed p t
      let e := (d : Int) - per
      if e.natAbs * 16 ≤ per then synciAccept t (some e) s1
      else if s1.gb F.PE_SYNC_STATUS_SYNCLOST then
        let e' := nearest e (max 1 per)
        if e'.natAbs * 16 ≤ per then synciAccept t (some e') s1 else synciReject s1
      else synciReject s1
  else s1

/-- SYNCI_EDGE. -/
def execSynciEdge (t : Time) (rising : Bool) (s : State) : Answer := done (synciEdge t.toNat rising (s.atTime t))

/-- SYNC_REFERENCE_TICK: t_ref recurs at SYNCPER (R107-R110). -/
def syncReferenceTick (s : State) : State :=
  if s.core then setTref ((s.sync.tref + s.syncFine) % 2 ^ 52) s else s

/-- SYNC_REFERENCE_TICK. -/
def execSyncReferenceTick (s : State) : Answer := done (syncReferenceTick s)

/-- SYNC_HOLDOVER: no edge accepted within 1.5 SYNCPER (R108). SYNCLOCK stays as it is, and the run of good edges begins anew
(DESIGN CHOICE, log entry 96). -/
def syncHoldover (s : State) : State :=
  if s.core && s.gb F.PE_SYNC_CTL_SYNCSRC && s.sync.lastEdge.isSome && !s.gb F.PE_SYNC_STATUS_SYNCLOST then
    let s1 := routerEvent 0xC6 (s.pb F.PE_SYNC_STATUS_SYNCLOST true)
    { s1 with sync := { s1.sync with good := 0 } }
  else s

/-- SYNC_HOLDOVER. -/
def execSyncHoldover (s : State) : Answer := done (syncHoldover s)

/-! ### Capture units -/

/-- Capture unit u stamps an event at the present TBCOUNT and a fine tap (R113). -/
def stamp (u : Nat) (fine : Nat) (s : State) : State :=
  let held := s.gb (F.CAP_TSHI_VALID u)
  if held && !s.gb (F.CAP_CTL_CONT u) then s
  else
    let s1 := (s.setWord (A.CAP_TSLO u) (BitVec.ofNat 32 s.tb.toNat)).p (F.CAP_TSHI_TSHI u) (s.tb.toNat / 2 ^ 32)
    let s2 := (s1.p (F.CAP_TSHI_FINE u) fine).pb (F.CAP_TSHI_TBDISC u) (bitAt s.capDisc.toNat u)
    let s3 := if held then s2.pb (F.CAP_TSHI_OVR u) true else s2.pb (F.CAP_TSHI_VALID u) true
    { s3 with capDisc := BitVec.ofNat 32 (putBit s3.capDisc.toNat u false) }

/-- CAPTURE: every enabled unit whose SRC and EDGE select the event stamps it (R113, R374). -/
def capture (src : Nat) (falling : Bool) (fine : Nat) (s : State) : State :=
  if s.core then
    forAll (n := 32) (fun s u =>
      if s.gb (F.CAP_CTL_EN u.val) && s.g (F.CAP_CTL_SRC u.val) = src
          && edgeMatches (s.g (F.CAP_CTL_EDGE u.val)) (!falling) then stamp u.val fine s
      else s) s
  else s

/-- CAPTURE. -/
def execCapture (src : BitVec 8) (falling : Bool) (fine : BitVec 4) (s : State) : Answer :=
  done (capture src.toNat falling fine.toNat s)

end Sys2Proof.Machine
end

