-- ==== Sys2Proof/Machine/Modulator.lean ====
section
/-!
DEFINITION. Constant on-time modulation of a rail (05_rail_modulator.md): launches, blanking and overlap, onset and
forecast windows, the synthesized ripple, input feed-forward, the on-time, the threshold, forced fixed-frequency duty,
the frequency lock, hand-overs and sequence boundaries.
-/

namespace Sys2Proof.Machine

/-- IRAIL: the rail's total current in A (R168). -/
def State.irail (s : State) (k : Fin 8) : Int := asr (s.gi (F.OL_ITOT_ITOT k.val)) 6

/-! ### Onset and launches -/

/-- Onset mode is entered (R127): counted, with an exit from diode emulation requested and the lock frozen. -/
def enterOnset (k : Fin 8) (s : State) : State :=
  if s.effMode k = 1 && !s.onset k then
    settleLock k (((s.pb (F.RAIL_MSTAT_ONSET k.val) true).inc (F.RAIL_MCNT_ONSETCNT k.val)).modMd k
      fun m => { m with deExit := true })
  else s

/-- Onset mode is left (R127). -/
def leaveOnset (k : Fin 8) (s : State) : State := settleLock k (s.pb (F.RAIL_MSTAT_ONSET k.val) false)

/-- OVL: phases of ring and tail that are high, and launches not yet delivered (R117). -/
def State.ovl (s : State) (k : Fin 8) : Nat :=
  ((s.ringTail k).filter fun n => (s.ph n).out == .high).length + (s.ra k).md.inFlight.length

/-- The overlap limit in force (R117). -/
def State.ovlLimit (s : State) (k : Fin 8) : Nat :=
  min (s.g (F.RAIL_SEQ_RINGLEN k.val))
    (if s.onset k then s.g (F.RAIL_SPACE_MAXOVLON k.val) else s.g (F.RAIL_SPACE_MAXOVL k.val))

/-- Phase n of the ring is eligible (R123); in onset mode only once MINOFF has elapsed since its last high level. -/
def State.eligible (s : State) (onset : Bool) (n : Fin 48) : Bool :=
  (s.mode n == 1 || (s.ph n).modeOver == some 2) && (s.ph n).out != .high && !s.latched n.val
    && s.awake (groupOf n.val) && (!onset || s.minOffDone n)

/-- The first eligible phase in ring order, with the number of phases passed over (R122). -/
def pickFrom (s : State) (onset : Bool) : List (Nat × Fin 48) → Nat → Option (Nat × Fin 48) × Nat
  | [], skipped => (none, skipped)
  | x :: xs, skipped => if s.eligible onset x.2 then (some x, skipped) else pickFrom s onset xs (skipped + 1)

/-- The on-time launched on phase n (R121); under the on-time model a positive trim does not count (R281). -/
def State.onTimeOf (s : State) (k : Fin 8) (n : Fin 48) : Nat :=
  let b := s.gi (F.OLPH_TRIM_BTRIM n.val)
  let b := if s.onModel n.val then min b 0 else b
  (min (max ((s.ra k).md.ton + b) 1) (s.g (F.RAIL_TONMAX_TONMAX k.val))).toNat

/-- A launch is issued to the ring phase at position i, which counts toward ONCNT where continued demand issued it (R122,
R125, R127). -/
def sendLaunch (k : Fin 8) (cont : Bool) (len i : Nat) (n : Fin 48) (s : State) : State :=
  let l : Launch := ⟨n, (s.rl n).epoch, s.onTimeOf k n⟩
  let c := if cont then (s.ra k).md.cont + 1 else 0
  let s1 := s.modMd k fun m => { m with inFlight := m.inFlight ++ [l], pos := if i + 1 < len then i + 1 else 0, cont := c }
  if s1.gb (F.RAIL_MCTL_AUTOONSET k.val) && decide (s1.g (F.RAIL_ONSET_ONCNT k.val) ≤ c) then enterOnset k s1 else s1

/-- Issue a launch, or make it wait for OVL (R116, R117, R122); with no eligible phase none is issued, and blanking starts all
the same. -/
def issueLaunch (k : Fin 8) (cont : Bool) (s : State) : State :=
  if s.ovlLimit k ≤ s.ovl k then
    (s.inc (F.RAIL_MCNT_OVLWAIT k.val)).modMd k fun m => { m with waiting := true, waitCont := cont }
  else
    let ringI := (s.ring k).zipIdx.map fun x => (x.2, x.1)
    let r := pickFrom s (s.onset k) (ringI.drop (s.ra k).md.pos ++ ringI.take (s.ra k).md.pos) 0
    let s1 := (s.incBy (F.RAIL_MCNT_RINGSKIP k.val) r.2).modMd k fun m => { m with waiting := false, blanking := true }
    match r.1 with
    | none => launchLost k s1
    | some (i, n) => sendLaunch k cont ringI.length i n s1

/-- The rail launches: enabled, in constant on-time mode. -/
def State.launches (s : State) (k : Fin 8) : Bool := s.enabled k && s.effMode k == 1

/-- LAUNCH_DEMAND: a crossing into demand outside blanking issues a launch (R116). -/
def launchDemand (k : Fin 8) (s : State) : State :=
  if s.launches k && !(s.ra k).md.blanking && !(s.ra k).md.waiting then issueLaunch k false s else s

/-- LAUNCH_DEMAND. -/
def execLaunchDemand (x : RailAt) (s : State) : Answer := done (launchDemand x.k (s.atTime x.t))

/-- BLANKING_END: continued demand issues a launch; without demand onset mode ends, unless a forecast window is open
(R116, R127). -/
def blankingEnd (k : Fin 8) (demand : Bool) (s : State) : State :=
  if s.launches k && (s.ra k).md.blanking then
    let s1 := s.modMd k fun m => { m with blanking := false }
    if demand then issueLaunch k true s1
    else
      let s2 := s1.modMd k fun m => { m with cont := 0 }
      if s2.windowOpen k then s2 else leaveOnset k s2
  else s

/-- BLANKING_END. -/
def execBlankingEnd (k : Fin 8) (d : DemandAt) (s : State) : Answer := done (blankingEnd k d.demand (s.atTime d.t))

/-- OVERLAP_RELEASE: OVL fell below the limit; the waiting launch is issued if the comparator still demands (R117). It counts
as issued by continued demand if it began to wait so (DESIGN CHOICE, log entry 97: R127 does not say). -/
def overlapRelease (k : Fin 8) (demand : Bool) (s : State) : State :=
  if s.launches k && (s.ra k).md.waiting && s.ovl k < s.ovlLimit k then
    let c := (s.ra k).md.waitCont
    let s1 := s.modMd k fun m => { m with waiting := false }
    if demand then issueLaunch k c s1 else s1
  else s

/-- OVERLAP_RELEASE. -/
def execOverlapRelease (k : Fin 8) (d : DemandAt) (s : State) : Answer := done (overlapRelease k d.demand (s.atTime d.t))

/-! ### Forecast windows -/

/-- FORECAST_WINDOW_OPEN: a positive forecast opens its window, onset mode is entered (R127, R128); in forced
fixed-frequency mode it opens none. -/
def forecastWindowOpen (k : Fin 8) (s : State) : State :=
  match (s.ra k).md.fc with
  | none => s
  | some f =>
    if 0 < f.deltaI && !f.windowOpen && !f.closed && s.effMode k = 1 then
      let s1 := s.modMd k fun m => { m with fc := some { f with windowOpen := true }, deExit := true }
      enterOnset k (s1.pb (F.RAIL_MSTAT_FCARMED k.val) true)
    else s

/-- FORECAST_WINDOW_OPEN. -/
def execForecastWindowOpen (k : Fin 8) (s : State) : Answer := done (forecastWindowOpen k s)

/-- The open window closes (R128). -/
def forecastWindowClose (k : Fin 8) (s : State) : State :=
  match (s.ra k).md.fc with
  | none => s
  | some f =>
    if f.windowOpen then
      (s.modMd k fun m => { m with fc := some { f with windowOpen := false, closed := true } }).pb (F.RAIL_MSTAT_FCARMED k.val) false
    else s

/-- FORECAST_WINDOW_CLOSE: ONWIN samples after due. -/
def execForecastWindowClose (k : Fin 8) (s : State) : Answer := done (forecastWindowClose k s)

/-- n samples of rail k lie between instant c and the present boundary; an n below 0 reaches ahead of it. A nanosecond is 64/5 fine
steps. -/
def State.samplesSince (s : State) (k : Fin 8) (n : Int) (c : Nat) : Bool :=
  decide (64 * s.ts k.val * n ≤ 5 * between c s.clock)

/-- The forecast window at a sample boundary for which the forecast is eligible (R27, R128, R226): it opens at the first one at or
after due less ONLEAD samples, or is lost to forced fixed-frequency mode there, and closes ONWIN samples after due. -/
def forecastStep (k : Fin 8) (s : State) : State :=
  match (s.ra k).md.fc with
  | none => s
  | some f =>
    if !s.beforeWindow f.at_ then s
    else if f.windowOpen then
      if s.samplesSince k (s.g (F.RAIL_ONSET_ONWIN k.val)) f.dueAt then forecastWindowClose k s else s
    else if 0 < f.deltaI && !f.closed && s.samplesSince k (-(s.g (F.RAIL_ONSET_ONLEAD k.val) : Int)) f.dueAt then
      if s.effMode k = 1 then forecastWindowOpen k s else s.modMd k fun m => { m with fc := some { f with closed := true } }
    else s

/-! ### Ripple and feed-forward -/

/-- The fine steps spent high and low (R118), of the `left` last ones before instant c, in what a phase counts as now and in what its
changes say it counted as before them. -/
def classCounts (c now left : Nat) : List (Nat × Nat) → Nat × Nat
  | [] => (if now = 2 then left else 0, if now = 1 then left else 0)
  | x :: xs =>
    let own := min left (elapsed x.1 c - (64 - left))
    let r := classCounts c x.2 (left - own) xs
    (r.1 + (if now = 2 then own else 0), r.2 + (if now = 1 then own else 0))

/-- HF and LF of phase n in the 4 tb step, 64 fine steps long, that ends at the present instant (R118). -/
def State.rippleCounts (s : State) (n : Fin 48) : Nat × Nat :=
  classCounts s.clock (s.rippleClass n) 64 ((s.ph n).hist.filter fun x => decide (elapsed x.1 s.clock < 64))

/-- RIPPLE_STEP: ACC and RIPCODE for the 4 tb step that ends now (R118). -/
def rippleStep (k : Fin 8) (s : State) : State :=
  if s.enabled k then
    let c := (s.ringTail k).map s.rippleCounts
    let hf : Int := (c.map fun x => (x.1 : Int)).sum
    let lf : Int := (c.map fun x => (x.2 : Int)).sum
    let md := (s.ra k).md
    let t := hf * 20 * md.vinc - (hf + lf) * md.vsetc
    let acc := sat32 (md.acc + asr (t * s.g (F.RAIL_RIP_RIPGAIN k.val)) 6
      - asr md.acc (s.g (F.RAIL_RIP_RIPLEAK k.val)))
    s.modMd k fun m => { m with acc := acc, ripcode := clampInt (asr acc 16) (-512) 511 }
  else s

/-- RIPPLE_STEP. -/
def execRippleStep (k : Fin 8) (t : Time) (s : State) : Answer := done (rippleStep k (s.atTime t))

/-- A frame of the VINFF converter: its conversion joins the last four, or it has failed for good (R33, R119). -/
def vinffSample (code : Option (BitVec 10)) (s : State) : State :=
  match code with
  | some c => { s with vinff := (c.toNat :: s.vinff).take 4 }
  | none => { s with vinffFailed := true }

/-- VINFF_UPDATE: one VINFF conversion per frame; VINC from the last four (R119), missing ones counting 0. VINC holds once
the converter has failed, until the main converter's next reading. -/
def vinffUpdate (code : Option (BitVec 10)) (s : State) : State :=
  if s.core then
    let s1 := vinffSample code s
    if s.gb F.VINFF_CFG_SRC then
      (s1.p F.VINFF_DATA_VINC (s.g F.VINFF_FIX_VINFIX)).p F.VINFF_DATA_SRCNOW 2
    else if s1.vinffFailed then s1
    else (s1.p F.VINFF_DATA_VINC (min (s1.vinff.sum * s.g F.VINFF_CFG_VINGAIN / 2 ^ 14) 0xFFFF)).p F.VINFF_DATA_SRCNOW 0
  else s

/-- VINFF_UPDATE. -/
def execVinffUpdate (code : Option (BitVec 10)) (s : State) : Answer := done (vinffUpdate code s)

/-! ### On-time, threshold and duty -/

/-- VSETC and VINC are latched, and TON is computed (R120); a VINC of 0 divides as 1 (R119). TONNOW takes the low 18 bits of a TON
its field cannot hold (DESIGN CHOICE, log entry 122: R120 gives no code there). -/
def latchOnTime (k : Fin 8) (s : State) : State :=
  let vset := s.g (F.RAIL_REFNOW_REF k.val)
  let vinc := s.g F.VINFF_DATA_VINC
  let base : Int := (s.g (F.RAIL_TON_TONSCALE k.val) * 256 * vset / (20 * max 1 vinc) : Nat)
  let ton := asr (base * (65536 + s.gi (F.RAIL_LOCKSTAT_TRIM k.val))) 20 + s.gi (F.RAIL_TON_TONADD k.val)
  (s.modMd k fun m => { m with vsetc := vset, vinc := vinc, ton := ton }).pi (F.RAIL_TONNOW_TONNOW k.val) ton

/-- TONFF of R134. -/
def State.tonFF (s : State) (k : Fin 8) : Int :=
  let md := (s.ra k).md
  (s.g (F.RAIL_FF_FFPER k.val) * 16 * md.vsetc / (20 * max 1 md.vinc) : Nat)

/-- The threshold takes y at t_n (R115). -/
def loadThreshold (k : Fin 8) (y : Int) (s : State) : State :=
  let md := (s.ra k).md
  let c := md.thho + asr (low32 (y - md.yho)) 5
  let s1 := s.pi (F.RAIL_THNOW_THCODE k.val) (clampInt c (-2048) 2047)
  if clampInt c (-2048) 2047 = c then s1 else s1.pb (F.RAIL_MSTAT_THCLAMP k.val) true

/-- The rail duty goes to every ring phase's duty shadow (R134). -/
def loadDuty (k : Fin 8) (y : Int) (s : State) : State :=
  let md := (s.ra k).md
  let d := s.tonFF k + md.dho + s.gi (F.RAIL_TON_TONADD k.val)
    + asr (low32 (y - md.yho) * s.g (F.RAIL_FF_FFGAIN k.val)) 16
  forEach (fun s n =>
    let x := (min (max (d + s.gi (F.OLPH_TRIM_BTRIM n.val)) 1) (s.g (F.RAIL_TONMAX_TONMAX k.val))).toNat
    s.modPh n fun p => { p with dutyShadow := some x }) (s.ring k) s

/-- The y loaded at this boundary: the graph's output register, which COAST, a held sample and a lane move leave at the
value last loaded (R26, R31, R156, R164). -/
def State.yLoad (s : State) (k : Fin 8) : Int := (s.ra k).gr.y.toInt

/-! ### Hand-overs (R135) -/

/-- Constant on-time to fixed: THHO and YHO are taken, TRIM is frozen, the ring phases change mode; DHO is formed when
this boundary's TONFF is (R133-R135). -/
def handToFixed (k : Fin 8) (s : State) : State :=
  let s1 := s.modMd k fun m => { m with yho := s.yLoad k, thho := s.gi (F.RAIL_THNOW_THCODE k.val),
                                        waiting := false, blanking := false, cont := 0, ffRef := s.clock }
  ffRing k ((s1.p (F.RAIL_MSTAT_EFFMODE k.val) 2).pb (F.RAIL_MSTAT_ONSET k.val) false)

/-- DHO so that the first duty equals the last on-time (R135); `last` is TONNOW of the last sample. -/
def setDho (k : Fin 8) (last : Int) (s : State) : State :=
  let d := last - s.tonFF k - s.gi (F.RAIL_TON_TONADD k.val)
  s.modMd k fun m => { m with dho := d }

/-- Fixed to constant on-time: YHO is taken, THHO kept, POS follows the phase whose boundary came last (R135); it is 0 where no ring
phase has had a boundary in fixed mode, or the last one to have one has left the ring (DESIGN CHOICE, log entry 124). -/
def handToLaunched (k : Fin 8) (s : State) : State :=
  let ring := s.ring k
  let pos := match (s.ra k).md.lastPh with
    | none => 0
    | some n => match ring.idxOf? n with
      | some i => if i + 1 < ring.length then i + 1 else 0
      | none => 0
  (s.modMd k fun m => { m with yho := s.yLoad k, pos := pos, lastPh := none }).p (F.RAIL_MSTAT_EFFMODE k.val) 1

/-- The samples IRAIL has stayed at or below DEENTER are counted (R131). -/
def deCount (k : Fin 8) (s : State) : State :=
  let low := decide (s.irail k ≤ s.g (F.RAIL_DE_DEENTER k.val))
  s.modMd k fun m => { m with deDwell := if low then m.deDwell + 1 else 0 }

/-- A hand-over out of diode emulation is requested: onset entry, or an open forecast window (R127, R135). -/
def State.deLeave (s : State) (k : Fin 8) : Bool := (s.ra k).md.deExit || s.windowOpen k

/-- Diode emulation wanted at this boundary (R131, R135, R205, R206); with DEMODE 01b it is left as R135 lists and taken again
once neither onset mode nor a forecast window stands. Under auto they hold entry off too, and the dwell counts on (DESIGN
CHOICE, log entry 123: R131 is silent). -/
def State.deWanted (s : State) (k : Fin 8) : Bool :=
  if (s.ra k).tr.holdDe then true
  else match s.g (F.RAIL_MCTL_DEMODE k.val) with
    | 0 => false
    | 1 => !(s.deLeave k || s.onset k)
    | _ =>
      if s.gb (F.RAIL_MSTAT_DEACT k.val) then
        !(decide ((s.g (F.RAIL_DE_DEEXIT k.val) : Int) < s.irail k) || s.deLeave k)
      else decide (s.g (F.RAIL_DE_DEDWELL k.val) * 16 ≤ (s.ra k).md.deDwell) && !s.deLeave k && !s.onset k

/-- A rail enabled with DEMODE auto or diode emulation, or held by PREBIAS, starts in diode emulation (R131, R205). -/
def State.deAtEnable (s : State) (k : Fin 8) : Bool :=
  (s.ra k).tr.holdDe || s.g (F.RAIL_MCTL_DEMODE k.val) != 0

/-- The hand-overs due at step 7: fixed-frequency first, then diode emulation (R135); the lock follows them and LOCKEN
(R130). -/
def modulatorHandOvers (k : Fin 8) (s : State) : State :=
  let want := s.gb (F.RAIL_MCTL_FFREQ k.val)
  let s1 := if want && s.effMode k = 1 then handToFixed k s
    else if !want && s.effMode k = 2 then handToLaunched k s else s
  let s2 := deCount k s1
  settleLock k ((s2.pb (F.RAIL_MSTAT_DEACT k.val) (s2.deWanted k)).modMd k fun m => { m with deExit := false })

/-- The loads at t_n (R26, R115, R134): on-time, then threshold or duty, from the output register; `entered` says that
this window's step 7 entered forced fixed-frequency mode, `last` is TON of the last sample. -/
def loadOutputs (k : Fin 8) (entered : Bool) (last : Int) (s : State) : State :=
  let y := s.yLoad k
  let s1 := s.pi (F.GRAPH_YOUT_YOUT k.val) y
  let s2 := latchOnTime k s1
  let s3 := if entered then setDho k last s2 else s2
  if s3.effMode k = 2 then
    if s3.moving k then s3 else (loadDuty k y s3).pi (F.RAIL_THNOW_THCODE k.val) (s3.ra k).md.thho
  else if s3.moving k then s3 else loadThreshold k y s3

/-! ### Sequence boundaries and the frequency lock -/

/-- The lock error of a sequence boundary now: its time minus the nearest instant t_ref + LOCKOFS + whole SYNCPER (R130). -/
def State.lockErr (s : State) (k : Fin 8) : Int :=
  nearest ((s.clock : Int) - s.sync.tref - s.g (F.RAIL_LOCKOFS_LOCKOFS k.val)) (max 1 s.syncFine)

/-- One lock measurement at a sequence boundary that is not forced (R130). -/
def lockMeasure (k : Fin 8) (s : State) : State :=
  let e := s.lockErr k
  let s1 := s.pi (F.RAIL_LOCKSTAT_LOCKERR k.val) (clampInt e (-32767) 32767)
  if s1.lockFrozen k then s1
  else
    let lim : Int := s1.g (F.RAIL_LOCKCFG_LOCKLIM k.val)
    let ti := clampInt ((s1.ra k).md.trimi - asr e (s1.g (F.RAIL_LOCKCFG_FLKI k.val))) (-lim) lim
    let tr := clampInt (ti - asr e (s1.g (F.RAIL_LOCKCFG_FLKP k.val))) (-lim) lim
    let tol := s1.g (F.RAIL_LOCKCFG_LOCKTOL k.val)
    let good := if e.natAbs ≤ tol then min 16 ((s1.ra k).md.lockGood + 1) else 0
    let s2 := (s1.modMd k fun m => { m with trimi := ti, lockGood := good }).pi (F.RAIL_LOCKSTAT_TRIM k.val) tr
    if good = 16 then s2.pb (F.RAIL_MSTAT_FLOCK k.val) true
    else if 4 * tol < e.natAbs then s2.pb (F.RAIL_MSTAT_FLOCK k.val) false else s2

/-- SEQUENCE_BOUNDARY: POS is 0 in constant on-time mode, or position 0 had its boundary in fixed mode; a waiting ring
change takes effect and the lock is measured (R126, R130). -/
def sequenceBoundary (k : Fin 8) (s : State) : State :=
  if s.enabled k && (s.effMode k = 2 || (s.ra k).md.pos = 0) then lockTick k (lockMeasure k (ringBoundary k s)) else s

/-- SEQUENCE_BOUNDARY. -/
def execSequenceBoundary (k : Fin 8) (t : Time) (s : State) : Answer := done (sequenceBoundary k (s.atTime t))

/-- FORCED_SEQUENCE_BOUNDARY: 16 samples without a sequence boundary while a ring change waits (R126); with a launch in
delivery it falls at that delivery. -/
def forcedSequenceBoundary (k : Fin 8) (s : State) : State :=
  if (s.ra k).md.inFlight.isEmpty then forceSequence k s
  else if s.enabled k && (s.ra k).md.seqPend then s.modMd k fun m => { m with forcePend := true } else s

/-- FORCED_SEQUENCE_BOUNDARY. -/
def execForcedSequenceBoundary (x : RailAt) (s : State) : Answer := done (forcedSequenceBoundary x.k (s.atTime x.t))

end Sys2Proof.Machine
end

