-- ==== Sys2Proof/Machine/Loop.lean ====
section
/-!
DEFINITION. The Loop Engine (06_loop_engine.md): the budget and validity of a graph, placement, the stages, a lane's work
on one slot, self-tests, lane moves, the store scrub and the end of COAST.
-/

namespace Sys2Proof.Machine

/-! ### Validity and budget (R143, R147, R167) -/

/-- Stage s of rail k: type, branch, sources a and b. -/
def State.stage (s : State) (k i : Nat) : Nat × Nat × Nat × Nat :=
  (s.g (F.GRAPH_STG_DESC_TYPE k i), s.g (F.GRAPH_STG_DESC_BRANCH k i), s.g (F.GRAPH_STG_DESC_SRCA k i),
    s.g (F.GRAPH_STG_DESC_SRCB k i))

/-- Number of stages of rail k's graph. -/
def State.nstage (s : State) (k : Nat) : Nat := s.g (F.GRAPH_HDR_NSTAGE k) + 1

/-- Cycles of a stage type (R146). -/
def stageCost (typ : Nat) : Nat := if typ = 7 then 2 else if typ = 8 then 3 else 1

/-- Coefficients a stage type takes (R146). -/
def coefCount (typ : Nat) : Nat :=
  match typ with
  | 1 | 4 | 6 => 1
  | 3 => 2
  | 7 => 3
  | 8 => 5
  | _ => 0

/-- The type reads b as well (R146, R147). -/
def readsB (typ : Nat) : Bool := typ = 2 || typ = 3 || typ = 9 || typ = 0xA

/-- INNERCYC: 2 and the cost of every stage (R143 rule 1); it reads 0 while a stage has no type of R146, as the reset graph
has none (DEDUCED). -/
def State.innerCyc (s : State) (k : Nat) : Nat :=
  let types := (List.range (s.nstage k)).map fun i => s.g (F.GRAPH_STG_DESC_TYPE k i)
  if types.all fun t => decide (1 ≤ t ∧ t ≤ 0xA) then 2 + (types.map stageCost).sum else 0

/-- S of R167: the slice cost of the rail's outer loops per sample. -/
def State.sliceCost (s : State) (k : Nat) : Nat :=
  ceilDiv (10 + 3 * s.g (F.OL_CTL_PMAX k)) (2 ^ s.g (F.OL_CTL_KI k)) + ceilDiv 8 (2 ^ s.g (F.OL_CTL_KH k))

/-- A source code is allowed for stage i (R145, R147). -/
def sourceOk (i code : Nat) : Bool := if code < 16 then code < i else code < 0x1C

/-- Whether the path into a source of stage index below n reaches a stage of the given branch (R147); `seen` says it for
each lower stage. -/
def reaches (seen : List Bool) (code : Nat) : Bool := code < 16 && seen.getD code false

/-- For each stage in order, whether it is of the given branch or reads, directly or not, a stage that is. -/
def State.tainted (s : State) (k br : Nat) : List Bool :=
  (List.range (s.nstage k)).foldl (fun seen i =>
    let x := s.stage k i
    seen ++ [x.2.1 == br || reaches seen x.2.2.1 || (readsB x.1 && reaches seen x.2.2.2)]) []

/-- A stage names a lower stage of the given branch. -/
def State.readsBranch (s : State) (k br code : Nat) : Bool := code < 16 && s.g (F.GRAPH_STG_DESC_BRANCH k code) == br

/-- Stage i of rail k is valid (R147), and OUT stands last and only last (R143 rule 4). -/
def State.stageOk (s : State) (k i : Nat) : Bool :=
  let x := s.stage k i
  let last := i + 1 == s.nstage k
  decide (1 ≤ x.1 ∧ x.1 ≤ 0xA) && ((x.1 == 0xA) == last)
    && sourceOk i x.2.2.1 && sourceOk i x.2.2.2 && (readsB x.1 || x.2.2.2 == 0x19)
    && decide (x.2.1 ≤ 2)
    && !(x.2.1 == 1 && (s.readsBranch k 2 x.2.2.1 || s.readsBranch k 2 x.2.2.2))
    && !(x.2.1 == 2 && (s.readsBranch k 1 x.2.2.1 || s.readsBranch k 1 x.2.2.2))
    && (!last || (x.2.1 == 0 && !reaches (s.tainted k 2) x.2.2.1 && !reaches (s.tainted k 1) x.2.2.2))

/-- GVALID: the graph of rail k passes R143 and R147. -/
def State.gvalid (s : State) (k : Nat) : Bool :=
  (List.range (s.nstage k)).all (fun i => s.stageOk k i)
    && decide (s.innerCyc k + s.g (F.GRAPH_HDR_OUTERCYC k) ≤ 25 * framesOf (s.rate k))
    && decide (s.sliceCost k ≤ s.g (F.GRAPH_HDR_OUTERCYC k))

/-! ### Placement (R139-R141) -/

/-- The half-frame PLACE names. -/
def State.named (s : State) (k : Fin 8) : Option (Fin 5 × Bool) :=
  if s.gb (F.GRAPH_PLACE_AUTO k.val) then none
  else some (Fin.ofNat 5 (s.g (F.GRAPH_PLACE_LANE k.val)), s.gb (F.GRAPH_PLACE_HALF k.val))

/-- Rail k takes a half-frame. -/
def takeHalf (k : Fin 8) (h : Fin 5 × Bool) (s : State) : State :=
  s.modGr k fun g => { g with place := some h, moveTo := none, copied := false }

/-- At a start, a rail that holds no half-frame is placed: where it names a free half-frame of a lane in service there,
otherwise in the first free one (R139); with none free, or latched off with cause NOLANE, it stays without (R165). -/
def placeRail (k : Fin 8) (s : State) : State :=
  if (s.ra k).gr.home.isSome || (s.ra k).gr.noLane then s
  else
    match s.named k with
    | some h =>
      if s.halfFree h.1 h.2 && !s.laneRet h.1.val then takeHalf k h s
      else match s.freeHalves with | x :: _ => takeHalf k x s | [] => s
    | none => match s.freeHalves with | x :: _ => takeHalf k x s | [] => s

/-- The rails that name a half-frame of a retired lane go where its failure in service would have sent them (R67, R141, R164):
both half-frames of a lane to the spare, and with no spare each rail to the first free half-frame; a rail without one is as
one latched off with cause NOLANE (R165). -/
def placeLost (l : List (Fin 8)) (s : State) : State :=
  if l.isEmpty then s
  else
    match s.spareLane with
    | some sp => forEach (fun s k => takeHalf k (sp, match s.named k with | some h => h.2 | none => false) s) l s
    | none =>
      forEach (fun s k => match s.freeHalves with
        | h :: _ => takeHalf k h s
        | [] => s.modGr k fun g => { g with noLane := true }) l s

/-- Placement at image apply (R139, R141): the rails with AUTO = 0 take the half-frames they name, the others follow in rising
order, and the rails of retired lanes then move. The result says whether it succeeded. -/
def placeAll (s : State) : State × Bool :=
  let s0 := forAll (n := 8) (fun s k => s.modGr k fun g =>
    { g with place := none, moveTo := none, copied := false, noLane := false }) s
  let ok := (allFin 8).filter fun k => s0.gvalid k.val
  let fixed := ok.filter fun k => (s0.named k).isSome
  let distinct := decide ((fixed.map s0.named).Nodup)
  let lost := fun (k : Fin 8) (m : Fin 5) => match s0.named k with | some h => h.1 == m && s0.laneRet m.val | none => false
  let s1 := forEach (fun s k => match s.named k with
    | some h => if s.laneRet h.1.val then s else takeHalf k h s
    | none => s) fixed s0
  let r := (ok.filter fun k => (s0.named k).isNone).foldl (fun (x : State × Bool) k =>
    match x.1.freeHalves with
    | h :: _ => (takeHalf k h x.1, x.2)
    | [] => (x.1, false)) (s1, distinct)
  (forAll (n := 5) (fun s m => placeLost (fixed.filter fun k => lost k m) s) r.1, r.2)

/-! ### The stages (R144-R149) -/

/-- The latched sources 10h-1Bh of rail k in its present sample (R145, R168). -/
def State.source (s : State) (k : Fin 8) (code : Nat) : Int :=
  match code with
  | 0x10 => (s.ra k).gr.x
  | 0x11 => (s.ra k).tr.rCur
  | 0x12 => (s.ra k).tr.rCur - (s.ra k).tr.rPrev
  | 0x13 => (s.ra k).gr.eph
  | 0x14 => if s.g (F.OL_CTL_LLMODE k.val) = 0 then 0 else (s.ra k).ol.droopE
  | 0x15 => (s.ra k).ol.out1
  | 0x16 => s.g (F.OL_HZNOW_MARGIN k.val)
  | 0x17 => (s.ra k).ol.out3
  | 0x18 => (s.ra k).md.vinc
  | 0x1A => s.gi (F.GRAPH_YOUT_YOUT k.val)
  | 0x1B => s.irail k
  | _ => 0

/-- ILIM_EFF of rail k: the lesser of ILIM and the Innkeeper's capacity limit, an ILIM of 0 standing for none (R175). -/
def State.ilimEff (s : State) (k : Fin 8) : Option Nat :=
  match s.g (F.OL_CL_ILIM k.val), s.capOf k with
  | 0, c => c
  | l, some c => some (min l c)
  | l, none => some l

/-- What a graph computation carries from stage to stage: the states and the values v. -/
structure GraphRun where
  st : Vector (Vector (BitVec 32) 4) 16
  v : Vector (BitVec 32) 16
  deriving DecidableEq, Repr

/-- Coefficient j of stage i and its shift (R144). -/
def State.coef (s : State) (k i j : Nat) : Int × Nat :=
  (s.gi (F.GRAPH_STG_COEF_COEF k i j), getBits (s.word (A.GRAPH_STG_SHIFT k i)) (6 * j) 6)

/-- The output v of a stage and its states afterwards (R146, R149). -/
def stageOut (typ : Nat) (negb : Bool) (a b : Int) (c : Nat → Int × Nat) (z : Vector (BitVec 32) 4)
    (sel init : Bool) (yapp : Int) : Int × Vector (BitVec 32) 4 :=
  let t := fun (x : Int) (j : Nat) => scaled x (c j).1 (c j).2
  let s := fun (j : Fin 4) => (vget z j).toInt
  let w := fun (x : Int) => BitVec.ofInt 32 x
  match typ with
  | 1 => (t a 0, z)
  | 2 => (low32 (if negb then a - b else a + b), z)
  | 3 => (low32 (t a 0 + t b 1), z)
  | 4 => let v := low32 (s 0 + t a 0); (v, vset z 0 (w v))
  | 5 => (s 0, vset z 0 (w a))
  | 6 => (t (low32 (a - s 0)) 0, vset z 0 (w a))
  | 7 =>
    let v := low32 (t a 0 + t (s 0) 1 + t (s 1) 2)
    (v, vset (vset z 0 (w a)) 1 (w v))
  | 8 =>
    let v := low32 (t a 0 + t (s 0) 1 + t (s 1) 2 + t (s 2) 3 + t (s 3) 4)
    (v, vset (vset (vset (vset z 1 (w (s 0))) 0 (w a)) 3 (w (s 2))) 2 (w v))
  | 9 => (low32 (asr (a * b) (c 0).2), z)
  | 0xA =>
    let j : Fin 4 := if sel then 1 else 0
    let p := if sel then b else a
    if init then (yapp, vset z j (w (yapp - p))) else (low32 (p + s j), z)
  | _ => (0, z)

/-- One stage of rail k's graph; a stage of the branch not selected is skipped (R148). -/
def runStage (s : State) (k : Fin 8) (r : GraphRun) (i : Nat) : GraphRun :=
  if h : i < 16 then
    let x := s.stage k.val i
    let sel := s.gb (F.GRAPH_STATUS_SELNOW k.val)
    if (x.2.1 = 1 && sel) || (x.2.1 = 2 && !sel) then r
    else
      let val := fun (code : Nat) => if h : code < 16 then r.v[code].toInt else s.source k code
      let o := stageOut x.1 (s.gb (F.GRAPH_STG_DESC_NEGB k.val i)) (val x.2.2.1) (val x.2.2.2) (s.coef k.val i)
        (r.st[i]) sel (s.ra k).gr.mark (s.gi (F.GRAPH_YOUT_YOUT k.val))
      ⟨r.st.set i o.2, r.v.set i (BitVec.ofInt 32 o.1)⟩
  else r

/-- The registers that show a graph's states and offsets follow them (GRAPH[k].STG[s].STATE[j], HOFS[b]). -/
def showStates (k : Fin 8) (s : State) : State :=
  let g := (s.ra k).gr
  let last := Fin.ofNat 16 (s.g (F.GRAPH_HDR_NSTAGE k.val))
  let s1 := forAll (n := 16) (fun s i => forAll (n := 4) (fun s j =>
    s.setWord (A.GRAPH_STG_STATE k.val i.val j.val) (vget (vget g.st i) j)) s) s
  (s1.setWord (A.GRAPH_HOFS k.val 0) (vget (vget g.st last) 0)).setWord (A.GRAPH_HOFS k.val 1) (vget (vget g.st last) 1)

/-- The graph of rail k computes its sample (R142, R148): y, states, and the mark consumed. -/
def computeGraph (k : Fin 8) (s : State) : State :=
  let g := (s.ra k).gr
  let n := s.nstage k.val
  let r := (List.range n).foldl (fun r i => runStage s k r i) ⟨g.st, g.v⟩
  showStates k (s.modGr k fun g => { g with st := r.st, v := r.v, mark := false,
                                            y := (vget r.v (Fin.ofNat 16 (n - 1))) })

/-- The slice results of rail k's sample are discarded: its outer periods publish nothing (R31, R191). -/
def spoil (k : Fin 8) (s : State) : State := s.modOl k fun o => { o with spoiled := true, spoiledH := true }

/-- The sample is held (R31): y of the sample before is applied again, its state updates and slice results are
discarded. -/
def holdSample (k : Fin 8) (m : Fin 5) (s : State) : State :=
  let s1 := s.modGr k fun g => { g with y := BitVec.ofNat 32 (s.g (F.GRAPH_YOUT_YOUT k.val)) }
  ((spoil k s1).inc (F.GRAPH_CNT_HELD k.val)).inc (F.LANE_CNT_HELD m.val)

/-- One parity error detected in lane m: the count and the strike (R31, R162). -/
def parityError (m : Fin 5) (s : State) : State :=
  raise (chanEvent 0x16 4 m.val true false) (s.inc (F.LANE_CNT_PARITY m.val))

/-- All states and offsets of the graph become 0, and the next computed sample is marked (R150, R161). -/
def zeroStates (k : Fin 8) (s : State) : State :=
  showStates k (s.modGr k fun g => { g with st := .replicate 16 (.replicate 4 0), mark := true })

/-- The graph of rail k is computed in the present sample: the rail is enabled, on a lane, and neither coasting nor in a
lane move (R156, R164). -/
def State.computes (s : State) (k : Fin 8) : Option (Fin 5) :=
  if s.enabled k && !s.moving k && !s.gb (F.GRAPH_STATUS_COASTING k.val) then ((s.ra k).gr.place).map (·.1) else none

/-- A replay computes the sample, and the parity error adds its strike; a lane that retires by it holds the sample instead
(R31, R34). -/
def replaySample (k : Fin 8) (m : Fin 5) (s : State) : State :=
  let s1 := parityError m ((computeGraph k s).inc (F.GRAPH_CNT_REPLAY k.val))
  if s1.laneRet m.val then parityError m (holdSample k m s) else s1

/-- The lane that serves rail k while COAST keeps its graph from being computed (R156, R163). -/
def State.coastLane (s : State) (k : Fin 8) : Option (Fin 5) :=
  if s.enabled k && !s.moving k && s.gb (F.GRAPH_STATUS_COASTING k.val) then ((s.ra k).gr.place).map (·.1) else none

/-- The slot of a coasting rail (R142, R156, R163): its outer-loop slice alone is computed, and no replay takes place, so that a
parity error loses the slice's results; the strikes are those of any slot (DEDUCED, log entry 130). -/
def coastSlot (k : Fin 8) (m : Fin 5) (o : SlotOutcome) (s : State) : State :=
  match o with
  | .clean => s
  | .replayed | .transfer => parityError m (spoil k s)
  | .corrected => parityError m (spoil k (s.inc F.LE_STORE_CORR))
  | .held | .stateLost => parityError m (parityError m (spoil k s))
  | .storeLost => raiseRail 0x0E k (parityError m (parityError m (spoil k (s.inc F.LE_STORE_LOST))))
  | .noMarker => raise (chanEvent 0x16 4 m.val false true) (spoil k s)

/-- LANE_SLOT: the first half of a slot, and its replay (R31, R142, R160, R161, R163). The strikes are added after the
sample's outcome. -/
def laneSlot (k : Fin 8) (o : SlotOutcome) (s : State) : State :=
  match s.computes k with
  | none => match s.coastLane k with
    | some m => coastSlot k m o s
    | none => s
  | some m =>
    match o with
    | .clean => computeGraph k s
    | .replayed => replaySample k m s
    | .corrected => replaySample k m (s.inc F.LE_STORE_CORR)
    | .held => parityError m (parityError m (holdSample k m s))
    | .transfer => parityError m (holdSample k m s)
    | .stateLost =>
      parityError m (parityError m ((zeroStates k (holdSample k m s)).pb (F.GRAPH_STATUS_STATELOST k.val) true))
    | .storeLost => raiseRail 0x0E k (parityError m (parityError m ((holdSample k m s).inc F.LE_STORE_LOST)))
    | .noMarker => raise (chanEvent 0x16 4 m.val false true) (holdSample k m s)

/-- LANE_SLOT. -/
def execLaneSlot (k : Fin 8) (o : SlotOutcome) (s : State) : Answer := done (laneSlot k o s)

/-! ### Lanes -/

/-- LANE_SELF_TEST: a lane that serves no rail and is not retired runs its test graph (R163). -/
def laneSelfTest (m : Fin 5) (ok : Bool) (s : State) : State :=
  if s.core && !s.laneRet m.val && !s.laneBusy m then
    let s1 := s.pb (F.LANE_STATUS_TESTOK m.val) ok
    if ok then s1 else raise (chanEvent 0x16 4 m.val false true) s1
  else s

/-- LANE_SELF_TEST. -/
def execLaneSelfTest (lane : Fin 5) (ok : Bool) (s : State) : Answer := done (laneSelfTest lane ok s)

/-- LANE_MOVE_COPY_DONE: the target lane holds the programs of the rails sent to it; each is taken at its next sample
boundary (R164 steps 4 and 5). -/
def laneMoveCopyDone (m : Fin 5) (s : State) : State :=
  forAll (n := 8) (fun s k =>
    match (s.ra k).gr.moveTo with
    | some t => if t.1 = m then s.modGr k fun g => { g with copied := true } else s
    | none => s) s

/-- LANE_MOVE_COPY_DONE. -/
def execLaneMoveCopyDone (lane : Fin 5) (s : State) : Answer := done (laneMoveCopyDone lane s)

/-- The target lane takes rail k at its sample boundary (R164 steps 5 and 6, R191): states and held values 0, the first sample
marked; the outer loops keep what they published and start fresh periods. The move is recorded once no rail of the old lane
waits. -/
def takeOver (k : Fin 8) (s : State) : State :=
  let g := (s.ra k).gr
  match g.moveTo with
  | none => s
  | some t =>
    if !g.copied then s
    else
      let s1 := (s.modGr k fun g => { g with place := some t, moveTo := none, copied := false, v := .replicate 16 0 }).pb
        (F.GRAPH_STATUS_MOVING k.val) false
      let cbi := Vector.ofFn fun n => if (s.ring k).contains n then s.gi (F.OLPH_TRIM_BTRIM n.val) * 256 else 0
      let s2 := s1.modOl k fun o => { o with cbi := cbi, ci := 0, ch := 0, inp := none, freshH := false,
                                             spoiled := false, spoiledH := false }
      recordMove g.place g.spread t.1.val
        (zeroStates k (s2.modEp k fun e => { e with settle := s.g (F.EPH_SETTLE_ESETTLE k.val) }))

/-- GRAPH_STORE_SCRUB: corrections and losses of one scrub of the shared graph store; a rail with words lost in both
copies is latched off with GRAPHLOST (R161, R162). -/
def graphStoreScrub (corrected : BitVec 16) (lost : Vector Nat 8) (s : State) : State :=
  if s.core then
    let s1 := s.incBy F.LE_STORE_CORR corrected.toNat
    forAll (n := 8) (fun s k => if vget lost k = 0 then s else raiseRail 0x0E k (s.incBy F.LE_STORE_LOST (vget lost k))) s1
  else s

/-- GRAPH_STORE_SCRUB. -/
def execGraphStoreScrub (corrected : BitVec 16) (lost : Vector Nat 8) (s : State) : Answer :=
  done (graphStoreScrub corrected lost s)

/-! ### COAST (R156, R157) -/

/-- COAST ends, and the next computed sample is marked. -/
def coastEnd (k : Fin 8) (s : State) : State :=
  (s.pb (F.GRAPH_STATUS_COASTING k.val) false).modGr k fun g => { g with mark := true }

/-- COAST ends by its limit: the controller clears COAST and sets COASTEXP. -/
def coastExpire (k : Fin 8) (s : State) : State :=
  coastEnd k ((s.pb (F.GRAPH_CTL_COAST k.val) false).pb (F.GRAPH_STATUS_COASTEXP k.val) true)

/-- COAST at step 7 of a boundary window: it starts, ends by a write, expires, or counts one more sample. -/
def coastBoundary (k : Fin 8) (s : State) : State :=
  let req := s.gb (F.GRAPH_CTL_COAST k.val)
  let on := s.gb (F.GRAPH_STATUS_COASTING k.val)
  if on then
    if !req then coastEnd k s
    else if s.g (F.GRAPH_CTL_COASTLIM k.val) ≤ s.g (F.GRAPH_STATUS_COASTN k.val) then coastExpire k s
    else s.inc (F.GRAPH_STATUS_COASTN k.val)
  else if req then (s.pb (F.GRAPH_STATUS_COASTING k.val) true).p (F.GRAPH_STATUS_COASTN k.val) 1
  else s

/-- COAST_EXPIRY: the limit has been reached. -/
def coastExpiry (k : Fin 8) (s : State) : State :=
  if s.enabled k && s.gb (F.GRAPH_STATUS_COASTING k.val) then coastExpire k s else s

/-- COAST_EXPIRY. -/
def execCoastExpiry (k : Fin 8) (s : State) : Answer := done (coastExpiry k s)

/-! ### Branch hand-over (R151) -/

/-- The branch requested: SELREQ, or the current-limit supervisor. -/
def State.branchReq (s : State) (k : Fin 8) : Bool :=
  if s.gb (F.GRAPH_CTL_SELSRC k.val) then s.gb (F.OL_STATUS_CLACT k.val) else s.gb (F.GRAPH_CTL_SELREQ k.val)

/-- A branch request that differs from SELNOW is executed: the frame that follows is marked, and the Ephemeris freezes
(R151, R187). -/
def branchHandOver (k : Fin 8) (s : State) : State :=
  if s.branchReq k == s.gb (F.GRAPH_STATUS_SELNOW k.val) then s
  else
    ((s.pb (F.GRAPH_STATUS_SELNOW k.val) (s.branchReq k)).modGr k fun g => { g with mark := true }).modEp k
      fun e => { e with settle := s.g (F.EPH_SETTLE_ESETTLE k.val) }

end Sys2Proof.Machine
end

