-- ==== Sys2Proof/Machine/Outer.lean ====
section
/-!
DEFINITION. The outer loops, the supervisors and Horizon (07_outer_loops.md), the Innkeeper's evaluation at each
current-group publication (10_innkeeper.md), and the Ephemeris.
-/

namespace Sys2Proof.Machine

/-! ### Phase currents (R169, R170) -/

/-- Phase n has a reading the outer loops use: it is not blind, and its group has a working converter (R33, R170). -/
def State.sighted (s : State) (n : Fin 48) : Bool := !s.onModel n.val

/-- The sum of a list of numbers. -/
def sumInt (l : List Int) : Int := l.foldl (· + ·) 0

/-- The mean of a list rounded toward minus infinity; 0 for none. -/
def meanInt (l : List Int) : Int := if l.isEmpty then 0 else sumInt l / l.length

/-- The average code of phase n's conversions in the outer period that ended (R169); the latest one where it had none. -/
def State.avgCode (s : State) (n : Fin 48) : Nat :=
  if (s.rl n).icnt = 0 then (s.rl n).code else (s.rl n).isum / (s.rl n).icnt

/-- IPH of phase n from its averaged code (R169). -/
def State.iph (s : State) (n : Fin 48) : Int := low32 (s.ampsOf n.val (s.avgCode n))

/-- IMEAN of a list of sighted ring currents (R170); the spec states none for an empty list, a free value. -/
def imeanOf (l : List Int) (s : State) : Int × State :=
  if l.isEmpty then let d := s.draw; (low32 (Config.freeInt d.1), d.2)
  else (low32 (asr (low32 (sumInt l) * (65536 / l.length : Nat)) 16), s)

/-! ### Current balance and thermal share (R171-R173) -/

/-- TSENg reads valid (R324). -/
def State.tsenValid (s : State) (g : Nat) : Bool :=
  let x := vget s.conv.sensor (Fin.ofNat 9 g)
  x.seen && x.valid

/-- T_g in 1/16 °C (R171). -/
def State.tsen (s : State) (g : Nat) : Int := s.gi (F.MC_CH_DATA_VALUE (62 + g))

/-- TMEAN of a list of group temperatures; none without any (R171). -/
def tmeanOf (l : List Int) : Option Int := if l.isEmpty then none else some (meanInt l)

/-- TSO of a phase whose group reads tg, from the inputs of its period (R171): a group without a valid reading takes TMEAN. -/
def CurrentIn.tso (x : CurrentIn) (tm tg : Option Int) : Int :=
  match tm, tg with
  | some m, some t => clampInt (asr ((m - t) * x.tsk) 8) (-(x.tslim * 64 : Nat)) (x.tslim * 64 : Nat)
  | _, _ => 0

/-- The integrator a ring phase starts its period with: a phase that joined takes the mean of the others (R173). -/
def State.cbiIn (s : State) (k : Fin 8) (ring : List (Fin 48)) (n : Fin 48) : Int :=
  let ol := (s.ra k).ol
  if vget ol.joined n then vget ol.cbi n
  else meanInt ((ring.filter fun m => m != n && vget ol.joined m).map fun m => vget ol.cbi m)

/-- One period of balance of a sighted ring phase: CBI and BTRIM (R172). -/
def CurrentIn.balance (x : CurrentIn) (cbi imean tso iph : Int) : Int × Int :=
  let e := low32 (imean + tso - iph)
  let c := low32 (cbi + scaled e x.cbki 16 - asr cbi x.cbleak)
  (c, clampInt (asr (low32 (c + scaled e x.cbkp 16)) 8) (-(x.cblim : Int)) x.cblim)

/-! ### The current group (R166-R175) -/

/-- Phase n is assigned to rail k, or is in its tail. -/
def State.ownPhase (s : State) (k : Fin 8) (n : Fin 48) : Bool := s.railOf n.val == some k || (s.ph n).tail == some k

/-- The inputs of the current-group period of rail k that starts now (R32, R169-R174). -/
def State.currentIn (s : State) (k : Fin 8) : CurrentIn :=
  let ring := s.ring k
  { ring := ring, tail := s.tail k, iph := Vector.ofFn fun n => s.iph n, seen := Vector.ofFn fun n => s.sighted n,
    tg := Vector.ofFn fun g => if s.tsenValid g.val then some (s.tsen g.val) else none,
    cbi := Vector.ofFn fun n => if ring.contains n then s.cbiIn k ring n else 0,
    epoch := Vector.ofFn fun n => (s.rl n).epoch, llr := s.g (F.OL_LL_LLR k.val),
    cbki := s.g (F.OL_CB_CBKI k.val), cbkp := s.g (F.OL_CB_CBKP k.val), cbleak := s.g (F.OL_CBLIM_CBLEAK k.val),
    cblim := s.g (F.OL_CBLIM_CBLIM k.val), tsk := s.g (F.OL_TS_TSK k.val), tslim := s.g (F.OL_TS_TSLIM k.val) }

/-- Inputs of the current group are latched, and the sums of the phases' conversions begin anew (R32, R169). -/
def latchCurrent (k : Fin 8) (s : State) : State :=
  let x := s.currentIn k
  let s1 := s.modOl k fun o => { o with inp := some x, spoiled := false, cbi := x.cbi,
                                        joined := Vector.ofFn fun n => x.ring.contains n }
  forAll (n := 48) (fun s n =>
    if s.ownPhase k n then s.modRl n fun r => { r with isum := 0, icnt := 0 } else s) s1

/-- Phase n was sighted when the period's inputs were latched, and has not been declared blind since (R170, R191). -/
def CurrentIn.sighted (x : CurrentIn) (s : State) (n : Fin 48) : Bool := vget x.seen n && s.sighted n

/-- The current of phase n that the period's results count: its own, and IMEAN for a blind one (R170, R191, R259). -/
def CurrentIn.current (x : CurrentIn) (s : State) (imean : Int) (n : Fin 48) : Int :=
  if x.sighted s n then vget x.iph n else imean

/-- CBI, BTRIM and TSO of ring phase n for the period (R171, R172). -/
def CurrentIn.trim (x : CurrentIn) (s : State) (imean : Int) (n : Fin 48) : Int × Int × Int :=
  let tg := fun (n : Fin 48) => vget x.tg (Fin.ofNat 6 (groupOf n.val))
  let t := x.tso (tmeanOf ((x.ring.filter (x.sighted s)).filterMap tg)) (tg n)
  let b := x.balance (vget x.cbi n) imean t (vget x.iph n)
  (b.1, b.2, t)

/-- The trim of phase n is published to the modulator; with another epoch it is dropped and counted (R173, R245). -/
def publishTrim (k : Fin 8) (n : Fin 48) (t : Int × Int × Int) (epoch : BitVec 8) (s : State) : State :=
  let s1 := (s.modOl k fun o => { o with cbi := vset o.cbi n t.1, blindFrozen := vset o.blindFrozen n false }).pi
    (F.OLPH_TRIM_TSO n.val) t.2.2
  if epoch = (s.rl n).epoch then s1.pi (F.OLPH_TRIM_BTRIM n.val) t.2.1
  else (s1.pi (F.OLPH_TRIM_BTRIM n.val) 0).inc (F.PHASE_STALE_STALE n.val)

/-- The trim of a blind ring phase freezes at the mean of the others at the publication after its declaration (R173). -/
def freezeTrim (k : Fin 8) (n : Fin 48) (s : State) : State :=
  if vget (s.ra k).ol.blindFrozen n then s
  else
    let l := ((s.ring k).filter fun m => m != n).map fun m => s.gi (F.OLPH_TRIM_BTRIM m.val)
    (s.pi (F.OLPH_TRIM_BTRIM n.val) (meanInt l)).modOl k fun o => { o with blindFrozen := vset o.blindFrozen n true }

/-- Charge carried over one period of ns nanoseconds, in units of 1/64 A.ns below one A.h (R261). -/
def addCharge (n : Fin 48) (iph : Int) (ns : Nat) (s : State) : State :=
  let unit := 64 * 3600 * 1000000000
  let c := (s.rl n).ahFrac + iph.natAbs * ns
  (s.modRl n fun r => { r with ahFrac := c % unit }).incBy (F.PHASE_LIFEAH_AH n.val) (c / unit)

/-- CLACT follows a current-group publication (R175). -/
def currentLimit (k : Fin 8) (s : State) : State :=
  match s.ilimEff k with
  | none => (s.pb (F.OL_STATUS_CLACT k.val) false).modOl k fun o => { o with clCount := 0 }
  | some lim =>
    if s.g (F.OL_CL_ILIM k.val) = 0 then (s.pb (F.OL_STATUS_CLACT k.val) false).modOl k fun o => { o with clCount := 0 }
    else
      let act := s.gb (F.OL_STATUS_CLACT k.val)
      let hit := if act then decide (s.irail k < (lim : Int) - s.g (F.OL_CL_CLHYST k.val))
        else decide ((lim : Int) < s.irail k)
      let c := if hit then (s.ra k).ol.clCount + 1 else 0
      if hit && decide (s.g (F.OL_CL_CLN k.val) ≤ c) then
        ((if act then s else latchRail k 0 4 0 0 s).pb (F.OL_STATUS_CLACT k.val) (!act)).modOl k fun o => { o with clCount := 0 }
      else s.modOl k fun o => { o with clCount := c }

/-! ### The Innkeeper at a publication (R249-R251, R258, R259) -/

/-- Phases in the order in which they are shed: BLIND or WORN ones first, then as SHEDSEL says (R251). The pairs are base
positions and phases. -/
def State.shedBefore (s : State) (k : Fin 8) (a b : Nat × Fin 48) : Bool :=
  let bad := fun (n : Fin 48) => s.blind n.val || s.gb (F.PHASE_ROLE_WORN n.val)
  if bad a.2 != bad b.2 then bad a.2
  else if s.gb (F.INK_CTL_SHEDSEL k.val) && s.g (F.PHASE_WEAR_WEAR a.2.val) != s.g (F.PHASE_WEAR_WEAR b.2.val) then
    decide (s.g (F.PHASE_WEAR_WEAR b.2.val) < s.g (F.PHASE_WEAR_WEAR a.2.val))
  else decide (b.1 < a.1)

/-- Insert into a list ordered by `lt`. -/
def insertBy {α : Type} (lt : α → α → Bool) (x : α) : List α → List α
  | [] => [x]
  | y :: l => if lt x y then x :: y :: l else y :: insertBy lt x l

/-- A list ordered by `lt`. -/
def orderBy {α : Type} (lt : α → α → Bool) (l : List α) : List α := l.foldl (fun acc x => insertBy lt x acc) []

/-- The first m phases to shed of rail k. -/
def State.shedPick (s : State) (k : Fin 8) (m : Nat) : List (Fin 48) :=
  let l := ((s.ra k).ink.base.zipIdx.map fun x => (x.2, x.1)).filter fun x => (s.rl x.2).role == .active
  ((orderBy (s.shedBefore k) l).take m).map (·.2)

/-- The order of adding (R251): the reverse of the order of shedding; a forecast prefers phases whose SMODg is high
(R253). -/
def State.addBefore (s : State) (k : Fin 8) (forecast : Bool) (a b : Nat × Fin 48) : Bool :=
  let bad := fun (n : Fin 48) => s.blind n.val || s.gb (F.PHASE_ROLE_WORN n.val)
  let up := fun (n : Fin 48) => s.gb (F.STAGEGRP_CFG_SMODOUT (groupOf n.val))
  let wear := fun (n : Fin 48) => s.g (F.PHASE_WEAR_WEAR n.val)
  if forecast && up a.2 != up b.2 then up a.2
  else if bad a.2 != bad b.2 then bad b.2
  else if s.gb (F.INK_CTL_SHEDSEL k.val) && wear a.2 != wear b.2 then decide (wear a.2 < wear b.2)
  else decide (a.1 < b.1)

/-- The first m phases to add to rail k. -/
def State.addPick (s : State) (k : Fin 8) (m : Nat) (forecast : Bool) : List (Fin 48) :=
  let l := ((s.ra k).ink.base.zipIdx.map fun x => (x.2, x.1)).filter fun x => (s.rl x.2).role == .shed
  ((orderBy (s.addBefore k forecast) l).take m).map (·.2)

/-- The set of ACTIVE phases the rail is heading for: the waiting decision or rewrite, else the present one (R252). -/
def State.heading (s : State) (k : Fin 8) : List (Fin 48) :=
  ((s.ra k).ink.want <|> (s.ra k).ink.rewrite).getD (s.activeOf k)

/-- m phases are added at once; an add cancels a waiting shed of the rail (R250, R252). -/
def decideAdd (k : Fin 8) (m : Nat) (forecast : Bool) (s : State) : State :=
  let add := s.addPick k m forecast
  let keep := s.activeOf k ++ (s.heading k).filter fun n => !(s.activeOf k).contains n
  s.modInk k fun i => { i with want := some (keep ++ add.filter fun n => !keep.contains n),
                               fcAdded := if forecast then add else i.fcAdded, shedCnt := 0 }

/-- A shed of rail k is held (R250). -/
def State.shedHeld (s : State) (k : Fin 8) : Bool :=
  !s.gb (F.RAIL_TSTAT_PG k.val) || s.gb (F.OL_STATUS_CLACT k.val) || s.onset k || s.gb (F.RAIL_MSTAT_FCARMED k.val)
    || s.gb (F.GRAPH_STATUS_COASTING k.val)
    || decide ((s.ra k).ink.sinceDue < s.g (F.INK_CTL_FCHOLD k.val))

/-- Adding and shedding at a publication of a rail with AUTO = 1 in ON (R250). -/
def addOrShed (k : Fin 8) (s : State) : State :=
  if s.gb (F.INK_CTL_AUTO k.val) && s.st k == .on && !s.effBad k.val then
    let act := (s.activeOf k).length
    let need := s.nOf k (s.irail k)
    let low := s.nOf k (s.irail k + s.g (F.INK_LIM_SHEDHYST k.val))
    if act < need then decideAdd k (need - act) false s
    else if low < act && !s.shedHeld k then
      let c := (s.ra k).ink.shedCnt + 1
      if s.g (F.INK_CTL_SHEDDWELL k.val) ≤ c then
        let out := s.shedPick k (act - low)
        s.modInk k fun i => { i with shedCnt := 0, want := some ((s.heading k).filter fun n => !out.contains n) }
      else s.modInk k fun i => { i with shedCnt := c }
    else s.modInk k fun i => { i with shedCnt := 0 }
  else s.modInk k fun i => { i with shedCnt := 0 }

/-- Phase n is declared blind (R258, R259): flag, message and record, and a write to the health area; as the last sighted
ACTIVE phase of the ring it is not, and SENSELOST is declared. -/
def declareBlind (n : Fin 48) (s : State) : State :=
  match s.railOf n.val with
  | none => s
  | some k =>
    if s.blind n.val then s
    else if ((s.ring k).filter fun m => m != n && s.sighted m && (s.rl m).role == .active).isEmpty then
      raiseRail 0x0D k s
    else q15Put .health (inkMessage 2 (some n) k.val 0 0 0 (s.pb (F.PHASE_ROLE_BLIND n.val) true))

/-- How far BTRIM of phase n stands from the mean of its rail's sighted ring phases, as a fraction (R258). -/
def State.trimDev (s : State) (n : Fin 48) : Nat × Nat :=
  match s.railOf n.val with
  | none => (0, 1)
  | some k =>
    let l := ((s.ring k).filter s.sighted).map fun m => s.gi (F.OLPH_TRIM_BTRIM m.val)
    ((s.gi (F.OLPH_TRIM_BTRIM n.val) * l.length - sumInt l).natAbs, max 1 l.length)

/-- The suspect of tests 2 and 3 among the phases that satisfy p: the sighted ACTIVE one furthest from the mean of its rail, ties to
the lower number (R258). -/
def State.suspect (s : State) (p : Fin 48 → Bool) : Option (Fin 48) :=
  ((allFin 48).filter fun n => p n && (s.rl n).role == .active && s.sighted n).foldl (fun b n => match b with
    | none => some n
    | some x => if (s.trimDev x).1 * (s.trimDev n).2 < (s.trimDev n).1 * (s.trimDev x).2 then some n else some x) none

/-- Phase n stands in the ring of its rail. -/
def State.inRing (s : State) (n : Fin 48) : Bool := match s.railOf n.val with | some k => (s.ring k).contains n | none => false

/-- The sum test of rail k at a publication (R258, test 3): consecutive publications out of agreement are counted, up to the
eight that fail it. -/
def sumTest (k : Fin 8) (s : State) : State :=
  let est := asr (s.mcCode (s.g (F.INK_XSENSE_XCH k.val)) * s.g (F.INK_XSENSE_XGAIN k.val)) 8
  let bad := s.gb (F.INK_XSENSE_XEN k.val) && s.st k == .on
    && decide ((64 * s.g (F.INK_XSENSE_SUMDEV k.val) : Int) < (s.gi (F.OL_ITOT_ITOT k.val) - 64 * est).natAbs)
  s.modInk k fun i => { i with sumBad := if bad then min 8 (i.sumBad + 1) else 0 }

/-! ### The loss model (R260) -/

/-- The loss index of a current in 1/64 A, in 1/16 °C, rounded once by the shift (R260). -/
def State.lossIndex (s : State) (iph : Int) : Int :=
  let i := iph.natAbs
  ((i * i * s.g F.INK_TMODEL_KT2 + 64 * i * s.g F.INK_TMODEL_KT1) / 2 ^ 28 : Nat)

/-- The filtered loss index of phase n takes its next value, ns nanoseconds after the last: a filter of time constant
2^TTAU * 10 ms whose recursion the spec does not give, a free value (R260). -/
def lossFilter (n : Fin 48) (iph : Int) (ns : Nat) (s : State) : State :=
  s.modRl n fun r => { r with heat := Config.lossFilter (s.g F.INK_TMODEL_TTAU) ns (s.lossIndex iph) r.heat }

/-- T_ref in 1/16 °C (R260): the junction, TSEN6 or TSEN7. -/
def State.tref (s : State) : Int :=
  s.gi (F.MC_CH_DATA_VALUE (match s.g F.INK_HCFG_TREFSRC with | 0 => 70 | 1 => 68 | _ => 69))

/-- The estimated temperature of group g: T_ref and the largest filtered loss index among its ACTIVE phases; none without one
(R260). -/
def State.tEst (s : State) (g : Nat) : Option Int :=
  match ((allFin 48).filter fun n => groupOf n.val == g && (s.rl n).role == .active).map fun n => (s.rl n).heat with
  | [] => none
  | x :: l => some (s.tref + l.foldl max x)

/-- Test 2 of R258 finds group g out of agreement now. -/
def State.tooWarm (s : State) (g : Nat) : Bool :=
  (s.g F.INK_TMODEL_KT1 != 0 || s.g F.INK_TMODEL_KT2 != 0) && s.tsenValid g && match s.tEst g with
    | some e => decide (16 * s.g F.INK_HCFG_TDEV < (s.tsen g - e).natAbs)
    | none => false

/-- Since when group g has been out of agreement by test 2, if it is (R258). -/
def State.warmSince (s : State) (g : Fin 6) : Option Nat :=
  if s.tooWarm g.val then some ((vget s.chk.warm g).getD s.clock) else none

/-- Test 2 of R258 is evaluated for every group. -/
def thermalTest (s : State) : State := { s with chk := { s.chk with warm := Vector.ofFn fun g => s.warmSince g } }

/-- A light-load opportunity retires blind phases, and worn ones a spare can replace, shed ones too (R259, R261). -/
def lightLoad (k : Fin 8) (s : State) : State :=
  let good := ((s.activeOf k).filter fun n => !s.blind n.val && !s.gb (F.PHASE_ROLE_WORN n.val)).length
  let pool := (s.ra k).ink.base.filter fun n => (s.rl n).role == .active || (s.rl n).role == .shed
  if s.nOf k (s.irail k + s.g (F.INK_LIM_SHEDHYST k.val)) < good then
    let s1 := forEach (fun s n => retirePhase n 3 s) (pool.filter fun n => s.blind n.val) s
    forEach (fun s n => if (s.bestSpare k ((s.promotions k (s.retiring k)).map (·.2))).isSome then retirePhase n 4 s else s)
      (pool.filter fun n => !s.blind n.val && s.gb (F.PHASE_ROLE_WORN n.val)) s1
  else s

/-- The due instant of the rail's forecast has come (R253): an added phase that still waits out its group's WAKE is counted and
reported, and sheds are held from now. -/
def forecastDue (k : Fin 8) (s : State) : State :=
  match (s.ra k).md.fc with
  | none => s
  | some f =>
    let late := (s.ra k).ink.fcAdded.any fun n => (s.rl n).role == .active && !s.awake (groupOf n.val)
    let s1 := (s.modMd k fun m => { m with fc := some { f with due := true } }).modInk k
      fun i => { i with fcPending := false, fcAdded := [], sinceDue := 0 }
    if late then inkMessage 8 none k.val 0 0 0 (s1.inc (F.INK_CNT_FCLATE k.val)) else s1

/-- A forecast whose due instant has passed without the Innkeeper's note of it is noted (R253). -/
def dueStep (k : Fin 8) (s : State) : State :=
  match (s.ra k).md.fc with
  | none => s
  | some f => if !f.due && decide (0 ≤ between f.dueAt s.clock) then forecastDue k s else s

/-- The Innkeeper evaluates rail k at a current-group publication. -/
def inkPublish (k : Fin 8) (s : State) : State :=
  let s1 := s.modInk k fun i => { i with sinceDue := i.sinceDue + 1 }
  addOrShed k (lightLoad k (sumTest k s1))

/-- OUT1 at a publication: the distance below the current limit; with no limit in force the spec states no value, a free
one (R168). -/
def limitDistance (k : Fin 8) (itot : Int) (s : State) : Int × State :=
  match s.ilimEff k with
  | some l => (low32 ((l : Int) * 64 - itot), s)
  | none => let d := s.draw; (low32 (Config.freeInt d.1), d.2)

/-- ITOT, the droop and OUT0-OUT3 of rail k are published (R32, R168, R174). -/
def publishTotals (k : Fin 8) (x : CurrentIn) (itot : Int) (s : State) : State :=
  let r := scaled itot (x.llr * 2 ^ 32 / 6400 : Nat) 32
  let e := scaled itot (x.llr * 2 ^ 31 / 2500 : Nat) 27
  let last := s.gi (F.OL_ITOT_ITOT k.val)
  let d := limitDistance k itot s
  ((d.2.pi (F.OL_ITOT_ITOT k.val) itot).pi (F.OL_DROOP_DROOPR k.val) r).modOl k fun o =>
    { o with inp := none, droopR := r, droopE := e, out1 := d.1, out3 := low32 (itot - last) }

/-- The trims of rail k's ring are published: those of sighted phases that are still in the ring, and the frozen ones of blind
phases (R173). -/
def publishTrims (k : Fin 8) (x : CurrentIn) (imean : Int) (s : State) : State :=
  let l := (x.ring.filter fun n => x.sighted s n && (s.ring k).contains n).map fun n => (n, x.trim s imean n)
  let s1 := forEach (fun s a => publishTrim k a.1 a.2 (vget x.epoch a.1) s) l s
  forEach (fun s n => if s.sighted n then s else freezeTrim k n s) (s1.ring k) s1

/-- What the Innkeeper's health model takes from a publication: charge carried, and the loss model (R260, R261); a phase that
carries no pulse loses nothing. -/
def publishHealth (k : Fin 8) (x : CurrentIn) (imean : Int) (s : State) : State :=
  let ns := s.ts k.val * 2 ^ s.g (F.OL_CTL_KI k.val)
  let cur := (x.ring ++ x.tail).map fun n => (n, x.current s imean n)
  let s1 := forEach (fun s a => addCharge a.1 a.2 ns s) cur s
  thermalTest (forAll (n := 48) (fun s n =>
    if s.ownPhase k n then lossFilter n (match cur.find? (fun a => a.1 == n) with | some a => a.2 | none => 0) ns s
    else s) s1)

/-- The results of the ending current-group period are formed and published (R32, R169-R175, R250, R281): a phase declared blind
since its inputs were latched counts with IMEAN (R191). -/
def publishCurrent (k : Fin 8) (s : State) : State :=
  match (s.ra k).ol.inp with
  | none => s
  | some x =>
    if (s.ra k).ol.spoiled then s.modOl k fun o => { o with inp := none, spoiled := false }
    else
      let sring := x.ring.filter (x.sighted s)
      let blind := x.ring.filter fun n => !x.sighted s n
      let im := imeanOf (sring.map fun n => vget x.iph n) s
      let s0 := if blind.isEmpty then s else im.2
      let itot := low32 (sumInt (((x.ring ++ x.tail).filter (x.sighted s)).map fun n => vget x.iph n) + blind.length * im.1)
      let s1 := publishTotals k x itot s0
      let s2 := forEach (fun s n => if s.onModel n.val then
          s.modPh n fun p => { p with modelReq := decide ((64 * s.g (F.FM_PH_CFG_OCDIG n.val) : Nat) < im.1) }
        else s) (s.ringTail k) s1
      senseCheck k (inkPublish k (currentLimit k (publishHealth k x im.1 (publishTrims k x im.1 s2))))

/-! ### Horizon (R178-R182) -/

/-- Horizon may increase M (R180). -/
def State.mayLower (s : State) (k : Fin 8) : Bool :=
  (s.ra k).tr.trans.isNone && !s.windowOpen k && s.gb (F.RAIL_TSTAT_PG k.val) && !s.timers k
    && !s.gb (F.OL_STATUS_CLACT k.val) && !(s.ra k).ol.capLowSent && s.dev != .lockdown

/-- M becomes 0 (R181); events too late for the present boundary still wait. -/
def marginZero (k : Fin 8) (s : State) : State :=
  ((s.p (F.OL_HZNOW_MARGIN k.val) 0).p (F.OL_STATUS_GOODCNT k.val) 0).modOl k
    fun o => { o with mZero := o.mZero.filter fun c => !s.beforeWindow c }

/-- An event of the present instant sets M to 0 (R181). -/
def marginEvent (k : Fin 8) (s : State) : State := s.modOl k fun o => { o with mZero := o.mZero ++ [s.clock] }

/-- The Horizon period that ends is evaluated and published (R179). -/
def publishHorizon (k : Fin 8) (s : State) : State :=
  let o := (s.ra k).ol
  if !o.freshH || o.spoiledH then s
  else
    match o.sminL with
    | none => s
    | some sl =>
      let s1 := s.pi (F.OL_HZNOW_LASTSLK k.val) sl
      let m := s.g (F.OL_HZNOW_MARGIN k.val)
      if sl < s.gi (F.OL_HZSLK_SLKLO k.val) then
        (s1.p (F.OL_HZNOW_MARGIN k.val) (m - s.g (F.OL_HZSTEP_HZBACK k.val))).p (F.OL_STATUS_GOODCNT k.val) 0
      else if sl ≤ s.gi (F.OL_HZSLK_SLKHI k.val) then s1.p (F.OL_STATUS_GOODCNT k.val) 0
      else if s.mayLower k then
        let c := s.g (F.OL_STATUS_GOODCNT k.val) + 1
        if s.g (F.OL_HZCTL_HZN k.val) ≤ c then
          let floor := s.g (F.RAIL_REFNOW_VCMD k.val) - s.g (F.OL_HZCTL_VFLOOR k.val)
          (s1.p (F.OL_HZNOW_MARGIN k.val)
            (min (m + s.g (F.OL_HZSTEP_HZSTEP k.val)) (min (s.g (F.OL_HZMAX_HZMAX k.val)) floor))).p
            (F.OL_STATUS_GOODCNT k.val) 0
        else s1.p (F.OL_STATUS_GOODCNT k.val) c
      else s1.p (F.OL_STATUS_GOODCNT k.val) 0

/-- The slack of the reports of the period that ends is latched for the next (R32, R179). -/
def latchHorizon (k : Fin 8) (s : State) : State :=
  s.modOl k fun o => { o with sminL := o.smin, smin := none, freshH := true, spoiledH := false }

/-- Two slacks, one of them absent perhaps: the smaller (R179). -/
def minSlack (a : Option Int) (b : Int) : Option Int := some (match a with | some a => min a b | none => b)

/-- The slack reports that are eligible for the present boundary join those of the period (R27, R179). -/
def takeReports (k : Fin 8) (s : State) : State :=
  s.modOl k fun o => { o with
    smin := ((o.reports.filter fun x => s.beforeWindow x.1).map (·.2)).foldl minSlack o.smin
    reports := o.reports.filter fun x => !s.beforeWindow x.1 }

/-- Step 2 of a boundary window (R28, R166): each group whose outer period starts publishes and latches; M = 0 does not
wait for a period (R181). -/
def outerStep (k : Fin 8) (s0 : State) : State :=
  let s := takeReports k s0
  let o := (s.ra k).ol
  let zero := o.mZero.any s.beforeWindow
  let s1 := if zero then marginZero k s else s
  let s2 := if o.ch = 0 then latchHorizon k (if zero then s1 else publishHorizon k s1) else s1
  let s3 := if o.ci = 0 then latchCurrent k (publishCurrent k s2) else s2
  s3.modOl k fun o => { o with ci := (o.ci + 1) % 2 ^ s.g (F.OL_CTL_KI k.val),
                               ch := (o.ch + 1) % 2 ^ s.g (F.OL_CTL_KH k.val) }

/-- HORIZON_TIMEOUT: an endpoint bound to the rail that has reported has been silent for HZTO (R181). -/
def horizonTimeout (k : Fin 8) (s : State) : State :=
  if s.enabled k && s.gb (F.OL_HZCTL_HZEN k.val) && (s.ra k).ol.reported != 0 then
    marginEvent k (s.pb (F.OL_STATUS_HZTOUT k.val) true)
  else s

/-- HORIZON_TIMEOUT. -/
def execHorizonTimeout (k : Fin 8) (s : State) : Answer := done (horizonTimeout k s)

/-! ### The Ephemeris (R183-R190) -/

/-- Table entry i, signed (R183). -/
def State.ephEntry (s : State) (i : Nat) : Int := (SMap.get (fun _ => (0 : BitVec 16)) s.ephTab i).toInt

/-- Put a table entry. -/
def putEntry (i : Nat) (v : Int) (s : State) : State :=
  { s with ephTab := SMap.set (fun _ => (0 : BitVec 16)) s.ephTab i (BitVec.ofInt 16 v) }

/-- Rail k's table becomes 0, and ECLEARED is set (R189, R190). -/
def clearTable (k : Fin 8) (s : State) : State :=
  ((List.range (s.g (F.EPH_TBL_ELEN k.val))).foldl (fun s i => putEntry (s.g (F.EPH_TBL_EBASE k.val) + i) 0 s) s).pb
    (F.EPH_STATUS_ECLEARED k.val) true

/-- The index of position PH (R184). -/
def State.ephIdx (s : State) (k : Fin 8) (ph : Nat) : Nat := ph * s.g (F.EPH_TBL_ELEN k.val) / 2 ^ 32

/-- A new period T in ns is taken (R184, R188, R189); outside its range the period is absent. -/
def takePeriod (k : Fin 8) (t : Nat) (s : State) : State :=
  let ts := s.ts k.val
  if 16 * ts ≤ t ∧ t ≤ 16777215 then
    let change := match (s.ra k).ep.t with
      | none => true
      | some o => decide (o < 64 * ((t : Int) - o).natAbs)
    let s1 := if change then (clearTable k s).modEp k fun e => { e with settle := s.g (F.EPH_SETTLE_ESETTLE k.val) } else s
    let s2 := s1.modEp k fun e => { e with t := some t }
    ((s2.p (F.EPH_TNOW_TNOW k.val) t).p (F.EPH_PINC_PINC k.val) (ceilDiv (2 ^ 32 * ts) t)).pb (F.EPH_STATUS_ELOST k.val) false
  else s.pb (F.EPH_STATUS_ELOST k.val) true

/-- A word of the table fails parity: both its entries become 0, and EPARCNT counts (R185). -/
def loseTableWord (k : Fin 8) (i : Nat) (s : State) : State :=
  (putEntry (i - i % 2 + 1) 0 (putEntry (i - i % 2) 0 s)).inc (F.EPH_STATUS_EPARCNT k.val)

/-- A clear of rail k's table is asked for: it takes effect at the rail's next sample boundary, enabled or not (R190). -/
def ephClear (k : Fin 8) (s : State) : State :=
  if (s.ra k).ep.clear then (clearTable k s).modEp k fun e => { e with clear := false } else s

/-- One PERIOD message is acted on (R188, R227). -/
def actPeriod (k : Fin 8) (s : State) (x : Nat × Option Nat × Bool) : State :=
  let s1 := match x.2.1 with | some t => takePeriod k t s | none => s
  if x.2.2 then s1.modEp k fun e => { e with zero := true } else s1

/-- The PERIOD messages that are eligible for the present boundary are acted on, in the order they came (R27, R188). -/
def ephMessages (k : Fin 8) (s : State) : State :=
  let l := (s.ra k).ep.msgs
  ((l.filter fun x => s.beforeWindow x.1).foldl (actPeriod k) s).modEp k
    fun e => { e with msgs := l.filter fun x => !s.beforeWindow x.1 }

/-- The Ephemeris at a sample boundary (R184, R185, R188): with PSRC 01b EPER is taken where no period or another one is in
force, the position advances, and the correction is read. -/
def ephRead (k : Fin 8) (bad : Bool) (s : State) : State :=
  let s1 := if s.g (F.EPH_CTL_PSRC k.val) = 1
      && ((s.ra k).ep.t != some (s.g (F.EPH_PER_EPER k.val)) || s.gb (F.EPH_STATUS_ELOST k.val)) then
      takePeriod k (s.g (F.EPH_PER_EPER k.val)) s else s
  let e := (s1.ra k).ep
  let ph : BitVec 32 := if e.zero then 0 else e.ph + BitVec.ofNat 32 (s1.g (F.EPH_PINC_PINC k.val))
  let s2 := s1.modEp k fun e => { e with ph := ph, zero := false }
  let len := s2.g (F.EPH_TBL_ELEN k.val)
  let act := s2.gb (F.EPH_CTL_EEN k.val) && len != 0 && !s2.gb (F.EPH_STATUS_ELOST k.val)
  let ahead := (ph.toNat + s2.g (F.EPH_CTL_LEAD k.val) * s2.g (F.EPH_PINC_PINC k.val)) % 2 ^ 32
  let i := s2.g (F.EPH_TBL_EBASE k.val) + s2.ephIdx k ahead
  let s3 := if act && bad then loseTableWord k i s2 else s2
  let corr := if act then s3.ephEntry i * 2 ^ s3.g (F.EPH_CTL_EOUTSH k.val) else 0
  ((s3.modGr k fun g => { g with eph := low32 corr }).pb (F.EPH_STATUS_EACTIVE k.val) act).p (F.EPH_STATUS_POS k.val)
    (s2.ephIdx k ph.toNat)

/-- Learning of rail k is frozen (R187). -/
def State.ephFrozen (s : State) (k : Fin 8) : Bool :=
  s.gb (F.EPH_CTL_EFRZ k.val) || s.gb (F.GRAPH_STATUS_COASTING k.val) || s.gb (F.GRAPH_STATUS_SELNOW k.val)
    || s.windowOpen k || (s.ra k).gr.win || s.gb (F.RAIL_TSTAT_TRANS k.val) || (s.ra k).ep.settle != 0

/-- The Ephemeris learns from x[n] (R186); one more sample of a freeze has passed (R187). -/
def ephLearn (k : Fin 8) (s : State) : State :=
  let frozen := s.ephFrozen k
  let s := s.modEp k fun e => { e with settle := e.settle - 1 }
  let learn := s.gb (F.EPH_CTL_EEN k.val) && s.g (F.EPH_TBL_ELEN k.val) != 0 && !s.gb (F.EPH_STATUS_ELOST k.val) && !frozen
  let s1 := (s.pb (F.EPH_STATUS_EFROZEN k.val) frozen).pb (F.EPH_STATUS_ELEARN k.val) learn
  if learn then
    let i := s.g (F.EPH_TBL_EBASE k.val) + s.g (F.EPH_STATUS_POS k.val)
    let e := s.ephEntry i
    let fo := s.g (F.EPH_GAIN_EFORGET k.val)
    let v := e + asr ((s.ra k).gr.x * s.gi (F.EPH_GAIN_EKL k.val)) 16 - (if fo = 0 then 0 else asr e fo)
    let s2 := putEntry i (sat16 v) s1
    if sat16 v = v then s2 else s2.pb (F.EPH_STATUS_ESAT k.val) true
  else s1

/-- EPHEMERIS_PERIOD_TIMEOUT: no message or edge within EPTO ms; EPTO = 0 disables the check (R188). -/
def ephTimeout (k : Fin 8) (s : State) : State :=
  if s.core && s.g (F.EPH_CTL_PSRC k.val) != 1 && s.g (F.EPH_PER_EPTO k.val) != 0 then
    s.pb (F.EPH_STATUS_ELOST k.val) true
  else s

/-- EPHEMERIS_PERIOD_TIMEOUT. -/
def execEphemerisPeriodTimeout (k : Fin 8) (s : State) : Answer := done (ephTimeout k s)

/-- EPHEMERIS_PERIOD_EDGE: an edge of EVSRC stamped t in fine steps of 78.125 ps; T is the interval since the last edge,
rounded to whole ns, and the position is reset at the next boundary (R188). -/
def ephEdge (k : Fin 8) (t : BitVec 52) (s : State) : State :=
  if s.core && s.g (F.EPH_CTL_PSRC k.val) = 2 then
    let s1 := match (s.ra k).ep.edge with
      | some o => takePeriod k (((t.toNat + (2 ^ 52 - o)) % 2 ^ 52 * 5 + 32) / 64) s
      | none => s
    s1.modEp k fun e => { e with edge := some t.toNat, zero := true }
  else s

/-- EPHEMERIS_PERIOD_EDGE. -/
def execEphemerisPeriodEdge (k : Fin 8) (t : BitVec 52) (s : State) : Answer := done (ephEdge k t s)

end Sys2Proof.Machine
end

