-- ==== Sys2Proof/Machine/Transit.lean ====
section
/-!
DEFINITION. Transit (08_setpoints_sequencing.md): the profile and the reference, the entries of the rail's queue, starts,
stops and ordering groups, the start-progress check, and the expiry commands of the sequencer.
-/

namespace Sys2Proof.Machine

/-! ### Profile and reference (R192-R195, R200, R201) -/

/-- A code in u (R192). -/
def uOf (c : Int) : Int := c * 65536

/-- VL for a slew in 0.01 mV/us (R193). -/
def State.vl (s : State) (k : Fin 8) (slew : Nat) : Int := (max 1 (slew * s.ts k.val * 65536 / 10 ^ 4) : Nat)

/-- AL (R193). -/
def State.al (s : State) (k : Fin 8) : Int :=
  (max 1 (s.g (F.RAIL_SLEW_ACC k.val) * s.ts k.val ^ 2 * 65536 / 10 ^ 7) : Nat)

/-- JL (R193). -/
def State.jl (s : State) (k : Fin 8) : Int :=
  (max 1 (s.g (F.RAIL_PROF_JERK k.val) * s.ts k.val ^ 3 * 65536 / 10 ^ 10) : Nat)

/-- One profile step toward goal g: position, velocity and acceleration after it, and whether it arrives (R194). -/
def profileStep (mode : Nat) (vl al jl g p v a : Int) : Int × Int × Int × Bool :=
  let d := g - p
  if d = 0 || mode = 0 then (g, 0, 0, true)
  else
    let sd := signInt d
    let va : Int × Int :=
      if mode = 1 then (clampInt d (-vl) vl, 0)
      else if mode = 2 then
        let vt := sd * min vl (isqrt (2 * al * d.natAbs).toNat)
        (v + clampInt (vt - v) (-al) al, 0)
      else
        let q := al * al / (2 * jl)
        let vt := sd * min vl (isqrt (2 * al * d.natAbs + q * q).toNat - q)
        let a1 := a + clampInt (clampInt (vt - v) (-al) al - a) (-jl) jl
        (v + a1, a1)
    let p1 := p + va.1
    if p1 = g || signInt (g - p1) ≠ sd then (g, 0, 0, true) else (p1, va.1, va.2, false)

/-- The profile of rail k takes one step toward goal g in a mode, with a slew; the result says whether it arrived. -/
def runProfile (k : Fin 8) (mode slew : Nat) (g : Int) (s : State) : State × Bool :=
  let t := (s.ra k).tr
  let r := profileStep mode (s.vl k slew) (s.al k) (s.jl k) g t.p t.v t.a
  (s.modTr k fun t => { t with p := r.1, v := r.2.1, a := r.2.2.1 }, r.2.2.2)

/-- MEFF moves toward the margin in ON and toward 0 elsewhere (R200, R214). -/
def stepMeff (k : Fin 8) (s : State) : State :=
  let goal := if s.st k = .on then uOf (s.g (F.OL_HZNOW_MARGIN k.val)) else 0
  let up := s.vl k (s.g (F.RAIL_SLEW_VSLEW k.val))
  let down := s.vl k (s.g (F.RAIL_HZBK_HZUP k.val))
  s.modTr k fun t => { t with meff := t.meff + clampInt (goal - t.meff) (-down) up }

/-- Transit takes a forecast over at the first window it is eligible for, with DROOP0 of that window, and its term from the first
boundary at or after due (R27, R201). -/
def takeForecast (k : Fin 8) (s : State) : State :=
  match (s.ra k).md.fc with
  | none => s
  | some f =>
    if !s.beforeWindow f.at_ then s
    else
      let t := f.term.getD (scaled (f.deltaI * 64) (s.g (F.OL_LL_LLR k.val) * 2 ^ 32 / 6400 : Nat) 32, (s.ra k).ol.droopR)
      let now := decide (0 ≤ between f.dueAt s.clock)
      let s' := s.modMd k fun m => { m with fc := some { f with term := some t, taken := f.taken || now } }
      if now && !f.taken then s'.modTr k fun r => { r with fterm := some (t.1, t.2, 0) } else s'

/-- The forecast term f (R201). -/
def stepForecast (k : Fin 8) (s : State) : State :=
  let on := s.st k == .on && s.gb (F.RAIL_SEQCTL_FPEN k.val) && s.g (F.OL_CTL_LLMODE k.val) == 1
  let droop := (s.ra k).ol.droopR
  let s1 := takeForecast k s
  if !on then (s1.modTr k fun r => { r with f := 0, fterm := none }).pb (F.RAIL_TSTAT_FPACT k.val) false
  else
    match (s1.ra k).tr.fterm with
    | none => (s1.modTr k fun r => { r with f := 0 }).pb (F.RAIL_TSTAT_FPACT k.val) false
    | some (fp, d0, n) =>
      let f := clampInt (fp - (droop - d0)) (min fp 0) (max fp 0)
      if f = 0 || s1.g (F.RAIL_ONSET_ONWIN k.val) ≤ n then
        (s1.modTr k fun r => { r with f := 0, fterm := none }).pb (F.RAIL_TSTAT_FPACT k.val) false
      else (s1.modTr k fun r => { r with f := f, fterm := some (fp, d0, n + 1) }).pb (F.RAIL_TSTAT_FPACT k.val) true

/-- The reference r[n+1] is formed and becomes REF (R25, R192). -/
def formRef (k : Fin 8) (s : State) : State :=
  let t := (s.ra k).tr
  let droop := if s.g (F.OL_CTL_LLMODE k.val) = 1 then (s.ra k).ol.droopR else 0
  let refc := asr (t.p - t.meff) 16 - droop - t.f
  let r := clampInt refc 0 (s.g (F.RAIL_VLIM_VMAX k.val))
  let s1 := s.modTr k fun t => { t with rPrev := t.rCur, rCur := s.g (F.RAIL_REFNOW_REF k.val) }
  let s2 := s1.p (F.RAIL_REFNOW_REF k.val) r.toNat
  if r = refc then s2 else s2.pb (F.RAIL_TSTAT_REFCLAMP k.val) true

/-- Transit is held: the reference stands for one more sample (R33). -/
def holdRef (k : Fin 8) (s : State) : State :=
  s.modTr k fun t => { t with rPrev := t.rCur, rCur := s.g (F.RAIL_REFNOW_REF k.val) }

/-! ### Entries (R196-R198, R235) -/

/-- An entry was discarded at pop (R29, R196). -/
def discardEntry (k : Fin 8) (tag : BitVec 16) (s : State) : State :=
  entryRevoked tag k ((s.pb (F.RAIL_TSTAT_CMDREVOKED k.val) true).inc (F.RAIL_TCNT_REVOKED k.val))

/-- The values a popped entry brings, and whether it passed its check (R195, R197). In LOCKDOWN set-points and commanded margins
stay (R22): a SET or MARGIN that was queued before is discarded as one that fails its check (DESIGN CHOICE, log entry 98). -/
def takeEntry (k : Fin 8) (e : QEntry) (s : State) : State × Bool :=
  let hi := e.data.toNat / 65536
  let kind := e.met.toNat / 4096
  match if s.dev = .lockdown && kind ≤ 2 then 0 else kind with
  | 1 =>
    if s.inLimits k.val hi && s.inLimits k.val (hi + s.gi (F.RAIL_CMARGNOW_CMARG k.val)) then
      ((s.p (F.RAIL_REFNOW_VCMD k.val) hi).modTr k fun t => { t with slewOvr := e.data.toNat % 65536 }, true)
    else (s, false)
  | 2 =>
    if s.inLimits k.val (s.g (F.RAIL_REFNOW_VCMD k.val) + toSigned 16 hi) then
      ((s.p (F.RAIL_CMARGNOW_CMARG k.val) hi).modTr k fun t => { t with slewOvr := 0 }, true)
    else (s, false)
  | 3 => (s.pb (F.RAIL_TSTAT_REQON k.val) true, true)
  | 4 => (s.pb (F.RAIL_TSTAT_REQON k.val) false, true)
  | _ => (s, false)

/-- The pending entries a passed entry supersedes (R235): those of the same endpoint silently; a pending SET or MARGIN of
another source, when a SET or MARGIN is popped, as REVOKED. -/
def supersede (k : Fin 8) (e : QEntry) (s : State) : State :=
  let setpt := e.met.toNat / 4096 ≤ 2
  let tr := (s.ra k).tr
  let s1 := s.modTr k fun t => { t with onOff := t.onOff.filter fun x => !sameSource x.tag e.tag }
  match tr.trans with
  | none => s1
  | some x =>
    if sameSource x.tag e.tag then s1.modTr k fun t => { t with trans := some { x with tag := 0 } }
    else if setpt then entryRevoked x.tag k s1 else s1

/-- At its pop a passed entry supersedes what is still pending; a superseded transition never arrives (R198, R235). -/
def popSupersede (k : Fin 8) (e : QEntry) (ok : Bool) (s : State) : State :=
  if !ok then s
  else
    let s1 := supersede k e s
    if e.met.toNat / 4096 ≤ 2 && (s1.ra k).tr.trans.isSome then
      (s1.modTr k fun t => { t with trans := none }).inc (F.RAIL_TCNT_SUPERSEDED k.val)
    else s1

/-- Reports framed before a transition's arrival do not count (R178). -/
def dropReports (k : Fin 8) (s : State) : State :=
  s.modOl k fun o => { o with freshH := false, reports := [], smin := none, sminL := none }

/-- A popped SET or MARGIN is a set-point command for Horizon and the Ephemeris, whether or not it passes its check (R181, R190,
R197). -/
def setPointCommand (k : Fin 8) (s : State) : State :=
  let s1 := marginZero k s
  if s1.gb (F.EPH_CTL_SPMODE k.val) then clearTable k s1 else s1

/-- What becomes of a popped entry, in the state this window's sequencing leaves (R29, R197, R198, R235); ARRV stands until the next
SET or MARGIN is popped, one that is discarded too. -/
def bookEntry (k : Fin 8) (e : QEntry) (ok : Bool) (s : State) : State :=
  if !ok then
    discardEntry k e.tag (if 1 ≤ e.met.toNat / 4096 ∧ e.met.toNat / 4096 ≤ 2 then
        setPointCommand k (s.pb (F.RAIL_TSTAT_ARRV k.val) false) else s)
  else
    let kind := e.met.toNat / 4096
    let t : Trans := ⟨e.tag, e.met⟩
    if kind ≤ 2 then
      let s1 := dropReports k <| setPointCommand k (((s.modTr k fun r => { r with trans := some t }).pb
        (F.RAIL_TSTAT_TRANS k.val) true).pb (F.RAIL_TSTAT_ARRV k.val) false)
      if s1.st k = .ramp || s1.st k = .on then s1 else transArrives k s1
    else
      let here := if kind = 3 then s.st k == .on else s.st k == .off
      if here then entryArrived e.tag k s else s.modTr k fun r => { r with onOff := r.onOff ++ [t] }

/-! ### Requests and ordering groups (R202, R209) -/

/-- The members of ordering group g. -/
def State.members (s : State) (g : Nat) : List (Fin 8) :=
  (allFin 8).filter fun k => s.gb (F.RAIL_SEQCTL_INGRP k.val) && s.g (F.RAIL_SEQCTL_SEQGRP k.val) == g

/-- A member counts as OFF for a group stop (R209). -/
def State.groupOff (s : State) (g : Nat) (k : Fin 8) : Bool :=
  s.st k == .off || (s.st k == .latched && s.gb (F.SEQGRP_CTL_GFAULT g))

/-- The ordering group calls for rail k: all members while GEN is 1; after it, a running member until every member of
higher SEQORD is in OFF (R209). -/
def State.groupCalls (s : State) (k : Fin 8) : Bool :=
  let g := s.g (F.RAIL_SEQCTL_SEQGRP k.val)
  if s.genAt (Fin.ofNat 4 g) then true
  else
    match s.st k with
    | .wake | .ramp | .on =>
      !((s.members g).filter fun j => decide (s.g (F.RAIL_SEQCTL_SEQORD k.val) < s.g (F.RAIL_SEQCTL_SEQORD j.val))).all
        (s.groupOff g)
    | _ => false

/-- The enable request of rail k in force at the present boundary (R27, R202). -/
def State.request (s : State) (k : Fin 8) : Bool :=
  let en := s.enAt k
  let on := s.gb (F.RAIL_TSTAT_REQON k.val)
  match s.g (F.RAIL_SEQCTL_ENMODE k.val) with
  | 0 => on
  | 1 => en
  | 2 => en && on
  | _ => s.gb (F.RAIL_SEQCTL_INGRP k.val) && s.groupCalls k

/-- Members of lower SEQORD of rail k's group, none outside a group. -/
def State.lower (s : State) (k : Fin 8) : List (Fin 8) :=
  if s.gb (F.RAIL_SEQCTL_INGRP k.val) then
    (s.members (s.g (F.RAIL_SEQCTL_SEQGRP k.val))).filter fun j =>
      decide (s.g (F.RAIL_SEQCTL_SEQORD j.val) < s.g (F.RAIL_SEQCTL_SEQORD k.val))
  else []

/-- The group's turn of rail k is reached (R209). -/
def State.turn (s : State) (k : Fin 8) : Bool := (s.lower k).all fun j => s.gb (F.RAIL_TSTAT_PG j.val)

/-- A start that waits on a latched member sets GBLOCK (R209). -/
def blockCheck (k : Fin 8) (s : State) : State :=
  if !s.turn k && (s.lower k).any (fun j => s.st j == .latched) then
    s.pb (F.SEQGRP_STATUS_GBLOCK (s.g (F.RAIL_SEQCTL_SEQGRP k.val))) true
  else s

/-! ### Enabling a rail (R204, R205, R248) -/

/-- A phase test ends (R263): TESTRES from the readings of its second half, where it reached it; the phase returns to the
role it held before, and a TEST message goes out. -/
def endTest (n : Fin 48) (s : State) : State :=
  let r := s.rl n
  if r.role ≠ .test then s
  else
    let res := if r.stuck then 3
      else if r.testCnt = 0 then s.g (F.PHASE_ROLE_TESTRES n.val)
      else if (s.g F.INK_TEST_TESTIMIN : Int) * 64 * r.testCnt ≤ r.testSum then 1 else 2
    let s1 := (phOff n s).p (F.PHASE_ROLE_TESTRES n.val) res
    let s2 := changeRole n r.before 0 (s1.modRl n fun r => { r with testRun := 0, testSum := 0, testCnt := 0, stuck := false })
    q15Put .health (inkMessage 6 (some n) (s2.msgRail n) 0 0 res s2)

/-- P0 of a start (R205). -/
def State.p0 (s : State) (k : Fin 8) : Int :=
  if s.gb (F.RAIL_SEQCTL_PREBIAS k.val) then
    let v := s.gi (F.MC_CH_DATA_VALUE (54 + k.val))
    if v < 500 then 0 else min v (s.target k.val)
  else 0

/-- The conditions on the graph and the ring under which a rail is enabled (R143, R204). -/
def State.canEnable (s : State) (k : Fin 8) : Bool :=
  s.gvalid k.val && s.g (F.RAIL_SEQ_RINGLEN k.val) != 0 && (s.ra k).gr.home.isSome

/-- The registers of rail k at its enable: no hand-over offset, no trim, no margin, no COAST (R130, R150, R151, R158,
R173, R179). -/
def clearAtEnable (k : Fin 8) (s : State) : State :=
  let s1 := ((s.p (F.OL_HZNOW_MARGIN k.val) 0).p (F.OL_STATUS_GOODCNT k.val) 0).pb (F.OL_STATUS_CLACT k.val) false
  let s2 := (s1.p (F.RAIL_LOCKSTAT_TRIM k.val) 0).p (F.RAIL_MSTAT_EFFMODE k.val) 1
  let s3 := ((s2.pb (F.GRAPH_CTL_COAST k.val) false).pb (F.GRAPH_STATUS_COASTING k.val) false).p
    (F.GRAPH_STATUS_COASTN k.val) 0
  let s4 := s3.pb (F.GRAPH_STATUS_SELNOW k.val) (s3.branchReq k)
  s4.setWord (A.GRAPH_YOUT k.val) (s4.word (A.GRAPH_YINIT k.val))

/-- At an enable the period in force is measured against the rail's sample time: PINC, or an absent period (R184, R188). -/
def fitPeriod (k : Fin 8) (s : State) : State :=
  match (s.ra k).ep.t with
  | none => s
  | some t =>
    if 16 * s.ts k.val ≤ t then s.p (F.EPH_PINC_PINC k.val) (ceilDiv (2 ^ 32 * s.ts k.val) (max 1 t))
    else s.pb (F.EPH_STATUS_ELOST k.val) true

/-- The state of rail k beside its registers at its enable; a rail in a lane move stays in it (R164). -/
def freshRail (k : Fin 8) (ring : List (Fin 48)) (s : State) : State :=
  let y := s.word (A.GRAPH_YINIT k.val)
  let p0 := s.p0 k
  let s1 := s.modMd k fun m => { ModState.reset with vsetc := m.vsetc, vinc := m.vinc }
  let s2 := s1.modGr k fun g => { GraphState.reset with
    place := g.place, moveTo := g.moveTo, copied := g.copied, spread := g.spread, noLane := g.noLane, mark := true,
    y := y, x := g.x, win := g.win, winNeg := g.winNeg }
  let s3 := s2.modOl k fun o => { OuterState.reset with
    droopR := o.droopR, droopE := o.droopE, out1 := o.out1, out3 := o.out3, capLowSent := o.capLowSent, reported := o.reported, joined := Vector.ofFn fun n => ring.contains n }
  let s4 := fitPeriod k (s3.modEp k fun e => { e with zero := true })
  let s5 := s4.modTr k fun t => { t with p := uOf p0, v := 0, a := 0, meff := 0, pgSeen := false, ramp := 0, wake := 0,
                                         grace := none, holdDe := s4.gb (F.RAIL_SEQCTL_PREBIAS k.val) }
  forEach (fun s n => (s.pi (F.OLPH_TRIM_BTRIM n.val) 0)) ring (showStates k s5)

/-- Rail k is enabled (R204 step 2): tests of its phases end, its whole working pool becomes ACTIVE, its blocks start and
STATE becomes WAKE; where the graph or the ring no longer allows it, STATE becomes OFF with ENBLK. -/
def enableRail (k : Fin 8) (s : State) : State :=
  if !s.canEnable k then enterState k .off (s.pb (F.RAIL_TSTAT_ENBLK k.val) true)
  else
    let s1 := forAll (n := 48) (fun s n => if s.railOf n.val = some k then endTest n s else s) s
    let pool := (s1.ra k).ink.base.filter fun n => (s1.rl n).role != .retired
    let s2 := forEach (fun s n => changeRole n .active 0 s) pool s1
    let s3 := s2.modInk k fun i => { i with want := none, rewrite := none, ret := [], promo := [] }
    let s4 := freshRail k pool (clearAtEnable k (writeRing k pool s3))
    let s5 := forEach (fun s n => startPhase n s) pool s4
    let s6 := s5.pb (F.RAIL_MSTAT_DEACT k.val) (s5.deAtEnable k)
    updateSmods (settleLock k (enterState k .wake s6))

/-! ### The sequencer (R204-R208) -/

/-- The longest WAKE of the groups of rail k's ring, in ns. -/
def State.wakeNs (s : State) (k : Fin 8) : Nat :=
  ((s.ring k).map fun n => s.g (F.STAGEGRP_CFG_WAKE (groupOf n.val)) * 1000).foldl max 0

/-- Every group of rail k's ring is awake, or its wake time has passed in samples of the rail. -/
def State.ringAwake (s : State) (k : Fin 8) : Bool :=
  ((s.ring k).all fun n => s.awake (groupOf n.val)) || decide (s.wakeNs k ≤ (s.ra k).tr.wake * s.ts k.val)

/-- The groups of rail k's ring whose SMODg is high count as awake (R47). -/
def wakeRing (k : Fin 8) (s : State) : State :=
  forEach (fun s n => if s.gb (F.STAGEGRP_CFG_SMODOUT (groupOf n.val)) then
      { s with sup := { s.sup with groupAwake := vset s.sup.groupAwake (Fin.ofNat 6 (groupOf n.val)) true } }
    else s) (s.ring k) s

/-- A request may begin a start: the rail is not waiting for its request to be seen false, and the device runs (R21). In LOCKDOWN no
rail that is OFF starts, while a request that ends stops one (DESIGN CHOICE, log entry 129: rails "continue as at entry", and R22
says no more of them). -/
def State.mayStart (s : State) (k : Fin 8) : Bool :=
  s.request k && !(s.ra k).tr.needOff && (s.dev == .standby || s.dev == .run)

/-- A time of us microseconds has passed in samples of the present state (R204, R206). -/
def State.usPassed (s : State) (k : Fin 8) (us : Nat) : Bool := decide (us * 1000 ≤ (s.ra k).tr.cnt * s.ts k.val)

/-- Step 1 of a start: DELAY, or ENBLK where a condition fails (R139, R204). -/
def beginStart (k : Fin 8) (s : State) : State :=
  let s1 := if s.inLimits k.val (s.target k.val) && s.gvalid k.val && s.g (F.RAIL_SEQ_RINGLEN k.val) != 0 then placeRail k s
    else s
  if s1.inLimits k.val (s1.target k.val) && s1.canEnable k then
    enterState k .delay (s1.pb (F.RAIL_TSTAT_ENBLK k.val) false)
  else s1.pb (F.RAIL_TSTAT_ENBLK k.val) true

/-- A stop begins (R206 step 1, R207): PG drops, STATE becomes STOPDLY. -/
def beginStop (k : Fin 8) (s : State) : State :=
  let o := s.st k
  (enterState k .stopdly (setPG k false s)).modTr k fun t => { t with origin := o }

/-- A stop proceeds after TOFFDLY (R206 step 2). -/
def proceedStop (k : Fin 8) (s : State) : State :=
  if s.gb (F.RAIL_SEQCTL_STOPMODE k.val) then disableRail false .off k s
  else (enterState k .stopping s).modTr k fun t => { t with holdDe := t.holdDe || s.gb (F.RAIL_SEQCTL_STOPDE k.val) }

/-- The start check fails (R210): START_SHORT. -/
def progressCheck (k : Fin 8) (s : State) : State :=
  if (s.ra k).gr.x < -(s.g (F.OL_FE_FELIM k.val) : Int) || (s.ra k).gr.winNeg then
    raiseRail 0x0A k (s.pb (F.RAIL_TSTAT_STARTSHORT k.val) true)
  else s

/-- The ramp arrives: STATE becomes ON, the pre-bias hold ends, the progress check is due STGRACE samples later (R204 step
4, R205, R210). -/
def rampArrives (k : Fin 8) (s : State) : State :=
  let s1 := (enterState k .on s).modTr k fun t => { t with holdDe := false, grace := some 0 }
  let s2 := transArrives k s1
  if s2.g (F.RAIL_STOP_STGRACE k.val) = 0 then progressCheck k (s2.modTr k fun t => { t with grace := none }) else s2

/-- One move of the sequencer of rail k, none where it rests at this boundary (R204-R208). -/
def seqMove (k : Fin 8) (s : State) : Option State :=
  let rq := s.request k
  match s.st k with
  | .off => if s.mayStart k then
      let s1 := beginStart k s
      if s1.st k = .delay then some s1 else none
    else none
  | .delay =>
    if !rq then some (enterState k .off s)
    else if s.usPassed k (s.g (F.RAIL_TDLY_TONDLY k.val)) && s.turn k then some (enableRail k s) else none
  | .wake =>
    if !rq then some (beginStop k s)
    else if s.ringAwake k then some (enterState k .ramp (wakeRing k s)) else none
  | .ramp => if !rq then some (beginStop k s) else none
  | .on => if !rq then some (beginStop k s) else none
  | .stopdly =>
    if rq && !(s.ra k).pr.safeStop then some (enterState k (s.ra k).tr.origin s)
    else if s.usPassed k (s.g (F.RAIL_TDLY_TOFFDLY k.val)) then some (proceedStop k s) else none
  | .stopping => none
  | .hiccup => if !rq then some (enterState k .off (s.p (F.FM_RAIL_STAT_HICCNT k.val) 0)) else none
  | .latched => if !rq && (s.ra k).tr.req then some (enterState k .off s) else none

/-- A failed start leaves ENBLK, a waiting one may set GBLOCK. -/
def seqRest (k : Fin 8) (s : State) : State :=
  match s.st k with
  | .off => if s.mayStart k then beginStart k s else s
  | .delay => blockCheck k s
  | _ => s

/-- The sequencer moves while steps of time 0 follow one another (R204). -/
def seqRun : Nat → Fin 8 → State → State
  | 0, k, s => seqRest k s
  | n + 1, k, s =>
    match seqMove k s with
    | some s1 => seqRun n k s1
    | none => seqRest k s

/-- The sequencing of rail k at a boundary: what the request was last, and what SAFE_EXIT waits for, follow it (R21, R202). -/
def sequence (k : Fin 8) (s : State) : State :=
  let rq := s.request k
  let s1 := if rq then s else s.modTr k fun t => { t with needOff := false }
  (seqRun 6 k s1).modTr k fun t => { t with req := rq }

/-! ### The Transit step (R28 step 8) -/

/-- One profile step of RAMP (R204, R210). -/
def rampStep (k : Fin 8) (s : State) : State :=
  let r := runProfile k 1 (s.g (F.RAIL_RAMP_STSLEW k.val)) (uOf (s.target k.val)) s
  let s1 := r.1.modTr k fun t => { t with ramp := t.ramp + 1 }
  if r.2 then rampArrives k s1
  else if (s1.ra k).tr.ramp = 65536 then progressCheck k s1 else s1

/-- The profile of rail k takes its step in RAMP or ON (R203), with the arrivals that follow (R198, R204). -/
def profile (k : Fin 8) (s : State) : State :=
  match s.st k with
  | .ramp => rampStep k s
  | .on =>
    let t := (s.ra k).tr
    let slew := if t.slewOvr = 0 then s.g (F.RAIL_SLEW_VSLEW k.val) else t.slewOvr
    let r := runProfile k (s.g (F.RAIL_PROF_TMODE k.val)) slew (uOf (s.target k.val)) s
    if r.2 then transArrives k r.1 else r.1
  | _ => s

/-- In STOPPING the profile of rail k takes its step; where it arrives, the rail is disabled, and the sequencer moves on (R206). It
belongs to the window's sequencing, whose outcome a popped entry meets (R197). -/
def stopStep (k : Fin 8) (s : State) : State :=
  if s.st k = .stopping then
    let r := runProfile k 1 (s.g (F.RAIL_RAMP_SPSLEW k.val)) (uOf (s.g (F.RAIL_STOP_VSTOP k.val))) s
    if r.2 then seqRun 3 k (disableRail false .off k r.1) else r.1
  else s

/-- Samples of the sequencer's timers. -/
def countSamples (k : Fin 8) (s : State) : State :=
  s.modTr k fun t => { t with cnt := t.cnt + 1, wake := t.wake + 1 }

/-- The oldest entry of rail k's queue completed before the boundary window (R27). -/
def State.entryDue (s : State) (k : Fin 8) : Bool :=
  match (s.ra k).pushed with
  | t :: _ => s.beforeWindow t
  | [] => true

/-- Step 8 of a boundary window: at most one entry is popped, the sequencer acts, the entry is booked in the state that
follows, the profile steps, and r[n+1] is formed (R28, R197). -/
def transitStep (k : Fin 8) (s : State) : State :=
  let q : Fin 16 := ⟨k.val, by omega⟩
  let s0 := countSamples k s
  let s3 := match s0.q q with
    | [] => stopStep k (sequence k s0)
    | e :: rest =>
      if s0.entryDue k then
        let s1 := (s0.setQ q rest).modRa k fun r => { r with pushed := r.pushed.drop 1 }
        let r := takeEntry k e (s1.inc (F.RAIL_TCNT_POPPED k.val))
        bookEntry k e r.2 (stopStep k (sequence k (popSupersede k e r.2 r.1)))
      else stopStep k (sequence k s0)
  formRef k (stepForecast k (stepMeff k (profile k s3)))

/-! ### Expiry commands of the sequencer -/

/-- START_DELAY_EXPIRY: TONDLY has elapsed; with the group's turn reached the rail is enabled (R204, R209). -/
def startDelayExpiry (k : Fin 8) (s : State) : State :=
  if s.st k = .delay && s.request k then
    if s.turn k then enableRail k s else blockCheck k s
  else s

/-- START_DELAY_EXPIRY. -/
def execStartDelayExpiry (k : Fin 8) (s : State) : Answer := done (startDelayExpiry k s)

/-- WAKE_EXPIRY: the ring's groups have woken, the rail enters RAMP (R204). -/
def wakeExpiry (k : Fin 8) (s : State) : State :=
  if s.st k = .wake && s.request k then enterState k .ramp (wakeRing k s) else s

/-- WAKE_EXPIRY. -/
def execWakeExpiry (k : Fin 8) (s : State) : Answer := done (wakeExpiry k s)

/-- STOP_DELAY_EXPIRY: TOFFDLY has elapsed, the stop proceeds (R206). -/
def stopDelayExpiry (k : Fin 8) (s : State) : State :=
  if s.st k = .stopdly && !s.request k then proceedStop k s else s

/-- STOP_DELAY_EXPIRY. -/
def execStopDelayExpiry (k : Fin 8) (s : State) : Answer := done (stopDelayExpiry k s)

/-- START_PROGRESS_CHECK: x of the sample just ended is checked STGRACE samples after the ramp's arrival, or in a RAMP
that lasts (R210). -/
def startProgressCheck (k : Fin 8) (s : State) : State :=
  if s.st k = .on && (s.ra k).tr.grace.isSome then progressCheck k (s.modTr k fun t => { t with grace := none })
  else if s.st k = .ramp then progressCheck k s else s

/-- START_PROGRESS_CHECK. -/
def execStartProgressCheck (k : Fin 8) (s : State) : Answer := done (startProgressCheck k s)

/-- HICCUP_RETRY: HICOFF has elapsed; the rail restarts from step 2 of the start, and HICCNT counts (R208, R283). -/
def hiccupRetry (k : Fin 8) (s : State) : State :=
  if s.st k = .hiccup && s.request k && !(s.ra k).tr.needOff && s.running then
    enableRail k (s.inc (F.FM_RAIL_STAT_HICCNT k.val))
  else s

/-- HICCUP_RETRY. -/
def execHiccupRetry (k : Fin 8) (s : State) : Answer := done (hiccupRetry k s)

/-- HICCUP_COUNT_CLEAR: PG has stayed 1 for HICGOOD ms (R283). -/
def hiccupCountClear (k : Fin 8) (s : State) : State :=
  if s.gb (F.RAIL_TSTAT_PG k.val) then s.p (F.FM_RAIL_STAT_HICCNT k.val) 0 else s

/-- HICCUP_COUNT_CLEAR. -/
def execHiccupCountClear (k : Fin 8) (s : State) : Answer := done (hiccupCountClear k s)

/-- SAFE_STOP_TIMEOUT: the rail is not OFF SAFETMO ms after the response, and is disabled at once (R284). -/
def safeStopTimeout (k : Fin 8) (s : State) : State :=
  if s.enabled k && (s.ra k).pr.safeStop then disableRail true .off k s else s

/-- SAFE_STOP_TIMEOUT. -/
def execSafeStopTimeout (k : Fin 8) (s : State) : Answer := done (safeStopTimeout k s)

/-- OCHIC: RCONS has reached HICN; it is declared against the rail (R279). -/
def execOchic (k : Fin 8) (s : State) : Answer :=
  done (if s.enabled k && decide (s.g (F.FM_RAIL_HIC_HICN k.val) ≤ s.g (F.FM_RAIL_STAT_RCONS k.val)) then
      raiseRail 0x02 k s
    else s)

/-- PHOC: CONSEC has reached PHN while another ring phase ended normally; declared with a strike, in the cycle in which the
phase's rail is disabled too (R280, R297). -/
def execPhoc (n : Fin 48) (s : State) : Answer :=
  done (if (s.ph n).neighbour
      && decide (s.g (F.FM_PH_CFG_PHN n.val) ≤ s.g (F.PHASE_LIMCNT_CONSEC n.val)) then
      raisePhase 0x03 n true false s
    else s)

end Sys2Proof.Machine
end

