-- ==== Sys2Proof/Machine/Porter.lean ====
section
/-!
DEFINITION. The Porter and the Night Porter (12_porter.md): feeds and ideal diodes, the hot-swap states, the breaker, the
model of the FET, the early warning, the hold-up estimate and the energy counters.
-/

namespace Sys2Proof.Machine

/-! ### Hot-swap states (R303-R305, R315, R316) -/

/-- INRUSH begins: VT is VBULK, BRK 0 (R305, R307). -/
def enterInrush (s : State) : State :=
  setPt 2 ({ s with pt := { s.pt with vt := 2 * s.g F.PT_VIN_VBULK, brk := 0, near := 0, debounced := false, late := false } }.p
    F.PT_IIN_BRKLVL 0)

/-- DEBOUNCE moves to INRUSH where its conditions hold (R304, R316). -/
def tryInrush (s : State) : State :=
  if s.ptSt = 1 && s.pt.debounced && s.inputPresent && s.g F.NP_RSTATE_REMWAIT = 0
      && !(s.pt.inCharge && s.fnOut 113) then enterInrush s
  else s

/-- A new state of the FET other than INRUSH; DEBOUNCE waits for its insertion delay afresh. -/
def toPt (st : Nat) (s : State) : State := setPt st { s with pt := { s.pt with debounced := false } }

/-- IDLE, and DEBOUNCE to ON, follow the input at once while the Night Porter drives the gates; the Porter follows it at step
5 of its model step (R304, R315, R316). -/
def npFollow (s : State) : State :=
  if s.pt.inCharge then s
  else if s.ptSt = 0 && s.inputPresent then toPt 1 s
  else if 1 ≤ s.ptSt && s.ptSt ≤ 3 && !s.inputPresent then toPt 0 s
  else s

/-- REMWAIT reaches 0 (R304): DEBOUNCE with the input present, IDLE without, at once under the Night Porter and at step 5 of
the model step under the Porter. -/
def waitEnd (s : State) : State :=
  let s1 := s.p F.NP_RSTATE_REMWAIT 0
  if s1.pt.inCharge then s1
  else if s1.ptSt = 4 then toPt (if s1.inputPresent then 1 else 0) s1 else tryInrush s1

/-! ### The model step (R298-R311, R318, R319) -/

/-- A result of a 16-bit field; where it does not fit the spec states none, a free value. -/
def fit16 (v : Int) (s : State) : Nat × State :=
  if 0 ≤ v ∧ v < 65536 then (v.toNat, s)
  else let d := s.draw; (Config.freeNat d.1 % 65536, d.2)

/-- V of main-converter channel c (R322). -/
def State.mcV (s : State) (c : Nat) : Int := s.gi (F.MC_CH_DATA_VALUE c)

/-- Step 1: the readings are latched (R298). -/
def latchReadings (s : State) : State :=
  let s1 := (s.pi F.PT_VIN_HVIN (s.mcV 71)).pi F.PT_VIN_VBULK (s.mcV 72)
  let s2 := (s1.pi F.PT_VFEED_VFA (s.mcV 73)).pi F.PT_VFEED_VFB (s.mcV 74)
  s2.pi F.PT_IIN_IIN (32 * s.mcV 75 / (max 1 (s.g F.PT_SENSE_RSNS) : Nat))

/-- L_j and TTRIP_j of the breaker's curve (R307). -/
def State.brkPoint (s : State) (j : Nat) : Nat × Nat := (8 * s.g (F.PT_BRK_ICUR j), s.g (F.PT_BRK_TTRIP j))

/-- The time the curve gives a current i of at least L_0 (R307). -/
def State.brkTime (s : State) (i : Nat) : Nat :=
  let j := ((List.range 8).filter fun j => decide ((s.brkPoint j).1 ≤ i)).foldl max 0
  let p := s.brkPoint j
  if j = 7 then p.2
  else
    let q := s.brkPoint (j + 1)
    p.2 - (p.2 - q.2) * (i - p.1) / (q.1 - p.1)

/-- Step 3: the breaker (R307, R308): the state after it, and whether it trips. -/
def breaker (s : State) : State × Bool :=
  if s.pt.inCharge && (s.ptSt = 2 || s.ptSt = 3) then
    let i := s.gi F.PT_IIN_IIN
    let b := s.pt.brk
    let r : Nat × Bool :=
      if i < ((s.brkPoint 0).1 : Int) then (b - b / 2 ^ s.g F.PT_BRKCFG_BRKLEAK, false)
      else
        let t := s.brkTime i.toNat
        if t = 0 then (b, true) else (b + 2 ^ 24 / t, decide (2 ^ 24 ≤ b + 2 ^ 24 / t))
    (({ s with pt := { s.pt with brk := r.1 } }).p F.PT_IIN_BRKLVL (min (r.1 / 256) 0xFFFF), r.2)
  else (s, false)

/-- T_amb in 1/16 °C (R310). -/
def State.tamb (s : State) : Int :=
  let fix : Int := 16 * s.gi F.PT_FETT_TAMBFIX
  let pick := fun (c : Nat) => if s.mcV c = -32768 then fix else s.mcV c
  match s.g F.PT_FETT_FETTREF with
  | 0 => pick 70
  | 1 => pick 68
  | 2 => pick 69
  | _ => fix

/-- A 16-bit signed result; where it does not fit the spec states none, a free value. -/
def fitS16 (v : Int) (s : State) : Int × State :=
  if -32768 ≤ v ∧ v < 32768 then (v, s) else let d := s.draw; (Config.freeInt d.1, d.2)

/-- Step 4: the model of the FET (R310). -/
def fetModel (s : State) : State :=
  let vds : Int := max ((s.g F.PT_VIN_HVIN : Int) - s.g F.PT_VIN_VBULK) 0
  let pw := asr (vds * max (s.gi F.PT_IIN_IIN) 0 * 16777) 24
  let th : Vector Int 3 := Vector.ofFn fun i =>
    let t := vget s.pt.theta i
    t + asr ((asr (pw * s.g (F.PT_FET_RTH i.val)) 6 - t) * s.g (F.PT_FET_AF i.val)) 16
  let r := fitS16 (s.tamb + asr (vget th 0 + vget th 1 + vget th 2) 4) { s with pt := { s.pt with theta := th } }
  r.2.pi F.PT_THERM_TFET r.1

/-- FETWARN (R311): raised once, and again only after TFET has fallen 5 °C below TFWARN. -/
def fetWarn (s : State) : State :=
  let t := s.gi F.PT_THERM_TFET
  let w : Int := 16 * s.g F.PT_FETT_TFWARN
  if s.pt.warnArmed && w ≤ t then
    raiseDev 0x1F ({ s with pt := { s.pt with warnArmed := false } }.pb F.PT_STATUS_FETWARN true)
  else if t ≤ w - 80 then { s with pt := { s.pt with warnArmed := true } }
  else s

/-- TFET has reached TFMAX (R311). -/
def State.fetHot (s : State) : Bool := decide ((16 * s.g F.PT_FETT_TFMAX : Nat) ≤ s.gi F.PT_THERM_TFET)

/-- The gate faults of a step, lowest FID first (R307, R309, R311, R313). -/
def gateFids (trip : Bool) (s : State) : List Nat :=
  let live := s.ptSt = 2 || s.ptSt = 3
  (if trip then [0x18] else []) ++ (if s.pt.fast then [0x19] else [])
    ++ (if live && s.fetHot then [0x1A] else [])
    ++ (if s.pt.late && s.ptSt = 2 then [0x1B] else [])

/-- VT, INRLIMIT and the 1 ms near HVIN, while INRUSH lasts (R304, R305). -/
def inrushStep (s : State) : State :=
  if s.ptSt = 2 then
    let lim := decide ((32 * s.g F.PT_SENSE_INRLIM : Nat) < s.gi F.PT_IIN_IIN)
    let near := decide ((s.g F.PT_VIN_HVIN : Int) - s.g F.PT_VIN_VBULK ≤ 250)
    ({ s with pt := { s.pt with vt := if lim then s.pt.vt else s.pt.vt + s.g F.PT_INS_SLEW
                                near := if near then s.pt.near + 1 else 0 } }).pb F.PT_STATUS_INRLIMIT lim
  else s.pb F.PT_STATUS_INRLIMIT false

/-- The state transition a step applies, where no gate fault does (R304). -/
def ptTransition (s : State) : State :=
  let st := s.ptSt
  if s.pt.short && (st = 2 || st = 3 || st = 4) then toPt 5 (s.p F.PT_STATUS_LATFID 4)
  else if st = 5 then (if s.pt.clr then toPt 0 (s.p F.NP_RSTATE_RCNT 0) else s)
  else if s.gb F.PT_CTL_HOSTOFF then (if st = 6 then s else toPt 6 s)
  else if st = 6 then toPt (if s.g F.NP_RSTATE_REMWAIT = 0 then 0 else 4) s
  else if st = 4 then (if s.g F.NP_RSTATE_REMWAIT = 0 then toPt (if s.inputPresent then 1 else 0) s else s)
  else if 1 ≤ st && st ≤ 3 && !s.inputPresent then toPt 0 s
  else if (st = 2 || st = 3) && s.pt.inov then toPt 1 s
  else if st = 0 && s.inputPresent then toPt 1 s
  else if st = 1 then tryInrush s
  else if st = 2 && decide (100 ≤ s.pt.near) then toPt 3 s
  else s

/-- Step 5: gate-off decisions and transitions (R304, R309, R311-R313); INOV is raised whatever else the step does. -/
def ptDecide (trip : Bool) (s : State) : State :=
  let fids := gateFids trip s
  let s1 := if trip then s.inc F.PT_CNT_BRKTRIPS else s
  let s2 := (if fids.contains 0x19 then s1.inc F.PT_CNT_FASTTRIPS else s1)
  let s3 := inrushStep s2
  let s4 := if fids.isEmpty then ptTransition s3
    else if s3.pt.short then toPt 5 (raiseGate fids s3)
    else raiseGate fids { s3 with pt := { s3.pt with debounced := false } }
  let s5 := if s3.pt.inov then raiseDev 0x1C s4 else s4
  { s5 with pt := { s5.pt with fast := false, inov := false, short := false, late := false, clr := false } }

/-- Σ VOUTM_k × ITOT_k over the enabled rails (R318). -/
def State.railPower (s : State) : Int :=
  ((allFin 8).map fun k => if s.enabled k then s.mcV (54 + k.val) * s.gi (F.OL_ITOT_ITOT k.val) else 0).sum

/-- The hold-up estimate for a load power pl; where pl is negative the spec states none, a free value (R318). -/
def holdUs (pl : Int) (s : State) : Nat × State :=
  let c := s.g F.PT_HOLD_CBULK
  let b := s.g F.PT_VIN_VBULK
  let m := s.g F.PT_HOLD_VHMIN
  if c = 0 then (0xFFFF, s)
  else if pl = 0 then (0xFFFE, s)
  else if pl < 0 then let d := s.draw; (Config.freeNat d.1 % 65536, d.2)
  else (min (if b ≤ m then 0 else c * (b * b - m * m) / (31250 * pl.toNat)) 65534, s)

/-- Step 6: powers, the hold-up estimate and the energy counters (R318, R319). -/
def ptPublish (s : State) : State :=
  let pr := s.railPower / 40000
  let pl : Int := s.g F.PT_LOAD_PAUX + pr * 65536 / (max 1 (s.g F.PT_LOAD_ETA) : Nat)
  let hi := (s.g F.PT_VIN_HVIN : Int) * s.gi F.PT_IIN_IIN
  let pin := fit16 (max hi 0 / 16000) s
  let pld := fit16 (asr pl 4) pin.2
  let ho := holdUs pl pld.2
  let s1 := ((ho.2.p F.PT_POWER_PIN pin.1).p F.PT_POWER_PLOAD pld.1).p F.PT_THERM_HOLDUS ho.1
  { s1 with pt := { s1.pt with
      pl := pl
      ein := s1.pt.ein + hi
      erail := Vector.ofFn fun k => vget s1.pt.erail k
        + (if s.enabled k then s.mcV (54 + k.val) * s.gi (F.OL_ITOT_ITOT k.val) else 0) } }

/-- Outside INRUSH and ON no gate fault acts (R304), and FETOT is declared when TFET comes to TFMAX (R311; DEDUCED, log
entry 27). -/
def fetHotIdle (was : Bool) (s : State) : State :=
  if s.fetHot && !was && !(s.ptSt = 2 || s.ptSt = 3) then raiseDev 0x1A s else s

/-- PORTER_MODEL_STEP (R299): a group 04h commit takes effect where it completed at least 35 ns before. -/
def porterStep (s : State) : State :=
  if s.core then
    let r := breaker (applyDue ns35 4 0xFF (latchReadings s))
    let s4 := fetModel r.1
    let s5 := if s4.pt.inCharge then ptDecide r.2 (fetHotIdle s.fetHot (fetWarn s4)) else s4
    ptPublish s5
  else s

/-- The model steps are 10 µs of the time base apart (R298): the next one starts when it has reached the next whole multiple of
8,000 tb (DESIGN CHOICE, log entry 117: the rule does not say from which instant they count). -/
def State.porterTime (s : State) : Time := BitVec.ofNat 52 ((s.clock / 128000 + 1) * 128000)

/-- PORTER_MODEL_STEP. -/
def execPorterModelStep (s : State) : Answer := done (porterStep (s.atTime s.porterTime))

/-! ### Event commands -/

/-- Index of a feed: false A, true B. -/
def feedIx (b : Bool) : Fin 2 := if b then 1 else 0

/-- FEED_PRESENT: the watch of a feed sets; it runs while VAON is good (R300). -/
def feedPresent (b : Fin 2) (s : State) : State :=
  if s.sup.vaon then npFollow (settleGates s { s with np := { s.np with watch := vset s.np.watch b true } }) else s

/-- FEED_ABSENT: the watch of a feed clears (R300). -/
def feedAbsent (b : Fin 2) (s : State) : State :=
  if s.sup.vaon then npFollow (settleGates s { s with np := { s.np with watch := vset s.np.watch b false } }) else s

/-- FEED_ABSENT. -/
def execFeedAbsent (b : Bool) (s : State) : Answer := done (feedAbsent (feedIx b) s)

/-- FEED_REVERSE_OFF: the fixed detector of a feed trips (R301). -/
def execFeedReverseOff (b : Bool) (s : State) : Answer := done (reverseOff (feedIx b) s)

/-- FEED_GATE_ON: VFx - HVIN has stayed above +100 mV for ORDLY (R301). -/
def feedGateOn (b : Fin 2) (s : State) : State := if s.mayConduct b then setGate b true s else s

/-- FEED_GATE_ON. -/
def execFeedGateOn (b : Bool) (s : State) : Answer := done (feedGateOn (feedIx b) s)

/-- INSERTION_DEBOUNCE_END: the input has been present for the insertion delay (R304, R316). -/
def insertionDebounceEnd (s : State) : State :=
  if s.sup.vaon && s.ptSt = 1 && s.inputPresent then
    let s1 := { s with pt := { s.pt with debounced := true } }
    if s1.pt.inCharge then s1 else tryInrush s1
  else s

/-- INSERTION_DEBOUNCE_END. -/
def execInsertionDebounceEnd (s : State) : Answer := done (insertionDebounceEnd s)

/-- INRUSHTO: ON was not reached within INRTMO ms (R305); the gate fault acts at step 5 of the model step (R313). -/
def inrushTo (s : State) : State :=
  if s.pt.inCharge && s.ptSt = 2 then { s with pt := { s.pt with late := true } } else s

/-- INRUSHTO. -/
def execInrushto (s : State) : Answer := done (inrushTo s)

/-- VBULK within 1 V of HVIN with HSGATE off and a feed present (R312). -/
def State.fetShorted (s : State) : Bool :=
  s.core && !s.np.hs && s.anyFeed
    && decide (((s.g F.PT_VIN_HVIN : Int) - s.g F.PT_VIN_VBULK).natAbs ≤ 500)

/-- FETSHORT: the condition has held for 1 ms (R312). -/
def fetShort (s : State) : State := if s.fetShorted then raiseDev 0x1D s else s

/-- FETSHORT. -/
def execFetshort (s : State) : Answer := done (fetShort s)

/-- RETRY_WAIT_END: REMWAIT reaches 0 (R304, R314). -/
def execRetryWaitEnd (s : State) : Answer :=
  done (if s.sup.vaon && s.g F.NP_RSTATE_REMWAIT != 0 then waitEnd s else s)

/-- RETRY_COUNT_CLEAR: STATE has been ON for RGOOD s (R313). -/
def execRetryCountClear (s : State) : Answer :=
  done (if s.sup.vaon && s.ptSt = 3 then s.p F.NP_RSTATE_RCNT 0 else s)

/-- NP_GATE_FAULT: limiting for NPTFLT ms, or no ON within the inrush timeout, in the Night Porter's profile (R316). -/
def npGateFault (timeout : Bool) (s : State) : State :=
  if s.sup.vaon && !s.pt.inCharge && (s.ptSt = 2 || (s.ptSt = 3 && !timeout)) then
    let s1 := gateFault (s.p F.NP_RSTATE_NPCAUSE (if timeout then 2 else 1))
    { s1 with np := { s1.np with toRecord := true }, pt := { s1.pt with debounced := false } }
  else s

/-- NP_GATE_FAULT. -/
def execNpGateFault (timeout : Bool) (s : State) : Answer := done (npGateFault timeout s)

/-- NIGHT_PORTER_INRUSH_ON: HVIN - VBULK at or below 0.5 V for 1 ms in the Night Porter's profile (R316). -/
def execNightPorterInrushOn (s : State) : Answer :=
  done (if s.sup.vaon && !s.pt.inCharge && s.ptSt = 2 then toPt 3 s else s)

/-- Some enabled cause of the early warning still holds (R317). -/
def State.pfwHolds (s : State) : Bool :=
  let src := s.g F.PT_PFW_PFWSRC
  (bitAt src 0 && !((s.feed 0 && !s.feedUv 0) || (s.feed 1 && !s.feedUv 1)))
    || (bitAt src 1 && s.fnOut 112) || (bitAt src 2 && !s.np.hs && s.anyEnabled)

/-- PFW_RELEASE: no enabled cause has held for PFWREL ms and STATE is ON (R317). -/
def pfwRelease (s : State) : State :=
  if s.core && s.pfw && s.ptSt = 3 && !s.pfwHolds then
    let s1 := deviceCause 30 (routerEdge 0xE0 false (s.pb F.PT_STATUS_PFWNOW false))
    record 5 ([byte 0, byte (s1.g F.PT_STATUS_PFWCAUSE)] ++ leBytes 2 (s1.g F.PT_THERM_HOLDUS)) s1
  else s

/-- PFW_RELEASE. -/
def execPfwRelease (s : State) : Answer := done (pfwRelease s)

/-- CLRLATCH is written: in LATCHED the state becomes IDLE and RCNT 0 at step 5 of the next model step; elsewhere it has no
effect (R304). -/
def clrLatch (s : State) : State := if s.ptSt = 5 then { s with pt := { s.pt with clr := true } } else s

end Sys2Proof.Machine
end

