-- ==== Sys2Proof/Machine/Protection.lean ====
section
/-!
DEFINITION. The comparator array and the channels of the fault manager (11_protection.md): crossings, arming, checks and
substitution of comparators, current converters and PLLs, the tracking DACs, and the temperature shutdown.
-/

namespace Sys2Proof.Machine

/-! ### Outputs (R267-R272, R282) -/

/-- HSSHORT of phase n: an overcurrent trip long after the high level ended (R282). -/
def hsShort (n : Fin 48) (s : State) : State :=
  let s1 := if s.gb F.FM_CTL_HSOPEN && s.pt.inCharge then { s with pt := { s.pt with short := true } } else s
  raisePhase 4 n false true s1

/-- The output of function f has changed: what follows from it (R282 for an overcurrent function, `lateLow` saying that it tripped
late in the phase's low time; under the on-time model the comparator and the readings of the phase are ignored, R281). -/
def functionChanged (f : Nat) (out lateLow : Bool) (was : State) (s : State) : State :=
  if h : f < 48 then (if out && lateLow && !s.onModel f then hsShort ⟨f, h⟩ s else s)
  else functionEffect f out was s

/-- The output of comparator c, serving function f, changes (R268, R270). -/
def outChange (c f : Nat) (out lateLow : Bool) (s : State) : State :=
  let set := fun (s : State) =>
    let s1 := s.pb (F.CMP_STATUS_OUT c) out
    if out && s1.gb (F.CMP_STATUS_ARMED c) then s1.pb (F.CMP_STATUS_LATCHED c) true else s1
  let s1 := withRoutes c set s
  if f < 120 && (s1.servedBy f = c || (s1.covered f && c = f)) then functionChanged f out lateLow s s1 else s1

/-- COMPARATOR_CROSSING: the input crosses the threshold for FILT tb (R268). -/
def comparatorCrossing (c : Fin 128) (out lateLow : Bool) (s : State) : State :=
  if s.core && s.gb (F.CMP_STATUS_ARMED c.val) && s.gb (F.CMP_STATUS_OUT c.val) != out then
    let f := s.g (F.CMP_CTL_FUNC c.val)
    outChange c.val f out (lateLow && (if h : f < 48 then (s.ph ⟨f, h⟩).out != .high else true)) s
  else s

/-- COMPARATOR_CROSSING. -/
def execComparatorCrossing (c : Fin 128) (out lateLow : Bool) (s : State) : Answer :=
  done (comparatorCrossing c out lateLow s)

/-- The interim cover of function f evaluates anew (R291), from a conversion taken at instant t. -/
def coverEval (f t : Nat) (s : State) : State :=
  if s.covered f && s.coverOut f != s.gb (F.CMP_STATUS_OUT f) then
    outChange f f (s.coverOut f) (if h : f < 48 then s.lateAt ⟨f, h⟩ t else false) s
  else s

/-! ### Tracking (R271) -/

/-- The code tracking gives function f from the reference of rail k. -/
def State.trackCode (s : State) (k : Fin 8) (f : Nat) : Nat :=
  (clampInt (asr (((s.g (F.RAIL_REFNOW_REF k.val) : Int) + s.gi (F.CMP_TRACK_TOFS f)) * s.g (F.CMP_TRACK_TGAIN f)) 16)
    0 1023).toNat

/-- The threshold codes of function f follow the reference, in the comparator that serves it and in its own registers. -/
def trackFunction (k : Fin 8) (f : Nat) (s : State) : State :=
  let put := fun (s : State) (c : Nat) =>
    if s.gb (F.CMP_CTL_TRACKEN c) then s.p (F.CMP_DAC_DACNOW c) (s.trackCode k f) else s
  let s1 := put s f
  if s.servedBy f < 128 && s.servedBy f ≠ f then put s1 (s.servedBy f) else s1

/-- Step 9 of a boundary window: the tracking DACs of rail k. -/
def trackDacs (k : Fin 8) (s : State) : State := trackFunction k (104 + k.val) (trackFunction k (96 + k.val) s)

/-- The DAC of comparator c is loaded: the DAC field, or the tracked code of a rail function. -/
def loadDac (c : Nat) (s : State) : State :=
  let f := s.g (F.CMP_CTL_FUNC c)
  if s.gb (F.CMP_CTL_TRACKEN c) && 96 ≤ f && f < 112 then s.p (F.CMP_DAC_DACNOW c) (s.trackCode (Fin.ofNat 8 f) f)
  else s.p (F.CMP_DAC_DACNOW c) (s.g (F.CMP_DAC_DAC c))

/-! ### Arming (R269) -/

/-- VH in fifteenths of a 12-bit code of FS (R268); doubled with the range, it is the same number of codes. -/
def State.vhCodes (s : State) (c : Nat) : Int :=
  match s.g (F.CMP_CTL_HYST c) with | 0 => 0 | 1 => 256 | 2 => 512 | _ => 1024

/-- On which side of comparator c's thresholds an input lies, both in 12-bit codes of FS: some OUT, none in band. -/
def State.side (s : State) (c : Nat) (vin dac : Int) : Option Bool :=
  let v := 15 * vin
  let d := 15 * dac
  if s.gb (F.CMP_CTL_SENSE c) then
    if v < d then some true else if d + s.vhCodes c < v then some false else none
  else
    if d < v then some true else if v < d - s.vhCodes c then some false else none

/-- Functions that arm as tripped from within the band (R269). -/
def armsTripped (f : Nat) : Bool := (96 ≤ f && f < 104) || f = 112 || f = 113

/-- CMP_ARMED: arming ends with the readings of the main converter (R269). -/
def cmpArmed (c : Fin 128) (vin dac : BitVec 12) (s : State) : State :=
  if s.core && s.gb (F.CMP_CTL_ARM c.val) && !s.gb (F.CMP_STATUS_ARMED c.val) && !s.gb (F.CMP_STATUS_RETIRED c.val) then
    let s1 := ((loadDac c.val s).p (F.CMP_RDBK_VINRB c.val) vin.toNat).p (F.CMP_RDBK_DACRB c.val) dac.toNat
    let side := s1.side c.val vin.toNat dac.toNat
    let s2 := if side.isNone then s1.pb (F.CMP_STATUS_INBAND c.val) true else s1
    let out := side.getD (armsTripped (s.g (F.CMP_CTL_FUNC c.val)))
    let f := s.g (F.CMP_CTL_FUNC c.val)
    let s3 := (withRoutes c.val (fun s => s.pb (F.CMP_STATUS_OUT c.val) out) s2).pb (F.CMP_STATUS_ARMED c.val) true
    if f < 120 && s3.servedBy f = c.val && out then functionEffect f out s s3 else s3
  else s

/-- CMP_ARMED. -/
def execCmpArmed (c : Fin 128) (vin dac : BitVec 12) (s : State) : Answer := done (cmpArmed c vin dac s)

/-- Comparator c is disarmed at once: OUT reads 0, LATCHED is kept (R269). -/
def disarm (c : Nat) (s : State) : State :=
  let f := s.g (F.CMP_CTL_FUNC c)
  let s1 := withRoutes c (fun s => s.pb (F.CMP_STATUS_OUT c) false) (s.pb (F.CMP_STATUS_ARMED c) false)
  if f < 120 && s1.servedBy f = c then functionEffect f false s s1 else s1

/-- A clear of comparator c's latch is requested (R270). -/
def clearCmpLatch (c : Nat) (s : State) : State :=
  if s.gb (F.CMP_STATUS_OUT c) then s.pb (F.CMP_STATUS_CLRREFUSED c) true
  else withRoutes c (fun s => s.pb (F.CMP_STATUS_LATCHED c) false) s

/-! ### Checks and substitution (R274, R290, R291) -/

/-- The consistency check of comparator c finds its input beyond a threshold by more than 32 codes plus VH on the side
opposite to OUT. -/
def State.inconsistent (s : State) (c : Nat) (vin : Int) : Bool :=
  let d : Int := 15 * (4 * s.g (F.CMP_DAC_DACNOW c))
  let m : Int := 15 * 32 + s.vhCodes c
  let above := decide (d + m < 15 * vin)
  let below := decide (15 * vin < d - m)
  if s.gb (F.CMP_STATUS_OUT c) == s.gb (F.CMP_CTL_SENSE c) then above else below

/-- Element i of a word of flags set or cleared. -/
def putFlag {w : Nat} (x : BitVec w) (i : Nat) (b : Bool) : BitVec w :=
  if b then x ||| (BitVec.ofNat w 1 <<< i) else x &&& ~~~ (BitVec.ofNat w 1 <<< i)

/-- COMPARATOR_CHECK: the main converter's readback of comparator c (R274). -/
def comparatorCheck (c : Fin 128) (vin dac : BitVec 12) (sweepOk : Bool) (s : State) : State :=
  if !s.core || s.gb (F.CMP_STATUS_RETIRED c.val) then s
  else
    let s1 := (s.p (F.CMP_RDBK_VINRB c.val) vin.toNat).p (F.CMP_RDBK_DACRB c.val) dac.toNat
    let f := s.g (F.CMP_CTL_FUNC c.val)
    let fail := fun (perm : Bool) (s : State) => raise (chanEvent 0x14 2 c.val true perm) s
    let s2 := if 120 ≤ c.val && f = 0x7F && !sweepOk then raise (chanEvent 0x14 2 c.val false true) s1 else s1
    let d := ((dac.toNat : Int) - 4 * s.g (F.CMP_DAC_DACNOW c.val)).natAbs
    let s3 := if s.gb (F.CMP_STATUS_ARMED c.val) && 16 < d then fail (decide (64 < d)) s2 else s2
    if s3.gb (F.CMP_STATUS_ARMED c.val) && 96 ≤ f && f < 120 then
      let bad := s.inconsistent c.val vin.toNat
      let s4 := { s3 with chk := { s3.chk with cmpBad := putFlag s3.chk.cmpBad c.val bad } }
      if bad && s.chk.cmpBad.getLsbD c.val then fail false s4 else s4
    else s3

/-- COMPARATOR_CHECK. -/
def execComparatorCheck (c : Fin 128) (vin dac : BitVec 12) (sweepOk : Bool) (s : State) : Answer :=
  done (comparatorCheck c vin dac sweepOk s)

/-- The spare comparator that substitution takes: the lowest-numbered neither retired nor serving another function. -/
def State.spareCmp (s : State) : Option Nat :=
  (List.range' 120 8).find? fun c => !s.gb (F.CMP_STATUS_RETIRED c) && s.g (F.CMP_CTL_FUNC c) == 0x7F

/-- The retired comparator function f is replaced in: the spare that served it last, else its own. -/
def State.lastServer (s : State) (f : Nat) : Nat :=
  ((List.range' 120 8).filter fun c => s.gb (F.CMP_STATUS_RETIRED c) && s.servedLast c == some f).foldl max f

/-- A spare comparator takes over function f, with its settings, and arms to the state of the interim cover (R291). -/
def substitute (f : Nat) (s : State) : State :=
  if s.servedBy f = 0xFF then
    match s.spareCmp with
    | none => s
    | some c =>
      let out := s.covered f && s.gb (F.CMP_STATUS_OUT f)
      let armed := s.gb (F.CMP_CTL_ARM f)
      let old := s.lastServer f
      let w := setBits (setBits (s.word (A.CMP_CTL f)) 0 7 f) 7 1 (if senseBelow f then 1 else 0)
      let take := fun (s : State) =>
        let s0 := supPush (A.CMP_DAC c) (s.word (A.CMP_DAC f)) (supPush (A.CMP_CTL c) w s)
        let s1 := (s0.setWord (A.CMP_CTL c) w).setWord (A.CMP_DAC c) (s.word (A.CMP_DAC f))
        let s2 := ((s1.pb (F.CMP_STATUS_ARMED c) armed).pb (F.CMP_STATUS_OUT c) out)
        ((s2.p (F.CMP_STATUS_SERVEDBY f) c).pb (F.CMP_STATUS_COVER f) false).pb (F.CMP_STATUS_OUT f) false
      record 3 [byte 2, byte c, byte old] (withFunction f take s)
  else s

/-- COMPARATOR_SUBSTITUTION. -/
def execComparatorSubstitution (f : Fin 120) (s : State) : Answer :=
  done (if s.core then substitute f.val s else s)

/-! ### Current converters (R292) -/

/-- IC_CROSSCHECK: one comparison of the main converter with converter ic (R292). A disagreement of three or more
different phases within the last 16 checks adds a strike; the present spare has no phases, and its disagreements count
each. -/
def icCrosscheck (ic : Fin 7) (n : Fin 48) (main work : BitVec 12) (stuck : Bool) (s : State) : State :=
  if !s.core || bitAt (s.g F.FM_IC_ICRET) ic.val then s
  else if stuck && s.g F.FM_IC_ICSPARE != ic.val then raise (chanEvent 0x15 3 ic.val false true) s
  else
    let bad := decide (32 < ((main.toNat : Int) - work.toNat).natAbs)
    let h := ((if bad then some n else none) :: vget s.chk.ic ic).take 16
    let l := h.filterMap id
    let many := if s.g F.FM_IC_ICSPARE = ic.val then l.length else l.eraseDups.length
    let put := fun (h : List (Option (Fin 48))) => { s with chk := { s.chk with ic := vset s.chk.ic ic h } }
    if bad && 3 ≤ many then raise (chanEvent 0x15 3 ic.val true false) (put []) else put h

/-- IC_CROSSCHECK. -/
def execIcCrosscheck (ic : Fin 7) (n : Fin 48) (main work : BitVec 12) (stuck : Bool) (s : State) : Answer :=
  done (icCrosscheck ic n main work stuck s)

/-- CONVERTER_SUBSTITUTION: the spare converter takes the group of a retired one; with no spare left, rails without a sighted phase
have lost their sense (R292). -/
def converterSubstitution (g : Fin 6) (s : State) : State :=
  let sp := s.g F.FM_IC_ICSPARE
  if s.core && s.noConverter g.val && sp != 7 then
    let map := s.g F.FM_IC_GMAP
    let old := map / 8 ^ g.val % 8
    let s1 := (s.p F.FM_IC_GMAP (map - old * 8 ^ g.val + sp * 8 ^ g.val)).p F.FM_IC_ICSPARE 7
    forAll (n := 8) (fun s k => senseCheck k s) (record 3 [byte 3, byte sp, byte old] s1)
  else s

/-- CONVERTER_SUBSTITUTION. -/
def execConverterSubstitution (g : Fin 6) (s : State) : Answer := done (converterSubstitution g s)

/-! ### Strikes, temperature -/

/-- A count of a bank falls by one. -/
def dropOne {n : Nat} (v : Vector Nat n) (i : Nat) : Vector Nat n := if h : i < n then v.set i (v[i] - 1) else v

/-- STRIKE_DECAY: a strike of channel i of type t leaves its window (R289). -/
def strikeDecay (t : Fin 5) (i : Nat) (s : State) : State :=
  let k := s.strikes
  showStrikes (t.val + 1) i { s with strikes :=
    { phase := if t = 0 then dropOne k.phase i else k.phase, cmp := if t = 1 then dropOne k.cmp i else k.cmp,
      ic := if t = 2 then dropOne k.ic i else k.ic, lane := if t = 3 then dropOne k.lane i else k.lane,
      pll := if t = 4 then dropOne k.pll i else k.pll } }

/-- STRIKE_DECAY. A channel number beyond its type names no channel. -/
def execStrikeDecay (t : Fin 5) (i : Fin 128) (s : State) : Answer :=
  done (if i.val < (match t with | 0 => 48 | 1 => 128 | 2 => 7 | 3 => 5 | _ => 2) then strikeDecay t i.val s else s)

/-- OTS: the reading of a sensor has stayed at or above its shutdown threshold for the delay (R287): OTS for TSEN0-TSEN7,
TJSD for the junction, once per episode. -/
def ots (i : Fin 9) (s : State) : State :=
  let x := vget s.conv.sensor i
  if s.core && x.seen && x.valid && x.hot && !x.done then
    let v := s.mcV (62 + i.val)
    let s1 := { s with conv := { s.conv with sensor := vset s.conv.sensor i { x with done := true } } }
    if i.val = 8 then raise { devEvent 0x12 with value := some v } s1
    else
      let l := (allFin 8).filter fun k => s.affects i.val k
      forEach (fun s k => raise { railEvent 0x0C k with value := some v } s) l s1
  else s

/-- OTS. -/
def execOts (sensor : Fin 9) (s : State) : Answer := done (ots sensor s)

/-! ### PLLs and the reference (R14, R33, R111, R293) -/

/-- The pulses of phase n stop on a changeover (R111): it goes to its off level, a delayed launch and a tail end, the
interrupted period is no limited cycle, and its pulse does not count for R257 (R266). -/
def stopPulse (n : Fin 48) (s : State) : State :=
  let s1 := if (s.ph n).out = .off && (s.ph n).dead = .none then s else phOff n s
  dropTail n (s1.modPh n fun p => { p with delayed := none, ends := [] })

/-- The modulator of rail k at a changeover (R130, R138): launches in delivery are lost, blanking restarts, and the lock freezes
for 16 sequence boundaries; a forced boundary no longer waits for a delivery (R126). -/
def stopLaunches (k : Fin 8) (s : State) : State :=
  let s1 := s.modMd k fun m => { m with inFlight := [], waiting := false, lockFreeze := 16,
                                        blanking := s.enabled k && s.effMode k == 1 }
  settleLock k (if (s.ra k).md.forcePend then forceSequence k s1 else s1)

/-- The pulses stop on a changeover of the PLLs (R111, R138). -/
def stopPulses (s : State) : State :=
  forAll (n := 8) (fun s k => stopLaunches k s) (forAll (n := 48) (fun s n => stopPulse n s) s)

/-- The marks of a changeover: TBDISC of capture units and records, TBGAP of running Plates (R33, R113, R344). -/
def markGap (s : State) : State :=
  let s1 := { s with capDisc := BitVec.allOnes 32, nv := { s.nv with disc := true } }
  forAll (n := 4) (fun s p => match (vget s.plate p).st with
    | .armed | .capturing => (s.modPl p fun r => { r with gap := true }).pb (F.PL_STATUS_TBGAP p.val) true
    | _ => s) s1

/-- PLL_LOSS: the working PLL loses lock (R293). -/
def pllLoss (s : State) : State :=
  if s.dev = .off || s.dev = .boot then s
  else
    let i : Fin 2 := if s.gb F.FM_PLL_ACTIVE then 1 else 0
    let o : Fin 2 := otherFeed i
    if !vget s.pll.locked i then s
    else
      let s1 := markGap (stopPulses { s with pll := ⟨vset s.pll.locked i false, vset s.pll.restarting i true⟩ })
      let s2 := s1.pb F.FM_PLL_SPAREOK false
      let s3 := if vget s.pll.locked o then s2.pb F.FM_PLL_ACTIVE (o == 1) else s2
      let s4 := raise (chanEvent 0x17 5 i.val true false) s3
      let s5 := if s4.chanRetired 5 i.val then { s4 with pll := { s4.pll with restarting := vset s4.pll.restarting i false } }
        else s4
      if vget s.pll.locked o then s5 else raiseDev 0x13 s5

/-- PLL_LOSS. -/
def execPllLoss (s : State) : Answer := done (pllLoss s)

/-- The PLL that was restarted and has not relocked; the lower of two. -/
def State.restarted (s : State) : Option (Fin 2) := (allFin 2).find? fun i => vget s.pll.restarting i

/-- PLL_RELOCK: a restarted PLL relocks within 1 ms and becomes the spare; with no PLL locked it drives the time base
(R293). -/
def pllRelock (s : State) : State :=
  match s.restarted with
  | none => s
  | some i =>
    let alone := !vget s.pll.locked (otherFeed i)
    let s1 := { s with pll := ⟨vset s.pll.locked i true, vset s.pll.restarting i false⟩ }
    if alone then s1.pb F.FM_PLL_ACTIVE (i == 1) else s1.pb F.FM_PLL_SPAREOK true

/-- PLL_RELOCK. -/
def execPllRelock (s : State) : Answer := done (pllRelock s)

/-- PLL_RELOCK_TIMEOUT: a restarted PLL fails to relock within 1 ms and is retired (R290, R293). PLLBOTH was raised when
the last locked PLL was lost. -/
def pllRelockTimeout (s : State) : State :=
  match s.restarted with
  | none => s
  | some i =>
    raise (chanEvent 0x17 5 i.val false true) { s with pll := { s.pll with restarting := vset s.pll.restarting i false } }

/-- PLL_RELOCK_TIMEOUT. -/
def execPllRelockTimeout (s : State) : Answer := done (pllRelockTimeout s)

/-- REFERENCE_LOSS: the PLLs run from the internal RC without stopping pulses (R14). -/
def execReferenceLoss (s : State) : Answer := done (if s.core then s.pb F.DEVICE_STATUS_REFLOST true else s)

end Sys2Proof.Machine
end

