-- ==== Sys2Proof/Machine/Boundary.lean ====
section
/-!
DEFINITION. The boundary window of a rail (R27, R28): the inputs of the sample just ended, the fault timers (R176, R285,
R286, R288), power-good (R211, R212), and the order in which every block of the rail acts.
-/

namespace Sys2Proof.Machine

/-! ### Inputs of the sample just ended (R11, R24, R281) -/

/-- The codes of the N conversions of one sample of rail k, limited by the converter. -/
def State.codesOf (s : State) (k : Fin 8) (w : WindowIn) : List Int :=
  (List.range (8 * framesOf (s.rate k.val))).map fun i => clampInt (w.convs.getD i 0) (-512) 511

/-- x[n] and the WINDOW flag are formed from the conversions, oldest first. -/
def latchX (k : Fin 8) (w : WindowIn) (s : State) : State :=
  let n := 8 * framesOf (s.rate k.val)
  let l := s.codesOf k w
  let raw := w.convs.take n
  s.modGr k fun g => { g with x := l.sum * 128 / n, code := l.getLastD 0, win := raw.any fun c => decide (c < -512 ∨ 511 < c),
                              winNeg := raw.any fun c => decide (c < -512) }

/-- The digital limit of phase n follows a conversion (R281): interim cover follows it (R291), and where it serves source OC
that source acts as it becomes active. -/
def digitalLimit (n : Fin 48) (t code : Nat) (s : State) : State :=
  let a := s.ampsOf n.val code
  let lim : Int := s.g (F.FM_PH_CFG_OCDIG n.val)
  let v := if 64 * lim < a then true else if a ≤ 64 * (lim - 2) then false else (s.ph n).digOc
  let s1 := coverEval n.val t (s.modPh n fun p => { p with digOc := v })
  if v && !(s.ph n).digOc && s1.covered n.val && !s1.onModel n.val then ocActs n s1 else s1

/-- A reading of an idle phase counts for its zero drift while its SMODg is high (R261). -/
def zeroReading (n : Fin 48) (code : Nat) (s : State) : State :=
  let idle := (s.rl n).role == .shed || (s.rl n).role == .spare
  if idle && s.gb (F.STAGEGRP_CFG_SMODOUT (groupOf n.val)) then
    s.modRl n fun r => { r with zSum := r.zSum + code, zCnt := r.zCnt + 1 }
  else s

/-- A conversion joins the sum of phase n's outer period (R169); while the phase is ACTIVE or under test, conversions of 000h or
FFFh in a row are counted (R258 test 1). -/
def countReading (n : Fin 48) (code : Nat) (s : State) : State :=
  let runs := (s.rl n).role == .active || (s.rl n).role == .test
  s.modRl n fun r => { r with code := code, isum := r.isum + code, icnt := r.icnt + 1,
                              stuckN := if runs && (code == 0 || code == 0xFFF) then r.stuckN + 1 else 0 }

/-- A pulse whose IEND is this conversion is near zero while its rail's current is at or above OPENLOAD (R257). -/
def State.nearZero (s : State) (n : Fin 48) (code : Nat) : Bool :=
  match s.railOf n.val with
  | none => false
  | some k =>
    let load := s.g (F.INK_OPEN_OPENLOAD k.val)
    load != 0 && decide ((load : Int) ≤ s.irail k)
      && decide (s.ampsOf n.val code < (64 * s.g (F.INK_OPEN_OPENTH k.val) : Nat))

/-- The first conversion after the end of a high level is that pulse's IEND: near-zero pulses in a row are counted (R257). -/
def endReading (n : Fin 48) (t : Nat) (code : Nat) (s : State) : State :=
  let past := fun (e : Nat) => decide (elapsed e t < 2 ^ 51)
  let hit := (s.ph n).ends.takeWhile past
  let near := s.nearZero n code
  if hit.isEmpty then s
  else (s.modPh n fun p => { p with ends := p.ends.drop hit.length }).modRl n
    fun r => { r with near := if near then r.near + hit.length else 0 }

/-- One conversion of phase n's current, taken at an instant (R169, R257, R258, R261, R281). It acts at the boundary window that
brings it (DESIGN CHOICE, log entry 99). -/
def takeReading (n : Fin 48) (s : State) (x : Time × BitVec 12) : State :=
  let c := x.2.toNat
  digitalLimit n x.1.toNat c (endReading n x.1.toNat c (zeroReading n c (countReading n c s)))

/-- The current conversions of the phases of rail k, and of phases of no rail, are taken; an absent phase is not converted
(R42). -/
def latchCodes (k : Fin 8) (codes : Vector (List (Time × BitVec 12)) 48) (s : State) : State :=
  forAll (n := 48) (fun s n =>
    let own := match limRail s n <|> s.railOf n.val with | some j => j == k | none => true
    if own && s.exists_ n.val then (vget codes n).foldl (takeReading n) s else s) s

/-! ### Step 3: fault timers -/

/-- The sample just ended exceeds the following-error limit (R176). -/
def State.exceeds (s : State) (k : Fin 8) : Bool :=
  decide (s.g (F.OL_FE_FELIM k.val) < (s.ra k).gr.x.natAbs) || (s.ra k).gr.win

/-- The following-error timer (R176): the state after it, and whether it declares. -/
def feTimer (k : Fin 8) (s : State) : State × Bool :=
  if !s.enabled k then (s.p (F.OL_STATUS_FECNT k.val) 0, false)
  else if !s.exceeds k then (s.p (F.OL_STATUS_FECNT k.val) 0, false)
  else
    let c := s.g (F.OL_STATUS_FECNT k.val) + 1
    if s.g (F.OL_FE_FETIME k.val) ≤ c then (s.p (F.OL_STATUS_FECNT k.val) 0, true)
    else (s.p (F.OL_STATUS_FECNT k.val) c, false)

/-- A voltage count of windows (R285, R286): the count, whether the episode was declared, and whether it declares now. -/
def voltCount (out : Bool) (limit cnt : Nat) (declared : Bool) : Nat × Bool × Bool :=
  if !out then (0, false, false)
  else if declared then (cnt, true, false)
  else if limit ≤ cnt + 1 then (cnt + 1, true, true) else (cnt + 1, false, false)

/-- The overvoltage count of rail k (R285). -/
def ovTimer (k : Fin 8) (s : State) : State × Bool :=
  let f := 96 + k.val
  let p := (s.ra k).pr
  let r := voltCount (s.fnArmed f && s.fnOut f) (s.g (F.FM_RAIL_PROT_OVDLY k.val) + 1) p.ov p.ovDone
  (s.modPr k fun p => { p with ov := r.1, ovDone := r.2.1 }, r.2.2)

/-- Undervoltage counting of rail k is enabled (R286). -/
def State.uvArm (s : State) (k : Fin 8) : Bool := s.st k == .on && (s.ra k).tr.pgSeen

/-- The undervoltage count of rail k (R286): where it does not run it holds, and a window without OUT returns it to 0. -/
def uvTimer (k : Fin 8) (s : State) : State × Bool :=
  let f := 104 + k.val
  let p := (s.ra k).pr
  let out := s.fnArmed f && s.fnOut f
  if out && !s.uvArm k then (s, false)
  else
    let r := voltCount out (s.g (F.FM_RAIL_PROT_UVDLY k.val)) p.uv p.uvDone
    (s.modPr k fun p => { p with uv := r.1, uvDone := r.2.1 }, r.2.2)

/-- The start-progress check falls due in this window (R210): the state after counting, and whether it fails. A lane move
pauses the count (R214). -/
def graceTimer (k : Fin 8) (held : Bool) (s : State) : State × Bool :=
  match (s.ra k).tr.grace with
  | none => (s, false)
  | some g =>
    if held then (s, false)
    else if g + 1 < s.g (F.RAIL_STOP_STGRACE k.val) then (s.modTr k fun t => { t with grace := some (g + 1) }, false)
    else
      (s.modTr k fun t => { t with grace := none },
        decide ((s.ra k).gr.x < -(s.g (F.OL_FE_FELIM k.val) : Int)) || (s.ra k).gr.winNeg)

/-- FIDs of a rail in descending order of class (R278). -/
def State.byClass (s : State) (k : Fin 8) (l : List Nat) : List Nat :=
  (List.range 6).reverse.flatMap fun c => l.filter fun f => s.classOf f (some k) == c

/-- The fault timers of rail k advance, and what they declare goes to the fault manager; the result says whether any
fault was declared (R28 step 3, R278). -/
def faultTimers (k : Fin 8) (held : Bool) (s : State) : State × Bool :=
  let a := feTimer k s
  let b := ovTimer k a.1
  let c := uvTimer k b.1
  let d := graceTimer k held c.1
  let fids := (if a.2 then [0x09] else []) ++ (if b.2 then [0x07] else []) ++ (if c.2 then [0x08] else [])
    ++ (if d.2 then [0x0A] else [])
  let s1 := if d.2 then d.1.pb (F.RAIL_TSTAT_STARTSHORT k.val) true else d.1
  (forEach (fun s f => raiseRail f k s) (s1.byClass k fids) s1, !fids.isEmpty)

/-! ### Step 4: power-good (R211, R212) -/

/-- The sample just ended lies in the power-good window. -/
def State.inWindow (s : State) (k : Fin 8) : Bool :=
  let x := (s.ra k).gr.x
  decide (-(128 * s.g (F.RAIL_PGWIN_PGWLO k.val) : Nat) ≤ x) && decide (x ≤ (128 * s.g (F.RAIL_PGWIN_PGWHI k.val) : Nat))
    && !(s.ra k).gr.win

/-- The sample just ended is counted in or out of the window (R211); in a lane move the count toward assertion pauses (R214). -/
def countPG (k : Fin 8) (held : Bool) (s : State) : State :=
  if s.inWindow k then s.modTr k fun t => { t with inCnt := if held then t.inCnt else t.inCnt + 1, outCnt := 0 }
  else s.modTr k fun t => { t with inCnt := if held then t.inCnt else 0, outCnt := t.outCnt + 1 }

/-- PG is decided from the sample just ended (R211, R212). -/
def decidePG (k : Fin 8) (held declared : Bool) (s : State) : State :=
  let pg := s.gb (F.RAIL_TSTAT_PG k.val)
  if s.st k ≠ .on then s
  else if s.timers k then
    let s1 := s.modTr k fun t => { t with inCnt := 0, outCnt := 0 }
    if pg && s.gb (F.RAIL_PGWIN_PG_STRICT k.val) then setPG k false s1 else s1
  else if s.gb (F.RAIL_PGWIN_PGTRANS k.val) && s.gb (F.RAIL_TSTAT_TRANS k.val) then s
  else
    let s1 := countPG k held s
    if pg then
      if s1.g (F.RAIL_PGDLY_PGDDLY k.val) ≤ (s1.ra k).tr.outCnt then setPG k false s1 else s1
    else if !held && !declared && decide (s1.g (F.RAIL_PGDLY_PGADLY k.val) ≤ (s1.ra k).tr.inCnt) then setPG k true s1
    else s1

/-! ### The window -/

/-- Where a window stands to a lane move of its rail (R164): outside, inside, or the one in which the target lane takes the
rail. -/
inductive MoveStage
  | outside | inside | taken
  deriving DecidableEq, Repr

/-- Step 5: SAMPLE writes take effect, but inside a lane move they wait for its end (R164); HZEN 0 sets M to 0 (R181). -/
def writeStep (k : Fin 8) (m : MoveStage) (s : State) : State :=
  if m = .inside then s
  else
    let s1 := dueSamples k s
    if s1.gb (F.OL_HZCTL_HZEN k.val) then s1 else marginZero k s1

/-- Step 7: the hand-overs; COAST neither counts nor ends inside a lane move (R34, R151, R156, R135). -/
def handOverStep (k : Fin 8) (m : MoveStage) (s : State) : State :=
  if s.enabled k then
    let s1 := branchHandOver k s
    modulatorHandOvers k (if m = .inside then s1 else coastBoundary k s1)
  else s

/-- Steps 8 and 9: Transit steps, or holds its reference in a lane move (R33, R214), and the tracking DACs follow (R271). -/
def referenceStep (k : Fin 8) (m : MoveStage) (s : State) : State :=
  trackDacs k (if m = .outside then transitStep k s else holdRef k s)

/-- A ring change of rail k that has waited 16 samples forces a sequence boundary, after every step of the window (R126,
R138). -/
def forceStep (k : Fin 8) (s : State) : State :=
  if s.enabled k && (s.ra k).md.seqPend then
    let s1 := s.modMd k fun m => { m with seqWait := m.seqWait + 1 }
    if 16 ≤ (s1.ra k).md.seqWait then forcedSequenceBoundary k s1 else s1
  else s

/-- Steps 5 to 9, the Ephemeris, the loads of steps 11 and 12, and a forced sequence boundary. A commit of group 03h is eligible
if it completed before the window (R27, R81). -/
def windowWork (k : Fin 8) (m : MoveStage) (ephBad : Bool) (s : State) : State :=
  let s2 := applyDue (ns35 + 1) 3 k.val (writeStep k m s)
  let mode := s2.effMode k
  let last := (s2.ra k).md.ton
  let s4 := ephClear k <| ephMessages k <| forecastStep k (referenceStep k m (handOverStep k m s2))
  forceStep k
    (if s4.enabled k then loadOutputs k (s4.effMode k == 2 && mode == 1) last (ephLearn k (ephRead k ephBad s4)) else s4)

/-- The Plate nodes hold x and the latest code through a lane move, to the boundary at which the target lane takes the rail (R344). -/
def holdNodes (k : Fin 8) (m : MoveStage) (s : State) : State :=
  s.modGr k fun g => { g with nodes := if m = .inside then g.nodes <|> some (g.x, g.code) else none }

/-- BOUNDARY_WINDOW: the boundary window of rail k (R28). -/
def boundaryWindow (k : Fin 8) (w : WindowIn) (s : State) : State :=
  if s.dev = .off || s.dev = .boot then s
  else
    let s0 := routerEvent (0xD0 + k.val) (plateBase 0 k.val s)
    let m : MoveStage := if !s0.moving k then .outside else if (s0.ra k).gr.copied then .taken else .inside
    let s1 := if m = .taken then takeOver k s0 else s0
    let s2 := latchCodes k w.icode (latchX k w (holdNodes k m s1))
    let s3 := if s2.enabled k && m ≠ .inside then outerStep k (dueStep k s2) else dueStep k s2
    let held := decide (m ≠ .outside)
    let r := faultTimers k held s3
    windowWork k m w.ephBad (decidePG k held r.2 r.1)

/-- BOUNDARY_WINDOW. -/
def execBoundaryWindow (k : Fin 8) (w : WindowIn) (s : State) : Answer := done (boundaryWindow k w (s.atTime w.t))

/-! ### The declarations as events of their own -/

/-- RAILOV: the overvoltage count is complete (R285); once per episode. -/
def railOv (k : Fin 8) (s : State) : State :=
  let f := 96 + k.val
  if s.core && s.fnArmed f && s.fnOut f && !(s.ra k).pr.ovDone then
    raiseRail 0x07 k (s.modPr k fun p => { p with ov := s.g (F.FM_RAIL_PROT_OVDLY k.val) + 1, ovDone := true })
  else s

/-- RAILOV. -/
def execRailov (k : Fin 8) (s : State) : Answer := done (railOv k s)

/-- RAILUV: the undervoltage count is complete (R286); once per episode. -/
def railUv (k : Fin 8) (s : State) : State :=
  let f := 104 + k.val
  if s.uvArm k && s.fnArmed f && s.fnOut f && !(s.ra k).pr.uvDone then
    raiseRail 0x08 k (s.modPr k fun p => { p with uv := s.g (F.FM_RAIL_PROT_UVDLY k.val), uvDone := true })
  else s

/-- RAILUV. -/
def execRailuv (k : Fin 8) (s : State) : Answer := done (railUv k s)

/-- FOLLOWERR: FECNT has reached FETIME; the count returns to 0 (R176). -/
def followErr (k : Fin 8) (s : State) : State :=
  if s.enabled k && s.exceeds k then raiseRail 0x09 k (s.p (F.OL_STATUS_FECNT k.val) 0) else s

/-- FOLLOWERR. -/
def execFollowerr (k : Fin 8) (s : State) : Answer := done (followErr k s)

/-- PG_ASSERT: PGADLY samples in window are complete (R211). -/
def pgAssert (k : Fin 8) (s : State) : State :=
  if s.st k = .on && !s.timers k && s.inWindow k then setPG k true s else s

/-- PG_ASSERT. -/
def execPgAssert (k : Fin 8) (s : State) : Answer := done (pgAssert k s)

/-- PG_DEASSERT: PGDDLY samples out of window are complete (R211). -/
def pgDeassert (k : Fin 8) (s : State) : State :=
  if !s.timers k && !s.inWindow k then setPG k false s else s

/-- PG_DEASSERT. -/
def execPgDeassert (k : Fin 8) (s : State) : Answer := done (pgDeassert k s)

end Sys2Proof.Machine
end

