-- ==== Sys2Proof/Machine/Crypto.lean ====
section
/-!
DEFINITION. The checks of images, records, frames and challenges: CRC-32 (R69), the link's CRC-8 (R221), SHA-256 and
HMAC-SHA-256 (R68, R384: FIPS 180-4, FIPS 198-1), and the 256-byte image of a Ledger record (R334).
-/

namespace Sys2Proof.Machine

/-! ### CRC-32 (R69) -/

/-- One bit of the reflected CRC-32 register. -/
def crc32Bit (r : Nat) : Nat := if r % 2 = 1 then r / 2 ^^^ 0xEDB88320 else r / 2

/-- One byte of the reflected CRC-32 register. -/
def crc32Byte (r : Nat) (b : Byte) : Nat :=
  let r0 := r ^^^ b.toNat
  crc32Bit (crc32Bit (crc32Bit (crc32Bit (crc32Bit (crc32Bit (crc32Bit (crc32Bit r0)))))))

/-- CRC-32 of a list of bytes. -/
def crc32 (l : List Byte) : Nat := l.foldl crc32Byte 0xFFFFFFFF ^^^ 0xFFFFFFFF

/-! ### The link's CRC-8 (R221) -/

/-- One bit into the link's CRC-8. -/
def crc8Bit (r : Nat) (b : Bool) : Nat :=
  let sh := r * 2 % 256
  if (r / 128 == 1) != b then sh ^^^ 0x2F else sh

/-- The w bits of n, most significant first. -/
def bitsMsb : Nat → Nat → List Bool
  | 0, _ => []
  | w + 1, n => (n / 2 ^ w % 2 == 1) :: bitsMsb w n

/-- The CRC-8 of a list of bits. -/
def crc8 (l : List Bool) : Nat := l.foldl crc8Bit 0xFF

/-! ### SHA-256 and HMAC-SHA-256 -/

/-- The round constants of SHA-256. -/
def shaK0 : List Nat := [
  0x428A2F98, 0x71374491, 0xB5C0FBCF, 0xE9B5DBA5, 0x3956C25B, 0x59F111F1, 0x923F82A4, 0xAB1C5ED5,
  0xD807AA98, 0x12835B01, 0x243185BE, 0x550C7DC3, 0x72BE5D74, 0x80DEB1FE, 0x9BDC06A7, 0xC19BF174,
  0xE49B69C1, 0xEFBE4786, 0x0FC19DC6, 0x240CA1CC, 0x2DE92C6F, 0x4A7484AA, 0x5CB0A9DC, 0x76F988DA,
  0x983E5152, 0xA831C66D, 0xB00327C8, 0xBF597FC7, 0xC6E00BF3, 0xD5A79147, 0x06CA6351, 0x14292967]

/-- The round constants of SHA-256, second half. -/
def shaK1 : List Nat := [
  0x27B70A85, 0x2E1B2138, 0x4D2C6DFC, 0x53380D13, 0x650A7354, 0x766A0ABB, 0x81C2C92E, 0x92722C85,
  0xA2BFE8A1, 0xA81A664B, 0xC24B8B70, 0xC76C51A3, 0xD192E819, 0xD6990624, 0xF40E3585, 0x106AA070,
  0x19A4C116, 0x1E376C08, 0x2748774C, 0x34B0BCB5, 0x391C0CB3, 0x4ED8AA4A, 0x5B9CCA4F, 0x682E6FF3,
  0x748F82EE, 0x78A5636F, 0x84C87814, 0x8CC70208, 0x90BEFFFA, 0xA4506CEB, 0xBEF9A3F7, 0xC67178F2]

/-- The round constants of SHA-256. -/
def shaK : List Nat := shaK0 ++ shaK1

/-- The initial hash value of SHA-256. -/
def shaInit : List (BitVec 32) := [
  0x6A09E667, 0xBB67AE85, 0x3C6EF372, 0xA54FF53A,
  0x510E527F, 0x9B05688C, 0x1F83D9AB, 0x5BE0CD19]

/-- Rotate a word right. -/
def rotr (x : BitVec 32) (n : Nat) : BitVec 32 := x.rotateRight n

/-- A big-endian word of four bytes. -/
def beWord (l : List Byte) : BitVec 32 :=
  BitVec.ofNat 32 (l.foldl (fun a b => a * 256 + b.toNat) 0)

/-- The message schedule, newest word first: w more words are formed. -/
def schedule : Nat → List (BitVec 32) → List (BitVec 32)
  | 0, l => l
  | n + 1, l =>
    let w := fun (i : Nat) => l.getD (i - 1) 0
    let s0 := rotr (w 15) 7 ^^^ rotr (w 15) 18 ^^^ (w 15) >>> 3
    let s1 := rotr (w 2) 17 ^^^ rotr (w 2) 19 ^^^ (w 2) >>> 10
    schedule n ((s1 + w 7 + s0 + w 16) :: l)

/-- Working variables a-h of one block. -/
structure ShaVars where
  a : BitVec 32
  b : BitVec 32
  c : BitVec 32
  d : BitVec 32
  e : BitVec 32
  f : BitVec 32
  g : BitVec 32
  h : BitVec 32
  deriving DecidableEq, Repr

/-- One round. -/
def shaRound (v : ShaVars) (kw : Nat × BitVec 32) : ShaVars :=
  let s1 := rotr v.e 6 ^^^ rotr v.e 11 ^^^ rotr v.e 25
  let ch := (v.e &&& v.f) ^^^ (~~~ v.e &&& v.g)
  let t1 := v.h + s1 + ch + BitVec.ofNat 32 kw.1 + kw.2
  let s0 := rotr v.a 2 ^^^ rotr v.a 13 ^^^ rotr v.a 22
  let mj := (v.a &&& v.b) ^^^ (v.a &&& v.c) ^^^ (v.b &&& v.c)
  ⟨t1 + (s0 + mj), v.a, v.b, v.c, v.d + t1, v.e, v.f, v.g⟩

/-- One 64-byte block. -/
def shaBlock (hs : List (BitVec 32)) (block : List Byte) : List (BitVec 32) :=
  let w16 := (List.range 16).map fun i => beWord ((block.drop (4 * i)).take 4)
  let ws := (schedule 48 w16.reverse).reverse
  let h := fun (i : Nat) => hs.getD i 0
  let v := (shaK.zip ws).foldl shaRound ⟨h 0, h 1, h 2, h 3, h 4, h 5, h 6, h 7⟩
  [h 0 + v.a, h 1 + v.b, h 2 + v.c, h 3 + v.d, h 4 + v.e, h 5 + v.f, h 6 + v.g, h 7 + v.h]

/-- n blocks of a padded message. -/
def shaBlocks : Nat → List (BitVec 32) → List Byte → List (BitVec 32)
  | 0, hs, _ => hs
  | n + 1, hs, m => shaBlocks n (shaBlock hs (m.take 64)) (m.drop 64)

/-- The bytes of a number, most significant first, n of them. -/
def beBytes (n x : Nat) : List Byte := (leBytes n x).reverse

/-- SHA-256 (FIPS 180-4). -/
def sha256 (m : List Byte) : List Byte :=
  let z := (119 - m.length % 64) % 64
  let p := m ++ [0x80] ++ List.replicate z 0 ++ beBytes 8 (8 * m.length)
  (shaBlocks (p.length / 64) shaInit p).flatMap fun w => beBytes 4 w.toNat

/-- HMAC-SHA-256 (FIPS 198-1) with a 32-byte key. -/
def hmacSha256 (key m : List Byte) : List Byte :=
  let k := padTo 64 key
  sha256 (k.map (· ^^^ 0x5C) ++ sha256 (k.map (· ^^^ 0x36) ++ m))

/-! ### Ledger records (R334) -/

/-- Bytes 00h-FBh of a record. -/
def recordBody (r : LedgerRec) (pin : Bool) : List Byte :=
  padTo 252 (leBytes 4 r.seq ++ [1, BitVec.ofNat 8 r.rtype,
      BitVec.ofNat 8 ((if pin then 1 else 0) + (if r.tbdisc then 2 else 0) + (if r.notb then 4 else 0)),
      BitVec.ofNat 8 r.dstate]
    ++ leBytes 4 r.secs ++ leBytes 4 r.bootcnt ++ leBytes 6 r.tb ++ [BitVec.ofNat 8 (r.fine % 16), 0] ++ leBytes 2 r.dropped ++ padTo 6 []
    ++ padTo 32 r.event ++ padTo 98 r.snap)

/-- The 256 bytes of a record. -/
def recordBytes (r : LedgerRec) (pin : Bool) : List Byte :=
  let b := recordBody r pin
  b ++ leBytes 4 (crc32 b)

/-- Word i of a record. -/
def recordWord (r : LedgerRec) (pin : Bool) (i : Nat) : Nat := leNat (((recordBytes r pin).drop (4 * i)).take 4)

end Sys2Proof.Machine
end

