-- ==== Sys2Proof/Machine/Innkeeper.lean ====
section
/-!
DEFINITION. The Innkeeper's events (10_innkeeper.md): open and blind phases, ring rewrites, forecasts at their due
instant, wear and drift, the health area, phase tests and host requests.
-/

namespace Sys2Proof.Machine

/-- OPEN_PHASE: eight near-zero pulses in a row on an ACTIVE phase declare it open (R257). -/
def openPhase (n : Fin 48) (s : State) : State :=
  match s.railOf n.val with
  | none => s
  | some k =>
    if s.enabled k && (s.rl n).role == .active && s.g (F.INK_OPEN_OPENLOAD k.val) != 0 && decide (8 ≤ (s.rl n).near) then
      raisePhase 5 n false true s
    else s

/-- OPEN_PHASE. -/
def execOpenPhase (n : Fin 48) (s : State) : Answer := done (openPhase n s)

/-- Test 1 of R258 fails on phase n: 64 conversions in a row read 000h or FFFh. -/
def State.stuckFails (s : State) (n : Fin 48) : Bool := decide (64 ≤ (s.rl n).stuckN)

/-- Test 2 of R258 fails on group g: it has been out of agreement for TDWELL * 100 ms (1,280,000,000 fine steps each). -/
def State.thermalFails (s : State) (g : Nat) : Bool :=
  s.tooWarm g && match vget s.chk.warm (Fin.ofNat 6 g) with
    | some a => decide (s.g F.INK_HCFG_TDWELL * 1280000000 ≤ elapsed a s.clock)
    | none => false

/-- Test 3 of R258 fails on rail k: eight publications in a row out of agreement. -/
def State.sumFails (s : State) (k : Fin 8) : Bool :=
  s.gb (F.INK_XSENSE_XEN k.val) && s.st k == .on && decide (8 ≤ (s.ra k).ink.sumBad)

/-- BLIND_DECLARED: the stuck test (0), the thermal test (1) or the sum test (2) has failed and declares phase n, the suspect
(R258); on a phase under test the stuck test decides its result (R263). The thermal and sum tests then begin anew. -/
def blindDeclared (n : Fin 48) (test : Fin 3) (s : State) : State :=
  if (s.rl n).role = .test then
    (if test = 0 && s.stuckFails n then s.modRl n fun r => { r with stuck := true } else s)
  else
    match s.railOf n.val with
    | none => s
    | some k =>
      let g := groupOf n.val
      if (s.rl n).role ≠ .active then s
      else if test = 0 then (if s.stuckFails n then declareBlind n s else s)
      else if test = 1 then
        if s.thermalFails g && s.suspect (fun m => s.inRing m && groupOf m.val == g) == some n then
          declareBlind n { s with chk := { s.chk with warm := vset s.chk.warm (Fin.ofNat 6 g) none } }
        else s
      else if s.sumFails k && s.suspect (s.ring k).contains == some n then
        declareBlind n (s.modInk k fun i => { i with sumBad := 0 })
      else s

/-- BLIND_DECLARED. -/
def execBlindDeclared (n : Fin 48) (test : Fin 3) (s : State) : Answer := done (blindDeclared n test s)

/-- RING_REWRITE: the decisions, retirements and promotions that wait form a rewrite, which takes effect at a sequence
boundary (R252, R126). -/
def ringRewrite (k : Fin 8) (s : State) : State :=
  let s1 := formRewrite k s
  if (s1.ra k).ink.rewrite.isSome then
    if s1.enabled k then ringChangeWaits k s1 else applyRewrite k s1
  else s1

/-- RING_REWRITE. -/
def execRingRewrite (k : Fin 8) (s : State) : Answer := done (ringRewrite k s)

/-! ### Forecasts -/

/-- FORECAST_DUE (R253). -/
def execForecastDue (k : Fin 8) (s : State) : Answer := done (forecastDue k s)

/-! ### Health -/

/-- WEAR of phase n (R261). -/
def State.wearOf (s : State) (n : Nat) : Nat :=
  min 0xFFFF (s.g (F.PHASE_LIFEAH_AH n) / 2 ^ s.g F.INK_WEARCFG_AHSH + s.g (F.PHASE_LIFEPL_PULSES n) / 2 ^ s.g F.INK_WEARCFG_PLSH
    + s.g (F.PHASE_LIFETH_HOT n) / 2 ^ s.g F.INK_WEARCFG_HOTSH + s.g (F.PHASE_LIFETH_TCYC n) / 2 ^ s.g F.INK_WEARCFG_CYCSH)

/-- One more second of phase n's group hot, with SMODg high (R261). -/
def hotSecond (n : Fin 48) (s : State) : State :=
  let g := groupOf n.val
  if s.gb (F.STAGEGRP_CFG_SMODOUT g) && s.tsenValid g && decide ((16 * s.g F.INK_HCFG_THOT : Nat) ≤ s.tsen g) then
    let c := (s.rl n).hotFrac + 1
    if c = 28800 then (s.modRl n fun r => { r with hotFrac := 0 }).inc (F.PHASE_LIFETH_HOT n.val)
    else s.modRl n fun r => { r with hotFrac := c }
  else s

/-- The zero drift of phase n from the readings of the last second (R261). -/
def zeroDrift (n : Fin 48) (s : State) : State :=
  let r := s.rl n
  if r.zCnt = 0 then s
  else
    let d : Int := (r.zSum / r.zCnt : Nat) - s.g (F.SFE_ICAL_IZERO n.val)
    let s1 := (s.pi (F.PHASE_WEAR_ZDRIFT n.val) d).modRl n fun r => { r with zSum := 0, zCnt := 0 }
    if 4 * s.g F.INK_HCFG_ZDMAX < d.natAbs && !s.gb (F.PHASE_ROLE_DRIFT n.val) then
      q15Put .health (inkMessage 4 (some n) (s.msgRail n) 0 0 (ofSigned 16 d) (s1.pb (F.PHASE_ROLE_DRIFT n.val) true))
    else s1

/-- WEAR and WORN of phase n (R261). -/
def wearOne (n : Fin 48) (s : State) : State :=
  let w := s.wearOf n.val
  let max := s.g F.INK_WEARCFG_WEARMAX
  let worn := max != 0 && decide (max ≤ w)
  let s1 := s.p (F.PHASE_WEAR_WEAR n.val) w
  if worn == s1.gb (F.PHASE_ROLE_WORN n.val) then s1
  else
    let s2 := s1.pb (F.PHASE_ROLE_WORN n.val) worn
    q15Put .health (if worn then inkMessage 3 (some n) (s.msgRail n) 0 0 w s2 else s2)

/-- WEAR_UPDATE: once a second (R261). -/
def wearUpdate (s : State) : State :=
  if s.running then
    forAll (n := 48) (fun s n => if s.exists_ n.val then wearOne n (zeroDrift n (hotSecond n s)) else s) s
  else s

/-- WEAR_UPDATE. -/
def execWearUpdate (s : State) : Answer := done (wearUpdate s)

/-- HEALTH_SAVE: the counters and flags go to the health and calibration area (R262). -/
def execHealthSave (s : State) : Answer := done (if s.core then q15Put .health s else s)

/-- The thermal cycle detector of phase n takes its group's temperature t (R261). -/
def thermalCycle (t : Int) (n : Fin 48) (s : State) : State :=
  let amp : Int := 160 * (s.g F.INK_HCFG_TCYCAMP + 1)
  let r := s.rl n
  match r.cycExt with
  | none => s.modRl n fun r => { r with cycExt := some t }
  | some e =>
    if r.cycUp then
      if t ≤ e - amp then (s.modRl n fun r => { r with cycExt := some t, cycUp := false }).inc (F.PHASE_LIFETH_TCYC n.val)
      else s.modRl n fun r => { r with cycExt := some (max e t) }
    else if e + amp ≤ t then s.modRl n fun r => { r with cycExt := some t, cycUp := true }
    else s.modRl n fun r => { r with cycExt := some (min e t) }

/-! ### Tests and requests -/

/-- PHASE_TEST_END: the phase has counted TESTLEN period boundaries (R263). A message of an earlier epoch is dropped and counted (R2,
R245). -/
def phaseTestEnd (n : Fin 48) (epoch : BitVec 8) (s : State) : State :=
  if epoch ≠ (s.rl n).epoch then s.inc (F.PHASE_STALE_STALE n.val)
  else if s.g F.INK_TEST_TESTLEN ≤ (s.rl n).testRun then endTest n s else s

/-- PHASE_TEST_END. -/
def execPhaseTestEnd (x : TestMessage) (s : State) : Answer := done (phaseTestEnd x.n x.epoch s)

/-- A TEST request is acceptable (R263). -/
def State.mayTest (s : State) (n : Fin 48) : Bool :=
  let off := match s.railOf n.val with | some k => s.st k == .off | none => false
  let role := match (s.rl n).role with
    | .unassigned | .spare => true
    | .shed | .active => off
    | _ => false
  role && s.g (F.PHASE_CTL_MODE n.val) == 2 && s.exists_ n.val

/-- Phase n becomes TEST. -/
def beginTest (n : Fin 48) (s : State) : State :=
  let old := (s.rl n).role
  startPhase n (changeRole n .test 0 (s.modRl n fun r =>
    { r with before := old, testRun := 0, testSum := 0, testCnt := 0, stuckN := 0, stuck := false }))

/-- INK_REQSTAT takes a request's result. -/
def reqResult (n : Fin 48) (res : Nat) (s : State) : State :=
  (s.p F.INK_REQSTAT_RESULT res).p F.INK_REQSTAT_PHASE n.val

/-- A request through INK_REQ: its epoch is checked first (R245), then the conditions of its OP (R264): 1h RETIRE,
2h TEST, 3h ENDTEST. -/
def inkRequest (op : Nat) (n : Fin 48) (epoch : BitVec 8) (s : State) : State :=
  if epoch ≠ (s.rl n).epoch then
    inkMessage 7 (some n) (s.msgRail n) 0 0 op (reqResult n 3 (s.inc (F.PHASE_STALE_STALE n.val)))
  else
    let role := (s.rl n).role
    let ok := match op with
      | 1 => role != .retired && role != .unavailable
      | 2 => s.mayTest n
      | _ => role == .test
    if !ok then reqResult n 2 s
    else
      let s1 := reqResult n 1 s
      match op with
      | 1 => retirePhase n 5 (if role = .test then endTest n s1 else s1)
      | 2 => beginTest n s1
      | _ => endTest n s1

end Sys2Proof.Machine
end

