-- ==== Sys2Proof/Machine/Ranges.lean ====
section
/-!
DEFINITION. The ranges of the writable fields (R65, R397, R426): the range of each field alone, and the conditions a
chapter states across fields and registers, judged on given words of the registers.
-/

namespace Sys2Proof.Machine

/-- Fields with a range of their own: lowest bit, width, least and greatest value; a field not listed accepts every code
of its width (R65, R426). The set-point range VFLOOR must lie in is taken as that of VMIN and VMAX, 2500-33000 (R182; DESIGN
CHOICE, log entry 104). -/
def fieldRanges : RegId → List (Nat × Nat × Nat × Nat)
  | .phaseCtl => [(18, 2, 0, 2), (0, 2, 0, 2)]
  | .phasePeriod => [(0, 16, 320, 65535)]
  | .phaseTiming => [(16, 9, 32, 400), (0, 8, 16, 255)]
  | .peSyncCtl => [(16, 16, 320, 65535)]
  | .peSyncoCtl => [(4, 8, 8, 255)]
  | .capCtl => [(8, 8, 0, 231), (2, 2, 0, 2)]
  | .railMctl => [(12, 2, 0, 2)]
  | .railTon => [(0, 16, 320, 5333)]
  | .railTonmax => [(0, 18, 256, 256000)]
  | .railRip => [(16, 5, 8, 20)]
  | .railSpace => [(24, 6, 1, 32), (16, 8, 20, 255), (8, 6, 1, 32), (0, 8, 20, 255)]
  | .railOnset => [(24, 8, 1, 255), (0, 4, 1, 15)]
  | .railDe => [(24, 8, 1, 255)]
  | .railFf => [(0, 16, 320, 5333)]
  | .railLockcfg => [(24, 8, 1, 255), (0, 16, 0, 32767)]
  | .railSeq => [(0, 6, 0, 32)]
  | .railRing => [(24, 8, 0, 47), (16, 8, 0, 47), (8, 8, 0, 47), (0, 8, 0, 47)]
  | .graphHdr => [(16, 3, 0, 4)]
  | .graphPlace => [(4, 3, 0, 4)]
  | .graphCtl => [(8, 7, 1, 64)]
  | .graphStgDesc => [(28, 4, 1, 10), (21, 5, 0, 27), (16, 5, 0, 27)]
  | .olCtl => [(16, 6, 1, 32), (8, 2, 0, 2), (4, 4, 1, 8), (0, 4, 1, 8)]
  | .olCblim => [(16, 5, 8, 24)]
  | .olLl => [(0, 11, 0, 2000)]
  | .olCl => [(24, 4, 1, 15)]
  | .olFe => [(16, 16, 1, 65535), (0, 16, 1, 65535)]
  | .olFecls => [(0, 3, 0, 5)]
  | .olHzctl => [(16, 16, 2500, 33000), (8, 8, 1, 255), (4, 4, 1, 15)]
  | .olHzstep => [(8, 8, 1, 255), (0, 8, 1, 255)]
  | .olHzmax => [(0, 16, 0, 2000)]
  | .ephCtl => [(24, 4, 0, 8), (16, 8, 0, 231), (1, 2, 0, 2)]
  | .railVlim => [(16, 16, 2500, 33000), (0, 16, 2500, 33000)]
  | .railSlew => [(16, 16, 1, 2000), (0, 16, 1, 8000)]
  | .railProf => [(0, 10, 1, 1000)]
  | .railRamp => [(16, 16, 1, 8000), (0, 16, 1, 8000)]
  | .railStop => [(0, 16, 0, 33000)]
  | .railPgdly => [(16, 16, 1, 65535), (0, 16, 1, 65535)]
  | .railPgwin => [(16, 9, 1, 511), (0, 9, 1, 511)]
  | .railHzbk => [(0, 16, 1, 8000)]
  | .lnkCtl => [(4, 2, 1, 2)]
  | .inkCtl => [(24, 8, 1, 255), (8, 6, 1, 32), (4, 3, 0, 5)]
  | .inkOpen => [(0, 8, 1, 255)]
  | .inkXsense => [(24, 7, 0, 84)]
  | .inkEff => [(0, 6, 0, 32)]
  | .inkHcfg => [(24, 8, 1, 255), (16, 8, 1, 255), (4, 4, 1, 15), (0, 2, 0, 2)]
  | .inkTmodel => [(0, 4, 0, 10)]
  | .inkTest => [(16, 16, 1, 65535)]
  | .inkReq => [(28, 4, 1, 3), (16, 6, 0, 47)]
  | .fmCtl => [(16, 10, 1, 1000), (0, 3, 0, 6)]
  | .fmStrike => [(24, 4, 1, 15), (0, 16, 1, 65535)]
  | .fmRailHic => [(24, 8, 1, 255), (10, 10, 1, 1000), (0, 10, 1, 1000)]
  | .fmRailProt => [(16, 8, 1, 255)]
  | .fmPhCfg => [(24, 8, 1, 255), (16, 8, 1, 255), (0, 12, 3, 4095)]
  | .fmTemp => [(8, 8, 1, 255)]
  | .ptCtl => [(16, 8, 1, 255), (8, 2, 0, 2)]
  | .ptIns => [(24, 8, 1, 255), (16, 8, 1, 200), (0, 16, 1, 65535)]
  | .ptSense => [(20, 12, 1, 4095), (0, 16, 100, 65535)]
  | .ptRetry => [(16, 8, 1, 255), (0, 16, 1, 60000)]
  | .ptBrkcfg => [(0, 5, 4, 16)]
  | .ptPfw => [(8, 8, 1, 255)]
  | .ptLoad => [(16, 16, 32768, 65535)]
  | .npIns => [(24, 6, 1, 63), (16, 8, 1, 255), (8, 8, 1, 255), (0, 8, 1, 255)]
  | .tmCtl => [(0, 16, 1, 65535)]
  | .tmEffcfg => [(0, 16, 1, 65535)]
  | .lgCtl => [(8, 3, 0, 5)]
  | .plCtl => [(20, 4, 0, 4)]
  | .plTrig => [(28, 4, 0, 3), (16, 8, 0, 231), (14, 2, 0, 2)]
  | .hpmCtl => [(20, 4, 0, 8), (16, 4, 0, 8), (14, 2, 0, 2), (2, 8, 1, 255)]
  | .evPhsel => [(0, 3, 0, 4)]
  | .evInt => [(8, 2, 0, 2), (0, 8, 0, 231)]
  | .ghChal => [(28, 4, 1, 3), (8, 8, 1, 255)]
  | .ghKeyctl => [(28, 4, 1, 1), (0, 3, 0, 4)]
  | .ghAlarm => [(28, 4, 3, 15)]
  | _ => []

/-- Every field of a word lies within its own range. -/
def staticOk (id : RegId) (w : Word) : Bool :=
  (fieldRanges id).all fun r => decide (r.2.2.1 ≤ getBits w r.1 r.2.1) && decide (getBits w r.1 r.2.1 ≤ r.2.2.2)

/-- A written word w keeps every field within its own range; a HALT or RWL field written with its present value is not
refused on its account (R397). -/
def writtenOk (r : RegSpec) (old w : Word) : Bool :=
  (fieldRanges r.id).all fun x =>
    (decide (x.2.2.1 ≤ getBits w x.1 x.2.1) && decide (getBits w x.1 x.2.1 ≤ x.2.2.2))
      || (getBits old x.1 x.2.1 == getBits w x.1 x.2.1
        && r.fields.any fun f => f.lo == x.1 && (f.com == .halt || f.acc == .rwl))

/-- The classes FM_CLASS accepts for a FID (R275, R312); a FID outside the lists keeps its value. -/
def allowedClasses (fid : Nat) : List Nat :=
  match fid with
  | 0x03 => [0, 2]
  | 0x06 => [0, 2, 3, 4]
  | 0x07 | 0x08 => [0, 3, 4, 5]
  | 0x0C => [3, 4, 5]
  | 0x10 => [0, 4, 5]
  | 0x12 => [4, 5]
  | 0x18 | 0x19 | 0x1A | 0x1C | 0x1D => [0, 4, 5]
  | _ => []

/-- A nibble of FM_CLASS takes an allowed class, or the fixed value it reads (R275). -/
def classOk (fid v : Nat) : Bool :=
  if (allowedClasses fid).isEmpty then v == getBits (BitVec.ofNat 32 (fmClassReset (fid / 8))) (4 * (fid % 8)) 4
  else (allowedClasses fid).contains v

/-- An item code the telemetry stream knows (R327). -/
def itemOk (c : Nat) : Bool := c ≤ 0x54 || (0x60 ≤ c && c ≤ 0x86) || c == 0xFF

/-- A Plate node the capture knows (R339). -/
def nodeOk (w : Word) : Bool :=
  let ix := getBits w 0 24
  match getBits w 24 8 with
  | 0 => true
  | 1 | 2 | 3 | 4 | 5 | 6 => decide (ix < 8)
  | 7 => decide (ix < 48)
  | 8 => decide (ix < 4)
  | 9 => decide (ix < 85)
  | 10 => true
  | _ => false

/-- BIDX names a rail, a phase or a router source, as BASE asks (R338). -/
def plateBaseOk (base bidx : Nat) : Bool :=
  match base with
  | 0 => decide (bidx < 8)
  | 3 => decide (bidx < 48)
  | 4 => decide (bidx < 0xE8)
  | _ => true

/-- Samples of one channel count a Plate holds (R339). -/
def plateDepth (nchc : Nat) : Nat := 4096 / 2 ^ nchc

/-- The Ephemeris tables of the rails: length 0 or 16-2048, inside the memory, no two overlapping (R183). -/
def tablesOk (t : List (Nat × Nat)) : Bool :=
  (t.all fun x => x.2 == 0 || (decide (16 ≤ x.2) && decide (x.2 ≤ 2048) && decide (x.1 + x.2 ≤ 16384)))
    && (t.zipIdx.all fun x => t.zipIdx.all fun y =>
      x.2 == y.2 || x.1.2 == 0 || y.1.2 == 0 || decide (x.1.1 + x.1.2 ≤ y.1.1) || decide (y.1.1 + y.1.2 ≤ x.1.1))

/-- The slots of a binding: no rail in two valid slots (R216). -/
def bindOk (w : Word) : Bool :=
  (List.range 4).all fun i => (List.range 4).all fun j =>
    i == j || getBits w (24 + i) 1 == 0 || getBits w (24 + j) 1 == 0 || getBits w (4 * i) 3 != getBits w (4 * j) 3

/-- The registers of phases, which an odd phase of a paired group has not (PHASE[n]; files 04 and 10). -/
def isPhaseReg : RegId → Bool
  | .phaseCtl | .phasePeriod | .phaseDuty | .phaseOfs | .phaseDt | .phaseTiming | .phaseTripcfg | .phaseStatus
  | .phaseLimcnt | .phaseActper | .phaseActduty | .phaseAssign | .phaseStale | .phaseWear | .phaseLifeah
  | .phaseLifepl | .phaseLifeth => true
  | _ => false

/-- The register reads 0 and refuses writes: an odd phase of a paired group, CMP[c].TRACK outside C96-C111 (R395). -/
def State.absent (s : State) (x : Loc) : Bool :=
  (isPhaseReg x.spec.id && !s.exists_ x.i) || (x.spec.id == .cmpTrack && !(96 ≤ x.i && x.i < 112))

/-- The conditions across fields and registers for the register x, on the words pv gives (R65, R426). -/
def crossOk (s : State) (pv : Nat → Word) (x : Loc) : Bool :=
  let g := fun (f : Fld) => getBits (pv f.addr) f.lo f.w
  let gi := fun (f : Fld) => toSigned f.w (g f)
  let i := x.i
  match x.spec.id with
  | .phaseCtl | .phasePeriod => g (F.PHASE_CTL_MODE i) != 2 || decide (g (F.PHASE_PERIOD_PERIOD i) ≤ 5333)
  | .peSyncCtl =>
    decide (g F.PE_SYNCO_CTL_SYNCOOFS < 16 * g F.PE_SYNC_CTL_SYNCPER)
      && (List.range 8).all fun k => decide (g (F.RAIL_LOCKOFS_LOCKOFS k) < 16 * g F.PE_SYNC_CTL_SYNCPER)
  | .peSyncoCtl => decide (g F.PE_SYNCO_CTL_SYNCOOFS < 16 * g F.PE_SYNC_CTL_SYNCPER)
  | .railLockofs => decide (g (F.RAIL_LOCKOFS_LOCKOFS i) < 16 * g F.PE_SYNC_CTL_SYNCPER)
  | .inkReq => decide (1 ≤ g F.INK_REQ_OP) && decide (g F.INK_REQ_OP ≤ 3)
  | .evRtr => isLevelSource (g (F.EV_RTR_SRC i))
  | .railDe =>
    decide (g (F.RAIL_DE_DEENTER i) < g (F.RAIL_DE_DEEXIT i))
      || (g (F.RAIL_DE_DEENTER i) == 0 && g (F.RAIL_DE_DEEXIT i) == 0)
  | .olHzslk | .olHzstep =>
    decide (gi (F.OL_HZSTEP_SLKCRIT i) ≤ gi (F.OL_HZSLK_SLKLO i))
      && decide (gi (F.OL_HZSLK_SLKLO i) ≤ gi (F.OL_HZSLK_SLKHI i))
  | .ephTbl => tablesOk ((List.range 8).map fun k => (g (F.EPH_TBL_EBASE k), g (F.EPH_TBL_ELEN k)))
  | .ephGain =>
    g (F.EPH_GAIN_EFORGET i) == 0
      || (decide (4 ≤ g (F.EPH_GAIN_EFORGET i)) && decide (g (F.EPH_GAIN_EFORGET i) ≤ 24))
  | .railVlim => decide (g (F.RAIL_VLIM_VMIN i) ≤ g (F.RAIL_VLIM_VMAX i))
  | .railVset =>
    decide (g (F.RAIL_VLIM_VMIN i) ≤ g (F.RAIL_VSET_VSET i)) && decide (g (F.RAIL_VSET_VSET i) ≤ g (F.RAIL_VLIM_VMAX i))
  | .railSeqctl => g (F.RAIL_SEQCTL_ENMODE i) != 3 || g (F.RAIL_SEQCTL_INGRP i) == 1
  | .lnkEpBind => bindOk (pv (A.LNK_EP_BIND i x.j))
  | .cmpCtl => g (F.CMP_CTL_ARM i) == 0 || !(decide (i < 96) && !s.exists_ (i % 48))
  | .fmClass => (List.range 8).all fun n => classOk (8 * i + n) (getBits (pv (A.FM_CLASS i)) (4 * n) 4)
  | .tmItem => itemOk (g (F.TM_ITEM_ITEM i))
  | .plCtl =>
    plateBaseOk (g (F.PL_CTL_BASE i)) (g (F.PL_CTL_BIDX i))
      && decide (g (F.PL_PRE_PRE i) < plateDepth (g (F.PL_CTL_NCHC i)))
  | .plPre => decide (g (F.PL_PRE_PRE i) < plateDepth (g (F.PL_CTL_NCHC i)))
  | .plNode => nodeOk (pv (A.PL_NODE i x.j))
  | .plExp => g F.PL_EXP_GO == 0 || ((vget s.plate (Fin.ofNat 4 (g F.PL_EXP_PLATE))).st == .done && s.exp.isNone)
  | .hpmCtl => g F.HPM_CTL_GO == 0 || (g F.HPM_CTL_MEN == 1 && !s.gb F.HPM_STATUS_MBUSY)
  | .qStat => decide (1 ≤ g (F.Q_STAT_WMARK i)) && decide (g (F.Q_STAT_WMARK i) ≤ qDepth i)
  | .ghChal => g F.GH_CHAL_CMD != 1 || decide (g F.GH_CHAL_SCOPE < 32)
  | .deviceCtl => !(g F.DEVICE_CTL_SLEEP == 1 && g F.DEVICE_CTL_SAFE_EXIT == 1)
  | _ => true

/-- Every field of register x, whose word was old, stays within its range, on the words pv gives (R397, R426). -/
def rangeOk (s : State) (pv : Nat → Word) (x : Loc) (a : Nat) (old : Word) : Bool :=
  !s.absent x && writtenOk x.spec old (pv a) && crossOk s pv x

end Sys2Proof.Machine
end

