-- ==== Sys2Proof/Machine/View.lean ====
section
/-!
DEFINITION. What a read returns (R397, R398): the stored word of a register with the fields that report other state laid
over it, the latched upper halves of each master, and the Plate and record windows.
-/

namespace Sys2Proof.Machine

/-- One bit as a number. -/
def bit (b : Bool) : Nat := if b then 1 else 0

/-- The upper halves latched for a master (R398). -/
def State.hiOf (s : State) (m : Master) : HiLatch := s.hi.toList.getD (masterCode m) .reset

/-- EIN in mJ, as the 48-bit counter holds it (R319). -/
def State.einMj (s : State) : Nat := ofSigned 48 (s.pt.ein / 1600000)

/-- ERAIL[k] in mJ (R319). -/
def State.erailMj (s : State) (k : Fin 8) : Nat := ofSigned 48 (vget s.pt.erail k / 64000000)

/-- The host target address of the latest strap sample; an undecodable strap is level 0 (R49, R50). -/
def State.hostAddr (s : State) : Nat :=
  0x40 + 4 * (s.sup.addr1.getD 0).val + (s.sup.addr0.getD 0).val

/-- Some strap failed to decode (R45, R50). -/
def State.strapErr (s : State) : Bool :=
  s.sup.addr0.isNone || s.sup.addr1.isNone || s.sup.smod.toList.contains .undecodable

/-- The code of OUTSTATE; FORCELVL drives the output while the block does not run (R93, PHASE[n].CTL), also where FORCEOFF holds the
group (DESIGN CHOICE, log entry 128: the two field descriptions conflict, and a test drives what it names). -/
def State.outState (s : State) (n : Fin 48) : Nat :=
  if s.gb (F.PHASE_CTL_FORCEEN n.val) && !s.phRuns n then s.g (F.PHASE_CTL_FORCELVL n.val)
  else match (s.ph n).out with | .off => 0 | .low => 1 | .high => 2

/-- The spare lane as reported: the one of R140 once an image has placed the rails, SPARE's reset value M4 before. -/
def State.spareShown (s : State) : Option (Fin 5) := if s.img.applied then s.spareNamed else some 4

/-- A lane's role (LANE[m].STATUS.ROLE). -/
def State.laneRole (s : State) (m : Fin 5) : LaneRole :=
  if s.laneRet m.val then .retired
  else if s.laneBusy m then .working
  else if s.spareShown = some m then .spare else .idle

/-- The code of a lane's role. -/
def LaneRole.code : LaneRole → Nat
  | .working => 0 | .spare => 1 | .idle => 2 | .retired => 3

/-- The rail in half-frame h of lane m. -/
def State.railAt (s : State) (m : Fin 5) (h : Bool) : Option (Fin 8) :=
  (allFin 8).find? fun k => (s.ra k).gr.home == some (m, h)

/-- The fields of a lane's half-frame: valid, and its rail. -/
def State.halfFields (s : State) (m : Fin 5) : List (Fld × Nat) :=
  [(F.LANE_STATUS_AVALID m.val, bit (s.railAt m false).isSome),
   (F.LANE_STATUS_RAILA m.val, match s.railAt m false with | some k => k.val | none => 0),
   (F.LANE_STATUS_BVALID m.val, bit (s.railAt m true).isSome),
   (F.LANE_STATUS_RAILB m.val, match s.railAt m true with | some k => k.val | none => 0)]

/-- FAULT# is driven low (R295). -/
def State.faultPin (s : State) : Bool :=
  s.gb F.FM_STATUS_FPEND || s.dev == .boot || s.dev == .safe || (s.dev == .lockdown && s.gb F.DEVICE_STATUS_SAFEACT)

/-- The rails a stage group's or a board sensor affects, as a mask (R287). -/
def State.affectMask (s : State) (i : Nat) : Nat :=
  (List.range 8).foldl (fun a k => a + bitIf (s.affects i (Fin.ofNat 8 k)) k) 0

/-- A group stop is under way: GEN is 0 and a member still runs (R209). -/
def State.groupStopping (s : State) (g : Nat) : Bool :=
  !s.gb (F.SEQGRP_CTL_GEN g) && (s.members g).any fun k => !s.groupOff g k

/-- SPARE phases of rail k's pool. -/
def State.nspare (s : State) (k : Fin 8) : Nat :=
  ((allFin 48).filter fun n => s.railOf n.val == some k && (s.rl n).role == .spare).length

/-- The overlay of INK[k].STATUS (R249, R252, R254). -/
def State.inkStatus (s : State) (k : Fin 8) : List (Fld × Nat) :=
  [(F.INK_STATUS_CAPLIM k.val, match s.capOf k with | some c => min c 0xFFE | none => 0xFFF),
   (F.INK_STATUS_NACT k.val, (s.activeOf k).length), (F.INK_STATUS_NAVAIL k.val, s.navail k),
   (F.INK_STATUS_NSPARE k.val, s.nspare k), (F.INK_STATUS_EFFBAD k.val, bit (s.effBad k.val)),
   (F.INK_STATUS_REWPEND k.val, bit (s.ra k).ink.rewrite.isSome)]

/-- Code of PL[p].STATUS.STATE (R340). -/
def PlateState.code : PlateState → Nat
  | .idle => 0 | .armed => 1 | .capturing => 2 | .done => 3

/-- Word i of a done Plate's data area; 0 otherwise and beyond NSAMP x NCH (R341). -/
def State.plateWord (s : State) (p : Fin 4) (i : Nat) : Word :=
  let r := vget s.plate p
  let nch := 2 ^ r.nchc
  if r.st = .done then (r.buf.getD (i / nch) []).getD (i % nch) 0 else 0

/-- Sequence number of the newest good record the ring holds, 0 for none (LG_HEAD, R344). -/
def State.headSeq (s : State) : Nat :=
  match s.nv.ring.find? fun r => !s.nv.bad.contains r.seq with | some r => r.seq | none => 0

/-- Ledger record writes wait in Q15 (LG_INFO.BUSY). -/
def State.recordsWait (s : State) : Bool :=
  s.nv.q15.any fun w => match w with | .record _ _ => true | _ => false

/-- The codes a session shows in GH_SESS (R385). -/
def State.sessFields (s : State) : List (Fld × Nat) :=
  match s.gate.session with
  | some x => [(F.GH_SESS_MASTER, masterCode x.holder), (F.GH_SESS_OPEN, 1), (F.GH_SESS_SCOPE, x.scopes.toNat),
               (F.GH_SESS_REMAIN, x.left)]
  | none => [(F.GH_SESS_MASTER, 0), (F.GH_SESS_OPEN, 0), (F.GH_SESS_SCOPE, 0), (F.GH_SESS_REMAIN, 0)]

/-- Lockout seconds left, held at FFFFh (GH_STAT.LOCKREM). -/
def State.lockRem (s : State) : Nat := min 0xFFFF (s.gate.bank.lockEnd - s.g F.NP_SECS_SECS)

/-- Key slots that hold a key, as a mask (GH_KEYCTL.PRESENT). -/
def State.keyMask (s : State) : Nat :=
  (List.range 5).foldl (fun a i => a + bitIf (s.gate.bank.keys.toList.getD i none).isSome i) 0

/-- The fields of a register that report state held elsewhere, with their values: blocks 00h to 05h. -/
def State.overlay0 (s : State) (m : Master) (x : Loc) : List (Fld × Nat) :=
  match x.spec.id with
  | .deviceId => [(⟨0, 0, 32⟩, 0x39A5B020)]
  | .deviceSerialLo => [(⟨0, 0, 32⟩, Config.serial.toNat % 2 ^ 32)]
  | .deviceSerialHi => [(⟨0, 0, 32⟩, Config.serial.toNat / 2 ^ 32)]
  | .deviceStatus => [(F.DEVICE_STATUS_STATE, s.dev.code)]
  | .strapStatus => [(F.STRAP_STATUS_HOSTADDR, s.hostAddr), (F.STRAP_STATUS_STRAPERR, bit s.strapErr),
      (F.STRAP_STATUS_SGPAIRED, (List.range 6).foldl (fun a g => a + bitIf (s.paired g) g) 0),
      (F.STRAP_STATUS_BOOTSEL, bit s.sup.bootsel), (F.STRAP_STATUS_ADDR1LVL, (s.sup.addr1.getD 0).val),
      (F.STRAP_STATUS_ADDR0LVL, (s.sup.addr0.getD 0).val)]
  | .supplyStatus => [(F.SUPPLY_STATUS_HVINOK, bit s.sup.hvin), (F.SUPPLY_STATUS_VIOLOK, bit s.sup.viol),
      (F.SUPPLY_STATUS_VIOHOK, bit s.sup.vioh)]
  | .tbCountLo => [(F.TB_COUNT_LO_COUNTLO, s.tb.toNat % 2 ^ 32)]
  | .tbCountHi => [(F.TB_COUNT_HI_COUNTHI, (s.hiOf m).tb.toNat)]
  | .tbSecmarkLo => [(F.TB_SECMARK_LO_MARKLO, s.secMark.toNat % 2 ^ 32)]
  | .tbSecmarkHi => [(F.TB_SECMARK_HI_MARKHI, (s.hiOf m).mark.toNat)]
  | .npRstate => [(F.NP_RSTATE_REMWAIT, s.remNow)]
  | .ptStatus => [(F.PT_STATUS_STATE, s.ptSt), (F.PT_STATUS_RCNT, s.g F.NP_RSTATE_RCNT),
      (F.PT_STATUS_ORBON, bit (vget s.np.gate 1)), (F.PT_STATUS_ORAON, bit (vget s.np.gate 0)),
      (F.PT_STATUS_HSON, bit s.np.hs), (F.PT_STATUS_FEEDB, bit (s.feed 1)), (F.PT_STATUS_FEEDA, bit (s.feed 0))]
  | .ptEinLo => [(F.PT_EIN_LO_ELO, s.einMj % 2 ^ 32)]
  | .ptEinHi => [(F.PT_EIN_HI_EHI, (s.hiOf m).ein.toNat)]
  | .ptErailLo => [(F.PT_ERAIL_LO_ELO x.i, s.erailMj (Fin.ofNat 8 x.i) % 2 ^ 32)]
  | .ptErailHi => [(F.PT_ERAIL_HI_EHI x.i, (vget (s.hiOf m).erail (Fin.ofNat 8 x.i)).toNat)]
  | .imgStatus => [(F.IMG_STATUS_SECFLOOR, s.gate.bank.floor), (F.IMG_STATUS_BUSY, bit s.img.verifying.isSome),
      (F.IMG_STATUS_PROVISIONED, bit s.gate.bank.provisioned),
      (F.IMG_STATUS_RUNSLOT, match s.img.running with | some r => r.val | none => 0)]
  | .imgSlotStatus =>
    let sl := vget s.img.slots (Fin.ofNat 2 x.i)
    [(F.IMG_SLOT_STATUS_SECVER x.i, sl.secver), (F.IMG_SLOT_STATUS_CAUSE x.i, sl.cause),
     (F.IMG_SLOT_STATUS_TRIED x.i, bit sl.tried),
     (F.IMG_SLOT_STATUS_RUNNING x.i, bit (s.img.running == some (Fin.ofNat 2 x.i))),
     (F.IMG_SLOT_STATUS_TRIAL x.i, bit sl.trial), (F.IMG_SLOT_STATUS_PREFERRED x.i, bit sl.preferred),
     (F.IMG_SLOT_STATUS_VALID x.i, bit (sl.cause == 0))]
  | .imgSlotSeq => [(F.IMG_SLOT_SEQ_SEQ x.i, (vget s.img.slots (Fin.ofNat 2 x.i)).seq)]
  | .groupState =>
    let g := s.g F.GROUP_STATE_GROUP
    let i := s.g F.GROUP_STATE_INDEX
    [(F.GROUP_STATE_ARMED, bit (s.isArmed g i)), (F.GROUP_STATE_STAGED, bit (!(s.stagedOf g i).isEmpty))]
  | .nvStatus => [(F.NV_STATUS_SPARELEFT, s.nv.spare), (F.NV_STATUS_REMAPS, min 0xFF s.nv.remaps)]
  | .nvScrub => [(F.NV_SCRUB_LASTSCRUB, s.nv.lastScrub)]
  | .hnvData => [(F.HNV_DATA_DATA, (SMap.get (fun _ => (0 : Word)) s.nv.hnv (s.g F.HNV_ADDR_WADDR)).toNat)]
  | .lgHead => [(F.LG_HEAD_HEADSEQ, s.headSeq)]
  | .lgInfo => [(F.LG_INFO_PINVALID, bit s.nv.pinned.isSome), (F.LG_INFO_BUSY, bit s.recordsWait)]
  | .lgBootcnt => [(F.LG_BOOTCNT_BOOTCNT, s.nv.health.bootcnt)]
  | .lgWin => [(⟨0, 0, 32⟩, match s.nv.win with | some r => recordWord r s.nv.winPin x.i | none => 0)]
  | _ => []

/-- The overlay of blocks 08h to 13h. -/
def State.overlay1 (s : State) (x : Loc) : List (Fld × Nat) :=
  let n := Fin.ofNat 48 x.i
  let k := Fin.ofNat 8 x.i
  match x.spec.id with
  | .stagegrpCfg => [(F.STAGEGRP_CFG_PAIRED x.i, bit (s.paired x.i))]
  | .phaseStatus => [(F.PHASE_STATUS_TRIPIN x.i, s.trips n), (F.PHASE_STATUS_EFFMODE x.i, s.mode n),
      (F.PHASE_STATUS_OUTSTATE x.i, s.outState n), (F.PHASE_STATUS_SYNCMIS x.i, bit (s.syncMis n))]
  | .railSeq => [(F.RAIL_SEQ_POS x.i, (s.ra k).md.pos)]
  | .railThnow => [(F.RAIL_THNOW_RIPCODE x.i, ofSigned 10 (s.ra k).md.ripcode)]
  | .graphStatus => [(F.GRAPH_STATUS_GVALID x.i, bit (s.gvalid x.i)),
      (F.GRAPH_STATUS_RUNLANE x.i, match (s.ra k).gr.home with | some h => h.1.val | none => 7),
      (F.GRAPH_STATUS_RUNHALF x.i, match (s.ra k).gr.home with | some h => bit h.2 | none => 0),
      (F.GRAPH_STATUS_INNERCYC x.i, min 0xFF (s.innerCyc x.i))]
  | .leStatus => [(F.LE_STATUS_SPARE, match s.spareShown with | some l => l.val | none => 7),
      (F.LE_STATUS_NOSPARE, bit s.spareShown.isNone), (F.LE_STATUS_MOVING, bit ((allFin 8).any s.moving))]
  | .laneStatus =>
    (F.LANE_STATUS_ROLE x.i, (s.laneRole (Fin.ofNat 5 x.i)).code) :: s.halfFields (Fin.ofNat 5 x.i)
  | .olStatus => [(F.OL_STATUS_HZLOWER x.i, bit (s.mayLower k)),
      (F.OL_STATUS_FERUN x.i, bit (s.g (F.OL_STATUS_FECNT x.i) != 0))]
  | .railOn => [(F.RAIL_ON_ON x.i, s.g (F.RAIL_TSTAT_REQON x.i))]
  | .railTstat => [(F.RAIL_TSTAT_STATE x.i, (s.st k).code)]
  | .seqgrpStatus => [(F.SEQGRP_STATUS_GSTOPPING x.i, bit (s.groupStopping x.i)),
      (F.SEQGRP_STATUS_GUP x.i, bit (!(s.members x.i).isEmpty
        && (s.members x.i).all fun j => s.gb (F.RAIL_TSTAT_PG j.val)))]
  | .inkStatus => s.inkStatus k
  | .inkBase => (List.range 4).map fun i =>
      (⟨0, 8 * i, 8⟩, match (s.ra k).ink.base[4 * x.j + i]? with | some n => n.val | none => 0)
  | .phaseRole => [(F.PHASE_ROLE_EPOCH x.i, (s.rl n).epoch.toNat), (F.PHASE_ROLE_ROLE x.i, (s.rl n).role.code)]
  | _ => []

/-- The overlay of blocks 14h to 1Fh. -/
def State.overlay2 (s : State) (x : Loc) : List (Fld × Nat) :=
  let k := Fin.ofNat 8 x.i
  match x.spec.id with
  | .ephtab =>
    let e := fun (i : Nat) => (SMap.get (fun _ => (0 : BitVec 16)) s.ephTab i).toNat
    [(⟨0, 0, 32⟩, e (2 * x.i) + 65536 * e (2 * x.i + 1))]
  | .fmStatus => [(F.FM_STATUS_FAULTPIN, bit s.faultPin)]
  | .fmRailStat => [(F.FM_RAIL_STAT_OTRUN x.i, bit (s.otRun k)),
      (F.FM_RAIL_STAT_UVRUN x.i, bit ((s.ra k).pr.uv != 0)), (F.FM_RAIL_STAT_OVRUN x.i, bit ((s.ra k).pr.ov != 0)),
      (F.FM_RAIL_STAT_TIMERS x.i, bit (s.timers k)), (F.FM_RAIL_STAT_UVARM x.i, bit (s.uvArm k))]
  | .fmPhStat => [(F.FM_PH_STAT_DIGOC x.i, bit ((s.covered x.i && (s.ph (Fin.ofNat 48 x.i)).digOc)
      || (s.onModel x.i && (s.ph (Fin.ofNat 48 x.i)).modelOc)))]
  | .fmTemp => if x.i < 6 then [(F.FM_TEMP_RMASK x.i, s.affectMask x.i)] else []
  | .lnkStatus => [(F.LNK_STATUS_SILENT x.i,
      bit (!s.gb (F.LNK_CTL_PEN x.i) || !s.sup.viol || s.dev == .boot || s.dev == .off))]
  | .qStat => [(F.Q_STAT_COUNT x.i, if x.i = 15 then s.q15Len else (s.q (Fin.ofNat 16 x.i)).length)]
  | .evPend => [(F.EV_PEND_LEVEL, s.evLevel / 65536)]
  | .plStatus =>
    let r := vget s.plate (Fin.ofNat 4 x.i)
    [(F.PL_STATUS_STATE x.i, r.st.code), (F.PL_STATUS_NSAMP x.i, r.buf.length), (F.PL_STATUS_PREGOT x.i, r.pre)]
  | .plExp => [(F.PL_EXP_BUSY, bit s.exp.isSome)]
  | .plData => [(⟨0, 0, 32⟩, (s.plateWord (Fin.ofNat 4 x.i) x.j).toNat)]
  | .ghAcc => [(⟨0, 5, 1⟩, 1), (⟨0, 13, 1⟩, 1)] ++ (if x.i = 4 then [(⟨0, 2, 2⟩, 0), (⟨0, 10, 2⟩, 0)] else [])
  | .ghNonce => [(⟨0, 0, 32⟩, match s.gate.nonce with
      | some n => n.value.toNat / 2 ^ (32 * x.i) % 2 ^ 32 | none => 0)]
  | .ghSess => s.sessFields
  | .ghStat => [(F.GH_STAT_FAILCNT, min 15 s.gate.bank.failcnt), (F.GH_STAT_NONCEVALID, bit s.gate.nonce.isSome),
      (F.GH_STAT_LOCKREM, s.lockRem)]
  | .ghUcnt => [(F.GH_UCNT_UCNT, s.gate.bank.ucnt.toNat)]
  | .ghKeyctl => [(F.GH_KEYCTL_PRESENT, s.keyMask)]
  | _ => []

/-- Lay fields over a word. -/
def layOver (w : Word) (l : List (Fld × Nat)) : Word := l.foldl (fun w x => setBits w x.1.lo x.1.w x.2) w

/-- What master m reads of the register x at address a, the access itself left out (R398). -/
def State.viewLoc (s : State) (m : Master) (x : Loc) (a : Nat) : Word :=
  if s.absent x then 0
  else layOver (layOver (layOver (s.word a) (s.overlay0 m x)) (s.overlay1 x)) (s.overlay2 x)

/-- What master m reads at address a; 0 where it is unmapped (R395). -/
def State.view (s : State) (m : Master) (a : Nat) : Word :=
  match locate a with
  | some x => s.viewLoc m x a
  | none => 0

end Sys2Proof.Machine
end

