-- ==== Sys2Proof/Machine/Gate.lean ====
section
/-!
DEFINITION. The Gatehouse (15_queues_gatehouse.md): the checks of an access (R379-R383), challenge and response (R384-R386),
sessions (R385), the security alarm (R389), keys (R387) and the records of its events (R391).
-/

namespace Sys2Proof.Machine

/-! ### Checks of an access -/

/-- Bit of a master in a GH_ACC half: SUP is always granted, the links never to the image manager (R379). -/
def State.granted (s : State) (m : Master) (t : Nat) (write : Bool) : Bool :=
  match m with
  | .sup => true
  | _ =>
    if 32 ≤ t then true
    else if t = 4 && (m == .fl0 || m == .fl1) then false
    else bitAt (s.g (if write then F.GH_ACC_WR t else F.GH_ACC_RD t)) (masterCode m)

/-- The rail of a rail-indexed register's window (R380). -/
def railWindow (a : Nat) : Option Nat :=
  let o := a % 65536
  match a / 65536 with
  | 0x0A => if o < 8 * 0x400 then some (o / 0x400) else none
  | 0x10 => if o < 8 * 0x1000 then some (o / 0x1000)
      else if 0x9000 ≤ o && o < 0x9800 then some ((o - 0x9000) / 0x100) else none
  | 0x11 => if o < 0x800 then some (o / 0x100) else none
  | 0x12 => if o < 0x200 then some (o / 0x40) else none
  | _ => none

/-- The lock scope of a block's RWL fields (R382). -/
def lockScope (t : Nat) : Option Nat :=
  match t with
  | 0x0B | 0x0D => some 0
  | 0x02 | 0x03 | 0x05 | 0x0C | 0x10 | 0x11 | 0x15 | 0x18 => some 1
  | 0x13 => some 2
  | 0x17 => some 3
  | _ => none

/-- Master m holds an open session that includes a scope (R385). -/
def State.holds (s : State) (m : Master) (scope : Nat) : Bool :=
  match s.gate.session with
  | some x => x.holder == m && bitAt x.scopes.toNat scope
  | none => false

/-- The RWL fields of block t are locked for master m (R382, R383); SUP bypasses the locks (R371). -/
def State.lockedFor (s : State) (m : Master) (t : Nat) : Bool :=
  match lockScope t with
  | some c => bitAt (s.g F.GH_LOCK_LOCK) c && !s.holds m c && m != .sup
  | none => false

/-- The KIND a read of address a is refused with (R379, R381). -/
def State.gateRead (s : State) (m : Master) (a : Nat) : Option Nat :=
  if s.granted m (a / 65536) false then none else some 1

/-- The KIND a write of address a is refused with; `locked` says that it would change a locked field (R381, R382). -/
def State.gateWrite (s : State) (m : Master) (a : Nat) (locked : Bool) : Option Nat :=
  if m = .sup then none
  else if s.dev = .lockdown then some 5
  else if m = .dbg && !s.holds .dbg 4 then some 6
  else if !s.granted m (a / 65536) true then some 2
  else match railWindow a with
    | some k => if bitAt (s.g (F.GH_RAILW_RAILS (masterCode m))) k then (if locked then some 4 else none) else some 3
    | none => if locked then some 4 else none

/-! ### Writes of the non-volatile store (R329, R330) -/

/-- A word is corrected (R329). -/
def countCorr (n : Nat) (s : State) : State := s.incBy F.NV_STATUS_CORR n

/-- A sector's write count. -/
def putWrites (sector n : Nat) (s : State) : State :=
  { s with nv := { s.nv with writes := SMap.set (fun _ => (0 : Nat)) s.nv.writes sector n } }

/-- A logical sector is remapped to a spare, where one is left, and its write count starts again (R330); which physical sector that is,
the spec leaves open. -/
def remap (sector : Nat) (s : State) : State :=
  if s.nv.spare = 0 then s
  else
    let d := s.draw
    let s1 := { d.2 with nv := { d.2.nv with spare := d.2.nv.spare - 1, remaps := d.2.nv.remaps + 1 } }
    putWrites sector 0 (record 0x0A ([byte 1, 0] ++ leBytes 2 sector ++ leBytes 2 (Config.freeNat d.1)) s1)

/-- Writes after which a sector is remapped: half the endurance (R330). -/
def writeLimit : Nat := 500000000

/-- A write of a logical sector is counted, and the sector remapped when the count reaches its limit (R330). -/
def sectorWrite (sector : Nat) (s : State) : State :=
  let n := SMap.get (fun _ => (0 : Nat)) s.nv.writes sector + 1
  if writeLimit ≤ n && s.nv.spare != 0 then remap sector s else putWrites sector (min writeLimit n) s

/-- A sector of the secure bank is written; which one, the layout not given leaves open: a free value. `verified`: the read-back
verifies (R330). -/
def bankSector (verified : Bool) (s : State) : State :=
  let d := s.draw
  let i := 304 + Config.freeNat d.1 % 4
  if verified then sectorWrite i d.2 else remap i d.2

/-- The secure bank is written, both copies together (R330, R387). -/
def bankWrite (f : SecureBank → SecureBank) (s : State) : State :=
  bankSector true { s with gate := { s.gate with bank := f s.gate.bank } }

/-! ### Records -/

/-- A SECURITY record (R391): subtype, master, scope byte, lockout seconds, alarm cause or key slot; the alarm's own uses
the reserved entries (R389). -/
def secRecord (sub : Nat) (m : Master) (scope secs extra : Nat) (s : State) : State :=
  let ev := [byte sub, byte (masterCode m), byte scope, byte (min 15 s.gate.bank.failcnt)]
    ++ leBytes 4 s.gate.bank.ucnt.toNat ++ leBytes 4 secs ++ [byte extra]
  queueRecord (makeRecord 9 ev s) false (sub == 4) s

/-! ### Sessions -/

/-- A staged write is one of a field that the ending session covered (R385). -/
def coveredStage (x : Session) (g : Staged) : Bool :=
  let rwl := match locate g.addr with
    | some l => l.spec.fields.any fun f => f.lo == g.lo && f.acc == .rwl
    | none => false
  g.by_ == x.holder && rwl && match lockScope (g.addr / 65536) with | some c => bitAt x.scopes.toNat c | none => false

/-- The open session ends: its staged writes are discarded, and the end is recorded (R385, R391). -/
def endSession (s : State) : State :=
  match s.gate.session with
  | none => s
  | some x =>
    let keep := s.img.staging.filter fun g => !coveredStage x g
    let s1 := { s with gate := { s.gate with session := none }, img := { s.img with staging := keep } }
    let s2 := if keep.length == s.img.staging.length then s1 else s1.p F.GROUP_STATE_LASTRESULT 4
    secRecord 7 x.holder x.scopes.toNat 0 0 s2

/-! ### The security alarm -/

/-- Image keys and unlock key are overwritten; PROVISIONED, the floor, UCNT and FAILCNT are kept (R389). -/
def keyErase (s : State) : State := bankWrite (fun b => { b with keys := .replicate 5 none }) s

/-- The security alarm with its cause: an open session ends first, then POLICY's actions in their order (R389, R392). The bank that cause
2h leaves unreadable counts as erased whatever POLICY says. -/
def securityAlarm (m : Master) (cause : Nat) (s : State) : State :=
  let pol := s.g F.GH_ALARM_POLICY
  let s1 := ((endSession s).pb F.GH_STAT_ALARMED true).p F.GH_ALARM_CAUSE cause
  let s2 := if bitAt pol 3 then enterLockdown s1 else s1
  let s3 := if bitAt pol 2 then secRecord 5 m 0 0 0 (keyErase s2) else if cause = 2 then keyErase s2 else s2
  let s4 := if bitAt pol 1 then routerEvent 0xE3 s3 else s3
  secRecord 4 m 0 0 cause s4

/-! ### Challenge and response -/

/-- RESULT of the last SUBMIT or REQUEST. -/
def chalResult (r : Nat) (s : State) : State := s.p F.GH_STAT_RESULT r

/-- REQUEST (R384, R385): refused in a lockout, while a session is open, without an unlock key and in LOCKDOWN; else UCNT
advances and a fresh nonce is issued. -/
def chalRequest (m : Master) (scope sess : Nat) (s : State) : State :=
  let b := s.gate.bank
  if s.g F.NP_SECS_SECS < b.lockEnd || s.gate.session.isSome || (vget b.keys 4).isNone || s.dev = .lockdown then
    chalResult 3 s
  else
    let d := (bankWrite (fun b => { b with ucnt := b.ucnt + 1 }) s).draw
    { d.2 with gate := { d.2.gate with nonce := some ⟨Config.nonce d.1, m, BitVec.ofNat 8 scope, sess⟩ } }

/-- The message a response authenticates (R384). -/
def unlockMessage (s : State) (n : Nonce) : List Byte :=
  leBytes 16 n.value.toNat ++ leBytes 8 Config.serial.toNat ++ [byte n.scopes.toNat]
    ++ leBytes 4 s.gate.bank.ucnt.toNat

/-- The response that the unlock key gives: the first 128 bits of the HMAC (R384). -/
def expectedResponse (s : State) (n : Nonce) (key : BitVec 256) : List Byte :=
  (hmacSha256 (leBytes 32 key.toNat) (unlockMessage s n)).take 16

/-- The response written to GH_RESP. -/
def State.response (s : State) : List Byte := s.gate.resp.toList.flatMap fun w => leBytes 4 w.toNat

/-- Lockout seconds after a failure that leaves FAILCNT = f (R386). -/
def lockSecs (f : Nat) : Nat := if 3 ≤ f then 60 * 2 ^ (f - 3) else 0

/-- A failed SUBMIT (R385, R386, R389). -/
def chalFailed (n : Nonce) (s : State) : State :=
  let b := s.gate.bank
  let f := min 15 (b.failcnt + 1)
  let lock := lockSecs f
  let s1 := chalResult 2 (bankWrite (fun b => { b with
    failcnt := f, lockEnd := if lock = 0 then b.lockEnd else s.g F.NP_SECS_SECS + lock }) s)
  let s2 := secRecord 2 n.by_ n.scopes.toNat 0 0 s1
  let s3 := if lock = 0 then s2 else secRecord 3 n.by_ n.scopes.toNat lock 0 s2
  if f = s3.g F.GH_ALARM_ALARMTH && b.failcnt < f then securityAlarm n.by_ 1 s3 else s3

/-- SUBMIT (R385): refused without a valid nonce of this master, without an unlock key and in LOCKDOWN; a match opens a
session. -/
def chalSubmit (m : Master) (s : State) : State :=
  match s.gate.nonce, vget s.gate.bank.keys 4 with
  | some n, some key =>
    if n.by_ ≠ m || s.dev = .lockdown then chalResult 3 s
    else
      let s1 := { s with gate := { s.gate with nonce := none } }
      if s.response = expectedResponse s n key then
        let s2 := bankWrite (fun b => { b with failcnt := 0 }) s1
        secRecord 1 m n.scopes.toNat 0 0 (chalResult 1 { s2 with gate := { s2.gate with session := some ⟨m, n.scopes, n.sess⟩ } })
      else chalFailed n s1
  | _, _ => chalResult 3 s

/-- END: the holder ends its session (R385); from another master it has no effect. -/
def chalEnd (m : Master) (s : State) : State :=
  match s.gate.session with
  | some x => if x.holder = m then endSession s else s
  | none => s

/-! ### Keys -/

/-- The key staged in GH_KEYW: word 0 first, least significant byte first. -/
def State.stagedKey (s : State) : BitVec 256 :=
  BitVec.ofNat 256 (leNat (s.gate.keyw.toList.flatMap fun w => leBytes 4 w.toNat))

/-- A key write of slot i is accepted (R387). -/
def State.mayKey (s : State) (i : Fin 5) : Bool :=
  if (vget s.gate.bank.keys i).isNone then !s.gate.bank.provisioned || (s.dev == .safe && s.img.held)
  else match s.gate.session with | some x => x.scopes == 0x1F | none => false

/-- Key command 1h (R387): refused with cause STATE, or the key is written, the first image key sets PROVISIONED; GH_KEYW is
cleared after each. -/
def keyWrite (m : Master) (i : Fin 5) (s : State) : State :=
  let s1 :=
    if s.mayKey i then
      secRecord 6 m 0 0 i.val (bankWrite (fun b => { b with
        keys := vset b.keys i (some s.stagedKey), provisioned := b.provisioned || decide (i.val < 4) }) s)
    else cfgRefuse m .state A.GH_KEYCTL s
  { s1 with gate := { s1.gate with keyw := .replicate 8 0 } }

/-! ### Rows of time -/

/-- NONCE_LAPSE: 10 s after it was issued (R385). -/
def execNonceLapse (s : State) : Answer := done { s with gate := { s.gate with nonce := none } }

/-- SESSION_EXPIRY: SESS seconds have passed (R385). -/
def execSessionExpiry (s : State) : Answer := done (endSession s)

/-- LOCKOUT_END: the lockout after repeated failures is over (R386). -/
def execLockoutEnd (s : State) : Answer :=
  done { s with gate := { s.gate with bank := { s.gate.bank with
    lockEnd := min s.gate.bank.lockEnd (s.g F.NP_SECS_SECS) } } }

end Sys2Proof.Machine
end

