-- ==== Sys2Proof/Machine/Store.lean ====
section
/-!
DEFINITION. The non-volatile store (R329-R332), the Ledger (R333-R337), the host NV area (R332) and the Plates (R338-R343).
-/

namespace Sys2Proof.Machine

/-! ### Q15 and the MRAM -/

/-- A read finds word `word` of a sector uncorrectable: it is counted and recorded (R329, R335). -/
def uncorrFound (sector word : Nat) (s : State) : State :=
  let s2 := (s.inc F.NV_UNCORR_UNCOR).p F.NV_UNCORR_UADDR (sector * 1024 + 4 * word)
  let d := s2.draw
  record 0x0A ([byte 2, 0] ++ leBytes 2 sector ++ leBytes 2 (Config.freeNat d.1)) d.2

/-- The ring slot of a record: slots 2-241 in turn (R333). -/
def ringSlot (seq : Nat) : Nat := 2 + (seq - 1) % 240

/-- The logical sector a write of Q15 reaches: Ledger 192-255, host NV 288-303; the layout of the health area is not given,
a free value. -/
def sectorOf (w : NvWrite) (s : State) : Nat × State :=
  match w with
  | .record r _ => (192 + ringSlot r.seq / 4, s)
  | .hostWord i _ => (288 + i / 256, s)
  | _ => let d := s.draw; (256 + Config.freeNat d.1 % 32, d.2)

/-- What the health area keeps of phase n now (R262). -/
def State.healthOf (s : State) (n : Nat) : PhaseHealth :=
  let r := s.rl (Fin.ofNat 48 n)
  { rcause := s.g (F.PHASE_ROLE_RCAUSE n), testres := s.g (F.PHASE_ROLE_TESTRES n), blind := s.gb (F.PHASE_ROLE_BLIND n),
    worn := s.gb (F.PHASE_ROLE_WORN n), ahFrac := r.ahFrac, plFrac := r.plFrac, hotFrac := r.hotFrac,
    drift := s.gb (F.PHASE_ROLE_DRIFT n), ah := s.g (F.PHASE_LIFEAH_AH n), pulses := s.g (F.PHASE_LIFEPL_PULSES n),
    hot := s.g (F.PHASE_LIFETH_HOT n), tcyc := s.g (F.PHASE_LIFETH_TCYC n), wear := s.g (F.PHASE_WEAR_WEAR n), zdrift := s.gi (F.PHASE_WEAR_ZDRIFT n) }

/-- A retirement in the health area (R255, R289). -/
def retireHealth (t i cause : Nat) (h : Health) : Health :=
  { h with
    phase := if t = 1 then (if hi : i < 48 then h.phase.set i { h.phase[i] with rcause := cause } else h.phase) else h.phase
    cmpRetired := if t = 2 then h.cmpRetired ||| BitVec.ofNat 128 (2 ^ i) else h.cmpRetired
    icRetired := if t = 3 then h.icRetired ||| BitVec.ofNat 7 (2 ^ i) else h.icRetired
    laneRetired := if t = 4 then h.laneRetired ||| BitVec.ofNat 5 (2 ^ i) else h.laneRetired
    pllRetired := if t = 5 then h.pllRetired ||| BitVec.ofNat 2 (2 ^ i) else h.pllRetired }

/-- A write of Q15 reaches the MRAM (R332-R334); a record that qualifies is pinned, unless PINHOLD keeps the present one
(R336). -/
def nvPerform (w : NvWrite) (s : State) : State :=
  let nv := s.nv
  match w with
  | .record r qual =>
    let pin := qual && !(s.gb F.LG_CTL_PINHOLD && nv.pinned.isSome)
    { s with nv := { nv with ring := (r :: nv.ring).take 240
                             pinned := if pin then some r else nv.pinned
                             pinBad := !pin && nv.pinBad } }
  | .health => { s with nv := { nv with health := { nv.health with
      phase := Vector.ofFn fun n => s.healthOf n.val, secs := s.g F.NP_SECS_SECS } } }
  | .retire t i cause => { s with nv := { nv with health := retireHealth t i cause nv.health } }
  | .hostWord i v =>
    { s with nv := { nv with hnv := SMap.set (fun _ => (0 : Word)) nv.hnv i v, hnvBad := nv.hnvBad.filter (· != i) } }

/-- NV_RECORD_WRITE: the entry at the head of Q15 is written and verified; a failed verify or too many writes remap its sector
(R330, R332). -/
def nvRecordWrite (verified : Bool) (s : State) : State :=
  match s.nv.q15 with
  | [] => s
  | w :: _ =>
    if s.dev = .off then s
    else
      let x := sectorOf w (nvPerform w (q15Pop s))
      if verified then sectorWrite x.1 x.2 else remap x.1 x.2

/-- NV_RECORD_WRITE. -/
def execNvRecordWrite (verified : Bool) (s : State) : Answer := done (nvRecordWrite verified s)

/-- A scrub pass is due (R331): 30 days of SECS have passed since the last one, and where that moment fell before the last entry to STANDBY
or SAFE, 10 s since that entry. -/
def State.scrubDue (s : State) : Bool :=
  let due := s.nv.lastScrub + 2592000
  decide (due ≤ s.g F.NP_SECS_SECS) && (decide (s.nv.ready < due) || decide (s.nv.ready + 10 ≤ s.g F.NP_SECS_SECS))

/-- SCRUB_PASS_START: a pass that is due starts (R331). -/
def scrubStart (s : State) : State :=
  if (s.running || s.dev == .safe) && s.nv.scrub.isNone && s.scrubDue then
    { s with nv := { s.nv with scrub := some 0, corrPrev := s.nv.corrNow, corrNow := [] } }
  else s

/-- SCRUB_PASS_START. -/
def execScrubPassStart (s : State) : Answer := done (scrubStart s)

/-- The counters of phase n restart at 0 (R329). -/
def clearCounters (n : Fin 48) (s : State) : State :=
  let s1 := (s.p (F.PHASE_LIFEAH_AH n.val) 0).p (F.PHASE_LIFEPL_PULSES n.val) 0
  let s2 := ((s1.p (F.PHASE_LIFETH_HOT n.val) 0).p (F.PHASE_LIFETH_TCYC n.val) 0).p (F.PHASE_WEAR_WEAR n.val) 0
  s2.modRl n fun r => { r with ahFrac := 0, plFrac := 0, hotFrac := 0 }

/-- The channel whose retirement entry a word of the health area holds: type and index of a phase, a comparator, a converter, a
lane, a PLL, or none. The layout of the area is not given, so it follows a free value. -/
def channelOf (x : Nat) : Option (Nat × Nat) :=
  if x < 48 then some (1, x)
  else if x < 176 then some (2, x - 48)
  else if x < 183 then some (3, x - 176)
  else if x < 188 then some (4, x - 183)
  else if x < 190 then some (5, x - 188)
  else none

/-- Both copies of the retirement entry of a channel are lost: the channel is treated as retired, and its counters restart at 0
(R329). -/
def channelLost (x : Nat) (s : State) : State :=
  match channelOf x with
  | none => s
  | some (t, i) =>
    updateDev (if t = 1 then retirePhase (Fin.ofNat 48 i) 6 (clearCounters (Fin.ofNat 48 i) s)
      else retireChannel { devEvent 0 with chan := some (t, i) } s)

/-- What an uncorrectable word does to its area (R329): the slot's checks fail, the record reads as bad, the host word reads
0, a health or secure-bank copy is rewritten from the other, a write of its sector; with both copies of a health word lost a
channel counts as retired, and of a secure-bank word the alarm is raised (R389). -/
def areaLost (sector word : Nat) (both : Bool) (s : State) : State :=
  if sector < 192 then
    let i := Fin.ofNat 2 (sector / 96)
    let sl := vget s.img.slots i
    { s with img := { s.img with slots := vset s.img.slots i { sl with badw := (sector % 96 * 256 + word) :: sl.badw } } }
  else if sector < 256 then
    let slot := (sector - 192) * 4 + word / 64
    if slot = 1 then { s with nv := { s.nv with pinBad := s.nv.pinned.isSome } }
    else match s.nv.ring.find? fun r => ringSlot r.seq == slot with
      | some r => { s with nv := { s.nv with bad := r.seq :: s.nv.bad } }
      | none => s
  else if sector < 288 then
    let d := s.draw
    if both then channelLost (Config.freeNat d.1 % 191) d.2 else sectorWrite sector s
  else if sector < 304 then { s with nv := { s.nv with hnvBad := ((sector - 288) * 256 + word) :: s.nv.hnvBad } }
  else if sector < 308 then (if both then securityAlarm .sup 2 s else sectorWrite sector s) else s

/-- Words that a read corrects, as offsets from the word `base` of the store: each is rewritten and counted (R329). -/
def correctWords (base : Nat) (l : List Nat) (s : State) : State :=
  forEach (fun s w => countCorr 1 (sectorWrite ((base + w) / 256) s)) l s

/-- A read of an area of the store from the word `base` on: what it finds is corrected, or counted, recorded and lost to its
area (R329, R335). -/
def readArea (base : Nat) (f : ReadFind) (s : State) : State :=
  forEach (fun s x =>
    let a := base + x.word
    areaLost (a / 256) (a % 256) x.both (uncorrFound (a / 256) (a % 256) s)) f.lost (correctWords base f.corrected s)

/-- SCRUB_SECTOR: the next sector of the pass is read, and remapped where two passes running correct a word of it (R329-R331). -/
def scrubSector (corrected : List (Fin 256)) (lost : List LostWord) (s : State) : State :=
  match s.nv.scrub with
  | none => s
  | some i =>
    let s2 := readArea (256 * i) ⟨corrected.map (·.val), lost.map fun x => { x with word := x.word % 256 }⟩ s
    let s1 :=
      if corrected.isEmpty then s2
      else
        let s3 := { s2 with nv := { s2.nv with corrNow := i :: s2.nv.corrNow } }
        if s3.nv.corrPrev.contains i && decide (i < 308) then remap i s3 else s3
    if i + 1 < 512 then { s1 with nv := { s1.nv with scrub := some (i + 1) } }
    else { s1 with nv := { s1.nv with scrub := none, lastScrub := s1.g F.NP_SECS_SECS } }

/-- SCRUB_SECTOR. -/
def execScrubSector (corrected : List (Fin 256)) (lost : List LostWord) (s : State) : Answer :=
  done (scrubSector corrected lost s)

/-! ### Reading the Ledger -/

/-- A write of LG_RDSEQ starts loading a record (R337). -/
def ledgerRead (seq : Nat) (s : State) : State :=
  (({ s with nv := { s.nv with reading := some seq, found := ⟨[], []⟩, win := none } }).p F.LG_RDSEQ_RDSEQ seq).p F.LG_RDSTAT_RESULT 3

/-- The 64 words of the record of sequence number q, 0 for the pinned one, are read from their slot (R329, R333). -/
def readRecord (q : Nat) (f : ReadFind) (s : State) : State :=
  readArea (192 * 256 + 64 * (if q = 0 then 1 else ringSlot q))
    ⟨f.corrected.map (· % 64), f.lost.map fun x => { x with word := x.word % 64 }⟩ s

/-- LEDGER_READ_DONE: the record is in LG_WIN and LG_RDSTAT reports the result (R337). -/
def ledgerDone (s : State) : State :=
  match s.nv.reading with
  | none => s
  | some q =>
    let found := if q = 0 then s.nv.pinned else s.nv.ring.find? fun r => r.seq == q
    let s1 := { s with nv := { s.nv with reading := none } }
    match found with
    | none => s1.p F.LG_RDSTAT_RESULT 1
    | some r =>
      let s1 := readRecord q s.nv.found s1
      if (if q = 0 then s1.nv.pinBad else s1.nv.bad.contains q) then s1.p F.LG_RDSTAT_RESULT 2
      else { s1 with nv := { s1.nv with win := some r, winPin := decide (q = 0) } }.p F.LG_RDSTAT_RESULT 0

/-- LEDGER_READ_DONE. -/
def execLedgerReadDone (s : State) : Answer := done (ledgerDone s)

/-- PINREL: PINVALID clears (R336). -/
def pinRelease (s : State) : State := { s with nv := { s.nv with pinned := none, pinBad := false } }

/-! ### The host NV area -/

/-- WADDR advances (HNV_DATA). -/
def hnvAdvance (s : State) : State := s.p F.HNV_ADDR_WADDR (s.g F.HNV_ADDR_WADDR + 1)

/-- A host NV write passes through Q15, or is refused with HNVBUSY and counted (R332, R372). -/
def hnvWrite (w : Word) (s : State) : State :=
  if 24 ≤ s.q15Len then qDrop 15 (s.pb F.HNV_ADDR_HNVBUSY true)
  else hnvAdvance (q15Put (.hostWord (s.g F.HNV_ADDR_WADDR) w) s)

/-- A completed read of HNV_DATA: an uncorrectable word is counted and recorded, stays so until it is written, and sets HNVERR
(R329); WADDR advances. -/
def hnvRead (f : WordFind) (s : State) : State :=
  let i := s.g F.HNV_ADDR_WADDR
  if f == .uncorrectable || s.nv.hnvBad.contains i then
    let s1 := (uncorrFound (288 + i / 256) (i % 256) s).pb F.HNV_ADDR_HNVERR true
    hnvAdvance { s1 with nv := { s1.nv with hnvBad := if s1.nv.hnvBad.contains i then s1.nv.hnvBad else i :: s1.nv.hnvBad } }
  else hnvAdvance (if f == .corrected then correctWords (288 * 256) [i] s else s)

/-! ### Plates -/

/-- Channels of the samples Plate p holds or takes. -/
def State.plateCh (s : State) (p : Fin 4) : Nat := 2 ^ (vget s.plate p).nchc

/-- A write of RUN = 1 arms the Plate (R340, R341). -/
def plateArm (p : Fin 4) (s : State) : State :=
  let s1 := s.modPl p fun _ => ⟨.armed, 0, [], [], 0, false, 0, s.clock, s.g (F.PL_CTL_NCHC p.val), 0, false⟩
  let s2 := ((s1.pb (F.PL_CTL_RUN p.val) true).pb (F.PL_STATUS_TBGAP p.val) false).setWord (A.PL_TTSLO p.val) 0
  s2.setWord (A.PL_TTSHI p.val) 0

/-- A write of RUN = 0 stops the Plate and abandons the capture (R342). -/
def plateStop (p : Fin 4) (s : State) : State :=
  (s.modPl p fun r => { r with st := .idle, buf := [], sums := [], pre := 0, trig := false }).pb (F.PL_CTL_RUN p.val) false

/-- A word as a signed number. -/
def wordInt (w : Word) : Int := w.toInt

/-- A Plate node's value as a 32-bit word (R339). -/
def State.nodeValue (s : State) (w : Word) : Word :=
  let ix := getBits w 0 24
  let k := Fin.ofNat 8 ix
  let iw := fun (i : Int) => BitVec.ofInt 32 i
  match getBits w 24 8 with
  | 1 => iw ((s.ra k).gr.nodes.getD ((s.ra k).gr.x, 0)).1
  | 2 => iw (s.ra k).tr.rCur
  | 3 => iw (s.gi (F.GRAPH_YOUT_YOUT k.val))
  | 4 => iw (s.gi (F.RAIL_THNOW_THCODE k.val))
  | 5 => iw (s.ra k).gr.eph
  | 6 => iw ((s.ra k).gr.nodes.getD (0, (s.ra k).gr.code)).2
  | 7 => iw (s.rl (Fin.ofNat 48 ix)).code
  | 8 => iw ((List.range 32).foldl (fun a i => a + bitIf (s.gb (F.CMP_STATUS_OUT (32 * (ix % 4) + i))) i) 0)
  | 9 => iw (s.gi (F.MC_CH_DATA_VALUE ix))
  | 10 => s.view .sup ix
  | _ => 0

/-- The nodes of Plate p's channels now. -/
def State.plateNodes (s : State) (p : Fin 4) : List Int :=
  (List.range (s.plateCh p)).map fun j => wordInt (s.nodeValue (s.word (A.PL_NODE p.val j)))

/-- A stored sample meets the level trigger (R340). -/
def State.levelHit (s : State) (p : Fin 4) (sample : List Word) : Bool :=
  s.g (F.PL_TRIG_TSRC p.val) == 2 && match sample[s.g (F.PL_TRIG_TCH p.val)]? with
    | none => false
    | some w =>
      let lev := wordInt (s.word (A.PL_TLEV p.val))
      if s.gb (F.PL_TRIG_CMP p.val) then decide (wordInt w ≤ lev) else decide (lev ≤ wordInt w)

/-- The capture is done once its last sample is stored: the controller clears RUN, and source E4h + p shows it (R340, R374). -/
def plateComplete (p : Fin 4) (s : State) : State :=
  if (vget s.plate p).left = 0 then
    routerEvent (0xE4 + p.val) ((s.modPl p fun r => { r with st := .done }).pb (F.PL_CTL_RUN p.val) false)
  else s

/-- Plate p stores one sample (R340). -/
def plateStore (p : Fin 4) (sample : List Word) (s : State) : State :=
  let r := vget s.plate p
  match r.st with
  | .armed =>
    let s1 := if !r.trig && s.levelHit p sample then plateTrigger p s else s
    let r1 := vget s1.plate p
    if r1.trig then
      plateComplete p (s1.modPl p fun r => { r with
        st := .capturing, buf := r.buf ++ [sample], pre := r.buf.length,
        left := plateDepth (s.g (F.PL_CTL_NCHC p.val)) - s.g (F.PL_PRE_PRE p.val) - 1 })
    else
      let b := r.buf ++ [sample]
      let b1 := b.drop (b.length - s.g (F.PL_PRE_PRE p.val))
      s.modPl p fun r => { r with buf := b1, pre := b1.length }
  | .capturing =>
    plateComplete p (s.modPl p fun r => { r with buf := r.buf ++ [sample], left := r.left - 1 })
  | _ => s

/-- A base tick of Plate p: from the first one at least 35 ns after the arming on, every D-th stores a sample, the nodes' values
or their mean (R338, R340). -/
def baseTick (p : Fin 4) (s : State) : State :=
  let r := vget s.plate p
  if !s.core || !(r.st == .armed && ns35 ≤ elapsed r.at_ s.clock || r.st == .capturing) then s
  else
    let now := s.plateNodes p
    let d := s.g (F.PL_DEC_DEC p.val) + 1
    let sums := if r.sums.isEmpty then now else List.zipWith (· + ·) r.sums now
    if r.ticks + 1 < d then s.modPl p fun r => { r with ticks := r.ticks + 1, sums := sums }
    else
      let vals := if s.gb (F.PL_CTL_DECMODE p.val) then sums.map fun x => x / (d : Int) else now
      plateStore p (vals.map fun x => BitVec.ofInt 32 x) (s.modPl p fun r => { r with ticks := 0, sums := [] })

/-- PLATE_TICK: a frame boundary under BASE 1, and otherwise an occurrence of the base that is still owed; without one it is no
base tick of the Plate (R338). -/
def plateTick (p : Fin 4) (s : State) : State :=
  if s.g (F.PL_CTL_BASE p.val) = 1 then baseTick p s
  else if (vget s.plate p).owed = 0 then s
  else baseTick p (s.modPl p fun r => { r with owed := r.owed - 1 })

/-- PLATE_TICK. -/
def execPlateTick (x : PlateAt) (s : State) : Answer := done (plateTick x.p (s.atTime x.t))

/-- Entry i of the export of Plate p (R343): two headers, then every held word in order. -/
def State.exportEntry (s : State) (p : Fin 4) (i : Nat) : QEntry :=
  if i = 0 then ⟨s.word (A.PL_TTSLO p.val), BitVec.ofNat 16 (p.val * 2 ^ 14), 0x2000⟩
  else if i = 1 then ⟨s.word (A.PL_TTSHI p.val), BitVec.ofNat 16 (p.val * 2 ^ 14), 0x3000⟩
  else
    let n := s.plateCh p
    ⟨s.plateWord p (i - 2), BitVec.ofNat 16 (p.val * 2 ^ 14 + (i - 2) / n), BitVec.ofNat 16 (0x1000 + (i - 2) % n)⟩

/-- Entries of a whole export of Plate p: none beyond the headers once the Plate is no longer done. -/
def State.exportLen (s : State) (p : Fin 4) : Nat :=
  let r := vget s.plate p
  if r.st = .done then 2 + r.buf.length * s.plateCh p else 2

/-- The export goes on while Q13 has room, at most n entries (R343). -/
def exportRun : Nat → State → State
  | 0, s => s
  | n + 1, s =>
    match s.exp with
    | none => s
    | some (p, i) =>
      if s.exportLen p ≤ i then { s with exp := none }
      else if s.room 13 1 then exportRun n { qAppend 13 (s.exportEntry p i) s with exp := some (p, i + 1) }
      else s

/-- PL_EXP.GO of a done Plate (R343). -/
def exportGo (p : Fin 4) (s : State) : State := exportRun 34 { s with exp := some (p, 0) }

/-- PLATE_EXPORT_RESUME: room appears in Q13 (R343). -/
def execPlateExportResume (s : State) : Answer := done (exportRun 34 s)

end Sys2Proof.Machine
end

