-- ==== Sys2Proof/Machine/Power.lean ====
section
/-!
DEFINITION. Supplies, RESET#, OFF and the entries to OFF and BOOT (R14-R22, R40, R45, R49-R59, R314, R315, R359): what the
always-on domain and the MRAM keep, wake events, and the rows of supplies and pins.
-/

namespace Sys2Proof.Machine

/-! ### What is kept -/

/-- The registers of the always-on domain alone: the Night Porter block, RSTPIN and AONCOLD, WAKESRC (R400). -/
def aonRegs (s : State) : RegFile :=
  let r := s.regs.filter fun x => x.1 / 65536 == 2
  let w1 := setBits (setBits (resetWord A.SUPPLY_STATUS) 11 1 (s.g F.SUPPLY_STATUS_RSTPIN)) 10 1
    (s.g F.SUPPLY_STATUS_AONCOLD)
  let w2 := setBits (resetWord A.DEVICE_STATUS) 12 4 (s.g F.DEVICE_STATUS_WAKESRC)
  (RegFile.setWord r A.SUPPLY_STATUS w1).setWord A.DEVICE_STATUS w2

/-- The core domain at its reset, the FET model and the energy counters 0 (R310, R319): kept are the always-on domain, the
MRAM with the slots, the secure bank, and pins (R15, R57, R73, R400). `off` says that the core loses power, and the strikes with it (R289). -/
def coreReset (off : Bool) (s : State) : State :=
  let keep : State := { State.reset with
    sup := { s.sup with groupAwake := .replicate 6 false, enHist := .replicate 8 [] }, dev := s.dev, tb := s.tb, regs := aonRegs s,
    img := { ImageMgr.reset with slots := s.img.slots },
    nv := { s.nv with q15 := [], waiting := [], reading := none, win := none, winPin := false, scrub := none, disc := false },
    gate := { bank := s.gate.bank, session := none, nonce := none, resp := .replicate 4 0, keyw := .replicate 8 0, grant := false },
    strikes := if off then State.reset.strikes else s.strikes,
    pt := if off then PorterState.reset else { s.pt with ein := 0, erail := .replicate 8 0, theta := .replicate 3 0 },
    jtag := s.jtag, np := { s.np with remAt := none }, free := s.free, pending := s.pending }
  keep.p F.PT_IIN_BRKLVL (min (keep.pt.brk / 256) 0xFFFF)

/-! ### OFF -/

/-- What enters OFF (R19). -/
inductive OffCause
  | supply | reset | sleep
  deriving DecidableEq, Repr

/-- The record write under way at an entry to OFF: it completes, or on a loss of power it is torn and its record reads as
bad (R59, R334, R344). -/
def storeAtOff (c : OffCause) (s : State) : State :=
  match c, s.nv.q15 with
  | _, [] => s
  | .supply, .record r _ :: _ =>
    { s with nv := { s.nv with ring := (r :: s.nv.ring).take 240, bad := r.seq :: s.nv.bad } }
  | .supply, _ :: _ => s
  | _, w :: _ => nvPerform w s

/-- Entry to OFF (R19, R40, R59, R315): rails and phases stop at once, the session ends, the core is reset, and the Night
Porter takes over the gates as they stand, OFF counting as IDLE. -/
def enterOff (c : OffCause) (s : State) : State :=
  if s.dev = .off then s
  else
    let s1 := coreReset true (endSession ((storeAtOff c s).setDev .off))
    let s2 := npFollow (if s1.ptSt = 6 then setPt 0 s1 else s1)
    let s3 := s2.pb F.SUPPLY_STATUS_RSTPIN (c == .reset)
    { s3 with sup := { s3.sup with wake := none, sleep := c == .sleep } }

/-- OFF is left for BOOT once VCORE and VDD33 are good, VAON is good and RESET# is high, with no sleep latched or a wake event
present (R19, R53). -/
def tryBoot (s : State) : State :=
  if s.dev = .off && s.sup.vcore && s.sup.vdd33 && s.sup.vaon && s.sup.resetHigh
      && (!s.sup.sleep || s.sup.wake.isSome) then
    let src := if s.sup.sleep then (match s.sup.wake with | some c => c.val | none => 0) else 0
    let s1 := { s.setDev .boot with tb := 0 }
    ({ s1 with sup := { s1.sup with sleep := false, wake := none, enHist := .replicate 8 [] }
               np := { s1.np with remAt := none } }).p F.DEVICE_STATUS_WAKESRC src
  else s

/-- SAFE enters BOOT after a COMMIT (R19, R76); the Porter keeps the gates. -/
def safeToBoot (s : State) : State := coreReset false (endSession { s.setDev .boot with tb := 0 })

/-- A wake event with its WAKESRC code: latched while a sleep is, and acted on (R19). -/
def wakeEvent (src : Fin 6) (s : State) : State :=
  if s.dev = .off && s.sup.sleep then
    tryBoot { s with sup := { s.sup with wake := s.sup.wake <|> some src } }
  else s

/-! ### Pins -/

/-- ENk takes a level at the ball, the instant being kept (R27, R202); a rising edge in OFF is a wake event (R19). -/
def enLevel (k : Fin 8) (level : Bool) (s : State) : State :=
  let rise := level && !vget s.sup.en k
  let s1 := { s with sup := { s.sup with
      en := vset s.sup.en k level
      enHist := vset s.sup.enHist k (s.noteLevel (vget s.sup.en k) level (vget s.sup.enHist k)) } }
  if rise then wakeEvent 3 s1 else s1

/-- EN_PIN_CHANGE: while VIOH is not good the inputs hold their last sample (R54). -/
def execEnPinChange (k : Fin 8) (level : Bool) (s : State) : Answer :=
  done (if s.sup.vioh then enLevel k level s else s)

/-- Show the router every TRIP input that differs between two states (R54, R374). -/
def tripEdges (was : State) (s : State) : State :=
  forAll (n := 4) (fun s i => if was.trip i == s.trip i then s else routerEdge (0xC1 + i.val) (s.trip i) s) s

/-- ADDR0 and ADDR1 are sampled, or the sample waits for VIOH (R50). -/
def sampleAddr (a0 a1 : Option (Fin 4)) (s : State) : State :=
  if s.sup.vioh then { s with sup := { s.sup with addr0 := a0, addr1 := a1, addrWait := false } }
  else { s with sup := { s.sup with addrWait := true } }

/-- The transaction open on port x is aborted (R358): a pop's hold ends, the bytes of a write are dropped, and outside BOOT
and OFF it is counted. -/
def portAbort (x : Fin 2) (s : State) : State :=
  let s1 := ({ s with host := vset s.host x { vget s.host x with hold := none, part := none } }).pb (F.HP_STATUS_BUSY x.val) false
  if s.dev = .off || s.dev = .boot then s1
  else (s1.inc (F.HP_CNT_ABORTS x.val)).p (F.HP_STATUS_LASTRES x.val) 0xA

/-! ### Supplies -/

/-- SUPPLY_GOOD: VCORE and VDD33 are good; SMODg is sampled (R19, R45). -/
def execSupplyGood (smod : Vector SmodStrap 6) (s : State) : Answer :=
  done (tryBoot { s with sup := { s.sup with vcore := true, vdd33 := true,
                                             smod := if s.sup.vdd33 then s.sup.smod else smod } })

/-- SUPPLY_LOSS: VCORE or VDD33 stops being good, and the device enters OFF (R19, R52). -/
def execSupplyLoss (which : CoreSupply) (s : State) : Answer :=
  let s1 := enterOff .supply s
  done { s1 with sup := { s1.sup with vcore := s1.sup.vcore && which != .vcore,
                                      vdd33 := s1.sup.vdd33 && which != .vdd33 } }

/-- RESET_ASSERT: RESET# is low for 1 us or more (R59); in OFF too it sets RSTPIN and clears the sleep latch. -/
def execResetAssert (s : State) : Answer :=
  let s1 := (enterOff .reset s).pb F.SUPPLY_STATUS_RSTPIN true
  done { s1 with sup := { s1.sup with resetHigh := false, sleep := false, wake := none } }

/-- RESET_RELEASE: a rising edge of RESET# resamples the address straps and allows BOOT (R50, R59). -/
def execResetRelease (a0 a1 : Option (Fin 4)) (s : State) : Answer :=
  let s1 := sampleAddr a0 a1 s
  done (tryBoot { s1 with sup := { s1.sup with resetHigh := true } })

/-- The always-on domain at VAON power-on (R57, R314, R325): Night Porter IDLE, counts 0, the copies at the resets of
PT_RETRY, AONCOLD, and SECS one more than the larger of the saved value and that of the newest record. -/
def aonPowerOn (s : State) : State :=
  let rec0 := match s.nv.ring.find? fun r => !s.nv.bad.contains r.seq with | some r => r.secs | none => 0
  let secs := max s.nv.health.secs rec0 + 1
  let s1 := { s with regs := s.regs.filter fun x => x.1 / 65536 != 2
                     np := { State.reset.np with watch := s.np.watch } }
  (((s1.pb F.SUPPLY_STATUS_AONCOLD true).pb F.SUPPLY_STATUS_RSTPIN false).p F.DEVICE_STATUS_WAKESRC 0).p
    F.NP_SECS_SECS secs

/-- VAON_POWER_ON: the always-on domain starts cold, and samples the address straps (R50, R57). -/
def execVaonPowerOn (a0 a1 : Option (Fin 4)) (s : State) : Answer :=
  let s1 := aonPowerOn { s with np := { s.np with watch := .replicate 2 false } }
  done (tryBoot (sampleAddr a0 a1 { s1 with sup := { s1.sup with vaon := true, sleep := false, wake := none } }))

/-- VAON_LOSS: the Night Porter's state is lost, and the controller is held in OFF (R52, R57). -/
def execVaonLoss (s : State) : Answer :=
  let s1 := enterOff .reset s
  let s2 := aonPowerOn { s1 with np := { s1.np with watch := .replicate 2 false } }
  done { s2 with sup := { s2.sup with vaon := false, sleep := false, wake := none } }

/-- The HPB master transaction ends: MRES, and the master-done event (R364). -/
def masterEnd (res : Nat) (s : State) : State :=
  routerEvent 0xC7 { (s.pb F.HPM_STATUS_MBUSY false).p F.HPM_STATUS_MRES res with masterWait := false }

/-- HPB drives a transaction of its own on the bus, which it does only while VIOH is good (R54, R364, R366). -/
def State.mastering (s : State) : Bool := s.core && s.sup.vioh && s.gb F.HPM_STATUS_MBUSY && !s.masterWait

/-- HPB's own transaction stops with the port; the result it ends with is not given, a free value (R54). -/
def masterStop (s : State) : State :=
  let d := s.draw
  masterEnd (Config.freeNat d.1 % 8) d.2

/-- VIOH_LOSS (R54): host ports stop, EN holds, TRIP reads inactive, VIOHLOST is set, and VIOHLOSS is raised. Both come of
the loss alone: where OFF is left with VIOH not good already, neither is set (DESIGN CHOICE, log entry 100: R54 and the row of
the field differ). -/
def viohLoss (s : State) : State :=
  let s0 := { s with sup := { s.sup with vioh := false } }
  let s1 := tripEdges s s0
  if s1.dev = .off then s1
  else
    let s2 := forAll (n := 2) (fun s x => if s.gb (F.HP_STATUS_BUSY x.val) then portAbort x s else s) s1
    let s3 := if s.mastering then masterStop s2 else s2
    raiseDev 0x10 (s3.pb F.SUPPLY_STATUS_VIOHLOST true)

/-- VIOH_LOSS. -/
def execViohLoss (s : State) : Answer := done (if s.sup.vioh then viohLoss s else s)

/-- VIOH_GOOD (R50, R54): EN0-EN7 are resampled and a changed level acts as an edge; a waiting sample of the address straps is
taken. -/
def execViohGood (en : Vector Bool 8) (a0 a1 : Option (Fin 4)) (s : State) : Answer :=
  let s1 := tripEdges s { s with sup := { s.sup with vioh := true } }
  let s2 := if s1.sup.addrWait then sampleAddr a0 a1 s1 else s1
  done (forAll (n := 8) (fun s k => enLevel k (vget en k) s) s2)

/-- Port p does not answer. -/
def noResponse (p : Fin 2) (s : State) : State :=
  { s with port := vset s.port p { vget s.port p with resp := none } }

/-- Port p takes frames: it is enabled, VIOL is good, and the device is neither in OFF nor in BOOT (R17, R55). -/
def State.linkOn (s : State) (p : Fin 2) : Bool :=
  s.gb (F.LNK_CTL_PEN p.val) && s.sup.viol && s.core && s.dev != .boot

/-- An enabled endpoint of port p is bound to rail k (R216). -/
def State.boundOn (s : State) (p : Nat) (k : Fin 8) : Bool :=
  (List.range 4).any fun e => s.epOn p e && !(s.slotsOf p e k).isEmpty

/-- Link port p stops being usable: Horizon sets M to 0 on the rails bound to it (R55, R181). -/
def linkUnusable (p : Nat) (s : State) : State :=
  forAll (n := 8) (fun s k => if s.enabled k && s.gb (F.OL_HZCTL_HZEN k.val) && s.boundOn p k then
      marginEvent k (s.pb (F.OL_STATUS_HZTOUT k.val) true)
    else s) s

/-- VIOL is no longer good (R55): the link is silent, a transaction under way is abandoned and counted (R240), and outside OFF
VIOLLOST is set. The flag comes of the loss alone: where OFF is left with VIOL not good already, it is not set (DESIGN CHOICE,
log entry 101: R55 and the row of the field differ). -/
def violLoss (busy : Vector Bool 2) (s : State) : State :=
  let s0 := forAll (n := 2) (fun s p => if vget busy p && s.linkOn p then
    noResponse p (s.inc (F.LNK_CNT_TIMEOUT p.val)) else s) s
  let s1 := { s0 with sup := { s0.sup with viol := false } }
  if s1.core then
    let s2 := s1.pb F.SUPPLY_STATUS_VIOLLOST true
    let s3 := if s2.gb (F.LNK_CTL_PEN 0) then linkUnusable 0 s2 else s2
    if s3.gb (F.LNK_CTL_PEN 1) then linkUnusable 1 s3 else s3
  else s1

/-- VIOL_LOSS: whether a transaction of a port is under way, which no state between two commands shows, is a free value (DESIGN
CHOICE, log entry 57). -/
def execViolLoss (s : State) : Answer :=
  done (if s.sup.viol then
      let d := s.draw
      violLoss (Vector.ofFn fun p => bitAt (Config.freeNat d.1) p.val) d.2
    else s)

/-- The duplicate memories of port p are cleared (R223). -/
def clearDup (p : Fin 2) (s : State) : State :=
  (List.range 4).foldl (fun s e => s.setWord (A.LNK_EP_LAST p.val e) 0)
    { s with port := vset s.port p { vget s.port p with dup := .replicate 4 none } }

/-- Port p runs version v; a change clears its duplicate memories (R223, R238). -/
def setVersion (p : Fin 2) (v : Nat) (s : State) : State :=
  if s.g (F.LNK_STATUS_VER p.val) = v then s else clearDup p (s.p (F.LNK_STATUS_VER p.val) v)

/-- VIOL_GOOD (R238): each port returns to version 1. -/
def execViolGood (s : State) : Answer :=
  done (setVersion 1 1 (setVersion 0 1 { s with sup := { s.sup with viol := true } }))

/-- HVIN_LOSS: the internal regulator stops; VAON runs from its capacitor (R52). -/
def execHvinLoss (s : State) : Answer := done { s with sup := { s.sup with hvin := false } }

/-- HVIN_GOOD: the internal regulator runs again (R52). -/
def execHvinGood (s : State) : Answer := done { s with sup := { s.sup with hvin := true } }

/-! ### Wake events -/

/-- ADDRESS_MATCH_WAKE (R359): a matcher ACKs only with VCORE and VDD33 good, its pins' supply VIOH good (R53), and its port
enabled (HP[x].CTL.EN); the wake event of its port follows. -/
def execAddressMatchWake (x : Fin 2) (s : State) : Answer :=
  done (if s.sup.vcore && s.sup.vdd33 && s.sup.vioh && s.gb (F.HP_CTL_EN x.val) then wakeEvent (if x.val = 0 then 1 else 2) s else s)

/-- FEED_PRESENT: the watch of a feed sets (R300); a feed newly present in OFF is a wake event (R19). -/
def execFeedPresent (b : Bool) (s : State) : Answer :=
  let s1 := feedPresent (feedIx b) s
  done (if s1.feed (feedIx b) && !s.feed (feedIx b) then wakeEvent 4 s1 else s1)

/-! ### SLEEP and SAFE_EXIT -/

/-- A device-level fault cause is active (R21). -/
def State.faultActive (s : State) : Bool :=
  let five := fun (fid : Nat) => s.classOf fid none == 5
  !s.img.applied || s.img.calFailed
    || (five 0x07 && (allFin 8).any fun k => s.fnOut (96 + k.val))
    || (five 0x08 && (allFin 8).any fun k => s.fnOut (104 + k.val))
    || (five 0x0C && (allFin 8).any fun i => (vget s.conv.sensor (Fin.ofNat 9 i.val)).hot
        && (allFin 8).any fun k => s.affects i.val k)
    || (five 0x12 && (vget s.conv.sensor 8).hot)
    || (five 0x10 && !s.sup.vioh)
    || (five 0x13 && !(vget s.pll.locked 0 || vget s.pll.locked 1))
    || (five 0x1C && s.fnOut 113) || (five 0x19 && s.fnOut 114)
    || (five 0x1A && decide ((s.g F.PT_FETT_TFMAX : Int) * 16 ≤ s.gi F.PT_THERM_TFET))
    || (five 0x1D && s.fetShorted)

/-- SAFE_EXIT in SAFE (R21): refused while a device-level fault cause is active; otherwise STANDBY, and every rail's request
must first be seen false. -/
def safeExit (m : Master) (s : State) : State :=
  if s.dev ≠ .safe then cfgRefuse m .state A.DEVICE_CTL s
  else if s.faultActive then cfgRefuse m .activeFault A.DEVICE_CTL s
  else forAll (n := 8) (fun s k => s.modTr k fun t => { t with needOff := true }) (s.setDev .standby)

/-- SLEEP in STANDBY: OFF with sleep latched (R19, R402). -/
def sleepNow (m : Master) (s : State) : State :=
  if s.dev = .standby then enterOff .sleep s else cfgRefuse m .state A.DEVICE_CTL s

/-- DEVICE_CTL is written (R402). -/
def deviceCtl (m : Master) (w : Word) (s : State) : State :=
  if getBits w 0 1 = 1 then sleepNow m s else if getBits w 1 1 = 1 then safeExit m s else s

end Sys2Proof.Machine
end

