-- ==== Sys2Proof/Machine/Image.lean ====
section
/-!
DEFINITION. Images (03_configuration_image.md): the layout (R60-R65, R68), the checks of a slot (R71, R85, R425), marks, and
the image manager's commands (R76, R77).
-/

namespace Sys2Proof.Machine

/-! ### Bytes of a slot -/

/-- n bytes of a slot from offset o on; an unlisted offset reads 00h. -/
def spread : Nat → Nat → SMap Byte → List Byte
  | 0, _, _ => []
  | n + 1, o, [] => 0 :: spread n (o + 1) []
  | n + 1, o, (a, v) :: m => if a = o then v :: spread n (o + 1) m else 0 :: spread n (o + 1) ((a, v) :: m)

/-- The first n bytes of a slot. -/
def Slot.first (sl : Slot) (n : Nat) : List Byte := spread n 0 sl.bytes

/-- n bytes of a list at offset o, as a little-endian number (R60). -/
def fieldAt (l : List Byte) (o n : Nat) : Nat := leNat ((l.drop o).take n)

/-- The words of a list of bytes. -/
def wordsOf : List Byte → List Word
  | a :: b :: c :: d :: l => BitVec.ofNat 32 (leNat [a, b, c, d]) :: wordsOf l
  | _ => []

/-- MAGIC stands at offset 0 (R61). -/
def hasMagic (h : List Byte) : Bool := h.take 4 == [0x4F, 0x4C, 0x4A, 0x4E]

/-! ### Header -/

/-- The other members of the Glaif family (file 00); an image of one of them passes where PORTABLE is 1 (R85). -/
def otherMembers : List Nat := [9602, 9608, 9616, 9632]

/-- The header checks in order: Presence, Format, Header integrity, Target, Length as far as the header decides it (R71, R85);
0 when all pass. -/
def headerCause (h : List Byte) : Nat :=
  let flags := fieldAt h 0x0B 1
  let seq := fieldAt h 0x10 4
  let nsect := fieldAt h 0x16 2
  let len := fieldAt h 0x0C 4
  if !hasMagic h then 1
  else if fieldAt h 4 2 ≠ 1 || fieldAt h 6 2 ≠ 0x40 || 4 ≤ flags || fieldAt h 0x19 3 ≠ 0 || fieldAt h 0x34 8 ≠ 0
      || seq = 0 || seq = 0xFFFFFFFF || nsect = 0 || 64 < nsect || 3 < fieldAt h 0x18 1 then 2
  else if crc32 (h.take 0x3C) ≠ fieldAt h 0x3C 4 then 3
  else if !(fieldAt h 8 2 == 9648 || (flags % 2 == 1 && otherMembers.contains (fieldAt h 8 2)))
      || 0x20 < fieldAt h 0x0A 1 then 4
  else if len % 4 ≠ 0 || len < 100 || 0x18000 < len then 5
  else 0

/-! ### Sections -/

/-- A section: TYPE, CRITICAL, INST, the LEN bytes of its payload. -/
structure Section where
  typ : Nat
  critical : Bool
  inst : Nat
  payload : List Byte
  deriving DecidableEq, Repr

/-- n sections that end exactly with the list (R62, R71). -/
def sections : Nat → List Byte → Option (List Section)
  | 0, l => if l.isEmpty then some [] else none
  | n + 1, l =>
    let len := fieldAt l 4 4
    let padded := ceilDiv len 4 * 4
    if l.length < 8 || l.length < 8 + padded then none
    else (sections n (l.drop (8 + padded))).map fun r =>
      ⟨fieldAt l 0 2, fieldAt l 2 1 % 2 == 1, fieldAt l 3 1, (l.drop 8).take len⟩ :: r

/-- A TYPE of R65's table. -/
def knownType (t : Nat) : Bool := (1 ≤ t && t ≤ 0xD) || t == 0x10

/-- TYPEs ascend strictly; GRAPH repeats with ascending instances (R63). -/
def orderedSections : List Section → Bool
  | a :: b :: l => (decide (a.typ < b.typ) || (a.typ == 6 && b.typ == 6 && decide (a.inst < b.inst)))
      && orderedSections (b :: l)
  | _ => true

/-- Blocks a section's records may reach (R65), by address[23:16]. -/
def sectionBlocks (typ : Nat) : List Nat :=
  match typ with
  | 1 => [0, 1, 2]
  | 2 => [3]
  | 3 => [8, 9]
  | 4 => [0x0A, 0x0B]
  | 5 => [0x0C, 0x0D]
  | 7 => [0x10, 0x11, 0x12, 0x14]
  | 8 => [0x13]
  | 9 => [0x15]
  | 0xA => [0x16]
  | 0xB => [0x17]
  | 0xC => [0x18, 0x19]
  | 0xD => [0x1F]
  | _ => []

/-- Offsets of a graph window that only a GRAPH section sets (R154). -/
def graphOnly (a : Nat) : Bool :=
  a / 65536 == 0x10 && decide (a % 65536 < 0x8000)
    && (decide (a % 0x1000 < 0x10) || (decide (0x100 ≤ a % 0x1000) && decide (a % 0x1000 < 0x400)))

/-- The records of a payload as single words with their addresses, in order; none where a record breaks R64. -/
def records : Nat → List Word → Option (List (Nat × Word))
  | 0, _ => none
  | _ + 1, [] => some []
  | n + 1, h :: l =>
    let a := h.toNat / 256
    let c := h.toNat % 256 + 1
    if l.length < c then none
    else (records n (l.drop c)).map fun r => ((l.take c).zipIdx.map fun x => (a + 4 * x.2, x.1)) ++ r

/-- A register all of whose fields are WO. -/
def writeOnly (x : Loc) : Bool := !x.spec.fields.isEmpty && x.spec.fields.all fun f => f.acc == .wo

/-- One word of a record may stand in a section of this TYPE (R65, R154), its field ranges apart from cross conditions. -/
def recordWordOk (typ : Nat) (aw : Nat × Word) : Bool :=
  (sectionBlocks typ).contains (aw.1 / 65536) && !graphOnly aw.1
    && match locate aw.1 with
      | none => false
      | some x => !writeOnly x && staticOk x.spec.id aw.2

/-! ### GRAPH sections -/

/-- The stages of a GRAPH payload from stage i on: DESC, SHIFT, coefficients, those not carried 0 (R153). -/
def graphStages (k : Nat) : Nat → Nat → List Word → Option (List (Nat × Word))
  | 0, _, l => if l.isEmpty then some [] else none
  | n + 1, i, d :: sh :: l =>
    let c := coefCount (getBits d 28 4)
    if l.length < c then none
    else
      let coefs := (List.range 5).map fun j => (A.GRAPH_STG_COEF k i j, if j < c then l.getD j 0 else 0)
      (graphStages k n (i + 1) (l.drop c)).map fun r =>
        (A.GRAPH_STG_DESC k i, d) :: (A.GRAPH_STG_SHIFT k i, sh) :: coefs ++ r
  | _ + 1, _, _ => none

/-- The register words a GRAPH section sets (R153); none where its layout or a field is wrong. -/
def graphWords (x : Section) : Option (List (Nat × Word)) :=
  if 7 < x.inst || x.payload.length % 4 ≠ 0 then none
  else match wordsOf x.payload with
    | h :: pl :: y :: l =>
      if getBits h 24 8 ≠ 1 || getBits h 19 5 ≠ 0 || getBits h 12 4 ≠ 0 then none
      else (graphStages x.inst (getBits h 8 4 + 1) 0 l).map fun r =>
        (A.GRAPH_HDR x.inst, BitVec.ofNat 32 (getBits h 0 24)) :: (A.GRAPH_PLACE x.inst, pl)
          :: (A.GRAPH_YINIT x.inst, y) :: r
    | _ => none

/-! ### What an image leaves -/

/-- Everything an image writes, in order: TYPE, address, word; `ok` says that the content is well formed so far (R63-R65,
R153). -/
structure Content where
  decl : Option Nat
  writes : List (Nat × Nat × Word)
  graphs : List Nat
  skipped : Nat
  ok : Bool
  deriving DecidableEq, Repr

/-- The content of one section added. -/
def addSection (c : Content) (x : Section) : Content :=
  if !knownType x.typ then
    if x.critical then { c with ok := false } else { c with skipped := c.skipped + 1 }
  else if x.typ = 0x10 then c
  else if x.typ = 6 then
    match graphWords x with
    | none => { c with ok := false }
    | some ws =>
      let good := ws.all fun aw => match locate aw.1 with | some l => staticOk l.spec.id aw.2 | none => false
      { c with writes := c.writes ++ ws.map fun aw => (6, aw.1, aw.2), graphs := c.graphs ++ [x.inst], ok := c.ok && good }
  else
    let ws := wordsOf x.payload
    let body := if x.typ = 1 then ws.drop 1 else ws
    let c1 := if x.typ = 1 then { c with decl := ws.head?.map (·.toNat),
                                         ok := c.ok && (match ws.head? with | some d => decide (d.toNat < 64) | none => false) }
      else c
    match records (body.length + 1) body with
    | none => { c1 with ok := false }
    | some rs =>
      { c1 with writes := c1.writes ++ rs.map fun aw => (x.typ, aw.1, aw.2)
                ok := c1.ok && x.payload.length % 4 == 0 && rs.all (recordWordOk x.typ) }

/-- The content of an image's sections. -/
def contentOf (l : List Section) : Content :=
  l.foldl addSection ⟨none, [], [], 0, orderedSections l⟩

/-- Fields whose written 1 is a request of its own, not a plain clear (R104, R236, R270). -/
def ownClear (id : RegId) (lo : Nat) : Bool :=
  match id with
  | .phaseStatus => lo == (F.PHASE_STATUS_LATCHED 0).lo
  | .cmpStatus => lo == (F.CMP_STATUS_LATCHED 0).lo
  | .lnkEpCause => true
  | _ => false

/-- The fields of a stored word take those of w under their access types (R7, R66, R397): RW and RWL are replaced, W1S set, W1C cleared;
RO and RC stay, WO and the requests of `ownClear` are effects of their own. -/
def putWord (x : Loc) (a : Nat) (w : Word) (r : RegFile) : RegFile :=
  r.setWord a (x.spec.fields.foldl (fun v f =>
    match f.acc with
    | .rw | .rwl => setBits v f.lo f.w (getBits w f.lo f.w)
    | .w1s => setBits v f.lo f.w (getBits v f.lo f.w ||| getBits w f.lo f.w)
    | .w1c => if ownClear x.spec.id f.lo then v else setBits v f.lo f.w (getBits v f.lo f.w &&& (2 ^ f.w - 1 - getBits w f.lo f.w))
    | _ => v) (r.word a))

/-- Put one word of an image. -/
def putImage (r : RegFile) (aw : Nat × Word) : RegFile :=
  match locate aw.1 with
  | some x => putWord x aw.1 aw.2 r
  | none => r

/-- The state whose registers are those the image leaves, for judging its conditions (R65): everything else at reset, straps
and retired lanes as they are. -/
def leaves (s : State) (c : Content) : State :=
  let r := c.writes.foldl (fun r x => putImage r x.2) []
  let s1 := { State.reset with sup := s.sup, regs := r }
  s1.p F.LE_STATUS_RETIRED s.nv.health.laneRetired.toNat

/-- Stage groups with an assigned phase. -/
def State.assignedGroups (s : State) : List Nat :=
  (List.range 6).filter fun g => (List.range 8).any fun i => s.gb (F.PHASE_ASSIGN_ASGN (8 * g + i))

/-- R46: the declared type of each group with an assigned phase is the strapped one, and the strap decodes. -/
def strapsOk (s : State) (decl : Nat) (groups : List Nat) : Bool :=
  groups.all fun g => match s.sup.smod.toList[g]? with
    | some .threeLevel => !bitAt decl g
    | some .paired => bitAt decl g
    | _ => false

/-- No assigned phase stands in an unusable group, which no declaration can suit (R46). -/
def strapsDecode (s : State) (groups : List Nat) : Bool :=
  groups.all fun g => match s.sup.smod.toList[g]? with | some .threeLevel | some .paired => true | _ => false

/-- The strap check of R71 and R425; content without a declaration word is held to the straps alone (DEDUCED, log entry 46). -/
def strapCheck (s : State) (decl : Option Nat) (groups : List Nat) : Bool :=
  match decl with | some d => strapsOk s d groups | none => strapsDecode s groups

/-- Writes of VSET and ON for rail k, in order. -/
def commandWrites (c : Content) (k : Nat) : List (Nat × Word) :=
  (c.writes.map (·.2)).filter fun aw => aw.1 == A.RAIL_VSET k || aw.1 == A.RAIL_ON k

/-- The commands an image gives rail k: at most 16, every VSET inside the limits it leaves (R199). -/
def commandsOk (s' : State) (c : Content) (k : Nat) : Bool :=
  decide ((commandWrites c k).length ≤ 16)
    && (commandWrites c k).all fun aw => aw.1 != A.RAIL_VSET k || s'.inLimits k (getBits aw.2 0 16)

/-- A word with the WO fields of another. -/
def withWo (x : Loc) (v w : Word) : Word :=
  x.spec.fields.foldl (fun v f => if f.acc == .wo then setBits v f.lo f.w (getBits w f.lo f.w) else v) v

/-- The conditions judged on what the whole image leaves, and on the WO bits it writes: ranges across fields and registers, graphs and
placement (R65, R141, R143, R153, R199). -/
def finalOk (s' : State) (c : Content) : Bool :=
  (c.writes.all fun x => match locate x.2.1 with
      | some l => !s'.absent l && crossOk s' (fun b => if b = x.2.1 then withWo l (s'.word b) x.2.2 else s'.word b) l
      | none => false)
    && c.graphs.all s'.gvalid && (List.range 8).all (fun k => commandsOk s' c k) && (placeAll s').2

/-! ### The checks of a slot (R71) -/

/-- What a full check finds: CAUSE, declaration word, sections skipped by a check that reached the content, content. -/
structure Checked where
  cause : Nat
  decl : Option Nat
  skipped : Nat
  content : Content
  deriving DecidableEq, Repr

/-- The tag matches the image key (R68, R70). -/
def tagOk (s : State) (img : List Byte) (key : Nat) : Bool :=
  match vget s.gate.bank.keys (Fin.ofNat 5 key) with
  | some k => hmacSha256 (leBytes 32 k.toNat) (img.take (img.length - 32)) == img.drop (img.length - 32)
  | none => false

/-- R70: before PROVISIONED every image passes; after it, only with AUTHMODE 1, the key present and the tag right. -/
def authOk (s : State) (img : List Byte) : Bool :=
  !s.gate.bank.provisioned || (fieldAt img 0x0B 1 / 2 % 2 == 1 && tagOk s img (fieldAt img 0x18 1))

/-- The slot's write is open, or was closed without a VERIFY (R76, R77). -/
def Slot.isOpen (sl : Slot) : Bool := sl.cause == 0xC

/-- The full check of slot i, as if its write were closed (R71). -/
def fullCheck (s : State) (sl : Slot) : Checked :=
  let none_ : Content := ⟨none, [], [], 0, false⟩
  let h := sl.first 0x40
  let hc := headerCause h
  if hc ≠ 0 then ⟨hc, none, 0, none_⟩
  else
    let len := fieldAt h 0x0C 4
    let img := sl.first len
    match sections (fieldAt h 0x16 2) ((img.take (len - 36)).drop 0x40) with
    | none => ⟨5, none, 0, none_⟩
    | some secs =>
      let c := contentOf secs
      let s' := leaves s c
      let cause :=
        if sl.badw.any (fun w => decide (4 * w < len)) || crc32 (img.take (len - 36)) ≠ fieldAt img (len - 36) 4 then 6
        else if !authOk s img then 7
        else if fieldAt h 0x14 2 < s.gate.bank.floor then 8
        else if !strapCheck s c.decl s'.assignedGroups then 9
        else if !(c.ok && finalOk s' c) then 0xA
        else if c.decl.isNone then 0xB
        else 0
      ⟨cause, c.decl, if cause = 0 || cause = 0xA || cause = 0xB then c.skipped else 0, c⟩

/-- SECVER and SEQ a slot reports: from the header, 0 where a header check fails. -/
def Slot.report (sl : Slot) (cause : Nat) : Slot :=
  let h := sl.first 0x40
  let ok := headerCause h == 0 && cause != 0xC
  { sl with cause := cause, secver := if ok then fieldAt h 0x14 2 else 0, seq := if ok then fieldAt h 0x10 4 else 0 }

/-- A word of slot i at byte offset o is written (R330). -/
def slotWrite (i : Fin 2) (o : Nat) (s : State) : State := sectorWrite (96 * i.val + o / 1024) s

/-- Change slot i. -/
def State.modSlot (s : State) (i : Fin 2) (f : Slot → Slot) : State :=
  { s with img := { s.img with slots := vset s.img.slots i (f (vget s.img.slots i)) } }

/-- What a full check of slot i found is reported and kept (R71, R425). -/
def keepCheck (i : Fin 2) (r : Checked) (s : State) : State :=
  s.modSlot i fun sl => { sl.report r.cause with kept := some r.cause, decl := r.decl }

/-- SKIPPED takes the count of a VERIFY or a BOOT; for 64, which its 6 bits cannot show, it is a free value. -/
def putSkipped (n : Nat) (s : State) : State :=
  if n < 64 then s.p F.IMG_STATUS_SKIPPED n
  else
    let d := s.draw
    d.2.p F.IMG_STATUS_SKIPPED (Config.freeNat d.1 % 64)

/-- The whole of slot i is read from the MRAM (R71, R329). -/
def readSlot (i : Fin 2) (f : ReadFind) (s : State) : State := readArea (24576 * i.val) f s

/-- A full check of slot i by VERIFY or BOOT (R71). -/
def checkSlot (i : Fin 2) (s : State) : State :=
  let r := fullCheck s (vget s.img.slots i)
  putSkipped r.skipped (keepCheck i r s)

/-- The recheck of ACCEPT, which is no VERIFY: SKIPPED keeps its value (R76). -/
def recheckSlot (i : Fin 2) (s : State) : State := keepCheck i (fullCheck s (vget s.img.slots i)) s

/-- What a slot read by header only reports at BOOT (R425). -/
def headerReport (s : State) (sl : Slot) : Nat :=
  let h := sl.first 0x40
  let hc := headerCause h
  if sl.isOpen then 0xC
  else if hc ≠ 0 then hc
  else if fieldAt h 0x14 2 < s.gate.bank.floor then 8
  else match sl.kept with
    | none => 0xA
    | some k =>
      let groups := match sections (fieldAt h 0x16 2) (((sl.first (fieldAt h 0x0C 4)).take (fieldAt h 0x0C 4 - 36)).drop 0x40) with
        | some secs => (leaves s (contentOf secs)).assignedGroups
        | none => []
      if !strapCheck s sl.decl groups then 9 else k

/-! ### Commands (R76, R77) -/

/-- The result of a command. -/
def cmdRes (r : Nat) (s : State) : State := s.p F.IMG_STATUS_CMDRES r

/-- A refused command (R77). -/
def imgRefuse (m : Master) (c : CfgCause) (s : State) : State := cmdRes 1 (cfgRefuse m c A.IMG_CTL s)

/-- The other slot. -/
def otherSlot (i : Fin 2) : Fin 2 := if i = 0 then 1 else 0

/-- OPEN (R76, R77). -/
def imgOpen (m : Master) (i : Fin 2) (s : State) : State :=
  if s.img.running = some i && s.dev != .safe then imgRefuse m .slotBusy s
  else if s.img.openSlot = some (otherSlot i) then imgRefuse m .imgCmd s
  else
    let s1 := s.modSlot i fun sl => { sl with
      bytes := (List.range 4).foldl (fun b o => SMap.set (fun _ => (0 : Byte)) b o 0) sl.bytes
      preferred := false, trial := false, tried := false, kept := none, decl := none, cause := 0xC, verified := false, secver := 0, seq := 0 }
    cmdRes 0 ((slotWrite i 0 { s1 with img := { s1.img with openSlot := some i } }).p F.IMG_WPTR_WPTR 0)

/-- The slot holds an image (R76, VERIFY): MAGIC is there, and no abandoned load. -/
def Slot.holdsImage (sl : Slot) : Bool := hasMagic (sl.first 4) && !sl.isOpen

/-- VERIFY: any open write closes, and the checks begin (R76). -/
def imgVerify (m : Master) (i : Fin 2) (s : State) : State :=
  if s.img.openSlot = some i || (vget s.img.slots i).holdsImage then
    { s with img := { s.img with openSlot := none, verifying := some i, found := ⟨[], []⟩ } }
  else imgRefuse m .imgCmd s

/-- VERIFY_DONE: CAUSE is set, and CMDRES 00b if it is 0h, else 10b (R76). -/
def verifyDone (s : State) : State :=
  match s.img.verifying with
  | none => s
  | some i =>
    let s1 := checkSlot i (readSlot i s.img.found { s with img := { s.img with verifying := none } })
    let ok := (vget s1.img.slots i).cause == 0
    cmdRes (if ok then 0 else 2) (s1.modSlot i fun sl => { sl with verified := ok })

/-- VERIFY_DONE. -/
def execVerifyDone (s : State) : Answer := done (verifyDone s)

/-- COMMIT of a slot that passed VERIFY and has not been written since: it becomes PREFERRED and TRIAL; SAFE enters BOOT
(R19, R76). -/
def imgCommit (m : Master) (i : Fin 2) (s : State) : State :=
  if (vget s.img.slots i).verified then
    let s1 := s.modSlot i fun sl => { sl with preferred := true, trial := true, tried := false }
    let s2 := cmdRes 0 (s1.modSlot (otherSlot i) fun sl => { sl with preferred := false })
    if s2.dev = .safe then safeToBoot s2 else s2
  else imgRefuse m .imgCmd s

/-- ACCEPT: the running trial becomes permanent, the floor rises, the other slot is checked again (R76). -/
def imgAccept (m : Master) (s : State) : State :=
  match s.img.running with
  | some r =>
    if (s.dev = .standby || s.dev = .run) && (vget s.img.slots r).trial then
      let s1 := s.modSlot r fun sl => { sl with trial := false, tried := false }
      let s2 := bankWrite (fun b => { b with floor := max b.floor (vget s1.img.slots r).secver }) s1
      let o := otherSlot r
      cmdRes 0 (if (vget s2.img.slots o).isOpen then s2 else recheckSlot o s2)
    else imgRefuse m .imgCmd s
  | none => imgRefuse m .imgCmd s

/-- ABORT: the open write closes; the slot keeps CAUSE Ch (R76). -/
def imgAbort (m : Master) (i : Fin 2) (s : State) : State :=
  if s.img.openSlot = some i then cmdRes 0 { s with img := { s.img with openSlot := none } }
  else imgRefuse m .imgCmd s

/-- IMG_CTL is written: CMD, TARGET (R76, R77); while BUSY every command is refused, an OPEN of the running slot with the
cause IMGCMD (DESIGN CHOICE, log entry 103: the rule gives both IMGCMD and SLOTBUSY). -/
def imgCommand (m : Master) (cmd : Nat) (i : Fin 2) (s : State) : State :=
  if cmd = 0 then s
  else if s.img.verifying.isSome then imgRefuse m .imgCmd s
  else match cmd with
    | 1 => imgOpen m i s
    | 2 => imgVerify m i s
    | 3 => imgCommit m i s
    | 4 => imgAccept m s
    | 5 => imgAbort m i s
    | _ => imgRefuse m .imgCmd s

/-- A word of an image is stored at WPTR (R77). -/
def imgData (m : Master) (w : Word) (s : State) : State :=
  let p := s.g F.IMG_WPTR_WPTR
  match s.img.openSlot with
  | some i =>
    if 0x18000 ≤ p then cfgRefuse m .imgCmd A.IMG_WDATA s
    else
      let s1 := s.modSlot i fun sl => { sl with
        verified := false
        bytes := (leBytes 4 w.toNat).zipIdx.foldl (fun b x => SMap.set (fun _ => (0 : Byte)) b (p + x.2) x.1) sl.bytes
        badw := sl.badw.filter (· != p / 4) }
      (slotWrite i p s1).p F.IMG_WPTR_WPTR (p + 4)
  | none => cfgRefuse m .imgCmd A.IMG_WDATA s

end Sys2Proof.Machine
end

