-- ==== Sys2Proof/Machine/RegWrite.lean ====
section
/-!
DEFINITION. Register accesses (R17, R18, R78-R83, R379-R383, R395-R399, R426): how a write is judged and takes effect under
each field's commit class, the coupled groups, what a completed read clears and latches, and the rows whose command is
such a write or read.
-/

namespace Sys2Proof.Machine

/-! ### Blocks that run (R48, R78) -/

/-- A phase of group g belongs to an enabled rail (R48, R244). -/
def State.stageRuns (s : State) (g : Nat) : Bool :=
  (allFin 48).any fun n => groupOf n.val == g && s.belongs n

/-- The block of register x at address a runs, for its HALT fields (R78). OL[k], which the table does not name, runs with rail k as the
blocks beside it do (DESIGN CHOICE, log entry 126). -/
def State.blockRuns (s : State) (x : Loc) (a : Nat) : Bool :=
  match x.spec.id with
  | .stagegrpCfg => s.stageRuns x.i
  | .phaseCtl => s.phRuns (Fin.ofNat 48 x.i)
  | .railSeqctl | .railTdly | .railRamp | .railStop => s.seqBusy (Fin.ofNat 8 x.i)
  | .seqgrpCtl => (allFin 8).any fun k => s.gb (F.RAIL_SEQCTL_INGRP k.val) && s.g (F.RAIL_SEQCTL_SEQGRP k.val) == x.i
      && s.st k != .off
  | .sfeIcal => match s.railOf x.i with | some k => s.enabled k | none => false
  | .cmpCtl | .cmpTrack => s.gb (F.CMP_STATUS_ARMED x.i)
  | .lnkCtl | .lnkEpBind => s.gb (F.LNK_CTL_PEN x.i)
  | .plCtl | .plDec | .plTrig | .plTlev | .plPre | .plNode =>
    (vget s.plate (Fin.ofNat 4 x.i)).st == .armed || (vget s.plate (Fin.ofNat 4 x.i)).st == .capturing
  | _ =>
    if a / 65536 = 3 then s.porterRuns
    else match railWindow a with
      | some k => s.enabled (Fin.ofNat 8 k)
      | none => s.running

/-! ### Present values (R397) -/

/-- The rail whose sample boundary the SAMPLE fields of x wait for. -/
def sampleRail (x : Loc) (a : Nat) : Fin 8 :=
  match x.spec.id with
  | .cmpTrack => Fin.ofNat 8 x.i
  | _ => Fin.ofNat 8 ((railWindow a).getD 0)

/-- The block of the SAMPLE fields of x runs (R78). -/
def State.sampleRuns (s : State) (x : Loc) (a : Nat) : Bool :=
  match x.spec.id with
  | .cmpTrack => s.gb (F.CMP_STATUS_ARMED x.i)
  | _ => s.enabled (sampleRail x a)

/-- The fields of commit class c of a register. -/
def Loc.com (x : Loc) (c : Com) : List FieldSpec := comMask c x.spec

/-- A word with the given fields taken from another. -/
def takeFields (fs : List FieldSpec) (w from_ : Word) : Word :=
  fs.foldl (fun v f => setBits v f.lo f.w (getBits from_ f.lo f.w)) w

/-- The latest waiting write of address a in a list. -/
def lastWrite (a : Nat) (l : List (Nat × Word)) : Option Word :=
  l.foldl (fun r x => if x.1 = a then some x.2 else r) none

/-- The word of register x with waiting SAMPLE and BOUNDARY writes, and staged values, laid over the live one (R397). -/
def State.presentOf (s : State) (x : Loc) (a : Nat) : Word :=
  let w := s.viewLoc .sup x a
  let w1 := match x.com .sample with
    | [] => w
    | fs => match lastWrite a ((s.ra (sampleRail x a)).sample.map (·.2)) with | some v => takeFields fs w v | none => w
  let w2 := match x.com .boundary with
    | [] => w1
    | fs => match lastWrite a (s.ph (Fin.ofNat 48 x.i)).boundary with | some v => takeFields fs w1 v | none => w1
  match x.com .group with
  | [] => w2
  | _ => s.img.staging.foldl (fun v g => if g.addr = a then setBits v g.lo g.w g.val else v) w2

/-- The present word of any address. -/
def State.present (s : State) (a : Nat) : Word :=
  match locate a with
  | some x => s.presentOf x a
  | none => 0

/-- Every writable field of a word taken from the written one. -/
def mergeWritten (x : Loc) (old w : Word) : Word :=
  takeFields (x.spec.fields.filter fun f => f.acc != .ro && f.acc != .rc && f.acc != .w1c) old w

/-- The write would change a field that satisfies p (R397). -/
def changes (x : Loc) (old w : Word) (p : FieldSpec → Bool) : Bool :=
  x.spec.fields.any fun f => (f.acc == .rw || f.acc == .rwl) && p f && getBits old f.lo f.w != getBits w f.lo f.w

/-! ### Judging a write (R426) -/

/-- What becomes of an access. -/
inductive Verdict
  | ok
  /-- BOOT: not ready (R17, R75). -/
  | notReady
  /-- The Gatehouse refuses it, with its KIND (R381). -/
  | gate (kind : Nat)
  /-- Refused with a cause of CFGERR. -/
  | refused (c : CfgCause)
  deriving DecidableEq, Repr

/-- The Gatehouse registers SAFE accepts writes of (R18). -/
def safeGate : RegId → Bool
  | .ghLock | .ghChal | .ghResp | .ghDeny | .ghKeyw | .ghKeyctl => true
  | _ => false

/-- SAFE accepts a write of register x at address a (R18), or leaves an unmapped address of a block it serves to the ranges (R395). -/
def safeWritable (x : Option Loc) (a : Nat) : Bool :=
  a / 65536 == 4 || a / 65536 == 5 || match x with
    | some x => x.spec.id == .deviceCtl || safeGate x.spec.id
    | none => a / 65536 == 0 || a / 65536 == 0x1F

/-- The instance of group 02h a write of PHASE[n].ASSIGN is staged in (R247). -/
def State.assignInst (s : State) (n : Nat) (w : Word) : Nat :=
  if getBits w (F.PHASE_ASSIGN_ASGN n).lo 1 = 1 then getBits w (F.PHASE_ASSIGN_RAIL n).lo (F.PHASE_ASSIGN_RAIL n).w
  else s.g (F.PHASE_ASSIGN_RAIL n)

/-- The group and instance a write of w to a member register x belongs to (R80, R247). -/
def State.memberOf (s : State) (x : Loc) (w : Word) : Option (Nat × Nat) :=
  match x.spec.id with
  | .phasePeriod | .phaseDuty => some (1, x.i)
  | .railSeq | .railRing => some (2, x.i)
  | .phaseAssign => some (2, s.assignInst x.i w)
  | .railTon | .railRip => some (3, x.i)
  | .ptBrk => some (4, 0xFF)
  | _ => none

/-- The armed group a write of x would meet: that of its instance, or of the value staged before (R81 rule 6). -/
def State.busyGroup (s : State) (x : Loc) (a : Nat) (w : Word) : Option (Nat × Nat) :=
  match s.memberOf x w with
  | none => none
  | some (g, i) =>
    if s.isArmed g i then some (g, i)
    else match s.img.staging.find? fun y => y.addr == a && s.isArmed y.group y.index with
      | some y => some (y.group, y.index)
      | none => none

/-- The register file after the write, for conditions across registers (R426). -/
def State.after (s : State) (x : Loc) (a : Nat) (w : Word) (b : Nat) : Word :=
  if b = a then mergeWritten x (s.presentOf x a) w else s.present b

/-- Ranges (R426 step 5), with the writer's read grant for a Plate node of KIND 0Ah (R339). -/
def State.writeInRange (s : State) (m : Master) (x : Loc) (a : Nat) (w : Word) : Bool :=
  rangeOk s (s.after x a w) x a (s.presentOf x a)
    && !(x.spec.id == .plNode && getBits w 24 8 == 10 && (s.gateRead m (getBits w 0 24)).isSome)

/-- A write of word w to address a by master m is judged (R426); a register that is absent has no field to lock or to
change, and its refusal is RANGE, as for an unmapped address (R395). -/
def judge (m : Master) (a : Nat) (w : Word) (s : State) : Verdict :=
  if s.dev = .off || s.dev = .boot then .notReady
  else
    let x := (locate a).filter fun x => !s.absent x
    let old := match x with | some x => s.presentOf x a | none => 0
    let locked := s.lockedFor m (a / 65536) && match x with | some x => changes x old w (·.acc == .rwl) | none => false
    match s.gateWrite m a locked with
    | some k => .gate k
    | none =>
      if s.dev = .safe && m != .sup && !safeWritable x a then .refused .state
      else match x with
        | none => .refused .range
        | some x =>
          if s.blockRuns x a && changes x old w (·.com == .halt) then .refused .halt
          else if (s.busyGroup x a w).isSome then .refused .grpBusy
          else if s.writeInRange m x a w then .ok else .refused .range

/-- GROUP_STATE names a group and instance. -/
def nameGroup (g i : Nat) (s : State) : State := (s.p F.GROUP_STATE_GROUP g).p F.GROUP_STATE_INDEX i

/-- A refused write is reported (R81 rule 6, R83, R381). -/
def refuseWrite (m : Master) (a : Nat) (w : Word) (v : Verdict) (s : State) : State :=
  match v with
  | .ok | .notReady => s
  | .gate k => ghRefuse m k a s
  | .refused .grpBusy =>
    let s1 := cfgRefuse m .grpBusy a s
    match locate a with
    | some x => match s.busyGroup x a w with
      | some (g, i) => (nameGroup g i s1).p F.GROUP_STATE_LASTRESULT 5
      | none => s1
    | none => s1
  | .refused c => cfgRefuse m c a s

/-! ### Coupled groups (R80, R81) -/

/-- A group and instance R80 gives. -/
def groupExists (g i : Nat) : Bool :=
  match g with
  | 1 => decide (i < 48)
  | 2 | 3 => decide (i < 8)
  | 4 => i == 0xFF
  | _ => false

/-- The block of a group instance runs (R78, R81). -/
def State.groupRuns (s : State) (g i : Nat) : Bool :=
  match g with
  | 1 => s.phRuns (Fin.ofNat 48 i)
  | 4 => s.porterRuns
  | _ => s.enabled (Fin.ofNat 8 i)

/-- The word at a with the values staged in one group instance laid over it (R81 rule 4). -/
def State.staged (s : State) (g i a : Nat) : Word :=
  (s.stagedOf g i).foldl (fun v y => if y.addr = a then setBits v y.lo y.w y.val else v) (s.word a)

/-- A field under the values staged in one group instance. -/
def State.sg (s : State) (g i : Nat) (f : Fld) : Nat := getBits (s.staged g i f.addr) f.lo f.w

/-- The ring instance k of group 02h would have (R80). -/
def State.stagedRing (s : State) (k : Nat) : List Nat :=
  (List.range (s.sg 2 k (F.RAIL_SEQ_RINGLEN k))).map fun i =>
    getBits (s.staged 2 k (A.RAIL_RING k (i / 4))) (8 * (i % 4)) 8

/-- Phase n would be assigned active to rail k (R246). -/
def State.stagedActive (s : State) (k : Nat) (n : Fin 48) : Bool :=
  s.sg 2 k (F.PHASE_ASSIGN_ASGN n.val) == 1 && s.sg 2 k (F.PHASE_ASSIGN_RAIL n.val) == k
    && s.sg 2 k (F.PHASE_ASSIGN_POOL n.val) == 0 && (s.rl n).role != .retired

/-- No phase moves to rail k from another rail (R247). -/
def State.moveRule (s : State) (k : Nat) : Bool :=
  (s.stagedOf 2 k).all fun y => (allFin 48).all fun n =>
    y.addr != A.PHASE_ASSIGN n.val || s.sg 2 k (F.PHASE_ASSIGN_ASGN n.val) != 1
      || s.sg 2 k (F.PHASE_ASSIGN_RAIL n.val) != k || match s.railOf n.val with
        | some j => j.val == k
        | none => true

/-- Group 02h's check (R80). -/
def State.ringOk (s : State) (k : Nat) : Bool :=
  let l := s.stagedRing k
  let want := ((allFin 48).filter fun n => s.stagedActive k n).map (·.val)
  want.all (fun n => l.count n == 1) && l.all (fun n => want.contains n) && s.moveRule k

/-- Group 04h's check: currents strictly ascending, times not increasing (R80). -/
def State.curveOk (s : State) : Bool :=
  (List.range 7).all fun j =>
    decide (s.sg 4 0xFF (F.PT_BRK_ICUR j) < s.sg 4 0xFF (F.PT_BRK_ICUR (j + 1)))
      && decide (s.sg 4 0xFF (F.PT_BRK_TTRIP (j + 1)) ≤ s.sg 4 0xFF (F.PT_BRK_TTRIP j))

/-- The check of a group at its commit (R80, R81 rule 4); both values of group 03h were in range when written. -/
def State.groupOk (s : State) (g i : Nat) : Bool :=
  match g with
  | 1 => decide (s.sg 1 i (F.PHASE_DUTY_DUTY i) ≤ 16 * s.sg 1 i (F.PHASE_PERIOD_PERIOD i))
  | 2 => s.ringOk i
  | 4 => s.curveOk
  | _ => true

/-- GROUP_COMMIT, OP query (R81). -/
def groupQuery (m : Master) (g i : Nat) (s : State) : State :=
  if groupExists g i then nameGroup g i s else cfgRefuse m .range A.GROUP_COMMIT s

/-- GROUP_COMMIT, OP commit (R81 rules 4-7, 9). -/
def groupCommit (m : Master) (g i : Nat) (s : State) : State :=
  if !groupExists g i then cfgRefuse m .range A.GROUP_COMMIT s
  else
    let s1 := nameGroup g i s
    if s1.isArmed g i then (cfgRefuse m .grpBusy A.GROUP_COMMIT s1).p F.GROUP_STATE_LASTRESULT 5
    else if (s1.stagedOf g i).isEmpty then s1.p F.GROUP_STATE_LASTRESULT 2
    else if !s1.groupOk g i then (cfgRefuse m .grpInvalid A.GROUP_COMMIT s1).p F.GROUP_STATE_LASTRESULT 3
    else if s1.groupRuns g i then
      let s2 := { s1 with img := { s1.img with armed := s1.img.armed ++ [⟨g, i, m, s1.clock⟩] } }
      if g = 2 then ringChangeWaits (Fin.ofNat 8 i) s2 else s2
    else applyGroup g i s1

/-- The armed commit and the staging of a group instance are discarded; what the commit held is kept, as whether the abort came in time
shows at the boundary alone (R81 rule 7). -/
def cancelGroup (g i : Nat) (s : State) : State :=
  let drop := fun (x y : Nat) => !(x == g && y == i)
  let held := (s.img.armed.filter fun y => !drop y.group y.index).map fun y => (⟨y, s.stagedOf g i, s.clock⟩ : Cancelled)
  { s with img := { s.img with
      staging := s.img.staging.filter fun y => drop y.group y.index
      armed := s.img.armed.filter fun y => drop y.group y.index
      cancelled := (s.img.cancelled.filter fun y => drop y.commit.group y.commit.index) ++ held } }

/-- GROUP_COMMIT, OP abort (R81 rule 7). -/
def groupAbort (m : Master) (g i : Nat) (s : State) : State :=
  if !groupExists g i then cfgRefuse m .range A.GROUP_COMMIT s
  else
    let s1 := nameGroup g i s
    if (s1.stagedOf g i).isEmpty && !s1.isArmed g i then s1.p F.GROUP_STATE_LASTRESULT 2
    else
      let s2 := cancelGroup g i s1
      let k : Fin 8 := Fin.ofNat 8 i
      (if g = 2 && !s2.ringWaits k then seqSettle k s2 else s2).p F.GROUP_STATE_LASTRESULT 4

/-- GROUP_COMMIT is written (R81); an OP of 11b is refused with cause RANGE. -/
def groupAccess (m : Master) (w : Word) (s : State) : State :=
  let g := getBits w 0 8
  let i := getBits w 8 8
  match getBits w 30 2 with
  | 0 => groupQuery m g i s
  | 1 => groupCommit m g i s
  | 2 => groupAbort m g i s
  | _ => cfgRefuse m .range A.GROUP_COMMIT s

/-- A write of one member field while its block runs is staged; a value staged before is replaced (R81 rule 1, R247). -/
def stageField (y : Staged) (s : State) : State :=
  { s with img := { s.img with
      staging := (s.img.staging.filter fun z => !(z.addr == y.addr && z.lo == y.lo)) ++ [y] } }

/-- The member fields of a group register are written (R81 rules 1 and 2); PHASE[n].ASSIGN stands in the Innkeeper, which
runs throughout (R78). -/
def putGroup (m : Master) (x : Loc) (a : Nat) (w : Word) (s : State) : State :=
  match s.memberOf x w with
  | none => s
  | some (g, i) =>
    let runs := s.groupRuns g i || x.spec.id == .phaseAssign
    let s1 := (x.com .group).foldl (fun s f =>
      let y : Staged := ⟨g, i, a, f.lo, f.w, getBits w f.lo f.w, m⟩
      if runs then stageField y s
      else
        let s' := s.p ⟨a, f.lo, f.w⟩ y.val
        if s.img.staging.any (fun z => z.addr == a && z.lo == f.lo) then stageField y s' else s') s
    if runs then s1
    else if g = 2 then
      let k : Fin 8 := Fin.ofNat 8 i
      let gone := (s.ring k).filter fun n => !(s1.ring k).contains n
      let s1 := forEach (fun s n => dropTrim k n s) gone s1
      capacityCheck k (updateRateLim k (s1.modInk k fun r => { r with
        base := (s1.ring k).filter fun n => (s1.rl n).role != .retired }))
    else if g = 3 then updateRateLim (Fin.ofNat 8 i) s1
    else s1

/-! ### A write takes effect -/

/-- The block of the BOUNDARY fields of x runs: the phase's, or for EV_RTR[n] the router's (R78, R376). -/
def State.boundaryRuns (s : State) (x : Loc) : Bool :=
  match x.spec.id with
  | .evRtr => s.running
  | _ => s.phRuns (Fin.ofNat 48 x.i)

/-- One field of a register takes its part of the written word, the GROUP fields and the registers' own effects apart
(R7, R8, R397). -/
def putField (x : Loc) (a : Nat) (w : Word) (s : State) (f : FieldSpec) : State :=
  let fld : Fld := ⟨a, f.lo, f.w⟩
  let v := getBits w f.lo f.w
  match f.acc with
  | .rw | .rwl =>
    match f.com with
    | .sample => if s.sampleRuns x a then s else s.p fld v
    | .boundary => if s.boundaryRuns x then s else s.p fld v
    | .group => s
    | _ => s.p fld v
  | .w1c => if ownClear x.spec.id f.lo then s else s.p fld (s.g fld &&& (2 ^ f.w - 1 - v))
  | .w1s => s.p fld (s.g fld ||| v)
  | _ => s

/-- A write of SAMPLE fields of a running block waits for the rail's sample boundary, one of BOUNDARY fields for the
phase's (R8, R28, R96); a BOUNDARY write to a stopped block, which has taken effect, is newer than any that still waits there. -/
def waitWrites (x : Loc) (a : Nat) (w : Word) (s : State) : State :=
  let s1 := if !(x.com .sample).isEmpty && s.sampleRuns x a then
      s.modRa (sampleRail x a) fun r => { r with sample := r.sample ++ [(s.clock, a, w)] }
    else s
  if (x.com .boundary).isEmpty then s1
  else s1.modPh (Fin.ofNat 48 x.i) fun p =>
    { p with boundary := if s1.boundaryRuns x then p.boundary ++ [(a, w)] else p.boundary.filter fun y => y.1 != a }

/-- Every writable field of a register takes its part of the written word. -/
def putAll (m : Master) (x : Loc) (a : Nat) (w : Word) (s : State) : State :=
  putGroup m x a w (waitWrites x a w (x.spec.fields.foldl (putField x a w) s))

/-- The causes of endpoint e of port p whose condition still holds, as a mask (R232, R236). -/
def State.standing (s : State) (p e : Nat) : Nat :=
  bitIf s.pfw 31 + (List.range 4).foldl (fun r sl => r + match s.slotRail p e sl with
    | some k => bitIf (s.capBelow k) (8 + sl) + bitIf (s.st k == .hiccup || s.st k == .latched) (12 + sl)
    | none => 0) 0

/-- Causes of an endpoint are cleared, but for those whose condition still holds (R232, R236). -/
def clearCauses (p e mask : Nat) (s : State) : State :=
  let a := A.LNK_EP_CAUSE p e
  s.setWord a (s.word a &&& ~~~ (BitVec.ofNat 32 mask &&& ~~~ BitVec.ofNat 32 (s.standing p e)))

/-- A host write of VSET or ON pushes an entry, or sets QFULL (R199). -/
def pushCommand (m : Master) (k : Fin 8) (data : Word) (kind : Nat) (s : State) : State :=
  if s.room (Fin.ofNat 16 k.val) 1 then
    qAppend (Fin.ofNat 16 k.val) ⟨data, BitVec.ofNat 16 (masterCode m * 8192), BitVec.ofNat 16 (kind * 4096)⟩ s
  else qDrop (Fin.ofNat 16 k.val) (s.pb (F.RAIL_TSTAT_QFULL k.val) true)

/-- RAIL[k].VSET is written: the register keeps the value of an accepted write. -/
def vsetWrite (m : Master) (k : Fin 8) (was : State) (s : State) : State :=
  let w := s.word (A.RAIL_VSET k.val)
  let e : Word := BitVec.ofNat 32 (getBits w 0 16 * 65536 + getBits w 16 16)
  let s1 := if was.room (Fin.ofNat 16 k.val) 1 then s else s.setWord (A.RAIL_VSET k.val) (was.word (A.RAIL_VSET k.val))
  pushCommand m k e 1 s1

/-- PT_CTL is written: CLRLATCH, and the feed settings with the copies the feed controllers keep (R302, R304); HOSTOFF is read
at the next model step. -/
def ptCtlWrite (w : Word) (was : State) (s : State) : State :=
  let s1 := if s.pt.inCharge then
      { s with np := { s.np with feedmode := s.g F.PT_CTL_FEEDMODE, feeden := s.g F.PT_CTL_FEEDEN,
                                 vfwd := s.g F.PT_CTL_VFWD } }
    else s
  let s2 := npFollow (settleGates was s1)
  if getBits w F.PT_CTL_CLRLATCH.lo 1 = 1 then clrLatch s2 else s2

/-- LNK[p].CTL is written: PEN from 0 to 1 sets version 1 and clears the duplicate memories (R223, R238); from 1 to 0 the
port stops being usable (R181). -/
def linkEnable (p : Fin 2) (was : State) (s : State) : State :=
  match was.gb (F.LNK_CTL_PEN p.val), s.gb (F.LNK_CTL_PEN p.val) with
  | false, true => clearDup p (s.p (F.LNK_STATUS_VER p.val) 1)
  | true, false => if s.sup.viol then linkUnusable p.val s else s
  | _, _ => s

/-- PL[p].CTL is written: RUN from 0 to 1 arms, from 1 to 0 stops; TRIGNOW triggers (R340, R342). -/
def plateCtl (p : Fin 4) (w : Word) (was : State) (s : State) : State :=
  let now := s.gb (F.PL_CTL_RUN p.val)
  let s1 := if now && !was.gb (F.PL_CTL_RUN p.val) then plateArm p s
    else if !now && was.gb (F.PL_CTL_RUN p.val) then plateStop p s else s
  if getBits w (F.PL_CTL_TRIGNOW p.val).lo 1 = 1 then plateTrigger p s1 else s1

/-- An entry of the Ephemeris table is written, two to a word (R183). -/
def ephWord (i : Nat) (w : Word) (s : State) : State :=
  let put := fun (t : SMap (BitVec 16)) (j v : Nat) => SMap.set (fun _ => (0 : BitVec 16)) t j (BitVec.ofNat 16 v)
  { s with ephTab := put (put s.ephTab (2 * i) (getBits w 0 16)) (2 * i + 1) (getBits w 16 16) }

/-- CMP[c].CTL is written: the router sees the level that ROUTELAT now selects (R272), and ARM from 1 to 0 disarms (R269). -/
def cmpCtlWrite (c : Nat) (was : State) (s : State) : State :=
  let v := s.routeLevel c
  let s1 := if was.routeLevel c == v then s else forEach (fun s x => routerEdge x v s) (s.routesTo c) s
  if was.gb (F.CMP_CTL_ARM c) && !s1.gb (F.CMP_CTL_ARM c) then disarm c s1 else s1

/-- Effects of registers 00h to 0Fh beyond their fields; `was` is the state before the write. -/
def effect0 (m : Master) (x : Loc) (w : Word) (was : State) (s : State) : State :=
  match x.spec.id with
  | .deviceCtl => deviceCtl m w s
  | .capCtl => if s.gb (F.CAP_CTL_EN x.i) && !was.gb (F.CAP_CTL_EN x.i) then
      { s with capDisc := BitVec.ofNat 32 (putBit s.capDisc.toNat x.i false) } else s
  | .ptCtl => ptCtlWrite w was s
  | .ptRetry => { s with np := { s.np with retries := s.g F.PT_RETRY_RETRIES, rwait := s.g F.PT_RETRY_RWAIT,
                                           rgood := s.g F.PT_RETRY_RGOOD } }
  | .imgCtl => imgCommand m (getBits w F.IMG_CTL_CMD.lo F.IMG_CTL_CMD.w) (Fin.ofNat 2 (s.g F.IMG_CTL_TARGET)) s
  | .imgWdata => imgData m w s
  | .groupCommit => groupAccess m w s
  | .cfgerr => if getBits w 31 1 = 1 then s.setWord A.CFGERR 0 else s
  | .lgCtl => if getBits w F.LG_CTL_PINREL.lo 1 = 1 then pinRelease s else s
  | .lgRdseq => ledgerRead (getBits w 0 32) s
  | .hnvData => hnvWrite w s
  | .phaseCtl => if s.gb (F.PHASE_CTL_SHLOCK x.i) == was.gb (F.PHASE_CTL_SHLOCK x.i) then s
      else s.modPh (Fin.ofNat 48 x.i) fun p => { p with shCount := 0 }
  | .phaseStatus => if getBits w (F.PHASE_STATUS_LATCHED x.i).lo 1 = 1 then latchClearRequest (Fin.ofNat 48 x.i) s else s
  | .stagegrpCfg => if s.gb (F.STAGEGRP_CFG_FORCEOFF x.i) && !was.gb (F.STAGEGRP_CFG_FORCEOFF x.i) then forceOff x.i s else s
  | .cmpCtl => cmpCtlWrite x.i was s
  | .peSyncoCtl => placeSynco s
  | .cmpStatus => if getBits w (F.CMP_STATUS_LATCHED x.i).lo 1 = 1 then clearCmpLatch x.i s else s
  | .cmpDac => loadDac x.i s
  | _ => s

/-- Effects of registers 10h to 1Fh beyond their fields. -/
def effect1 (m : Master) (x : Loc) (w : Word) (was : State) (s : State) : State :=
  let k : Fin 8 := Fin.ofNat 8 x.i
  match x.spec.id with
  | .railVset => vsetWrite m k was s
  | .railOn => pushCommand m k 0 (if getBits w 0 1 = 1 then 3 else 4)
      (if was.room (Fin.ofNat 16 k.val) 1 then s else s.setWord (A.RAIL_ON k.val) (was.word (A.RAIL_ON k.val)))
  | .seqgrpCtl => noteGen (Fin.ofNat 4 x.i) (was.gb (F.SEQGRP_CTL_GEN x.i)) s
  | .ephCtl => if getBits w (F.EPH_CTL_ECLR x.i).lo 1 = 1 then s.modEp k fun e => { e with clear := true } else s
  | .ephtab => ephWord x.i w s
  | .inkReq => inkRequest (s.g F.INK_REQ_OP) (Fin.ofNat 48 (s.g F.INK_REQ_PHASE)) (BitVec.ofNat 8 (s.g F.INK_REQ_EPOCH)) s
  | .lnkCtl => linkEnable (Fin.ofNat 2 x.i) was s
  | .lnkEpCause => clearCauses x.i x.j w.toNat s
  | .hpCtl => if getBits w (F.HP_CTL_QFLUSH x.i).lo 1 = 1 then s.setQ (Fin.ofNat 16 (8 + x.i)) [] else s
  | .hpmCtl => if getBits w F.HPM_CTL_GO.lo 1 = 1 then
      { (s.pb F.HPM_STATUS_MBUSY true).p F.HPM_STATUS_ATTEMPTS 1 with masterWait := false } else s
  | .plCtl => plateCtl (Fin.ofNat 4 x.i) w was s
  | .plExp => if getBits w F.PL_EXP_GO.lo 1 = 1 then exportGo (Fin.ofNat 4 (s.g F.PL_EXP_PLATE)) s else s
  | .ghDeny => if getBits w 31 1 = 1 then s.setWord A.GH_DENY 0 else s
  | .ghResp => { s with gate := { s.gate with resp := vset s.gate.resp (Fin.ofNat 4 x.i) w } }
  | .ghKeyw => { s with gate := { s.gate with keyw := vset s.gate.keyw (Fin.ofNat 8 x.i) w } }
  | .ghKeyctl => keyWrite m (Fin.ofNat 5 (s.g F.GH_KEYCTL_SLOT)) s
  | .ghChal =>
    match getBits w F.GH_CHAL_CMD.lo F.GH_CHAL_CMD.w with
    | 1 => chalRequest m (s.g F.GH_CHAL_SCOPE) (s.g F.GH_CHAL_SESS) s
    | 2 => chalSubmit m s
    | _ => chalEnd m s
  | _ => s

/-- A write that is not refused takes effect. -/
def applyWrite (m : Master) (a : Nat) (w : Word) (s : State) : State :=
  match locate a with
  | none => s
  | some x =>
    let s := viaQ10 m a w s
    effect1 m x w s (effect0 m x w s (putAll m x a w s))

/-- GRANT of the DBG access status: clear where the Gatehouse has refused the access of DBG, set where it has let it through (R381);
an access in OFF or BOOT does not come before it (R379). -/
def dbgStatus (m : Master) (v : Verdict) (s : State) : State :=
  if m = .dbg then { s with gate := { s.gate with grant :=
    match v with | .gate _ => false | .notReady => s.gate.grant | _ => true } } else s

/-- A write by master m, judged (R426); an accepted one has the effect `act`. -/
def writeWith (act : State → State) (m : Master) (a : Nat) (w : Word) (s : State) : State × Verdict :=
  let v := judge m a w s
  if v = .ok then (act (dbgStatus m v s), .ok) else (dbgStatus m v (refuseWrite m a w v s), v)

/-- A write of one register word by master m. -/
def regWrite (m : Master) (a : Nat) (w : Word) (s : State) : State × Verdict := writeWith (applyWrite m a w) m a w s

/-! ### Reads (R398) -/

/-- A read by master m of address a is judged: BOOT serves the identity block alone, SAFE keeps the Plates back (R17, R18,
R379). -/
def judgeRead (m : Master) (a : Nat) (s : State) : Verdict :=
  if s.dev = .off || (s.dev = .boot && a / 65536 ≠ 0) then .notReady
  else if s.dev = .boot then .ok
  else match s.gateRead m a with
    | some k => .gate k
    | none => if s.dev = .safe && m != .sup && (a / 65536 == 0x19 || a / 65536 == 0x1A) then .refused .state else .ok

/-- Change the upper halves latched for master m. -/
def State.modHi (s : State) (m : Master) (f : HiLatch → HiLatch) : State :=
  let i : Fin 6 := Fin.ofNat 6 (masterCode m)
  { s with hi := vset s.hi i (f (vget s.hi i)) }

/-- What a completed read of a LO register latches for its master (R112, R319, R326). -/
def latchHigh (m : Master) (x : Loc) (s : State) : State :=
  match x.spec.id with
  | .tbCountLo => s.modHi m fun h => { h with tb := BitVec.ofNat 16 (s.tb.toNat / 2 ^ 32) }
  | .tbSecmarkLo => s.modHi m fun h => { h with mark := BitVec.ofNat 16 (s.secMark.toNat / 2 ^ 32) }
  | .ptEinLo => s.modHi m fun h => { h with ein := BitVec.ofNat 16 (s.einMj / 2 ^ 32) }
  | .ptErailLo =>
    let k : Fin 8 := Fin.ofNat 8 x.i
    s.modHi m fun h => { h with erail := vset h.erail k (BitVec.ofNat 16 (s.erailMj k / 2 ^ 32)) }
  | _ => s

/-- A completed read: RC fields return to 0, upper halves are latched, HNV_DATA advances, and a Plate's word that fails
parity sets PERR (R332, R341, R398). -/
def readEffect (m : Master) (a : Nat) (f : WordFind) (s : State) : State :=
  match locate a with
  | none => s
  | some x =>
    if s.absent x then s
    else
      let s1 := x.spec.fields.foldl (fun s f => if f.acc == .rc then s.p ⟨a, f.lo, f.w⟩ 0 else s) (latchHigh m x s)
      match x.spec.id with
      | .hnvData => hnvRead f s1
      | .plData =>
        if f == .uncorrectable && (vget s.plate (Fin.ofNat 4 x.i)).st == .done then s1.pb (F.PL_STATUS_PERR x.i) true else s1
      | _ => s1

/-- The address lies in the data area of a Plate (R341). -/
def isPlateData (a : Nat) : Bool := match locate a with | some x => x.spec.id == .plData | none => false

/-- What a read answers: 0 for an uncorrectable word of HNV_DATA and for a Plate's word that fails parity (R329, R341). -/
def State.readWord (s : State) (m : Master) (a : Nat) (f : WordFind) : Word :=
  if a = A.HNV_DATA && (f == .uncorrectable || s.nv.hnvBad.contains (s.g F.HNV_ADDR_WADDR)) then 0
  else if f == .uncorrectable && isPlateData a then 0 else s.view m a

/-- A read by master m of address a: the word, the state after it, and how it was judged. A Plate read that SAFE refuses is reported by
its STATUS alone and counts in no CFGERR register (DESIGN CHOICE, log entry 127: R83 counts every refusal, while CFGERR.ADDR
is the address of a refused write). -/
def regReadWith (f : WordFind) (m : Master) (a : Nat) (s : State) : Word × State × Verdict :=
  match judgeRead m a s with
  | .ok => (s.readWord m a f, dbgStatus m .ok (readEffect m a f s), .ok)
  | .gate k => (0, dbgStatus m (.gate k) (ghRefuse m k a s), .gate k)
  | v => (0, s, v)

/-- A read of one register word. -/
def regRead (m : Master) (a : Nat) (s : State) : Word × State × Verdict := regReadWith .clean m a s

/-- A read whose word the master keeps: it stands in `answer`. -/
def readAnswer (f : WordFind) (m : Master) (a : Nat) (s : State) : State :=
  let r := regReadWith f m a s
  { r.2.1 with answer := r.1 }

end Sys2Proof.Machine
end

