-- ==== Sys2Proof/Machine/Access.lean ====
section
/-!
DEFINITION. The rows whose command is one register access: each writes the word that spells it, or reads, through the one
path of Machine/RegWrite.lean, so that the Gatehouse, the device state, the commit classes and the ranges judge it.
-/

namespace Sys2Proof.Machine

/-- A write whose verdict its row does not report. -/
def write (m : Master) (a : Nat) (w : Word) (s : State) : Answer := done (regWrite m a w s).1

/-- The present word of a field's register with the field replaced. -/
def State.withField (s : State) (f : Fld) (v : Nat) : Word := setBits (s.present f.addr) f.lo f.w v

/-- A write of one field, the others at their present values. -/
def writeField (m : Master) (f : Fld) (v : Nat) (s : State) : Answer := write m f.addr (s.withField f v) s

/-- A write of 1 to one bit and 0 to the rest. -/
def writeBit (m : Master) (f : Fld) (s : State) : Answer := write m f.addr (BitVec.ofNat 32 (2 ^ f.lo)) s

/-! ### Device -/

/-- SLEEP (R19, R402). -/
def execSleep (m : Master) (s : State) : Answer := writeBit m F.DEVICE_CTL_SLEEP s

/-- SAFE_EXIT (R21, R402). -/
def execSafeExit (m : Master) (s : State) : Answer := writeBit m F.DEVICE_CTL_SAFE_EXIT s

/-! ### Phases, rails, comparators -/

/-- PHASE_LATCH_CLEAR (R104). -/
def execPhaseLatchClear (m : Master) (n : Fin 48) (s : State) : Answer := writeBit m (F.PHASE_STATUS_LATCHED n.val) s

/-- RAIL_VSET_WRITE (R199). -/
def execRailVsetWrite (m : Master) (k : Fin 8) (v : Word) (s : State) : Answer := write m (A.RAIL_VSET k.val) v s

/-- RAIL_ON_WRITE (R199). -/
def execRailOnWrite (m : Master) (k : Fin 8) (v : Word) (s : State) : Answer := write m (A.RAIL_ON k.val) v s

/-- SEQGRP_GEN_WRITE (R209). -/
def execSeqgrpGenWrite (m : Master) (g : Fin 4) (v : Word) (s : State) : Answer := write m (A.SEQGRP_CTL g.val) v s

/-- CMP_ARM (R269): arming starts; CMP_ARMED ends it. -/
def execCmpArm (m : Master) (c : Fin 128) (s : State) : Answer := writeField m (F.CMP_CTL_ARM c.val) 1 s

/-- CMP_DISARM (R269). -/
def execCmpDisarm (m : Master) (c : Fin 128) (s : State) : Answer := writeField m (F.CMP_CTL_ARM c.val) 0 s

/-- CMP_LATCH_CLEAR (R270). -/
def execCmpLatchClear (m : Master) (c : Fin 128) (s : State) : Answer := writeBit m (F.CMP_STATUS_LATCHED c.val) s

/-- The word of INK_REQ that asks for OP of phase n under an epoch (R264). -/
def inkWord (op : Nat) (n : Fin 48) (epoch : BitVec 8) : Word :=
  setBits (setBits (setBits 0 F.INK_REQ_OP.lo F.INK_REQ_OP.w op) F.INK_REQ_PHASE.lo F.INK_REQ_PHASE.w n.val)
    F.INK_REQ_EPOCH.lo F.INK_REQ_EPOCH.w epoch.toNat

/-- RETIRE (R264). -/
def execRetire (m : Master) (n : Fin 48) (epoch : BitVec 8) (s : State) : Answer := write m A.INK_REQ (inkWord 1 n epoch) s

/-- TEST (R263). -/
def execTest (m : Master) (n : Fin 48) (epoch : BitVec 8) (s : State) : Answer := write m A.INK_REQ (inkWord 2 n epoch) s

/-- ENDTEST (R264). -/
def execEndtest (m : Master) (n : Fin 48) (epoch : BitVec 8) (s : State) : Answer := write m A.INK_REQ (inkWord 3 n epoch) s

/-- EPHEMERIS_CLEAR (R190). -/
def execEphemerisClear (m : Master) (k : Fin 8) (s : State) : Answer := writeField m (F.EPH_CTL_ECLR k.val) 1 s

/-! ### Porter -/

/-- HOSTOFF (R304). -/
def execHostoff (m : Master) (v : Bool) (s : State) : Answer := writeField m F.PT_CTL_HOSTOFF (bit v) s

/-- CLRLATCH (R304). -/
def execClrlatch (m : Master) (s : State) : Answer := writeField m F.PT_CTL_CLRLATCH 1 s

/-! ### Ledger, host NV area, Plates -/

/-- LEDGER_READ (R337). -/
def execLedgerRead (m : Master) (x : RecordRead) (s : State) : Answer :=
  let r := regWrite m A.LG_RDSEQ x.seq s
  done (if r.2 = .ok then { r.1 with nv := { r.1.nv with found := x.found } } else r.1)

/-- PINREL (R336). -/
def execPinrel (m : Master) (s : State) : Answer := writeField m F.LG_CTL_PINREL 1 s

/-- HNV_DATA_ACCESS (R332): a write of a word, or a read. -/
def execHnvDataAccess (m : Master) (w : Option Word) (found : WordFind) (s : State) : Answer :=
  match w with
  | some v => write m A.HNV_DATA v s
  | none => done (readAnswer found m A.HNV_DATA s)

/-- PLATE_ARM (R340). -/
def execPlateArm (m : Master) (p : Fin 4) (s : State) : Answer := writeField m (F.PL_CTL_RUN p.val) 1 s

/-- PLATE_STOP (R342). -/
def execPlateStop (m : Master) (p : Fin 4) (s : State) : Answer := writeField m (F.PL_CTL_RUN p.val) 0 s

/-- TRIGNOW (R340). -/
def execTrignow (m : Master) (p : Fin 4) (s : State) : Answer := writeField m (F.PL_CTL_TRIGNOW p.val) 1 s

/-- PLATE_EXPORT (R343). -/
def execPlateExport (m : Master) (p : Fin 4) (s : State) : Answer :=
  write m A.PL_EXP (setBits (setBits 0 F.PL_EXP_GO.lo 1 1) F.PL_EXP_PLATE.lo F.PL_EXP_PLATE.w p.val) s

/-! ### Host ports -/

/-- QFLUSH (R355). -/
def execQflush (m : Master) (x : Fin 2) (s : State) : Answer := writeField m (F.HP_CTL_QFLUSH x.val) 1 s

/-- MASTER_GO (R364): HPM_CTL is written with GO. -/
def execMasterGo (m : Master) (w : Word) (s : State) : Answer := write m A.HPM_CTL (setBits w F.HPM_CTL_GO.lo 1 1) s

/-! ### Image manager and groups -/

/-- The word of IMG_CTL for a command and a slot (R76). -/
def imgWord (cmd : Nat) (slot : Bool) : Word :=
  setBits (setBits 0 F.IMG_CTL_CMD.lo F.IMG_CTL_CMD.w cmd) F.IMG_CTL_TARGET.lo 1 (bit slot)

/-- OPEN (R76). -/
def execOpenCmd (m : Master) (slot : Bool) (s : State) : Answer := write m A.IMG_CTL (imgWord 1 slot) s

/-- IMG_WDATA_WRITE (R77); where the word stored does not verify, its sector is remapped (R330). -/
def execImgWdataWrite (m : Master) (w : VerifiedWord) (s : State) : Answer :=
  let r := (regWrite m A.IMG_WDATA w.word s).1
  done (match s.img.openSlot with
    | some i => if r.g F.IMG_WPTR_WPTR ≠ s.g F.IMG_WPTR_WPTR && !w.verified then remap (96 * i.val + s.g F.IMG_WPTR_WPTR / 1024) r else r
    | none => r)

/-- VERIFY (R76). -/
def execVerify (m : Master) (x : SlotRead) (s : State) : Answer :=
  let r := (regWrite m A.IMG_CTL (imgWord 2 x.slot) s).1
  done (if s.img.verifying.isNone && r.img.verifying.isSome then { r with img := { r.img with found := x.found } } else r)

/-- COMMIT (R76). -/
def execCommit (m : Master) (slot : Bool) (s : State) : Answer := write m A.IMG_CTL (imgWord 3 slot) s

/-- ACCEPT (R76): TARGET is left as it is. -/
def execAccept (m : Master) (s : State) : Answer := writeField m F.IMG_CTL_CMD 4 s

/-- ABORT (R76). -/
def execAbort (m : Master) (slot : Bool) (s : State) : Answer := write m A.IMG_CTL (imgWord 5 slot) s

/-- The word of GROUP_COMMIT for an OP (R81). -/
def groupWord (op : Nat) (group index : BitVec 8) : Word :=
  setBits (setBits (setBits 0 F.GROUP_COMMIT_OP.lo 2 op) F.GROUP_COMMIT_INDEX.lo 8 index.toNat)
    F.GROUP_COMMIT_GROUP.lo 8 group.toNat

/-- GROUP_QUERY (R81). -/
def execGroupQuery (m : Master) (group index : BitVec 8) (s : State) : Answer :=
  write m A.GROUP_COMMIT (groupWord 0 group index) s

/-- GROUP_COMMIT (R81). -/
def execGroupCommit (m : Master) (group index : BitVec 8) (s : State) : Answer :=
  write m A.GROUP_COMMIT (groupWord 1 group index) s

/-- GROUP_ABORT (R81 rule 7) completing at instant t, which says whether it comes too late for an armed commit's boundary. -/
def execGroupAbort (m : Master) (group index : BitVec 8) (t : Time) (s : State) : Answer :=
  write m A.GROUP_COMMIT (groupWord 2 group index) (s.atTime t)

/-! ### Gatehouse -/

/-- The word of GH_CHAL for a CMD, scopes and session seconds (R384, R385). -/
def chalWord (cmd : Nat) (scope sess : BitVec 8) : Word :=
  setBits (setBits (setBits 0 F.GH_CHAL_CMD.lo F.GH_CHAL_CMD.w cmd) F.GH_CHAL_SCOPE.lo 8 scope.toNat)
    F.GH_CHAL_SESS.lo 8 sess.toNat

/-- REQUEST (R384). -/
def execRequest (m : Master) (scope sess : BitVec 8) (s : State) : Answer := write m A.GH_CHAL (chalWord 1 scope sess) s

/-- SUBMIT (R385): the other fields of GH_CHAL are left as they are. -/
def execSubmit (m : Master) (s : State) : Answer := writeField m F.GH_CHAL_CMD 2 s

/-- END (R385). -/
def execEndCmd (m : Master) (s : State) : Answer := writeField m F.GH_CHAL_CMD 3 s

/-- GH_LOCK_WRITE (R383). -/
def execGhLockWrite (m : Master) (v : Word) (s : State) : Answer := write m A.GH_LOCK v s

/-- The word of GH_KEYCTL that writes the staged key into a slot (R387). -/
def keyWord (slot : BitVec 3) : Word :=
  setBits (setBits 0 F.GH_KEYCTL_CMD.lo F.GH_KEYCTL_CMD.w 1) F.GH_KEYCTL_SLOT.lo 3 slot.toNat

/-- KEY_WRITE (R387); where a key that is written does not verify, its sector is remapped (R330). -/
def execKeyWrite (m : Master) (x : VerifiedSlot) (s : State) : Answer :=
  let r := regWrite m A.GH_KEYCTL (keyWord x.slot) s
  done (if r.2 = .ok && s.mayKey (Fin.ofNat 5 x.slot.toNat) && !x.verified then bankSector false r.1 else r.1)

/-! ### Reads and plain writes -/

/-- TB_COUNT_LO_READ (R112). -/
def execTbCountLoRead (m : Master) (s : State) : Answer := done (readAnswer .clean m A.TB_COUNT_LO s)

/-- TB_SECMARK_LO_READ (R326). -/
def execTbSecmarkLoRead (m : Master) (s : State) : Answer := done (readAnswer .clean m A.TB_SECMARK_LO s)

/-- ENERGY_LO_READ (R319): PT_EIN_LO, or PT_ERAIL[k].LO. -/
def execEnergyLoRead (m : Master) (k : Option (Fin 8)) (s : State) : Answer :=
  match k with
  | none => done (readAnswer .clean m A.PT_EIN_LO s)
  | some k => done (readAnswer .clean m (A.PT_ERAIL_LO k.val) s)

/-- CAP_TSHI_READ (R113): VALID clears, and a single-mode unit may stamp again. -/
def execCapTshiRead (m : Master) (u : Fin 32) (s : State) : Answer := done (readAnswer .clean m (A.CAP_TSHI u.val) s)

/-- The address an access of a master reaches: DBG ignores bits [1:0] (R394). -/
def wordAddr (m : Master) (a : BitVec 24) : Nat := if m = .dbg then a.toNat - a.toNat % 4 else a.toNat

/-- The address lies in the Loop Engine's block, whose buses carry parity (R159). -/
def inEngine (a : Nat) : Bool := a / 65536 == 0x10

/-- A write that reaches the Loop Engine with bad parity is dropped: WRPERR of the window it was meant for is set, and it
counts as a refusal with cause RANGE (R162). -/
def dropForParity (m : Master) (a : Nat) (w : Word) (s : State) : State :=
  let s1 := cfgRefuse m .range a (viaQ10 m a w s)
  let k := a % 65536 / 4096
  if k < 8 then s1.pb (F.GRAPH_STATUS_WRPERR k) true else s1

/-- REGISTER_WRITE (R162, R397). -/
def execRegisterWrite (m : Master) (a : BitVec 24) (v : Word) (bad : Bool) (s : State) : Answer :=
  if bad && inEngine (wordAddr m a) then done (writeWith (dropForParity m (wordAddr m a) v) m (wordAddr m a) v s).1
  else write m (wordAddr m a) v s

/-- DBG_READ (R398): JTAG reads as the DBG master. -/
def execDbgRead (a : BitVec 24) (found : WordFind) (s : State) : Answer := done (readAnswer found .dbg (wordAddr .dbg a) s)

/-! ### JTAG (R388) -/

/-- The TAP takes an instruction: in OFF, in BOOT and while VIOH is not good its inputs are ignored (R15, R38, R54). -/
def jtagLoad (i : JtagIr) (s : State) : State :=
  if s.core && s.dev != .boot && s.sup.vioh then { s with jtag := i } else s

/-- BYPASS. -/
def execBypass (s : State) : Answer := done (jtagLoad .bypass s)

/-- IDCODE. -/
def execIdcode (s : State) : Answer := done (jtagLoad .idcode s)

/-- SAMPLE_PRELOAD. -/
def execSamplePreload (s : State) : Answer := done (jtagLoad .samplePreload s)

/-- EXTEST is served: DBG holds a session with scope DEBUG, in SAFE or in STANDBY with no rail enabled. -/
def State.mayExtest (s : State) : Bool :=
  s.holds .dbg 4 && (s.dev == .safe || (s.dev == .standby && !s.anyEnabled))

/-- The instruction the TAP serves: BYPASS is substituted for EXTEST while EXTEST is not served, also where its session or the
device state ends after EXTEST was loaded (R388; DEDUCED, log entry 131). -/
def State.jtagServed (s : State) : JtagIr := if s.jtag == .extest && !s.mayExtest then .bypass else s.jtag

/-- EXTEST: otherwise BYPASS is substituted. -/
def execExtest (s : State) : Answer := done (jtagLoad (if s.mayExtest then .extest else .bypass) s)

end Sys2Proof.Machine
end

