-- ==== Sys2Proof/Machine/Boot.lean ====
section
/-!
DEFINITION. BOOT (R14, R45, R51, R66, R67, R72-R75, R84, R243, R291-R293, R314, R315, R335): the PLLs, what the health area
restores, slot selection, the application of an image, roles and rings, the Porter's take-over, and the records of BOOT.
-/

namespace Sys2Proof.Machine

/-! ### Steps 2 and 3: straps and PLLs -/

/-- The straps are sampled, both PLLs that are not retired lock, and REFLOST is set where no reference runs (R14, R45, R51,
R58, R293). -/
def bootClocks (b : BootIn) (s : State) : State :=
  let ret := s.nv.health.pllRetired
  let l0 := !ret.getLsbD 0
  let l1 := !ret.getLsbD 1
  let s1 := { s with sup := { s.sup with smod := b.smod, bootsel := b.bootsel },
                     pll := ⟨(Vector.replicate 2 l0).set 1 l1, .replicate 2 false⟩ }
  let s2 := ((s1.pb F.FM_PLL_PLL0RET (!l0)).pb F.FM_PLL_PLL1RET (!l1)).pb F.FM_PLL_SPAREOK (l0 && l1)
  (s2.pb F.FM_PLL_ACTIVE (!l0 && l1)).pb F.DEVICE_STATUS_REFLOST (!b.reference)

/-! ### The health and calibration area (R67, R255, R262, R400) -/

/-- The health area's fields of phase n; a recorded retirement reads RCAUSE 6h (R255). -/
def loadPhase (n : Nat) (h : PhaseHealth) (s : State) : State :=
  let s1 := ((s.p (F.PHASE_ROLE_RCAUSE n) (if h.rcause = 0 then 0 else 6)).p (F.PHASE_ROLE_TESTRES n) h.testres).pb
    (F.PHASE_ROLE_WORN n) h.worn
  let s2 := ((s1.pb (F.PHASE_ROLE_DRIFT n) h.drift).p (F.PHASE_LIFEAH_AH n) h.ah).p (F.PHASE_LIFEPL_PULSES n) h.pulses
  let s3 := ((s2.p (F.PHASE_LIFETH_HOT n) h.hot).p (F.PHASE_LIFETH_TCYC n) h.tcyc).p (F.PHASE_WEAR_WEAR n) h.wear
  let s4 := s3.pi (F.PHASE_WEAR_ZDRIFT n) h.zdrift
  s4.modRl (Fin.ofNat 48 n) fun r => { r with ahFrac := h.ahFrac, plFrac := h.plFrac, hotFrac := h.hotFrac }

/-- Both copies of a word of the health area cannot be read at BOOT: the channel counts as retired, its counters restart at 0 (R67,
R329). -/
def lostHealth (x : Nat) (h : Health) : Health :=
  match channelOf x with
  | none => h
  | some (t, i) =>
    let h1 := retireHealth t i 6 h
    if t = 1 then
      let n := Fin.ofNat 48 i
      { h1 with phase := vset h1.phase n { vget h1.phase n with ahFrac := 0, plFrac := 0, hotFrac := 0, ah := 0, pulses := 0,
                                                                hot := 0, tcyc := 0, wear := 0 } }
    else h1

/-- BOOT reads the health area, whose copies stand for each other, and the Ledger (R67, R329, R333). -/
def readStore (b : BootIn) (s : State) : State :=
  let s1 := correctWords (256 * 256) b.health.corrected s
  let s2 := forEach (fun s x =>
    let i := 256 + x.word / 256
    let s1 := uncorrFound i (x.word % 256) s
    let d := s1.draw
    if x.both then { d.2 with nv := { d.2.nv with health := lostHealth (Config.freeNat d.1 % 191) d.2.nv.health } }
    else sectorWrite i s1) b.health.lost s1
  readArea (192 * 256) b.ledger s2

/-- The registers whose reset comes from the health area (R400), the count of BOOTs, and the next SEQ, which follows the newest
of the ring (R333). -/
def loadHealth (s : State) : State :=
  let h := s.nv.health
  let s1 := forAll (n := 48) (fun s n => loadPhase n.val (vget h.phase n) s) s
  let s2 := (List.range 128).foldl (fun s c => if h.cmpRetired.getLsbD c then s.pb (F.CMP_STATUS_RETIRED c) true else s) s1
  let s3 := (s2.p F.FM_IC_ICRET h.icRetired.toNat).p F.LE_STATUS_RETIRED h.laneRetired.toNat
  { s3 with nv := { s3.nv with health := { h with bootcnt := min (2 ^ 32 - 1) (h.bootcnt + 1) }
                               nextSeq := (s3.nv.ring.map (·.seq)).foldl max 0 + 1 } }

/-! ### Step 4: slot selection (R72) -/

/-- A slot read by header only reports what its header, straps and kept result give (R425). -/
def readHeader (i : Fin 2) (s : State) : State := s.modSlot i fun sl => sl.report (headerReport s sl)

/-- The preferred slot. -/
def State.preferredSlot (s : State) : Option (Fin 2) := (allFin 2).find? fun i => (vget s.img.slots i).preferred

/-- The marks as a BOOT changes them, and whether a trial was reverted (R72). -/
def bootMarks (s : State) : State × Bool :=
  match s.preferredSlot with
  | none => (s, false)
  | some p =>
    let sl := vget s.img.slots p
    if sl.trial && sl.tried then
      ((s.modSlot p fun x => { x with preferred := false, trial := false, tried := false }).modSlot (otherSlot p)
        fun x => { x with preferred := true }, true)
    else if sl.trial then (s.modSlot p fun x => { x with tried := true }, false)
    else (s, false)

/-- With no slot preferred, the one with the higher SEQ is, slot A on a tie (R72); a slot with an open write or without a
readable header counts with SEQ 0 (DESIGN CHOICE, log entry 102: the spec gives such a slot no SEQ). -/
def preferSlot (s : State) : State × Fin 2 :=
  match s.preferredSlot with
  | some p => (s, p)
  | none =>
    let p : Fin 2 := if (vget s.img.slots 0).seq < (vget s.img.slots 1).seq then 1 else 0
    (s.modSlot p fun x => { x with preferred := true }, p)

/-- A slot is read in full at BOOT; one whose load was abandoned keeps CAUSE Ch (R71, R425). -/
def bootCheck (i : Fin 2) (f : ReadFind) (s : State) : State :=
  if (vget s.img.slots i).isOpen then s else checkSlot i (readSlot i f s)

/-! ### Steps 6 and 9: an image is applied (R66) -/

/-- One word of an image is written: every field takes its value at once, and what the write of the register does beyond its
fields follows, as for any write (R66, R397). -/
def imageWord (s : State) (aw : Nat × Word) : State :=
  match locate aw.1 with
  | some x => effect1 .sup x aw.2 s (effect0 .sup x aw.2 s { s with regs := putWord x aw.1 aw.2 s.regs })
  | none => s

/-- The content of a slot is applied: its writes in order, then placement and the threshold DACs (R66, R139). -/
def applyContent (c : Content) (s : State) : State :=
  let s1 := (c.writes.map (·.2)).foldl imageWord s
  (List.range 128).foldl (fun s c => loadDac c s) (placeAll s1).1

/-- Every register an image writes returns to its reset value, from the state before its application (R73). -/
def unapply (c : Content) (s : State) : State :=
  c.writes.foldl (fun s x => if x.2.1 / 65536 = 2 then s.setWord x.2.1 (resetWord x.2.1) else s) s

/-- Slot i is read in full and, if valid, applied, where the application succeeds (R73, R74). -/
def trySlot (i : Fin 2) (b : BootIn) (s : State) : State × Bool :=
  let works := if i = 0 then b.applyA else b.applyB
  let s1 := bootCheck i (if i = 0 then b.readA else b.readB) s
  let sl := vget s1.img.slots i
  if sl.cause ≠ 0 then (s1, false)
  else
    let c := (fullCheck s1 sl).content
    if works then
      let s2 := applyContent c s1
      ({ s2 with img := { s2.img with running := some i, applied := true } }, true)
    else (unapply c s1, false)

/-- Steps 4 to 10: a slot is chosen and applied, or the other one (R72-R74). The state, and whether a trial was reverted. -/
def bootImage (b : BootIn) (s : State) : State × Bool :=
  let s0 := readHeader 1 (readHeader 0 s)
  let r := bootMarks s0
  let q := preferSlot r.1
  let t := trySlot q.2 b q.1
  if t.2 then (t.1, r.2)
  else
    let u := trySlot (otherSlot q.2) b t.1
    (if u.2 then u.1.pb F.IMG_STATUS_FALLBACK true else u.1, r.2)

/-- BOOTSEL high: both slots are checked and reported, neither is applied or altered (R51, R74). -/
def bootHeld (b : BootIn) (s : State) : State :=
  let s1 := bootCheck 1 b.readB (bootCheck 0 b.readA (readHeader 1 (readHeader 0 s)))
  { s1 with img := { s1.img with held := true } }

/-! ### Roles, rings and channels -/

/-- The role of phase n after BOOT (R243, R244). -/
def State.bootRole (s : State) (n : Fin 48) : Role :=
  if s.g (F.PHASE_ROLE_RCAUSE n.val) ≠ 0 then .retired
  else if !s.exists_ n.val then .unavailable
  else if !s.gb (F.PHASE_ASSIGN_ASGN n.val) then .unassigned
  else if s.g (F.PHASE_ASSIGN_POOL n.val) = 0 then .active else .spare

/-- Every phase takes its role; no epoch changes (R244). -/
def bootRoles (s : State) : State := forAll (n := 48) (fun s n => s.modRl n fun r => { r with role := s.bootRole n }) s

/-- One entry of an image's ring: a retired phase gives way to the best spare of the rail, or leaves (R67, R256). -/
def bootEntry (k : Fin 8) (x : List (Fin 48) × State) (n : Fin 48) : List (Fin 48) × State :=
  if (x.2.rl n).role = .retired then
    match x.2.bestSpare k x.1 with
    | some m => (x.1 ++ [m], (x.2.p (F.PHASE_ASSIGN_POOL m.val) 0).modRl m fun r => { r with role := .active })
    | none => x
  else (x.1 ++ [n], x.2)

/-- The ring and base order of rail k after BOOT (R246, R248); where recorded retirements leave it less than the image's
capacity, the loss is reported as one in service (R67, R254). -/
def bootRing (k : Fin 8) (s : State) : State :=
  let l := s.ring k
  let iph := s.g (F.INK_LIM_IPHMAX k.val)
  let r := l.foldl (bootEntry k) ([], s)
  capacityCheck k ((writeRing k r.1 r.2).modInk k fun i =>
    { i with base := r.1, cap := if iph = 0 then none else some (iph * l.length) })

/-- A rail whose recorded lanes leave it no half-frame is latched off with NOLANE (R67, R141, R165). -/
def bootNoLane (k : Fin 8) (s : State) : State := if (s.ra k).gr.noLane then raiseNoLane k s else s

/-- Function f whose comparator is retired: a spare takes it, with its settings, or interim cover does (R67, R291). -/
def bootCmp (f : Nat) (s : State) : State :=
  if s.gb (F.CMP_STATUS_RETIRED f) then
    match s.spareCmp with
    | some c =>
      let w := setBits (setBits (s.word (A.CMP_CTL f)) 0 7 f) 7 1 (if senseBelow f then 1 else 0)
      loadDac c (((s.setWord (A.CMP_CTL c) w).setWord (A.CMP_DAC c) (s.word (A.CMP_DAC f))).p (F.CMP_STATUS_SERVEDBY f) c)
    | none => coverFunction f s
  else s

/-- The spare converter takes the group of a retired one; a retired spare is none (R67, R292). -/
def bootIc (s : State) : State :=
  let ret := s.g F.FM_IC_ICRET
  let s1 := if bitAt ret 6 then s.p F.FM_IC_ICSPARE 7 else s
  (List.range 6).foldl (fun s g =>
    if bitAt ret g && s.g F.FM_IC_ICSPARE == 6 then
      (s.p F.FM_IC_GMAP (s.g F.FM_IC_GMAP - g * 8 ^ g + 6 * 8 ^ g)).p F.FM_IC_ICSPARE 7
    else s) s1

/-! ### The Porter takes over (R314, R315) -/

/-- VT of an INRUSH that goes on is VBULK of the moment: the last reading of channel 72, or a free value before its first. -/
def portersVt (s : State) : State :=
  if s.ptSt != 2 then s
  else if s.conv.done.getLsbD 72 then { s with pt := { s.pt with vt := (2 * max (s.mcV 72) 0).toNat } }
  else
    let d := s.draw
    { d.2 with pt := { d.2.pt with vt := 2 * (Config.freeNat d.1 % 2 ^ 16) } }

/-- The Porter takes NPSTATE, the gates as they stand, and its own fields, of which the copies are refreshed. -/
def porterTakes (s : State) : State :=
  let was := s
  let s1 := if s.pt.inCharge then s else
    portersVt { s with pt := { s.pt with inCharge := true, brk := 0, theta := .replicate 3 0, near := 0, debounced := false } }
  let s2 := { s1 with np := { s1.np with
    retries := s1.g F.PT_RETRY_RETRIES, rwait := s1.g F.PT_RETRY_RWAIT, rgood := s1.g F.PT_RETRY_RGOOD,
    feedmode := s1.g F.PT_CTL_FEEDMODE, feeden := s1.g F.PT_CTL_FEEDEN, vfwd := s1.g F.PT_CTL_VFWD } }
  npFollow (settleGates was s2)

/-! ### Records (R335) -/

/-- INSERT: cold on the first BOOT since VAON rose, warm on another with a feed present (R314); a gate fault of the Night
Porter is recorded too (R316). -/
def insertRecord (s : State) : State :=
  let s1 := if s.np.cold || s.anyFeed || s.np.toRecord then
      record 6 [byte (bit s.np.cold), byte (s.g F.NP_RSTATE_RCNT), byte (s.g F.NP_RSTATE_NPCAUSE), byte s.ptSt] s
    else s
  { s1 with np := { s1.np with cold := false, toRecord := false } }

/-- An IMAGE record of a subtype. -/
def imageRecord (sub : Nat) (s : State) : State :=
  let a := vget s.img.slots 0
  let b := vget s.img.slots 1
  record 7 ([byte sub, byte a.cause, byte b.cause, byte (match s.img.running with | some r => r.val | none => 0)]
    ++ leBytes 4 a.seq ++ leBytes 4 b.seq) s

/-- The IMAGE records of a BOOT, in the order of its steps. -/
def imageRecords (reverted : Bool) (s : State) : State :=
  let s1 := if reverted then imageRecord 2 s else s
  let s2 := if (vget s1.img.slots 0).cause = 9 || (vget s1.img.slots 1).cause = 9 then imageRecord 4 s1 else s1
  let s3 := if s2.gb F.IMG_STATUS_FALLBACK then imageRecord 1 s2 else s2
  if s3.img.held then imageRecord 3 s3 else s3

/-- Records of events raised in OFF or BOOT go to Q15 (R335). -/
def flushRecords (s : State) : State :=
  let l := s.nv.deferred
  forEach (fun s x => queueRecord x.1 x.2 (x.1.rtype == 9 && x.1.event.head? == some 4) s) l { s with nv := { s.nv with deferred := [] } }

/-! ### Step 12 -/

/-- STANDBY, or SAFE with its DEVSTATE causes and its record (R19, R74, R336). -/
def bootEnd (calOk : Bool) (s0 : State) : State :=
  let s := { s0 with nv := { s0.nv with ready := s0.g F.NP_SECS_SECS } }
  if s.img.applied && calOk then flushRecords (s.setDev .standby)
  else
    let s0 := { s with img := { s.img with calFailed := s.img.applied && !calOk } }
    let s1 := deviceCause 29 (flushRecords (s0.setDev .safe))
    queueRecord (makeRecord 8 [byte 4, byte (s1.g F.FM_STATUS_SAFEFID)] s1) true false s1

/-- Steps 1 to 3: no image is applied yet, the straps and clocks stand, and the store is read (R74). -/
def bootStart (b : BootIn) (s : State) : State :=
  let s1 := { s with img := { s.img with applied := false, running := none, held := false, calFailed := false } }
  readArea (304 * 256) b.secure (loadHealth (readStore b (bootClocks b s1)))

/-- The whole of BOOT (R74). -/
def boot (b : BootIn) (s : State) : State :=
  let s1 := bootStart b s
  let r := if b.bootsel then (bootHeld b s1, false) else bootImage b s1
  let s2 := bootRoles r.1
  let s3 := forAll (n := 8) (fun s k => bootNoLane k (bootRing k s)) s2
  let s4 := bootIc ((List.range 120).foldl (fun s f => bootCmp f s) s3)
  let s5 := if s4.img.applied then porterTakes s4 else s4
  let s6 := bootEnd b.calOk (imageRecords r.2 (insertRecord s5))
  if vget s6.pll.locked 0 || vget s6.pll.locked 1 then s6 else raiseDev 0x13 s6

/-- BOOT. -/
def execBoot (b : BootIn) (s : State) : Answer := done (if s.dev = .boot then boot b s else s)

end Sys2Proof.Machine
end

