-- ==== Sys2Proof/Machine/Telemetry.lean ====
section
/-!
DEFINITION. The main converter (R321-R324), what each of its frames sets off (R119, R261, R287, R291), the seconds counter
(R325, R326), the telemetry stream (R327) and the efficiency window (R328).
-/

namespace Sys2Proof.Machine

/-! ### Conversions -/

/-- GAIN and OFS of channel c (R323, R324). -/
def State.mcScale (s : State) (c : Nat) : Nat × Int :=
  if c < 48 then (4096, 0)
  else if c < 54 then (12000, 0)
  else if c < 62 then (36000, 0)
  else if c < 70 then (s.g (F.MC_TSCAL_TGAIN (c - 62)), s.gi (F.MC_TSCAL_TOFS (c - 62)))
  else if c < 75 then (48000, 0)
  else if c = 75 then (60000, -5000)
  else if c = 76 then (4096, 0)
  else if c = 77 then (1200, 0)
  else if c < 81 then (4800, 0)
  else if c = 81 then (2400, 0)
  else if c = 82 then (4096, 0)
  else (48000, 0)

/-- The first n bits of log2 x after the point, for x in units of 2^-40 from 1 to 2. -/
def logBits (n x : Nat) : Nat :=
  match n with
  | 0 => 0
  | n + 1 => let y := x * x / 2 ^ 40; if 2 ^ 41 ≤ y then 2 ^ n + logBits n (y / 2) else logBits n y

/-- ln (a / b) in units of 2^-32, to within 8 of them, for positive a and b. -/
def lnRatio (a b : Nat) : Int :=
  let e : Int := (Nat.log2 a : Int) - Nat.log2 b
  let x := if 0 ≤ e then a * 2 ^ 40 / (b * 2 ^ e.toNat) else a * 2 ^ (40 + (-e).toNat) / b
  let l : Int := if x < 2 ^ 40 then (e - 1) * 2 ^ 32 + logBits 32 (2 * x) else e * 2 ^ 32 + logBits 32 x
  asr (l * 762123384786) 40

/-- 16 T in tenths, times `d`, of the B-parameter equation for ln (R / R26) = l in units of 2^-32, and d (R324): T = 1 / (1/298.15 K +
l / BETA) - 273.15 K. -/
def ntcQuotient (beta : Nat) (l : Int) : Int × Int :=
  let d : Int := 100 * beta * 2 ^ 32 + 29815 * l
  (10 * (16 * 29815 * beta * 2 ^ 32) - 43704 * d, d)

/-- The temperature an NTC channel publishes for a code: within 1/16 °C of the equation, a free value there (R324). Where the
equation has no value (R26 or BETA 0, or a sum of reciprocals that is not above 0) it is a free value. -/
def ntcTemp (code r26 beta : Nat) : Int :=
  let v := Config.ntcTemp code r26 beta
  let l := lnRatio (2000 * code) ((4096 - code) * r26)
  let hot := ntcQuotient beta (l - 8)
  let cold := ntcQuotient beta (l + 8)
  if r26 = 0 ∨ beta = 0 ∨ hot.2 ≤ 0 then v
  else max (-((10 * cold.2 - cold.1) / (10 * cold.2))) (min (hot.1 / (10 * hot.2) + 1) v)

/-- raw of a code of channel c (R322, R324): an NTC channel follows the B-parameter equation, channel 70 the unit's own
calibration. -/
def State.mcRaw (s : State) (c code : Nat) : Int :=
  if c = 70 then Config.junctionTemp code
  else if (c = 68 || c = 69) && s.gb (F.MC_NTC_NTCEN (c - 68)) then
    ntcTemp code (s.g (F.MC_NTC_R26 (c - 68))) (s.g (F.MC_NTC_BETA (c - 68)))
  else
    let x := s.mcScale c
    asr ((code * x.1 : Nat) : Int) 12 + x.2

/-- The filter of R322. -/
def filtered (v raw : Int) (avg : Nat) : Int := v + asr (raw - v) avg

/-- A warning of sensor i with the value it reports (R287): OTW, or TJW of the junction; the readings of BOOT (R324) count too. -/
def tempWarn (i : Fin 9) (v : Int) (s : State) : State :=
  raise { devEvent (if i.val = 8 then 0x11 else 0x0B) with value := some v } s

/-- Warning and shutdown thresholds of sensor i in whole °C. -/
def State.tempLimits (s : State) (i : Nat) : Nat × Nat :=
  if i = 8 then (s.g F.FM_TJ_TJW, s.g F.FM_TJ_TJSD) else (s.g (F.FM_TEMP_OTW i), s.g (F.FM_TEMP_OTS i))

/-- The fault manager evaluates a valid reading v of sensor i (R287). -/
def tempValid (i : Fin 9) (v : Int) (s : State) : State :=
  let x := vget s.conv.sensor i
  let l := s.tempLimits i.val
  let hot := decide ((16 * l.2 : Nat) ≤ v)
  let warn := x.armed && decide ((16 * l.1 : Nat) ≤ v)
  let armed := (x.armed && !warn) || decide (v < 16 * (l.1 : Int) - 80)
  let y : SensorState := ⟨armed, x.done && hot, hot, true, true, some v⟩
  let s1 := { s with conv := { s.conv with sensor := vset s.conv.sensor i y } }
  let s2 := if warn then tempWarn i v s1 else s1
  if i.val < 6 then
    forAll (n := 48) (fun s n => if groupOf n.val = i.val && s.exists_ n.val then thermalCycle v n s else s) s2
  else s2

/-- An invalid reading of sensor i: it stops the timer, and a change from a valid one warns with detail 8000h (R287). -/
def tempInvalid (i : Fin 9) (s : State) : State :=
  let x := vget s.conv.sensor i
  let y := { x with hot := false, seen := true, valid := false }
  let s1 := { s with conv := { s.conv with sensor := vset s.conv.sensor i y } }
  if x.seen && x.valid then tempWarn i (-32768) s1 else s1

/-- A conversion of a temperature channel (R322, R324). -/
def convertTemp (i : Fin 9) (code : Nat) (s : State) : State :=
  let c := 62 + i.val
  let s1 := s.p (F.MC_CH_DATA_CODE c) code
  if code < 8 || 4087 < code then tempInvalid i (s1.pi (F.MC_CH_DATA_VALUE c) (-32768))
  else
    let raw := s.mcRaw c code
    let v := match (vget s.conv.sensor i).filt with
      | none => raw
      | some f => filtered f raw (s.g (F.MC_CH_CFG_AVG c))
    tempValid i v (s1.pi (F.MC_CH_DATA_VALUE c) v)

/-- A conversion of channel c (R322); the ISEN input of a phase that does not exist is not converted (R42). -/
def convert (c code : Nat) (s : State) : State :=
  if c < 48 && !s.exists_ c then s
  else if 62 ≤ c && c ≤ 70 then convertTemp (Fin.ofNat 9 (c - 62)) code s
  else
    let raw := s.mcRaw c code
    let v := if s.conv.done.getLsbD c then filtered (s.gi (F.MC_CH_DATA_VALUE c)) raw (s.g (F.MC_CH_CFG_AVG c)) else raw
    let s1 := (s.p (F.MC_CH_DATA_CODE c) code).pi (F.MC_CH_DATA_VALUE c) v
    { s1 with conv := { s1.conv with done := putFlag s1.conv.done c true } }

/-- DAC (even slot) or input (odd slot) readback of comparator c (R274, R321). -/
def readback (c slot code : Nat) (s : State) : State :=
  if slot % 2 = 0 then s.p (F.CMP_RDBK_DACRB c) code else s.p (F.CMP_RDBK_VINRB c) code

/-- The spare comparators that serve no function, in turn. -/
def State.idleSpares (s : State) : List Nat := (List.range' 120 8).filter fun c => s.g (F.CMP_CTL_FUNC c) == 0x7F

/-- The next ISEN input of group g after input t, in turn, among those of its phases that exist (R42, R321). -/
def State.nextIsen (s : State) (g : Fin 6) (t : Nat) : Nat :=
  match (List.range' 1 8).find? fun d => s.exists_ (8 * g.val + (t + d) % 8) with | some d => (t + d) % 8 | none => t

/-- Rotation slot p of a round, 0-599 (R321). -/
def rotation (p code : Nat) (s : State) : State :=
  if p < 9 then convert (62 + p) code s
  else if p < 15 then
    let g : Fin 6 := Fin.ofNat 6 (p - 9)
    let t := vget s.conv.isenTurn g
    convert (8 * g.val + t) code { s with conv := { s.conv with isenTurn := vset s.conv.isenTurn g (s.nextIsen g t) } }
  else if p < 255 then
    let c := s.servedBy ((p - 15) / 2)
    if c < 128 then readback c (p - 15) code s else s
  else if p < 257 then
    match s.idleSpares[s.conv.spareTurn % (max 1 s.idleSpares.length)]? with
    | none => s
    | some c =>
      let s1 := readback c (p - 255) code s
      if p = 256 then { s1 with conv := { s1.conv with spareTurn := (s1.conv.spareTurn + 1) % 840 } } else s1
  else if p < 265 then convert (77 + (p - 257)) code s
  else if p < 319 then convert (p - 265) code s
  else s

/-- The channel of fixed slot i (R321). -/
def fixedChannel (i : Nat) : Nat := if i < 8 then 54 + i else 71 + (i - 8)

/-- VINC from the main converter once the VINFF converter has failed (R119); a product above FFFFh leaves its low 16 bits (DESIGN CHOICE,
log entry 121: the rule limits only the VINFF converter's own). -/
def vinFallback (s : State) : State :=
  if s.vinffFailed && !s.gb F.VINFF_CFG_SRC then
    (s.p F.VINFF_DATA_VINC ((s.mcCode 76).toNat * s.g F.VINFF_CFG_VINGAIN / 2 ^ 14)).p F.VINFF_DATA_SRCNOW 1
  else s

/-- CONVERTER_FRAME (R321): the fixed slots, six rotation slots, and what follows the readings. -/
def converterFrame (codes : Vector (BitVec 12) 20) (s : State) : State :=
  if s.core then
    let code := fun (i : Nat) => (codes.toList.getD i 0).toNat
    let s1 := (List.range 14).foldl (fun s i => convert (fixedChannel i) (code i) s) s
    let s2 := (List.range 6).foldl (fun s i => rotation (6 * s.conv.frame + i) (code (14 + i)) s) s1
    let s3 := plateBase 2 0 <| vinFallback { s2 with conv := { s2.conv with frame := (s2.conv.frame + 1) % 100 } }
    if s.dev = .boot then s3 else (List.range' 96 24).foldl (fun s f => coverEval f s.clock s) s3
  else s

/-- CONVERTER_FRAME. -/
def execConverterFrame (codes : Vector (BitVec 12) 20) (s : State) : Answer := done (converterFrame codes s)

/-! ### Seconds -/

/-- REMWAIT falls by the AON ticks since it was last brought up to date, to no less than 1: RETRY_WAIT_END brings it to 0 (R313,
R314). They are the 32,768 of a second, or those of the part of one in which the wait started, a free value. -/
def waitSecond (s : State) : State :=
  let r := s.g F.NP_RSTATE_REMWAIT
  let seen := { s with np := { s.np with remAt := some s.clock, remMid := false } }
  if r = 0 then s
  else if s.np.remMid then
    let d := seen.draw
    d.2.p F.NP_RSTATE_REMWAIT (min s.remNow (max 1 (r - (1 + Config.freeNat d.1 % 32768))))
  else seen.p F.NP_RSTATE_REMWAIT (max 1 (r - 32768))

/-- SECS_INCREMENT (R19, R325, R326, R385): SECS advances while VAON is good, TB_SECMARK latches while the time base runs,
the session's time falls, and the alarm may wake the device. -/
def secsIncrement (s : State) : State :=
  if s.sup.vaon then
    let s1 := waitSecond (s.p F.NP_SECS_SECS (s.g F.NP_SECS_SECS + 1))
    let s2 := if s1.core then routerEvent 0xE2 { s1 with secMark := s1.tb } else s1
    let s3 := { s2 with gate := { s2.gate with session := s2.gate.session.map fun x => { x with left := x.left - 1 } } }
    let alarm := s3.g F.NP_ALARM_ALARM
    if alarm != 0 && alarm == s3.g F.NP_SECS_SECS then wakeEvent 5 s3 else s3
  else s

/-- SECS_INCREMENT. -/
def execSecsIncrement (s : State) : Answer := done (secsIncrement s)

/-! ### Telemetry -/

/-- The value of a telemetry item, as a signed number (R327). -/
def State.item (s : State) (c : Nat) : Int :=
  let k := c % 8
  if c ≤ 0x54 then s.mcV c
  else if 0x60 ≤ c && c < 0x68 then s.gi (F.OL_ITOT_ITOT k)
  else if 0x68 ≤ c && c < 0x70 then s.gi (F.RAIL_REFNOW_REF k)
  else if 0x70 ≤ c && c < 0x78 then s.g (F.OL_HZNOW_MARGIN k)
  else if 0x78 ≤ c && c < 0x80 then s.gi (F.RAIL_THNOW_THCODE k)
  else match c with
    | 0x80 => s.pt.pl
    | 0x81 => s.g F.PT_THERM_HOLDUS
    | 0x82 => s.gi F.PT_THERM_TFET
    | 0x83 => s.gi F.PT_IIN_IIN
    | 0x84 => s.g F.TM_EFF_EFF
    | 0x85 => s.g F.NP_SECS_SECS
    | _ => s.tb.toNat

/-- The items of TM_ITEM up to the first FFh, with their list positions. -/
def State.items (s : State) : List (Nat × Nat) :=
  ((List.range 16).map fun i => (s.g (F.TM_ITEM_ITEM i), i)).takeWhile fun x => x.1 != 0xFF

/-- TELEMETRY_PERIOD (R327): one Q12 entry per item, or none where Q12 cannot take them all. -/
def telemetryPeriod (s : State) : State :=
  if s.core && s.gb F.TM_CTL_EN then
    let s1 := s.p F.TM_STATUS_SEQ (s.g F.TM_STATUS_SEQ + 1)
    let l := s1.items
    if s1.room 12 l.length then
      let n := s1.g F.TM_STATUS_SEQ
      forEach (fun s x => qAppend 12 ⟨BitVec.ofInt 32 (s1.item x.1), BitVec.ofNat 16 (x.1 * 256 + x.2 * 16),
        BitVec.ofNat 16 (0x1000 + n)⟩ s) l s1
    else qDrop 12 (s1.inc F.TM_STATUS_LOST)
  else s

/-- TELEMETRY_PERIOD. -/
def execTelemetryPeriod (s : State) : Answer := done (telemetryPeriod s)

/-! ### Efficiency -/

/-- A figure held at `top`; where it is negative the spec states no code, a free value. -/
def fitTop (top : Nat) (v : Int) (s : State) : Nat × State :=
  if 0 ≤ v then (min top v.toNat, s)
  else let d := s.draw; (Config.freeNat d.1 % (top + 1), d.2)

/-- The sum of the ERAIL counters in mJ, with their own signs (R319). -/
def State.erSum (s : State) : Int := (allFin 8).foldl (fun a k => a + vget s.pt.erail k / 64000000) 0

/-- EFFICIENCY_WINDOW (R328). -/
def efficiencyWindow (s : State) : State :=
  if s.core then
    let ein := s.pt.ein / 1600000
    let er := s.erSum
    let dE := ein - s.conv.effEin
    let dR := er - s.conv.effEr
    let win : Int := s.g F.TM_EFFCFG_EFFWIN
    let e := if dE ≤ 0 then (0, s) else fitTop 0xFFFF (65536 * dR / dE) s
    let p := fitTop 0x7FFF (dE / win) e.2
    let r := fitTop 0xFFFF (dR / win) p.2
    let s1 := (((r.2.p F.TM_EFF_EFF e.1).p F.TM_EFF_PINAVG p.1).pb F.TM_EFF_EFFNA (decide (dE ≤ 0))).p
      F.TM_PRAVG_PRAVG r.1
    { s1 with conv := { s1.conv with effEin := ein, effEr := er } }
  else s

/-- EFFICIENCY_WINDOW. -/
def execEfficiencyWindow (s : State) : Answer := done (efficiencyWindow s)

end Sys2Proof.Machine
end

