-- ==== Sys2Proof/Machine/Link.lean ====
section
/-!
DEFINITION. The Fjovy load link (09_fjovy_link.md): the frames of R219, the checks of R222 in their order, the opcodes of
R224 in both versions, duplicates (R223), readings (R230), status pages (R231) and link errors (R240).
-/

namespace Sys2Proof.Machine

/-! ### Responses -/

/-- The response a port sends, with its CRC (R219, R221). -/
def makeResponse (ack : Nat) (tag : BitVec 4) (data : BitVec 16) : Response :=
  ⟨ack, tag, data, BitVec.ofNat 8 (crc8 (bitsMsb 4 ack ++ bitsMsb 4 tag.toNat ++ bitsMsb 16 data.toNat))⟩

/-- The command CRC of a frame (R219, R221). -/
def frameCrc (op : Nat) (f : Frame) : Nat :=
  crc8 (bitsMsb 2 f.ep.val ++ bitsMsb 6 op ++ bitsMsb 4 f.tag.toNat ++ bitsMsb 8 f.arg.toNat ++ bitsMsb 16 f.data.toNat)

/-- Port p answers. -/
def linkRespond (p : Fin 2) (ack : Nat) (tag : BitVec 4) (data : BitVec 16) (s : State) : State :=
  let s1 := { s with port := vset s.port p { vget s.port p with resp := some (makeResponse ack tag data) } }
  s1.inc (F.LNK_NFRAME_FRAMES p.val)

/-! ### Opcodes (R224) -/

/-- The code of an opcode's slot 0, and the slot. -/
def opBase (op : Nat) : Nat := if op < 4 then op else op - op % 4

/-- The opcode is assigned and available in version v (R222 check 2, R239). -/
def opKnown (op v : Nat) : Bool :=
  decide (op < 0x28) && (v == 2 || !(opBase op == 0x18 || opBase op == 0x1C || opBase op == 0x20))

/-- The opcode takes part in duplicate detection (R224, "Dup"). -/
def opDup (op : Nat) : Bool := op == 1 || op == 2 || (decide (0x10 ≤ op) && decide (op < 0x28))

/-- The opcode is class W; a MARGIN is in its command form (R224, R228). -/
def opWrites (op : Nat) (arg : BitVec 8) : Bool :=
  let b := opBase op
  b == 0x10 || b == 0x14 || b == 0x1C || b == 0x20 || b == 0x24 || (b == 0x18 && arg.toNat < 128)

/-- The frame repeats the one its endpoint remembers (R223): the stored response. -/
def State.duplicate (s : State) (p : Fin 2) (op : Nat) (f : Frame) : Option (Nat × BitVec 16) :=
  match vget (vget s.port p).dup f.ep with
  | none => none
  | some d =>
    let same := s.g (F.LNK_EP_LAST_OP p.val f.ep.val) == op && s.g (F.LNK_EP_LAST_TAG p.val f.ep.val) == f.tag.toNat
      && d.arg == f.arg && d.data == f.data
    if opDup op && same then some (s.g (F.LNK_EP_LAST_ACK p.val f.ep.val), d.resp) else none

/-- The endpoint remembers an accepted frame with its response (R223). -/
def remember (p : Fin 2) (op : Nat) (f : Frame) (ack : Nat) (data : BitVec 16) (s : State) : State :=
  let pt := vget s.port p
  let s1 := { s with port := vset s.port p { pt with dup := vset pt.dup f.ep (some ⟨f.arg, f.data, data⟩) } }
  s1.setWord (A.LNK_EP_LAST p.val f.ep.val)
    (BitVec.ofNat 32 (op * 2 ^ 26 + f.tag.toNat * 2 ^ 22 + ack * 2 ^ 18 + 2 ^ 17))

/-! ### Checks 4 and 5 -/

/-- Check 4 (R222, R230, R231): the endpoint is enabled, the slot valid where one is needed, and the Gatehouse grants a
class W frame its write of the rail's Transit registers. The KIND is that of a Gatehouse refusal. -/
def State.linkAccess (s : State) (p : Fin 2) (op : Nat) (slot : Nat) (f : Frame) : Bool × Option Nat :=
  let k := s.slotRail p.val f.ep.val slot
  let page := opBase op == 4 && (1 ≤ f.arg.toNat && f.arg.toNat ≤ 4)
  let gett := op == 3 && 0x10 ≤ f.arg.toNat && f.arg.toNat ≤ 0x13
  if !s.epOn p.val f.ep.val then (false, none)
  else if 4 ≤ op && !page && k.isNone then (false, none)
  else if gett && (s.slotRail p.val f.ep.val (f.arg.toNat - 0x10)).isNone then (false, none)
  else if opWrites op f.arg then
    match k with
    | some k => match s.gateWrite (linkMaster p) (A.RAIL_VSET k.val) false with
      | some kind => (false, some kind)
      | none => (true, none)
    | none => (false, none)
  else (true, none)

/-- Check 5 (R17, R224). -/
def State.linkState (s : State) (op : Nat) (k : Fin 8) : Bool :=
  let b := opBase op
  let live := s.st k == .wake || s.st k == .ramp || s.st k == .on
  if s.dev = .safe then b == 0 || b == 3 || b == 4
  else if b = 0x1C then live
  else if b = 0x20 then live && s.g (F.EPH_CTL_PSRC k.val) == 0
  else if b = 0x24 then s.g (F.RAIL_SEQCTL_ENMODE k.val) == 0 || s.g (F.RAIL_SEQCTL_ENMODE k.val) == 2
  else true

/-! ### Readings (R230, R239) -/

/-- GETV (R230); version 1 carries set-point codes of 5 mV (R239). -/
def State.getv (s : State) (k : Fin 8) (v arg : Nat) : Option Int :=
  let vals : List Int := [s.mcV (54 + k.val), s.g (F.RAIL_REFNOW_REF k.val), s.g (F.RAIL_REFNOW_VCMD k.val),
    s.gi (F.RAIL_CMARGNOW_CMARG k.val), s.g (F.OL_HZNOW_MARGIN k.val), s.g F.VINFF_DATA_VINC]
  if v = 2 then vals[arg]?
  else if arg < 3 then vals[arg]?.map fun x => clampInt ((x - 2500) / 50) 0 255
  else none

/-- GETI (R230). -/
def State.geti (s : State) (k : Fin 8) (arg : Nat) : Option Int :=
  match arg with
  | 0 => some (asr (s.gi (F.OL_ITOT_ITOT k.val)) 6)
  | 1 => some (match s.ilimEff k with | some l => (l : Int) | none => 0xFFFF)
  | 2 => some (s.g (F.RAIL_SEQ_RINGLEN k.val))
  | _ => none

/-- The hottest stage group of rail k's ring and tail with a valid reading; 8000h for none (R230). -/
def State.hottest (s : State) (k : Fin 8) : Int :=
  let l := ((allFin 6).filter fun g => s.tsenValid g.val && (s.ringTail k).any fun n => groupOf n.val == g.val).map
    fun g => s.tsen g.val
  l.foldl max (-32768)

/-- GETT (R230). -/
def State.gett (s : State) (p : Fin 2) (e arg : Nat) : Option Int :=
  if arg ≤ 8 then some (s.mcV (62 + arg))
  else if 0x10 ≤ arg ∧ arg ≤ 0x13 then (s.slotRail p.val e (arg - 0x10)).map fun k => s.hottest k
  else none

/-- GETSTAT page 00h of rail k through slot sl (R231). -/
def State.statPage (s : State) (p : Fin 2) (e sl : Nat) (k : Fin 8) : Nat :=
  (s.st k).code * 2 ^ 12 + bitIf (s.gb (F.RAIL_TSTAT_PG k.val)) 11 + bitIf (s.gb (F.RAIL_TSTAT_ARRV k.val)) 10
  + bitIf (s.gb (F.RAIL_TSTAT_TRANS k.val)) 9 + bitIf (s.gb (F.OL_STATUS_CLACT k.val)) 8
  + bitIf (s.gb (F.RAIL_MSTAT_FCARMED k.val)) 7 + bitIf (s.g (F.OL_HZNOW_MARGIN k.val) != 0) 6
  + bitIf (s.gb (F.RAIL_MSTAT_DEACT k.val)) 5 + bitIf (s.capBelow k) 4
  + getBits (s.word (A.LNK_EP_ARVTAG p.val e)) (4 * sl) 4

/-- GETSTAT (R231). -/
def State.getstat (s : State) (p : Fin 2) (e sl arg : Nat) : Option Nat :=
  let cause := (s.word (A.LNK_EP_CAUSE p.val e)).toNat
  match arg with
  | 0 => (s.slotRail p.val e sl).map fun k => s.statPage p e sl k
  | 1 => some (cause % 2 ^ 16)
  | 2 => some (cause / 2 ^ 29 * 2 ^ 13)
  | 3 => some (s.g F.PT_THERM_HOLDUS)
  | 4 => some (s.g (F.LNK_STATUS_VER p.val) * 2 ^ 14 + s.dev.code * 2 ^ 11 + bitIf s.pfw 10
      + s.g (F.LNK_EP_BIND_SVALID p.val e) * 2 ^ 4)
  | _ => none

/-! ### Commands -/

/-- An outcome of checks 6 and 7: ACK, data, state. -/
abbrev LinkOut : Type := Nat × BitVec 16 × State

/-- The argument or data is out of range. -/
def badRange (s : State) : LinkOut := (3, 0, s)

/-- A reading is answered, or its argument refused. -/
def reading (v : Option Int) (s : State) : LinkOut :=
  match v with
  | some x => (0, BitVec.ofInt 16 x, s)
  | none => badRange s

/-- An entry of a frame goes to the rail's queue (R225, R234, R372), or BUSY_RETRY. -/
def enqueue (p : Fin 2) (f : Frame) (k : Fin 8) (kind : Nat) (data : Word) (s : State) : LinkOut :=
  let q : Fin 16 := Fin.ofNat 16 k.val
  if s.room q 1 then
    let tag := (masterCode (linkMaster p)) * 2 ^ 13 + f.ep.val * 2 ^ 11 + f.tag.toNat
    let s1 := qAppend q ⟨data, BitVec.ofNat 16 tag, BitVec.ofNat 16 (kind * 4096)⟩ s
    (1, BitVec.ofNat 16 ((s1.q q).length * 256), s1)
  else (2, 0, qDrop q s)

/-- The set-point code of a SETV in the port's version; none where version 1 forbids its data (R239). -/
def State.setCode (s : State) (p : Fin 2) (data : BitVec 16) : Option Nat :=
  if s.g (F.LNK_STATUS_VER p.val) = 2 then some data.toNat
  else if data.toNat < 256 then some (2500 + 50 * data.toNat) else none

/-- A slew override (R225): M x S_E, none where it is refused. -/
def slewOverride (arg : Nat) : Option Nat :=
  let e := arg / 64
  let m := arg % 64
  if m = 0 || (e = 3 && 16 < m) then none
  else some (m * (match e with | 0 => 1 | 1 => 8 | 2 => 64 | _ => 500))

/-- SETV, SETV_SLEW (R225). -/
def linkSet (p : Fin 2) (f : Frame) (k : Fin 8) (slew : Option Nat) (s : State) : LinkOut :=
  match slew, s.setCode p f.data with
  | some w, some c =>
    if s.inLimits k.val c then enqueue p f k 1 (BitVec.ofNat 32 (c * 2 ^ 16 + w)) s else badRange s
  | _, _ => badRange s

/-- A slack report reaches Horizon, which acts on it at the first boundary it is eligible for (R27, R178-R181). -/
def slackReport (p : Fin 2) (e : Fin 4) (k : Fin 8) (slack : Int) (s : State) : State :=
  if s.gb (F.OL_HZCTL_HZEN k.val) && s.enabled k && (s.ra k).tr.trans.isNone then
    let s1 := s.modOl k fun o => { o with
      reports := o.reports ++ [(s.clock, slack)]
      reported := o.reported ||| BitVec.ofNat 8 (2 ^ (4 * p.val + e.val)) }
    if slack < s1.gi (F.OL_HZSTEP_SLKCRIT k.val) then
      marginEvent k (s1.pb (F.OL_STATUS_HZCRIT k.val) true)
    else s1
  else s

/-- MARGIN in both forms (R228). -/
def linkMargin (p : Fin 2) (f : Frame) (k : Fin 8) (s : State) : LinkOut :=
  if f.arg.toNat = 0 then enqueue p f k 2 (BitVec.ofNat 32 (f.data.toNat * 2 ^ 16)) s
  else if f.arg.toNat = 128 then (0, 0, slackReport p f.ep k f.data.toInt s)
  else badRange s

/-- The Innkeeper brings phases in ahead of a positive forecast (R249, R253). -/
def forecastPhases (k : Fin 8) (d : Int) (s : State) : State :=
  let s1 := s.modInk k fun i => { i with fcPending := true, fcAdded := [] }
  if 0 < d && s1.gb (F.INK_CTL_AUTO k.val) && s1.st k == .on then
    let shed := ((s1.ra k).ink.base.filter fun n => (s1.rl n).role == .shed).length
    let act := (s1.activeOf k).length
    let m := if s1.effBad k.val then shed else s1.nOf k (s1.irail k + d) - act
    if 0 < m then decideAdd k m true s1 else s1
  else s1

/-- FORECAST (R128, R201, R226, R253): it replaces an earlier one in all three. Due comes `lead` microseconds, of 12,800 fine steps,
after cycle 45. -/
def linkForecast (k : Fin 8) (d : Int) (lead : Nat) (s : State) : State :=
  let f : Forecast := ⟨d, s.clock, s.clock + 12800 * lead, false, false, false, none, false⟩
  let s1 := (s.modMd k fun m => { m with fc := some f }).pb (F.RAIL_MSTAT_FCARMED k.val) false
  forecastPhases k d s1

/-- PERIOD (R188, R227): T in ns, and the alignment flag, for the first boundary it is eligible for (R27). A T that is 0 or outside
the limits declares the period absent at once, whatever an earlier message still waiting gave. -/
def linkPeriod (f : Frame) (k : Fin 8) (s : State) : State :=
  let t := f.data.toNat + f.arg.toNat % 128 * 2 ^ 16
  let align := decide (128 ≤ f.arg.toNat)
  if 16 * s.ts k.val ≤ t then s.modEp k fun e => { e with msgs := e.msgs ++ [(s.clock, some t, align)] }
  else (takePeriod k t s).modEp k
    fun e => { e with msgs := (e.msgs.map fun x => (x.1, none, x.2.2)) ++ [(s.clock, none, align)] }

/-- POWERSTATE (R229). -/
def linkPower (p : Fin 2) (f : Frame) (k : Fin 8) (s : State) : LinkOut :=
  if 1 < f.arg.toNat || f.data ≠ 0 then badRange s
  else enqueue p f k (if f.arg.toNat = 1 then 3 else 4) 0 s

/-- NEGOTIATE (R233): the agreed version applies from the next frame; `linkFrame` sets it. -/
def agreed (s : State) (p : Fin 2) (f : Frame) : Nat := min f.arg.toNat (s.g (F.LNK_CTL_MAXVER p.val))

/-- CLRALERT (R232). -/
def linkClear (p : Fin 2) (f : Frame) (s : State) : LinkOut :=
  let e := f.ep.val
  if f.arg.toNat = 1 then
    let s1 := clearCauses p.val e f.data.toNat s
    (0, BitVec.ofNat 16 ((s1.word (A.LNK_EP_CAUSE p.val e)).toNat % 2 ^ 16), s1)
  else if f.arg.toNat = 2 then
    let s1 := clearCauses p.val e (f.data.toNat / 2 ^ 13 * 2 ^ 29) s
    (0, BitVec.ofNat 16 ((s1.word (A.LNK_EP_CAUSE p.val e)).toNat / 2 ^ 29 * 2 ^ 13), s1)
  else badRange s

/-- Checks 6 and 7 and the effect of a frame that passed checks 1 to 5; k is its slot's rail, or any where it has none. -/
def linkEffect (p : Fin 2) (op slot : Nat) (f : Frame) (k : Fin 8) (s : State) : LinkOut :=
  let arg := f.arg.toNat
  let ver := s.g (F.LNK_STATUS_VER p.val)
  match opBase op with
  | 0x00 => (0, f.data, s)
  | 0x01 => if arg = 0 || f.data ≠ 0 then badRange s
      else (0, BitVec.ofNat 16 (agreed s p f * 256 + s.g (F.LNK_CTL_MAXVER p.val)), s)
  | 0x02 => linkClear p f s
  | 0x03 => reading (s.gett p f.ep.val arg) s
  | 0x04 => reading ((s.getstat p f.ep.val slot arg).map fun x => (x : Int)) s
  | 0x08 => reading (s.getv k ver arg) s
  | 0x0C => reading (s.geti k arg) s
  | 0x10 => if arg = 0 then linkSet p f k (some 0) s else badRange s
  | 0x14 => linkSet p f k (slewOverride arg) s
  | 0x18 => linkMargin p f k s
  | 0x1C => (0, 0, linkForecast k f.data.toInt arg s)
  | 0x20 => (0, 0, linkPeriod f k s)
  | _ => linkPower p f k s

/-- Checks 4 to 7 (R222). -/
def linkRun (p : Fin 2) (op slot : Nat) (f : Frame) (s : State) : LinkOut :=
  let k := (s.slotRail p.val f.ep.val slot).getD 0
  let acc := s.linkAccess p op slot f
  if !acc.1 then
    (4, 0, match acc.2 with | some kind => ghRefuse (linkMaster p) kind (A.RAIL_VSET k.val) s | none => s)
  else if !s.linkState op k then (5, 0, s)
  else linkEffect p op slot f k s

/-- A frame with a good CRC whose opcode code is op (R222). -/
def linkFrame (p : Fin 2) (op : Nat) (f : Frame) (s : State) : State :=
  if !s.linkOn p then noResponse p s
  else if !opKnown op (s.g (F.LNK_STATUS_VER p.val)) then linkRespond p 7 f.tag 0 s
  else match s.duplicate p op f with
    | some d => linkRespond p d.1 f.tag d.2 (s.inc (F.LNK_CNT_DUP p.val))
    | none =>
      let r := linkRun p op (if op < 4 then 0 else op % 4) f s
      let s1 := if opDup op && decide (r.1 ≤ 1) then remember p op f r.1 r.2.1 r.2.2 else r.2.2
      let s2 := if op = 1 && r.1 = 0 then setVersion p (agreed s p f) s1 else s1
      linkRespond p r.1 f.tag r.2.1 s2

/-- A frame of a slot opcode. -/
def slotFrame (p : Fin 2) (base : Nat) (f : Frame) (s : State) : Answer := done (linkFrame p (base + f.slot.val) f s)

/-! ### Rows -/

/-- PING (R224). -/
def execPing (p : Fin 2) (f : Frame) (s : State) : Answer := done (linkFrame p 0x00 f s)

/-- NEGOTIATE (R233). -/
def execNegotiate (p : Fin 2) (f : Frame) (s : State) : Answer := done (linkFrame p 0x01 f s)

/-- CLRALERT (R232). -/
def execClralert (p : Fin 2) (f : Frame) (s : State) : Answer := done (linkFrame p 0x02 f s)

/-- GETT (R230). -/
def execGett (p : Fin 2) (f : Frame) (s : State) : Answer := done (linkFrame p 0x03 f s)

/-- GETSTAT (R231). -/
def execGetstat (p : Fin 2) (f : Frame) (s : State) : Answer := slotFrame p 0x04 f s

/-- GETV (R230). -/
def execGetv (p : Fin 2) (f : Frame) (s : State) : Answer := slotFrame p 0x08 f s

/-- GETI (R230). -/
def execGeti (p : Fin 2) (f : Frame) (s : State) : Answer := slotFrame p 0x0C f s

/-- SETV (R225). -/
def execSetv (p : Fin 2) (f : Frame) (s : State) : Answer := slotFrame p 0x10 f s

/-- SETV_SLEW (R225). -/
def execSetvSlew (p : Fin 2) (f : Frame) (s : State) : Answer := slotFrame p 0x14 f s

/-- MARGIN in command form (R228): argument [7] is 0. -/
def execMarginCommand (p : Fin 2) (f : Frame) (s : State) : Answer :=
  slotFrame p 0x18 { f with arg := f.arg &&& 0x7F } s

/-- MARGIN in report form (R228): argument [7] is 1. -/
def execMarginReport (p : Fin 2) (f : Frame) (s : State) : Answer :=
  slotFrame p 0x18 { f with arg := f.arg ||| 0x80 } s

/-- FORECAST (R226). -/
def execForecast (p : Fin 2) (f : Frame) (s : State) : Answer := slotFrame p 0x1C f s

/-- PERIOD (R227). -/
def execPeriod (p : Fin 2) (f : Frame) (s : State) : Answer := slotFrame p 0x20 f s

/-- POWERSTATE (R229). -/
def execPowerstate (p : Fin 2) (f : Frame) (s : State) : Answer := slotFrame p 0x24 f s

/-- UNKNOWN_OP (R222): a frame with any opcode code; an assigned and available one is served as itself. -/
def execUnknownOp (p : Fin 2) (op : BitVec 6) (f : Frame) (s : State) : Answer := done (linkFrame p op.toNat f s)

/-- CRC_ERROR (R222, R240). -/
def execCrcError (p : Fin 2) (_op : BitVec 6) (f : Frame) (s : State) : Answer :=
  done (if s.linkOn p then
      linkRespond p 6 f.tag 0 ((s.inc (F.LNK_CNT_CRC p.val)).pb (F.LNK_STATUS_CRCERR p.val) true)
    else noResponse p s)

/-- LINK_FRAME_ERROR (R240): the second SOF bit is 1; no answer. -/
def execLinkFrameError (p : Fin 2) (s : State) : Answer :=
  done (noResponse p (if s.linkOn p then
    (s.inc (F.LNK_CNT_FRAME p.val)).pb (F.LNK_STATUS_FRAMEERR p.val) true else s))

/-- LINK_CLOCK_TIMEOUT (R240): the frame, or from cycle 46 on its response, is abandoned; the frame stands. -/
def execLinkClockTimeout (p : Fin 2) (_cycle : Fin 82) (s : State) : Answer :=
  done (noResponse p (if s.linkOn p then
    (s.inc (F.LNK_CNT_TIMEOUT p.val)).pb (F.LNK_STATUS_FRAMETO p.val) true else s))

end Sys2Proof.Machine
end

