-- ==== Sys2Proof/Machine/HostPorts.lean ====
section
/-!
DEFINITION. The two-wire host ports (14_host_ports.md): F0h register access, F1h push and F2h pop, Packet Error Checking,
bus errors, the PMBus subset, HPB as a master, and HALERT#.

A transaction is the bytes the host sends after the command code, in order, with its PEC byte after them where it sends
one. The port takes them one by one; a host whose byte is NACKed stops. A write may come in parts, its bytes so far waiting in
the port (R369).
-/

namespace Sys2Proof.Machine

/-! ### What a port reports -/

/-- Port x takes transactions: it is enabled, VIOH is good, and the device is out of OFF (R54, R346, R359). -/
def State.hostOn (s : State) (x : Fin 2) : Bool := s.core && s.sup.vioh && s.gb (F.HP_CTL_EN x.val)

/-- Change port x. -/
def State.modHp (s : State) (x : Fin 2) (f : HostPort → HostPort) : State :=
  { s with host := vset s.host x (f (vget s.host x)) }

/-- Set bits of STATUS_CML (R363). -/
def hpCml (x : Fin 2) (mask : Nat) (s : State) : State := s.modHp x fun h => { h with cml := h.cml ||| BitVec.ofNat 8 mask }

/-- The result of the transaction (R353); BOOT leaves LASTRES as it is (R360). -/
def hpResult (x : Fin 2) (c : Nat) (s : State) : State :=
  if s.dev = .boot then s else s.p (F.HP_STATUS_LASTRES x.val) c

/-- The port NACKs a byte. -/
def hpNack (x : Fin 2) (s : State) : State :=
  (s.inc (F.HP_CNT_NACKS x.val)).modHp x fun h => { h with nacked := true }

/-- A byte is NACKed for a bad count, alignment or queue number (R351, R354, R356). -/
def hpFormat (x : Fin 2) (s : State) : State := hpResult x 8 (hpNack x s)

/-- A STOP comes before the final byte (R358). -/
def hpAborted (x : Fin 2) (s : State) : State := hpResult x 0xA (s.inc (F.HP_CNT_ABORTS x.val))

/-- The command code is not supported (R349, R353, R363). -/
def hpUnknown (x : Fin 2) (s : State) : State :=
  hpResult x 0xB (hpCml x 0x80 ((hpNack x s).pb (F.HP_STATUS_UNKCMD x.val) true))

/-- A PEC is bad (R357). -/
def hpBadPec (x : Fin 2) (s : State) : State :=
  hpResult x 9 (hpCml x 0x20 (((hpNack x s).inc (F.HP_CNT_PECERRS x.val)).pb (F.HP_STATUS_PECERR x.val) true))

/-- A PEC is missing (R357). -/
def hpNoPec (x : Fin 2) (s : State) : State :=
  hpResult x 9 (hpCml x 0x20 ((s.inc (F.HP_CNT_PECERRS x.val)).pb (F.HP_STATUS_NOPEC x.val) true))

/-- A byte beyond the count is NACKed (R357). -/
def hpOverrun (x : Fin 2) (s : State) : State := (hpNack x s).pb (F.HP_STATUS_OVERRUN x.val) true

/-- No transaction is open: a pop has ended with its entry at the head (R356), a write with nothing committed. -/
def hpClear (x : Fin 2) (s : State) : State :=
  (s.modHp x fun h => { h with hold := none, part := none, sent := [], nacked := false }).pb (F.HP_STATUS_BUSY x.val) false

/-- A transaction starts: an open pop ends with its entry at the head (R356), and an open write is aborted: its final byte
has not come (R358; DEDUCED, log entry 136). -/
def hpStart (x : Fin 2) (s : State) : State :=
  hpClear x (if (vget s.host x).part.isSome then hpAborted x s else s)

/-- One transaction of port x. -/
def hpTrans (x : Fin 2) (f : State → State) (s : State) : Answer := done (if s.hostOn x then f (hpStart x s) else s)

/-- The bytes of a write end before its final byte: the port keeps them where the host goes on later, and else the write is
aborted (R358, R369). -/
def hpShort (x : Fin 2) (code : Nat) (more pecen : Bool) (l : List Byte) (s : State) : State :=
  if more then (s.modHp x fun h => { h with part := some ⟨BitVec.ofNat 8 code, l, pecen⟩ }).pb (F.HP_STATUS_BUSY x.val) true
  else hpAborted x s

/-- A write of port x with this command code, a new one or the rest of one that is open. `f` is given PECEN as it stood at
START (HP[x].CTL), how many bytes the port took before these, and all of them. Bytes that go on with no open write of the code
are no event. -/
def hpWrite (x : Fin 2) (code : Nat) (bytes : List Byte) (e : WriteEnd) (f : Bool → Nat → List Byte → State → State)
    (s : State) : Answer :=
  done (if !s.hostOn x then s
    else if !e.cont then f (s.gb (F.HP_CTL_PECEN x.val)) 0 bytes (hpStart x s)
    else match (vget s.host x).part with
      | none => s
      | some o => if o.code.toNat = code then f o.pecen o.bytes.length (o.bytes ++ bytes) (hpClear x s) else s)

/-- The bytes the host reads: what the port sends, and FFh after its last byte. -/
def hpSend (x : Fin 2) (n : Nat) (l : List Byte) (s : State) : State :=
  s.modHp x fun h => { h with sent := (l ++ List.replicate n 0xFF).take n }

/-- The host reads n bytes of an answer. One NACKed before the last ends the answer and is counted (R358), among the aborts
(DESIGN CHOICE, log entry 135: R358 names no field of HP[x].CNT for it). -/
def hpReads (x : Fin 2) (n : Nat) (l : List Byte) (s : State) : State :=
  let s1 := hpSend x n l s
  if n < l.length then s1.inc (F.HP_CNT_ABORTS x.val) else s1

/-! ### Packet Error Checking (R357) -/

/-- One bit into the SMBus CRC-8. -/
def smbusBit (r : Nat) (b : Bool) : Nat :=
  let sh := r * 2 % 256
  if (r / 128 == 1) != b then sh ^^^ 0x07 else sh

/-- The SMBus CRC-8 of a list of bytes. -/
def smbusPec (l : List Byte) : Byte := BitVec.ofNat 8 ((l.flatMap fun b => bitsMsb 8 b.toNat).foldl smbusBit 0)

/-- The address byte of the ports. -/
def State.addrByte (s : State) (read : Bool) : Byte := BitVec.ofNat 8 (2 * s.hostAddr + bit read)

/-- The PEC of a write with its command code and bytes. -/
def State.writePec (s : State) (code : Nat) (l : List Byte) : Byte := smbusPec (s.addrByte false :: byte code :: l)

/-- The PEC of a process call or read: command part, repeated address byte, and what the port sends. -/
def State.readPec (s : State) (code : Nat) (l sent : List Byte) : Byte :=
  smbusPec (s.addrByte false :: byte code :: (l ++ s.addrByte true :: sent))

/-- The byte a host sends for its PEC. -/
def pecBytes (p : Pec) (right : Byte) : List Byte :=
  match p with
  | .absent => []
  | .right => [right]
  | .wrong => [right ^^^ 0xFF]

/-- A host reads the byte after the last data byte of an answer. -/
def readsPec (p : Pec) : Nat := match p with | .absent => 0 | _ => 1

/-- The end of a write whose bytes due have come: `rest` follows them. The write commits here (R350, R357). -/
def hpCommit (x : Fin 2) (pecen : Bool) (rest : List Byte) (good : Byte) (commit : State → State) (s : State) : State :=
  if pecen then
    match rest with
    | [] => hpNoPec x s
    | b :: more => if b ≠ good then hpBadPec x s else if more.isEmpty then commit s else hpOverrun x (commit s)
  else if rest.isEmpty then commit s else hpOverrun x (commit s)

/-- The bytes of an answer, with the PEC where it is enabled (R352, R356). -/
def State.withPec (s : State) (x : Fin 2) (code : Nat) (l sent : List Byte) : List Byte :=
  if s.gb (F.HP_CTL_PECEN x.val) then sent ++ [s.readPec code l sent] else sent

/-! ### F0h (R351, R352) -/

/-- A register address of three bytes, least significant first. -/
def addr24 (a0 a1 a2 : Byte) : Nat := a0.toNat + a1.toNat * 256 + a2.toNat * 65536

/-- The w addresses of a burst. -/
def burst (a w : Nat) : List Nat := (List.range w).map fun j => (a + 4 * j) % 2 ^ 24

/-- A refusal by the Gatehouse, reported once and NACKed or not (R351, R381). -/
def hpDenied (x : Fin 2) (kind a : Nat) (s : State) : State := hpResult x 3 (ghRefuse (hostMaster x) kind a s)

/-- The first address of a burst the Gatehouse refuses a write of, before its data is known. -/
def State.burstDenied (s : State) (x : Fin 2) (l : List Nat) : Option (Nat × Nat) :=
  l.findSome? fun a => (s.gateWrite (hostMaster x) a false).map fun k => (k, a)

/-- The first word of a burst the Gatehouse refuses, field locks included. -/
def State.wordsDenied (s : State) (x : Fin 2) (l : List (Nat × Word)) : Option (Nat × Nat) :=
  l.findSome? fun w => match judge (hostMaster x) w.1 w.2 s with | .gate k => some (k, w.1) | _ => none

/-- The words of a burst are written in order, one SYS cycle apart (R350). -/
def burstWrites (x : Fin 2) : List (Nat × Word) → State → State
  | [], s => s
  | w :: l, s =>
    let s1 := (regWrite (hostMaster x) w.1 w.2 s).1
    if l.isEmpty then s1 else burstWrites x l s1.sysStep

/-- The words of a burst complete in address order; a Gatehouse refusal at commit drops the burst (R350, R351). In BOOT a
write has no effect (R75). -/
def burstCommit (x : Fin 2) (l : List (Nat × Word)) (s : State) : State :=
  if s.dev = .boot then s
  else match s.wordsDenied x l with
    | some (k, a) => hpDenied x k a s
    | none => hpResult x 1 (burstWrites x l s)

/-- An F0h write from its byte 3 on, of whose bytes the port has taken `took` before (R351). The check at byte 6 is made once,
when that byte comes; the one at commit follows the state then (R369). -/
def extendedWrite (x : Fin 2) (more pecen : Bool) (took : Nat) (l : List Byte) (s : State) : State :=
  let short := hpShort x 0xF0 more pecen l s
  match l with
  | [] => short
  | n :: l1 =>
    let w := (n.toNat - 3) / 4
    if n.toNat < 7 || 67 < n.toNat || n.toNat % 4 ≠ 3 then hpFormat x s
    else match l1 with
      | [] => short
      | a0 :: l2 =>
        if a0.toNat % 4 ≠ 0 then hpFormat x s
        else match l2 with
          | a1 :: a2 :: data =>
            let as := burst (addr24 a0 a1 a2) w
            let first := decide (took < 4)
            if first && s.dev = .boot && as.any (fun a => decide (65536 ≤ a)) then hpNack x s
            else match (if !first || s.dev = .boot then none else s.burstDenied x as) with
              | some (k, a) => hpDenied x k a (hpNack x s)
              | none =>
                if data.length < 4 * w || (more && pecen && data.length == 4 * w) then short
                else hpCommit x pecen (data.drop (4 * w)) (s.writePec 0xF0 (n :: a0 :: a1 :: a2 :: data.take (4 * w)))
                  (burstCommit x (as.zip (wordsOf (data.take (4 * w))))) s
          | _ => short

/-- EXTENDED_WRITE (R351): `bytes` are the bytes from byte 3 on, or the next ones of an open write, the PEC apart. -/
def execExtendedWrite (x : Fin 2) (bytes : List Byte) (e : WriteEnd) (s : State) : Answer :=
  hpWrite x 0xF0 bytes e
    (fun pecen took l s => extendedWrite x e.more pecen took (l ++ pecBytes e.pec (s.writePec 0xF0 l)) s) s

/-- The STATUS byte of a refused read (R353). -/
def Verdict.status : Verdict → Nat
  | .ok => 1
  | .notReady => 2
  | .gate _ => 3
  | .refused _ => 4

/-- The first word of a burst whose read is refused. -/
def State.readRefused (s : State) (x : Fin 2) (l : List Nat) : Option (Nat × Verdict) :=
  l.findSome? fun a => match judgeRead (hostMaster x) a s with | .ok => none | v => some (a, v)

/-- The answer of an F0h read: the words are read together, with BUSY showing this transaction; their side effects follow
once the last data byte is sent (R352). `n` is how many bytes the host reads. -/
def burstRead (x : Fin 2) (cmd : List Byte) (as : List Nat) (n : Nat) (f : WordFind) (s : State) : State :=
  let m := hostMaster x
  let s1 := s.pb (F.HP_STATUS_BUSY x.val) true
  let data := 4 * as.length
  match s.readRefused x as with
  | some (a, v) =>
    let l := byte (1 + data) :: byte v.status :: List.replicate data 0
    let s2 := match v with | .gate k => ghRefuse m k a s | _ => s
    hpResult x v.status (hpReads x n (s.withPec x 0xF0 cmd l) s2)
  | none =>
    let l := byte (1 + data) :: 1 :: as.flatMap fun a => leBytes 4 (s1.readWord m a f).toNat
    let s2 := if 2 + data ≤ n then forEach (fun s a => readEffect m a f s) as s else s
    hpResult x 1 (hpReads x n (s.withPec x 0xF0 cmd l) s2)

/-- An F0h read from its byte 3 on (R352); n = 0 says that the host does not read. -/
def extendedRead (x : Fin 2) (l : List Byte) (n : Nat) (f : WordFind) (s : State) : State :=
  match l with
  | [] => hpAborted x s
  | c :: l1 =>
    if c.toNat ≠ 4 then hpFormat x s
    else match l1 with
      | [] => hpAborted x s
      | a0 :: l2 =>
        if a0.toNat % 4 ≠ 0 then hpFormat x s
        else match l2 with
          | a1 :: a2 :: w :: more =>
            if 16 ≤ w.toNat then hpFormat x s
            else if !more.isEmpty then hpResult x 8 (hpOverrun x s)
            else if n = 0 then hpAborted x s
            else burstRead x [c, a0, a1, a2, w] (burst (addr24 a0 a1 a2) (w.toNat + 1)) n f s
          | _ => hpAborted x s

/-- EXTENDED_READ (R352): `bytes` are the bytes from byte 3 on, and the host reads `readLen` bytes, and one more where
`pec` is not absent. -/
def execExtendedRead (x : Fin 2) (bytes : List Byte) (readLen : Nat) (pec : Pec) (found : WordFind) (s : State) : Answer :=
  hpTrans x (extendedRead x bytes (readLen + readsPec pec) found) s

/-! ### F1h (R354, R355) -/

/-- A batch runs: entries are popped up to and including one of KIND 2h, one per SYS cycle, each performed as a write of the
port's master; an entry of another KIND, or misaligned, is discarded (R355). -/
def runBatch (x : Fin 2) : Nat → State → State
  | 0, s => s
  | fuel + 1, s =>
    let q : Fin 16 := Fin.ofNat 16 (8 + x.val)
    match s.q q with
    | [] => s
    | e :: rest =>
      let kind := e.met.toNat / 4096
      let a := e.tag.toNat + e.met.toNat % 256 * 65536
      let s1 := s.setQ q rest
      let s2 := if (kind == 1 || kind == 2) && a % 4 == 0 then (regWrite (hostMaster x) a e.data s1).1
        else cfgRefuse (hostMaster x) .range a s1
      if kind = 2 then s2 else runBatch x fuel s2.sysStep

/-- The register a push is checked and reported as: RAIL[k].VSET for Qk (R354), the queue's STAT for Q8 and Q9. -/
def pushAddr (q : Nat) : Nat := if q < 8 then A.RAIL_VSET q else A.Q_STAT q

/-- The KIND a push is refused with (R354, R360). -/
def State.pushDenied (s : State) (x : Fin 2) (q : Nat) : Option Nat :=
  if q < 8 then s.gateWrite (hostMaster x) (pushAddr q) false else if s.dev = .lockdown then some 5 else none

/-- A push to a full queue is dropped with QFULL (R354, R372). -/
def pushFull (x : Fin 2) (q : Fin 16) (s : State) : State := hpResult x 7 (qDrop q s)

/-- A push commits (R354): LOCKDOWN or the Gatehouse drops it (R369), SAFE refuses it (R18), and so does a queue found full
now, which for Q0-Q7 sets RAIL[k].TSTAT.QFULL as well; a port replaces the tag of a set-point entry; KIND 2h runs the batch. -/
def pushCommit (x : Fin 2) (q : Fin 16) (e : QEntry) (s : State) : State :=
  let m := hostMaster x
  let s1 := hpResult x 1 s
  match s.pushDenied x q.val with
  | some k => hpDenied x k (pushAddr q.val) s
  | none =>
  if s.dev = .safe then cfgRefuse m .state (pushAddr q.val) s1
  else if !s.room q 1 then pushFull x q (if q.val < 8 then s.pb (F.RAIL_TSTAT_QFULL q.val) true else s)
  else if q.val < 8 then qAppend q { e with tag := BitVec.ofNat 16 (masterCode m * 8192) } s1
  else
    let s2 := qAppend q e s1
    if e.met.toNat / 4096 = 2 then runBatch x (qDepth q.val) s2 else s2

/-- Port x may push queue q (R354). -/
def mayPush (x : Fin 2) (q : Nat) : Bool := decide (q < 8) || q == 8 + x.val

/-- An F1h push from its byte 3 on, of whose bytes the port has taken `took` before (R354): the checks of byte 4 are made once,
when it comes (R369). -/
def queuePush (x : Fin 2) (more pecen : Bool) (took : Nat) (l : List Byte) (s : State) : State :=
  let short := hpShort x 0xF1 more pecen l s
  match l with
  | [] => short
  | n :: l1 =>
    if n.toNat ≠ 9 then hpFormat x s
    else match l1 with
      | [] => short
      | qb :: l2 =>
        let q : Fin 16 := Fin.ofNat 16 qb.toNat
        let first := decide (took < 2)
        if !mayPush x qb.toNat then hpFormat x s
        else match (if first then s.pushDenied x q.val else none) with
          | some k => hpDenied x k (pushAddr q.val) (hpNack x s)
          | none =>
            if first && !s.room q 1 then pushFull x q (hpNack x s)
            else if l2.length < 8 || (more && pecen && l2.length == 8) then short
            else
              let e : QEntry := ⟨BitVec.ofNat 32 (leNat (l2.take 4)), BitVec.ofNat 16 (leNat ((l2.drop 4).take 2)),
                BitVec.ofNat 16 (leNat ((l2.drop 6).take 2))⟩
              hpCommit x pecen (l2.drop 8) (s.writePec 0xF1 (n :: qb :: l2.take 8)) (pushCommit x q e) s

/-- QUEUE_PUSH (R354): `bytes` are the bytes from byte 3 on, or the next ones of an open push. In BOOT the command byte is
NACKed (R360). -/
def execQueuePush (x : Fin 2) (bytes : List Byte) (e : WriteEnd) (s : State) : Answer :=
  hpWrite x 0xF1 bytes e (fun pecen took l s => if s.dev = .boot then hpNack x s
    else queuePush x e.more pecen took (l ++ pecBytes e.pec (s.writePec 0xF1 l)) s) s

/-! ### F2h (R356) -/

/-- The other port holds the head of queue q. -/
def State.heldByOther (s : State) (x : Fin 2) (q : Fin 16) : Bool := (vget s.host (x + 1)).hold == some q

/-- A pop answers with a STATUS other than 1h. -/
def popRefused (x : Fin 2) (cmd : List Byte) (status n : Nat) (s : State) : State :=
  let l := [1, byte status]
  hpResult x status (hpReads x n (s.withPec x 0xF2 cmd l) s)

/-- A pop answers with an entry. -/
def popAnswer (x : Fin 2) (cmd : List Byte) (e : QEntry) (n : Nat) (s : State) : State :=
  let l := 9 :: 1 :: e.bytes
  hpResult x 1 (hpReads x n (s.withPec x 0xF2 cmd l) s)

/-- The pop of queue q, of which the host reads n bytes (R356): `stop` says that a STOP follows, so that the head is removed
where the host took every byte the port sends, its PEC included (R358); without a STOP the transaction stays open and, once
its STATUS byte is sent, holds the head. -/
def popQueue (x : Fin 2) (cmd : List Byte) (q : Fin 16) (again stop : Bool) (n : Nat) (s : State) : State :=
  let i : Fin 4 := Fin.ofNat 4 (q.val - 11)
  let open_ : State → State := fun s => if stop then s else s.pb (F.HP_STATUS_BUSY x.val) true
  match s.gateRead (hostMaster x) (A.Q_STAT q.val) with
  | some k => open_ (popRefused x cmd 3 n (ghRefuse (hostMaster x) k (A.Q_STAT q.val) s))
  | none =>
    if again then match vget (vget s.host x).copies i with
      | some e => open_ (popAnswer x cmd e n s)
      | none => open_ (popRefused x cmd 5 n s)
    else if s.heldByOther x q then open_ (popRefused x cmd 6 n s)
    else match s.q q with
      | [] => open_ (popRefused x cmd 5 n s)
      | e :: rest =>
        let s1 := popAnswer x cmd e n s
        if stop && decide (10 + bit (s.gb (F.HP_CTL_PECEN x.val)) ≤ n) then (s1.setQ q rest).modHp x fun h => { h with copies := vset h.copies i (some e) }
        else if stop then s1
        else if n < 2 then open_ s1
        else open_ (s1.modHp x fun h => { h with hold := some q })

/-- QUEUE_POP (R356): `bytes` are the bytes from byte 3 on; the host then reads `e.read` bytes, and one more where `pec` is not
absent, and NACKs the last. Where it reads none, its STOP comes before the final byte (R358). -/
def execQueuePop (x : Fin 2) (bytes : List Byte) (e : PopEnd) (pec : Pec) (s : State) : Answer :=
  hpTrans x (fun s =>
    if s.dev = .boot then hpNack x s
    else match bytes with
      | [] => hpAborted x s
      | n :: l =>
        if n.toNat ≠ 1 then hpFormat x s
        else match l with
          | [] => hpAborted x s
          | qb :: more =>
            let q := qb.toNat % 128
            if q < 11 || 14 < q then hpFormat x s
            else if !more.isEmpty then hpResult x 8 (hpOverrun x s)
            else if e.read + readsPec pec = 0 then hpAborted x s
            else popQueue x [n, qb] (Fin.ofNat 16 q) (decide (128 ≤ qb.toNat)) e.stop (e.read + readsPec pec) s) s

/-! ### Command codes (R349) -/

/-- The codes of the PMBus subset (R361). -/
def pmbusCode (c : Nat) : Bool :=
  [0x00, 0x01, 0x02, 0x03, 0x19, 0x20, 0x21, 0x24, 0x27, 0x28, 0x78, 0x79, 0x7A, 0x7B, 0x7C, 0x7D, 0x7E, 0x88, 0x89, 0x8B,
   0x8C, 0x8D, 0x8E, 0x96, 0x97, 0x98, 0x99, 0x9A, 0x9B].contains c

/-- UNKCMD (R349): a code that no transaction has, or one of the subset with PMBEN 0; any other code is no such event. -/
def execUnkcmd (x : Fin 2) (code : Byte) (s : State) : Answer :=
  let c := code.toNat
  let known := if c < 0xF0 then pmbusCode c && (s.gb (F.HP_CTL_PMBEN x.val) || s.dev == .boot) else decide (c ≤ 0xF2)
  hpTrans x (if known then id else hpUnknown x) s

/-- READ_WITHOUT_COMMAND (R349): every byte is FFh. -/
def execReadWithoutCommand (x : Fin 2) (n : Nat) (s : State) : Answer :=
  hpTrans x (fun s => hpResult x 8 (hpSend x n [] s)) s

/-! ### Bus errors (R347, R348, R358) -/

/-- The transaction of port x is abandoned; a pop keeps its entry, and nothing of a write is committed. -/
def hpAbandon (x : Fin 2) (s : State) : State := hpAborted x (hpClear x s)

/-- STRETCH_TIMEOUT (R347). -/
def execStretchTimeout (x : Fin 2) (s : State) : Answer :=
  done (if s.hostOn x then
      hpCml x 2 (((hpAbandon x s).inc (F.HP_CNT_TIMEOUTS x.val)).pb (F.HP_STATUS_STRETCHTO x.val) true)
    else s)

/-- SMBUS_TIMEOUT (R348), with SMBTO = 1; one that meets HPB's own transaction ends it with TIMEOUT (R366). -/
def execSmbusTimeout (x : Fin 2) (s : State) : Answer :=
  done (if s.hostOn x && s.gb (F.HP_CTL_SMBTO x.val) then
      let s1 := hpCml x 2 ((s.inc (F.HP_CNT_TIMEOUTS x.val)).pb (F.HP_STATUS_SMBTOUT x.val) true)
      if x.val = 1 && s.mastering then masterEnd 5 s1 else hpAbandon x s1
    else s)

/-- BUS_ERROR (R358): `betweenBytes` is a STOP between bytes before the final one, which sets no BUSERR; otherwise a START
or STOP falls inside a byte, or a repeated START where an acknowledge was due. -/
def execBusError (x : Fin 2) (betweenBytes : Bool) (s : State) : Answer :=
  done (if s.hostOn x then
      let s1 := hpAbandon x s
      if betweenBytes then s1 else hpCml x 2 (s1.pb (F.HP_STATUS_BUSERR x.val) true)
    else s)

/-! ### HALERT# (R367, R368) -/

/-- ALERT_RESPONSE (R368): a port ACKs a read of 0Ch only while HALERT# is low, with ARAEN 1, and else NACKs it; `won` says
that the port's address byte won the arbitration. In BOOT HALERT# is high impedance (R367). -/
def execAlertResponse (x : Fin 2) (won : Bool) (s : State) : Answer :=
  hpTrans x (fun s =>
    if !s.gb F.HP_ALERT_DRIVE || !s.gb (F.HP_CTL_ARAEN x.val) || s.dev == .boot then hpNack x s
    else if won then
      let a := byte (2 * s.hostAddr)
      let l := if s.gb (F.HP_CTL_PECEN x.val) then [a, smbusPec [0x19, a]] else [a]
      let s1 := (s.pb F.HP_ALERT_DRIVE false).pb F.HP_ALERT_ACKED true
      hpResult x 1 (hpSend x l.length l s1)
    else s) s

/-! ### HPB as a master (R364-R366) -/

/-- The bytes HPB sends as a master, in order (R364): MADDR with write and NWR bytes of HPM_TX, then MADDR with read where
NRD is above 0; a PEC follows the last written byte where MPEC is 1 and nothing is read. -/
def State.masterBytes (s : State) : List Byte :=
  let addr := fun (rw : Nat) => byte (2 * s.g F.HPM_CTL_MADDR + rw)
  let tx := (List.range (s.g F.HPM_CTL_NWR)).map fun i => byte (s.g ⟨A.HPM_TX (i / 4), 8 * (i % 4), 8⟩)
  let wr := addr 0 :: tx
  if s.g F.HPM_CTL_NRD = 0 then
    if s.gb F.HPM_CTL_MPEC && !tx.isEmpty then wr ++ [smbusPec wr] else wr
  else (if tx.isEmpty then [] else wr) ++ [addr 1]

/-- ARBITRATION_LOST (R365, R366): the transaction waits for its next attempt, or ends with ARBLOST after MRETRY
retries. -/
def execArbitrationLost (s : State) : Answer :=
  done (if s.mastering then
      if s.g F.HPM_STATUS_ATTEMPTS ≤ s.g F.HPM_CTL_MRETRY then { s with masterWait := true } else masterEnd 4 s
    else s)

/-- MASTER_RETRY (R366). -/
def execMasterRetry (s : State) : Answer :=
  done (if s.core && s.sup.vioh && s.gb F.HPM_STATUS_MBUSY && s.masterWait then
      { s.inc F.HPM_STATUS_ATTEMPTS with masterWait := false } else s)

/-- Byte i of HPM_RX is received (R364). -/
def rxByte (s : State) (ib : Nat × Byte) : State := s.p ⟨A.HPM_RX (ib.1 / 4), 8 * (ib.1 % 4), 8⟩ ib.2.toNat

/-- The PEC HPB expects after the bytes it has read (R357, R364). -/
def State.masterPec (s : State) (got : List Byte) : Byte := smbusPec (s.masterBytes ++ got)

/-- The result of a transaction that ran its length: bad PEC where MPEC is 1, bytes were read, and the byte after them is not
the PEC expected; else done (R364). A byte no target drives reads FFh. -/
def State.masterResult (s : State) (rx : List Byte) : Nat :=
  let nrd := s.g F.HPM_CTL_NRD
  if s.gb F.HPM_CTL_MPEC && nrd != 0 && rx.getD nrd 0xFF != s.masterPec (rx.take nrd) then 6 else 1

/-- MASTER_TRANSACTION_END (R364): `rx` are the bytes read, with the PEC after them where one is expected. A transaction that
ran its length (`res` 1h or 6h) leaves the bytes in HPM_RX, and its PEC decides between the two; otherwise MRES is `res`, and
a NACK of a written byte leaves its index. -/
def execMasterTransactionEnd (res nackIdx : BitVec 4) (rx : List Byte) (s : State) : Answer :=
  done (if s.mastering then
      if res = 1 || res = 6 then
        let got := rx.take (s.g F.HPM_CTL_NRD)
        masterEnd (s.masterResult rx) (forEach rxByte ((List.range got.length).zip got) s)
      else masterEnd res.toNat (if res = 3 then s.p F.HPM_STATUS_NACKIDX nackIdx.toNat else s)
    else s)

end Sys2Proof.Machine
end

