-- ==== Sys2Proof/Machine/Pmbus.lean ====
section
/-!
DEFINITION. The PMBus subset (R361-R363): the formats, the transactions, the commands and the status latches.
-/

namespace Sys2Proof.Machine

/-! ### Formats (R362) -/

/-- The code in 0.1 mV a written ULINEAR16 word gives. -/
def ulinearCode (n : Nat) : Nat := (n * 10000 + 4096) / 8192

/-- The ULINEAR16 word a code in 0.1 mV reads as. -/
def ulinearWord (code : Int) : Nat := ofSigned 16 ((code * 8192 + 5000) / 10000)

/-- floor(v / 2 ^ E) of v = num / den. -/
def linScale (num : Int) (den : Nat) (e : Int) : Int :=
  if e < 0 then num * (2 ^ (-e).toNat : Nat) / (den : Int) else num / ((den * 2 ^ e.toNat : Nat) : Int)

/-- The LINEAR11 word of exponent E and mantissa M. -/
def linPack (e m : Int) : Nat := ofSigned 5 e * 2048 + ofSigned 11 m

/-- The LINEAR11 word of num / den with the smallest exponent of a list whose mantissa fits; else the nearest end of the
range with exponent 15. -/
def linFind (num : Int) (den : Nat) : List Int → Nat
  | [] => linPack 15 (if num < 0 then -1024 else 1023)
  | e :: l =>
    let m := linScale num den e
    if -1024 ≤ m ∧ m ≤ 1023 then linPack e m else linFind num den l

/-- The LINEAR11 word that the exact value num / den reads as. -/
def linWord (num : Int) (den : Nat) : Nat := linFind num den ((List.range 32).map fun i => Int.ofNat i - 16)

/-- floor(M × 2 ^ E × scale) of a written LINEAR11 word. -/
def linValue (w : Nat) (scale : Nat) : Int :=
  let m := toSigned 11 (w % 2048)
  let e := toSigned 5 (w / 2048)
  if e < 0 then m * scale / (2 ^ (-e).toNat : Nat) else m * scale * (2 ^ e.toNat : Nat)

/-- A value as a field of w bits takes it, where it fits. -/
def inField (w : Nat) (v : Int) : Option Nat := if 0 ≤ v ∧ v < (2 ^ w : Nat) then some v.toNat else none

/-! ### Transactions -/

/-- PAGE of port x (R361). -/
def State.pageOf (s : State) (x : Fin 2) : Nat := s.g (F.HP_STATUS_PAGE x.val)

/-- The rail PAGE names for a read. -/
def State.pageRail (s : State) (x : Fin 2) : Fin 8 := Fin.ofNat 8 (s.pageOf x)

/-- The rails a write addresses: PAGE FFh is every rail. -/
def State.pageRails (s : State) (x : Fin 2) : List (Fin 8) := if s.pageOf x = 0xFF then allFin 8 else [s.pageRail x]

/-- A PMBus command is taken at its command byte: BOOT NACKs it, and PMBEN 0 makes it unsupported (R360, HP[x].CTL). -/
def pmbus (x : Fin 2) (f : State → State) (s : State) : Answer :=
  hpTrans x (fun s =>
    if s.dev = .boot then hpNack x s else if !s.gb (F.HP_CTL_PMBEN x.val) then hpUnknown x s else f s) s

/-- The data bytes of `len` due that a host gives or reads, and its PEC. -/
def pmBytes (e : PmEnd) (len : Nat) : Nat := match e with | .early n => min n len | _ => len

/-- The PEC byte of a transaction. -/
def pmPec (e : PmEnd) : Pec := match e with | .plain p => p | _ => .absent

/-- The answer of a read of which the host reads n bytes: the bytes, and the PEC where it is enabled. -/
def pmAnswer (x : Fin 2) (code n res : Nat) (l : List Byte) (s : State) : State :=
  hpResult x res (hpReads x n (s.withPec x code [] l) s)

/-- A read of the page, or of the device: the Gatehouse checks the blocks whose registers it shows, and a read under PAGE
FFh is refused with its read address NACKed (R361, R379, R381). A data byte in place of the repeated START is NACKed (R345)
as a bad count (DEDUCED, log entry 137), and a STOP there comes before the final byte (R358). -/
def pmRead (x : Fin 2) (code : Nat) (device : Bool) (shows : List Nat) (e : PmEnd) (val : State → List Byte) (s : State) :
    State :=
  let n := pmBytes e (val s).length + readsPec (pmPec e)
  if e = .call then hpFormat x s
  else if n = 0 then hpAborted x s
  else if !device && s.pageOf x == 0xFF then hpResult x 8 (hpCml x 0x40 (hpNack x s))
  else match shows.findSome? fun a => (s.gateRead (hostMaster x) a).map fun k => (k, a) with
    | some (k, a) => pmAnswer x code n 3 (List.replicate (val s).length 0) (ghRefuse (hostMaster x) k a s)
    | none => pmAnswer x code n 1 (val s) s

/-- A PMBus write (R360, R361): the Gatehouse's check of the registers it acts on falls at the first data byte; the bytes
due are `data`, and it commits as any write. A repeated START to read after them is NACKed at its address byte (R345), and
where the PEC was due it leaves the PEC missing (DEDUCED, log entry 137). -/
def pmWrite (x : Fin 2) (code : Nat) (denied : Option (Nat × Nat)) (data : List Byte) (e : PmEnd) (act : State → State)
    (s : State) : State :=
  let n := pmBytes e data.length
  if n = 0 && !data.isEmpty then hpAborted x s
  else match denied with
    | some (k, a) => hpCml x 0x40 (hpDenied x k a (hpNack x s))
    | none =>
      if n < data.length then hpAborted x s
      else
        let s1 := hpCommit x (s.gb (F.HP_CTL_PECEN x.val)) (pecBytes (pmPec e) (s.writePec code data)) (s.writePec code data)
          (fun s => act (hpResult x 1 s)) s
        if e = .call then hpNack x s1 else s1

/-- The first register of a write the Gatehouse refuses. -/
def State.pmDenied (s : State) (x : Fin 2) (l : List Nat) : Option (Nat × Nat) := s.burstDenied x l

/-- LOCKDOWN refuses a write that has no register of its own (R360). -/
def State.pmLockdown (s : State) (x : Fin 2) : Option (Nat × Nat) :=
  if s.dev = .lockdown then some (5, A.HP_STATUS x.val) else none

/-- Data is refused: nothing changes and STATUS_CML bit 6 is latched (R361). -/
def pmRefused (x : Fin 2) (s : State) : State := hpCml x 0x40 s

/-- SAFE refuses a write that has no register of its own (R18). -/
def pmSafe (x : Fin 2) (s : State) : State := pmRefused x (cfgRefuse (hostMaster x) .state (A.HP_STATUS x.val) s)

/-- One register of a PMBus write is written with a word, or with a value that does not fit its field (R361). -/
def pmRegister (x : Fin 2) (a : Nat) (w : Option Word) (s : State) : State :=
  match w with
  | none => pmRefused x (cfgRefuse (hostMaster x) (if s.dev = .safe then .state else .range) a s)
  | some w =>
    let r := regWrite (hostMaster x) a w s
    match r.2 with
    | .ok => r.1
    | .gate _ => pmRefused x (hpResult x 3 r.1)
    | _ => pmRefused x r.1

/-- One field of a register, the others at their present values. -/
def pmField (x : Fin 2) (f : Fld) (v : Int) (s : State) : State :=
  pmRegister x f.addr ((inField f.w v).map fun n => setBits (s.present f.addr) f.lo f.w n) s

/-- A register write that pushes an entry for rail k; a full queue refuses it (R199). -/
def pmPush (x : Fin 2) (k : Fin 8) (a : Nat) (w : Option Word) (s : State) : State :=
  let full := !s.room (Fin.ofNat 16 k.val) 1
  let s1 := pmRegister x a w s
  if full && w.isSome && s.dev != .safe && judge (hostMaster x) a (w.getD 0) s == .ok then pmRefused x (hpResult x 7 s1)
  else s1

/-- One byte of data. -/
def oneByte (n : Nat) : List Byte := [byte n]

/-- One word of data. -/
def oneWord (n : Nat) : List Byte := leBytes 2 n

/-! ### Page, switching and set-points (R361) -/

/-- PAGE. -/
def execPage (x : Fin 2) (w : Option Byte) (e : PmEnd) (s : State) : Answer :=
  pmbus x (fun s => match w with
    | none => pmRead x 0x00 false [] e (fun s => oneByte (s.pageOf x)) s
    | some b => pmWrite x 0x00 (s.pmLockdown x) [b] e (fun s =>
        if s.dev = .safe then pmSafe x s
        else if b.toNat < 8 || b.toNat = 0xFF then s.p (F.HP_STATUS_PAGE x.val) b.toNat
        else pmRefused x s) s) s

/-- OPERATION of one rail is written; a rail with ENMODE 11b refuses it. -/
def operate (x : Fin 2) (v : Nat) (s : State) (k : Fin 8) : State :=
  if s.dev != .safe && s.g (F.RAIL_SEQCTL_ENMODE k.val) == 3 then pmRefused x s
  else pmPush x k (A.RAIL_ON k.val) (some (if v = 0x80 then 1 else 0)) s

/-- OPERATION. -/
def execOperation (x : Fin 2) (w : Option Byte) (e : PmEnd) (s : State) : Answer :=
  pmbus x (fun s => match w with
    | none => pmRead x 0x01 false [A.RAIL_TSTAT 0] e
        (fun s => oneByte (if s.gb (F.RAIL_TSTAT_REQON (s.pageRail x).val) then 0x80 else 0)) s
    | some b =>
      let v := b.toNat
      pmWrite x 0x01 (s.pmDenied x ((s.pageRails x).map fun k => A.RAIL_ON k.val)) [b] e (fun s =>
        if v = 0 || v = 0x40 || v = 0x80 then forEach (operate x v) (s.pageRails x) s
        else if s.dev = .safe then pmSafe x s
        else pmRefused x s) s) s

/-- What ON_OFF_CONFIG reads for an ENMODE. -/
def onOffCode (enmode : Nat) : Nat :=
  match enmode with
  | 0 => 0x1A
  | 1 => 0x16
  | 2 => 0x1E
  | _ => 0x10

/-- ON_OFF_CONFIG. -/
def execOnOffConfig (x : Fin 2) (e : PmEnd) (s : State) : Answer :=
  pmbus x (pmRead x 0x02 false [A.RAIL_SEQCTL 0] e
    fun s => oneByte (onOffCode (s.g (F.RAIL_SEQCTL_ENMODE (s.pageRail x).val)))) s

/-- CLEAR_FAULTS (R363): the latches of the addressed rails, and the port's STATUS_CML. -/
def execClearFaults (x : Fin 2) (e : PmEnd) (s : State) : Answer :=
  pmbus x (fun s => pmWrite x 0x03 (s.pmLockdown x) [] e (fun s =>
    if s.dev = .safe then pmSafe x s
    else (forEach (fun s k => { s with latches := vset s.latches k ⟨0, 0, 0, 0⟩ }) (s.pageRails x) s).modHp x
      fun h => { h with cml := 0 }) s) s

/-- CAPABILITY. -/
def execCapability (x : Fin 2) (e : PmEnd) (s : State) : Answer :=
  pmbus x (pmRead x 0x19 false [] e fun _ => oneByte 0xD0) s

/-- VOUT_MODE. -/
def execVoutMode (x : Fin 2) (e : PmEnd) (s : State) : Answer :=
  pmbus x (pmRead x 0x20 false [] e fun _ => oneByte 0x13) s

/-- VOUT_COMMAND. -/
def execVoutCommand (x : Fin 2) (w : Option (BitVec 16)) (e : PmEnd) (s : State) : Answer :=
  pmbus x (fun s => match w with
    | none => pmRead x 0x21 false [A.RAIL_REFNOW 0] e
        (fun s => oneWord (ulinearWord (s.g (F.RAIL_REFNOW_VCMD (s.pageRail x).val)))) s
    | some v => pmWrite x 0x21 (s.pmDenied x ((s.pageRails x).map fun k => A.RAIL_VSET k.val)) (oneWord v.toNat) e
        (fun s => forEach (fun s k => pmPush x k (A.RAIL_VSET k.val)
          ((inField 16 (ulinearCode v.toNat)).map (BitVec.ofNat 32)) s) (s.pageRails x) s) s) s

/-- VOUT_MAX. -/
def execVoutMax (x : Fin 2) (w : Option (BitVec 16)) (e : PmEnd) (s : State) : Answer :=
  pmbus x (fun s => match w with
    | none => pmRead x 0x24 false [A.RAIL_VLIM 0] e
        (fun s => oneWord (ulinearWord (s.g (F.RAIL_VLIM_VMAX (s.pageRail x).val)))) s
    | some v => pmWrite x 0x24 (s.pmDenied x ((s.pageRails x).map fun k => A.RAIL_VLIM k.val)) (oneWord v.toNat) e
        (fun s => forEach (fun s k => pmField x (F.RAIL_VLIM_VMAX k.val) (ulinearCode v.toNat) s) (s.pageRails x) s) s) s

/-- VOUT_TRANSITION_RATE. -/
def execVoutTransitionRate (x : Fin 2) (w : Option (BitVec 16)) (e : PmEnd) (s : State) : Answer :=
  pmbus x (fun s => match w with
    | none => pmRead x 0x27 false [A.RAIL_SLEW 0] e
        (fun s => oneWord (linWord (s.g (F.RAIL_SLEW_VSLEW (s.pageRail x).val)) 100)) s
    | some v => pmWrite x 0x27 (s.pmDenied x ((s.pageRails x).map fun k => A.RAIL_SLEW k.val)) (oneWord v.toNat) e
        (fun s => forEach (fun s k => pmField x (F.RAIL_SLEW_VSLEW k.val) (linValue v.toNat 100) s) (s.pageRails x) s) s) s

/-- VOUT_DROOP. -/
def execVoutDroop (x : Fin 2) (w : Option (BitVec 16)) (e : PmEnd) (s : State) : Answer :=
  pmbus x (fun s => match w with
    | none => pmRead x 0x28 false [A.OL_LL 0] e
        (fun s => oneWord (linWord (s.g (F.OL_LL_LLR (s.pageRail x).val)) 1000)) s
    | some v => pmWrite x 0x28 (s.pmDenied x ((s.pageRails x).map fun k => A.OL_LL k.val)) (oneWord v.toNat) e
        (fun s => forEach (fun s k => pmField x (F.OL_LL_LLR k.val) (linValue v.toNat 1000) s) (s.pageRails x) s) s) s

/-! ### Status (R363) -/

/-- STATUS_WORD of rail k, formed when it is read. -/
def State.statusWord (s : State) (x : Fin 2) (k : Fin 8) : Nat :=
  let l := vget s.latches k
  let high := bitIf (l.vout != 0) 15 + bitIf (l.iout != 0) 14 + bitIf (l.input != 0) 13 + bitIf (s.st k == .latched) 12
  let low := bitIf (s.st k != .on) 6 + bitIf (bitAt l.vout.toNat 7) 5 + bitIf (bitAt l.iout.toNat 7) 4
    + bitIf (bitAt l.input.toNat 4) 3 + bitIf (l.temp != 0) 2 + bitIf ((vget s.host x).cml != 0) 1
  high + bitIf (!s.gb (F.RAIL_TSTAT_PG k.val)) 11 + low + bitIf (high != 0 && low == 0) 0

/-- STATUS_BYTE. -/
def execStatusByte (x : Fin 2) (e : PmEnd) (s : State) : Answer :=
  pmbus x (pmRead x 0x78 false [A.RAIL_TSTAT 0] e fun s => oneByte (s.statusWord x (s.pageRail x) % 256)) s

/-- STATUS_WORD. -/
def execStatusWord (x : Fin 2) (e : PmEnd) (s : State) : Answer :=
  pmbus x (pmRead x 0x79 false [A.RAIL_TSTAT 0] e fun s => oneWord (s.statusWord x (s.pageRail x))) s

/-- STATUS_VOUT. -/
def execStatusVout (x : Fin 2) (e : PmEnd) (s : State) : Answer :=
  pmbus x (pmRead x 0x7A false [] e fun s => [(vget s.latches (s.pageRail x)).vout]) s

/-- STATUS_IOUT. -/
def execStatusIout (x : Fin 2) (e : PmEnd) (s : State) : Answer :=
  pmbus x (pmRead x 0x7B false [] e fun s => [(vget s.latches (s.pageRail x)).iout]) s

/-- STATUS_INPUT. -/
def execStatusInput (x : Fin 2) (e : PmEnd) (s : State) : Answer :=
  pmbus x (pmRead x 0x7C false [] e fun s => [(vget s.latches (s.pageRail x)).input]) s

/-- STATUS_TEMPERATURE. -/
def execStatusTemperature (x : Fin 2) (e : PmEnd) (s : State) : Answer :=
  pmbus x (pmRead x 0x7D false [] e fun s => [(vget s.latches (s.pageRail x)).temp]) s

/-- STATUS_CML. -/
def execStatusCml (x : Fin 2) (e : PmEnd) (s : State) : Answer :=
  pmbus x (pmRead x 0x7E false [] e fun s => [(vget s.host x).cml]) s

/-! ### Readings (R361) -/

/-- A temperature in 1/16 °C as LINEAR11; an invalid reading is 8000h. -/
def tempWord (v : Int) : Nat := if v = -32768 then 0x8000 else linWord v 16

/-- READ_VIN: HVIN in 2 mV. -/
def execReadVin (x : Fin 2) (e : PmEnd) (s : State) : Answer :=
  pmbus x (pmRead x 0x88 true [A.PT_VIN] e fun s => oneWord (linWord (s.g F.PT_VIN_HVIN) 500)) s

/-- READ_IIN: IIN in 1/32 A. -/
def execReadIin (x : Fin 2) (e : PmEnd) (s : State) : Answer :=
  pmbus x (pmRead x 0x89 true [A.PT_IIN] e fun s => oneWord (linWord (s.gi F.PT_IIN_IIN) 32)) s

/-- READ_VOUT. -/
def execReadVout (x : Fin 2) (e : PmEnd) (s : State) : Answer :=
  pmbus x (pmRead x 0x8B false [A.MC_CH_DATA 0] e
    fun s => oneWord (ulinearWord (s.mcV (54 + (s.pageRail x).val)))) s

/-- READ_IOUT. -/
def execReadIout (x : Fin 2) (e : PmEnd) (s : State) : Answer :=
  pmbus x (pmRead x 0x8C false [A.OL_ITOT 0] e
    fun s => oneWord (linWord (s.gi (F.OL_ITOT_ITOT (s.pageRail x).val)) 64)) s

/-- READ_TEMPERATURE_1: the hottest stage group of the rail, as GETT 10h + s. -/
def execReadTemperature1 (x : Fin 2) (e : PmEnd) (s : State) : Answer :=
  pmbus x (pmRead x 0x8D false [A.MC_CH_DATA 0] e fun s => oneWord (tempWord (s.hottest (s.pageRail x)))) s

/-- READ_TEMPERATURE_2: the controller junction. -/
def execReadTemperature2 (x : Fin 2) (e : PmEnd) (s : State) : Answer :=
  pmbus x (pmRead x 0x8E true [A.MC_CH_DATA 0] e fun s => oneWord (tempWord (s.mcV 70))) s

/-- READ_POUT: VOUTM × ITOT / 640,000. -/
def execReadPout (x : Fin 2) (e : PmEnd) (s : State) : Answer :=
  pmbus x (pmRead x 0x96 false [A.MC_CH_DATA 0, A.OL_ITOT 0] e fun s =>
    let k := (s.pageRail x).val
    oneWord (linWord (s.mcV (54 + k) * s.gi (F.OL_ITOT_ITOT k)) 640000)) s

/-- READ_PIN: HVIN × IIN / 16,000. -/
def execReadPin (x : Fin 2) (e : PmEnd) (s : State) : Answer :=
  pmbus x (pmRead x 0x97 true [A.PT_VIN] e
    fun s => oneWord (linWord (s.g F.PT_VIN_HVIN * s.gi F.PT_IIN_IIN) 16000)) s

/-! ### Identification (R361) -/

/-- A block read: its count and its characters. -/
def blockOf (l : List Nat) : List Byte := byte l.length :: l.map byte

/-- PMBUS_REVISION. -/
def execPmbusRevision (x : Fin 2) (e : PmEnd) (s : State) : Answer :=
  pmbus x (pmRead x 0x98 true [] e fun _ => oneByte 0x33) s

/-- MFR_ID: "YUNAWIN". -/
def execMfrId (x : Fin 2) (e : PmEnd) (s : State) : Answer :=
  pmbus x (pmRead x 0x99 true [] e fun _ => blockOf [0x59, 0x55, 0x4E, 0x41, 0x57, 0x49, 0x4E]) s

/-- MFR_MODEL: "GF-9648". -/
def execMfrModel (x : Fin 2) (e : PmEnd) (s : State) : Answer :=
  pmbus x (pmRead x 0x9A true [] e fun _ => blockOf [0x47, 0x46, 0x2D, 0x39, 0x36, 0x34, 0x38]) s

/-- MFR_REVISION: "B0". -/
def execMfrRevision (x : Fin 2) (e : PmEnd) (s : State) : Answer :=
  pmbus x (pmRead x 0x9B true [] e fun _ => blockOf [0x42, 0x30]) s

end Sys2Proof.Machine
end

