-- ==== Sys2Proof/Machine/Dispatch.lean ====
section
/-!
DEFINITION. The meaning of each command: one arm per constructor of Instr, each a direct call of its definition.
-/

namespace Sys2Proof.Machine

def exec (i : Instr) (s : State) : Host.Outcome State Fault Refusal :=
  match i with
  | .supplyGood smod => Sys2Proof.Machine.execSupplyGood smod s
  | .supplyLoss which => Sys2Proof.Machine.execSupplyLoss which s
  | .resetAssert => Sys2Proof.Machine.execResetAssert s
  | .resetRelease a0 a1 => Sys2Proof.Machine.execResetRelease a0 a1 s
  | .vaonPowerOn a0 a1 => Sys2Proof.Machine.execVaonPowerOn a0 a1 s
  | .vaonLoss => Sys2Proof.Machine.execVaonLoss s
  | .viohLoss => Sys2Proof.Machine.execViohLoss s
  | .viohGood en a0 a1 => Sys2Proof.Machine.execViohGood en a0 a1 s
  | .violLoss => Sys2Proof.Machine.execViolLoss s
  | .violGood => Sys2Proof.Machine.execViolGood s
  | .hvinLoss => Sys2Proof.Machine.execHvinLoss s
  | .boot b => Sys2Proof.Machine.execBoot b s
  | .sleep m => Sys2Proof.Machine.execSleep m s
  | .safeExit m => Sys2Proof.Machine.execSafeExit m s
  | .addressMatchWake x => Sys2Proof.Machine.execAddressMatchWake x s
  | .referenceLoss => Sys2Proof.Machine.execReferenceLoss s
  | .pllLoss => Sys2Proof.Machine.execPllLoss s
  | .pllRelock => Sys2Proof.Machine.execPllRelock s
  | .pllRelockTimeout => Sys2Proof.Machine.execPllRelockTimeout s
  | .boundaryWindow k w => Sys2Proof.Machine.execBoundaryWindow k w s
  | .railov k => Sys2Proof.Machine.execRailov k s
  | .railuv k => Sys2Proof.Machine.execRailuv k s
  | .followerr k => Sys2Proof.Machine.execFollowerr k s
  | .pgAssert k => Sys2Proof.Machine.execPgAssert k s
  | .pgDeassert k => Sys2Proof.Machine.execPgDeassert k s
  | .laneSlot k o => Sys2Proof.Machine.execLaneSlot k o s
  | .laneSelfTest lane ok => Sys2Proof.Machine.execLaneSelfTest lane ok s
  | .laneMoveCopyDone lane => Sys2Proof.Machine.execLaneMoveCopyDone lane s
  | .graphStoreScrub corrected lost => Sys2Proof.Machine.execGraphStoreScrub corrected lost s
  | .coastExpiry k => Sys2Proof.Machine.execCoastExpiry k s
  | .vinffUpdate code => Sys2Proof.Machine.execVinffUpdate code s
  | .rippleStep k t => Sys2Proof.Machine.execRippleStep k t s
  | .launchDemand x => Sys2Proof.Machine.execLaunchDemand x s
  | .blankingEnd k d => Sys2Proof.Machine.execBlankingEnd k d s
  | .overlapRelease k d => Sys2Proof.Machine.execOverlapRelease k d s
  | .launch k t => Sys2Proof.Machine.execLaunch k t s
  | .launchDelayEnd x => Sys2Proof.Machine.execLaunchDelayEnd x s
  | .periodBoundary x => Sys2Proof.Machine.execPeriodBoundary x s
  | .idleBoundary x => Sys2Proof.Machine.execIdleBoundary x s
  | .onTimeEnd x => Sys2Proof.Machine.execOnTimeEnd x s
  | .deadTimeEnd n => Sys2Proof.Machine.execDeadTimeEnd n s
  | .zeroCurrentCrossing n => Sys2Proof.Machine.execZeroCurrentCrossing n s
  | .cycleCut n x => Sys2Proof.Machine.execCycleCut n x s
  | .tripLatch n x => Sys2Proof.Machine.execTripLatch n x s
  | .tripPin t level => Sys2Proof.Machine.execTripPin t level s
  | .phaseLatchClear m n => Sys2Proof.Machine.execPhaseLatchClear m n s
  | .shlockTimeout n => Sys2Proof.Machine.execShlockTimeout n s
  | .synciEdge t rising => Sys2Proof.Machine.execSynciEdge t rising s
  | .syncReferenceTick => Sys2Proof.Machine.execSyncReferenceTick s
  | .syncHoldover => Sys2Proof.Machine.execSyncHoldover s
  | .stageWakeDone g => Sys2Proof.Machine.execStageWakeDone g s
  | .sequenceBoundary k t => Sys2Proof.Machine.execSequenceBoundary k t s
  | .forcedSequenceBoundary x => Sys2Proof.Machine.execForcedSequenceBoundary x s
  | .forecastWindowOpen k => Sys2Proof.Machine.execForecastWindowOpen k s
  | .forecastWindowClose k => Sys2Proof.Machine.execForecastWindowClose k s
  | .startDelayExpiry k => Sys2Proof.Machine.execStartDelayExpiry k s
  | .wakeExpiry k => Sys2Proof.Machine.execWakeExpiry k s
  | .stopDelayExpiry k => Sys2Proof.Machine.execStopDelayExpiry k s
  | .startProgressCheck k => Sys2Proof.Machine.execStartProgressCheck k s
  | .enPinChange k level => Sys2Proof.Machine.execEnPinChange k level s
  | .railVsetWrite m k v => Sys2Proof.Machine.execRailVsetWrite m k v s
  | .railOnWrite m k v => Sys2Proof.Machine.execRailOnWrite m k v s
  | .seqgrpGenWrite m g v => Sys2Proof.Machine.execSeqgrpGenWrite m g v s
  | .hiccupRetry k => Sys2Proof.Machine.execHiccupRetry k s
  | .hiccupCountClear k => Sys2Proof.Machine.execHiccupCountClear k s
  | .safeStopTimeout k => Sys2Proof.Machine.execSafeStopTimeout k s
  | .phaseHoldoffEnd n => Sys2Proof.Machine.execPhaseHoldoffEnd n s
  | .comparatorCrossing c out lateLow => Sys2Proof.Machine.execComparatorCrossing c out lateLow s
  | .ochic k => Sys2Proof.Machine.execOchic k s
  | .phoc n => Sys2Proof.Machine.execPhoc n s
  | .cmpArm m c => Sys2Proof.Machine.execCmpArm m c s
  | .cmpArmed c vin dac => Sys2Proof.Machine.execCmpArmed c vin dac s
  | .cmpDisarm m c => Sys2Proof.Machine.execCmpDisarm m c s
  | .cmpLatchClear m c => Sys2Proof.Machine.execCmpLatchClear m c s
  | .comparatorCheck c vin dac sweepOk => Sys2Proof.Machine.execComparatorCheck c vin dac sweepOk s
  | .comparatorSubstitution f => Sys2Proof.Machine.execComparatorSubstitution f s
  | .icCrosscheck ic n main work stuck => Sys2Proof.Machine.execIcCrosscheck ic n main work stuck s
  | .converterSubstitution g => Sys2Proof.Machine.execConverterSubstitution g s
  | .strikeDecay t idx => Sys2Proof.Machine.execStrikeDecay t idx s
  | .ots sensor => Sys2Proof.Machine.execOts sensor s
  | .openPhase n => Sys2Proof.Machine.execOpenPhase n s
  | .blindDeclared n test => Sys2Proof.Machine.execBlindDeclared n test s
  | .ringRewrite k => Sys2Proof.Machine.execRingRewrite k s
  | .wearUpdate => Sys2Proof.Machine.execWearUpdate s
  | .healthSave => Sys2Proof.Machine.execHealthSave s
  | .retire m n epoch => Sys2Proof.Machine.execRetire m n epoch s
  | .test m n epoch => Sys2Proof.Machine.execTest m n epoch s
  | .endtest m n epoch => Sys2Proof.Machine.execEndtest m n epoch s
  | .phaseTestEnd x => Sys2Proof.Machine.execPhaseTestEnd x s
  | .horizonTimeout k => Sys2Proof.Machine.execHorizonTimeout k s
  | .ephemerisPeriodTimeout k => Sys2Proof.Machine.execEphemerisPeriodTimeout k s
  | .ephemerisPeriodEdge k t => Sys2Proof.Machine.execEphemerisPeriodEdge k t s
  | .ephemerisClear m k => Sys2Proof.Machine.execEphemerisClear m k s
  | .ping p f => Sys2Proof.Machine.execPing p f s
  | .negotiate p f => Sys2Proof.Machine.execNegotiate p f s
  | .clralert p f => Sys2Proof.Machine.execClralert p f s
  | .gett p f => Sys2Proof.Machine.execGett p f s
  | .getstat p f => Sys2Proof.Machine.execGetstat p f s
  | .getv p f => Sys2Proof.Machine.execGetv p f s
  | .geti p f => Sys2Proof.Machine.execGeti p f s
  | .setv p f => Sys2Proof.Machine.execSetv p f s
  | .setvSlew p f => Sys2Proof.Machine.execSetvSlew p f s
  | .marginCommand p f => Sys2Proof.Machine.execMarginCommand p f s
  | .marginReport p f => Sys2Proof.Machine.execMarginReport p f s
  | .forecast p f => Sys2Proof.Machine.execForecast p f s
  | .period p f => Sys2Proof.Machine.execPeriod p f s
  | .powerstate p f => Sys2Proof.Machine.execPowerstate p f s
  | .unknownOp p op f => Sys2Proof.Machine.execUnknownOp p op f s
  | .crcError p op f => Sys2Proof.Machine.execCrcError p op f s
  | .linkFrameError p => Sys2Proof.Machine.execLinkFrameError p s
  | .linkClockTimeout p cycle => Sys2Proof.Machine.execLinkClockTimeout p cycle s
  | .porterModelStep => Sys2Proof.Machine.execPorterModelStep s
  | .feedPresent b => Sys2Proof.Machine.execFeedPresent b s
  | .feedAbsent b => Sys2Proof.Machine.execFeedAbsent b s
  | .feedReverseOff b => Sys2Proof.Machine.execFeedReverseOff b s
  | .feedGateOn b => Sys2Proof.Machine.execFeedGateOn b s
  | .insertionDebounceEnd => Sys2Proof.Machine.execInsertionDebounceEnd s
  | .inrushto => Sys2Proof.Machine.execInrushto s
  | .fetshort => Sys2Proof.Machine.execFetshort s
  | .retryWaitEnd => Sys2Proof.Machine.execRetryWaitEnd s
  | .retryCountClear => Sys2Proof.Machine.execRetryCountClear s
  | .hostoff m v => Sys2Proof.Machine.execHostoff m v s
  | .clrlatch m => Sys2Proof.Machine.execClrlatch m s
  | .npGateFault timeout => Sys2Proof.Machine.execNpGateFault timeout s
  | .pfwRelease => Sys2Proof.Machine.execPfwRelease s
  | .converterFrame codes => Sys2Proof.Machine.execConverterFrame codes s
  | .secsIncrement => Sys2Proof.Machine.execSecsIncrement s
  | .telemetryPeriod => Sys2Proof.Machine.execTelemetryPeriod s
  | .efficiencyWindow => Sys2Proof.Machine.execEfficiencyWindow s
  | .nvRecordWrite verified => Sys2Proof.Machine.execNvRecordWrite verified s
  | .scrubPassStart => Sys2Proof.Machine.execScrubPassStart s
  | .scrubSector corrected lost => Sys2Proof.Machine.execScrubSector corrected lost s
  | .ledgerRead m x => Sys2Proof.Machine.execLedgerRead m x s
  | .ledgerReadDone => Sys2Proof.Machine.execLedgerReadDone s
  | .pinrel m => Sys2Proof.Machine.execPinrel m s
  | .hnvDataAccess m w found => Sys2Proof.Machine.execHnvDataAccess m w found s
  | .plateArm m p => Sys2Proof.Machine.execPlateArm m p s
  | .plateStop m p => Sys2Proof.Machine.execPlateStop m p s
  | .trignow m p => Sys2Proof.Machine.execTrignow m p s
  | .plateTick x => Sys2Proof.Machine.execPlateTick x s
  | .plateExport m p => Sys2Proof.Machine.execPlateExport m p s
  | .plateExportResume => Sys2Proof.Machine.execPlateExportResume s
  | .extendedWrite x bytes e => Sys2Proof.Machine.execExtendedWrite x bytes e s
  | .extendedRead x bytes readLen pec found => Sys2Proof.Machine.execExtendedRead x bytes readLen pec found s
  | .queuePush x bytes e => Sys2Proof.Machine.execQueuePush x bytes e s
  | .queuePop x bytes e pec => Sys2Proof.Machine.execQueuePop x bytes e pec s
  | .qflush m x => Sys2Proof.Machine.execQflush m x s
  | .unkcmd x code => Sys2Proof.Machine.execUnkcmd x code s
  | .page x w e => Sys2Proof.Machine.execPage x w e s
  | .operation x w e => Sys2Proof.Machine.execOperation x w e s
  | .onOffConfig x e => Sys2Proof.Machine.execOnOffConfig x e s
  | .clearFaults x e => Sys2Proof.Machine.execClearFaults x e s
  | .capability x e => Sys2Proof.Machine.execCapability x e s
  | .voutMode x e => Sys2Proof.Machine.execVoutMode x e s
  | .voutCommand x w e => Sys2Proof.Machine.execVoutCommand x w e s
  | .voutMax x w e => Sys2Proof.Machine.execVoutMax x w e s
  | .voutTransitionRate x w e => Sys2Proof.Machine.execVoutTransitionRate x w e s
  | .voutDroop x w e => Sys2Proof.Machine.execVoutDroop x w e s
  | .statusByte x e => Sys2Proof.Machine.execStatusByte x e s
  | .statusWord x e => Sys2Proof.Machine.execStatusWord x e s
  | .statusVout x e => Sys2Proof.Machine.execStatusVout x e s
  | .statusIout x e => Sys2Proof.Machine.execStatusIout x e s
  | .statusInput x e => Sys2Proof.Machine.execStatusInput x e s
  | .statusTemperature x e => Sys2Proof.Machine.execStatusTemperature x e s
  | .statusCml x e => Sys2Proof.Machine.execStatusCml x e s
  | .readVin x e => Sys2Proof.Machine.execReadVin x e s
  | .readIin x e => Sys2Proof.Machine.execReadIin x e s
  | .readVout x e => Sys2Proof.Machine.execReadVout x e s
  | .readIout x e => Sys2Proof.Machine.execReadIout x e s
  | .readTemperature1 x e => Sys2Proof.Machine.execReadTemperature1 x e s
  | .readTemperature2 x e => Sys2Proof.Machine.execReadTemperature2 x e s
  | .readPout x e => Sys2Proof.Machine.execReadPout x e s
  | .readPin x e => Sys2Proof.Machine.execReadPin x e s
  | .pmbusRevision x e => Sys2Proof.Machine.execPmbusRevision x e s
  | .mfrId x e => Sys2Proof.Machine.execMfrId x e s
  | .mfrModel x e => Sys2Proof.Machine.execMfrModel x e s
  | .mfrRevision x e => Sys2Proof.Machine.execMfrRevision x e s
  | .stretchTimeout x => Sys2Proof.Machine.execStretchTimeout x s
  | .smbusTimeout x => Sys2Proof.Machine.execSmbusTimeout x s
  | .busError x betweenBytes => Sys2Proof.Machine.execBusError x betweenBytes s
  | .alertResponse x won => Sys2Proof.Machine.execAlertResponse x won s
  | .masterGo m w => Sys2Proof.Machine.execMasterGo m w s
  | .arbitrationLost => Sys2Proof.Machine.execArbitrationLost s
  | .masterRetry => Sys2Proof.Machine.execMasterRetry s
  | .openCmd m slot => Sys2Proof.Machine.execOpenCmd m slot s
  | .imgWdataWrite m w => Sys2Proof.Machine.execImgWdataWrite m w s
  | .verify m x => Sys2Proof.Machine.execVerify m x s
  | .verifyDone => Sys2Proof.Machine.execVerifyDone s
  | .commit m slot => Sys2Proof.Machine.execCommit m slot s
  | .accept m => Sys2Proof.Machine.execAccept m s
  | .abort m slot => Sys2Proof.Machine.execAbort m slot s
  | .groupQuery m group index => Sys2Proof.Machine.execGroupQuery m group index s
  | .groupCommit m group index => Sys2Proof.Machine.execGroupCommit m group index s
  | .groupAbort m group index t => Sys2Proof.Machine.execGroupAbort m group index t s
  | .request m scope sess => Sys2Proof.Machine.execRequest m scope sess s
  | .submit m => Sys2Proof.Machine.execSubmit m s
  | .endCmd m => Sys2Proof.Machine.execEndCmd m s
  | .nonceLapse => Sys2Proof.Machine.execNonceLapse s
  | .sessionExpiry => Sys2Proof.Machine.execSessionExpiry s
  | .lockoutEnd => Sys2Proof.Machine.execLockoutEnd s
  | .ghLockWrite m v => Sys2Proof.Machine.execGhLockWrite m v s
  | .keyWrite m x => Sys2Proof.Machine.execKeyWrite m x s
  | .bypass => Sys2Proof.Machine.execBypass s
  | .idcode => Sys2Proof.Machine.execIdcode s
  | .samplePreload => Sys2Proof.Machine.execSamplePreload s
  | .extest => Sys2Proof.Machine.execExtest s
  | .capture src falling fine => Sys2Proof.Machine.execCapture src falling fine s
  | .tbCountLoRead m => Sys2Proof.Machine.execTbCountLoRead m s
  | .tbSecmarkLoRead m => Sys2Proof.Machine.execTbSecmarkLoRead m s
  | .energyLoRead m k => Sys2Proof.Machine.execEnergyLoRead m k s
  | .capTshiRead m u => Sys2Proof.Machine.execCapTshiRead m u s
  | .registerWrite m a v bad => Sys2Proof.Machine.execRegisterWrite m a v bad s
  | .hvinGood => Sys2Proof.Machine.execHvinGood s
  | .nightPorterInrushOn => Sys2Proof.Machine.execNightPorterInrushOn s
  | .masterTransactionEnd res nackIdx rx => Sys2Proof.Machine.execMasterTransactionEnd res nackIdx rx s
  | .forecastDue k => Sys2Proof.Machine.execForecastDue k s
  | .readWithoutCommand x n => Sys2Proof.Machine.execReadWithoutCommand x n s
  | .dbgRead a found => Sys2Proof.Machine.execDbgRead a found s

end Sys2Proof.Machine
end

