-- ==== Sys2Proof/Machine/Step.lean ====
section
/-!
DEFINITION. One step: the command at the front of the queue is executed with the rest of the queue; on an empty queue one
tick of the time base passes.
-/

namespace Sys2Proof.Machine

/-- One step of the block. On an empty queue it idles: TBCOUNT counts while the core runs (R112), a DESIGN CHOICE. -/
def step (s : State) : Host.Outcome State Fault Refusal :=
  match s.pending with
  | [] => .next { s with tb := if s.dev = .off then s.tb else s.tb + 1 }
  | c :: rest => exec c { s with pending := rest }

/-- The state with the command a word spells put at the front of the queue. -/
def State.withFetchWord (s : State) (nbits w : Nat) : State :=
  match decodeTableWord nbits w with
  | some c => { s with pending := c :: s.pending }
  | none => s

end Sys2Proof.Machine
end

