-- ==== Sys2Proof/Machine/Pins.lean ====
section
/-!
DEFINITION. What stands at the balls (R38, R40-R45, R47, R53-R55, R93): how each output is driven in a state of the block, a
view of that state.
-/

namespace Sys2Proof.Machine

/-- Levels of a pin; mid is half the supply (R41). -/
inductive Level
  | low | mid | high
  deriving DecidableEq, Repr

/-- How a pin stands: its domain has no power, it is high impedance, it is held weakly, or it is driven (R38, R43). -/
inductive Drive
  | unpowered
  | floating
  | weak (l : Level)
  | driven (l : Level)
  deriving DecidableEq, Repr

/-- A level of a push-pull output. -/
def Drive.bool (b : Bool) : Drive := .driven (if b then .high else .low)

/-- An open-drain output, low or released (R38). -/
def Drive.openDrain (low : Bool) : Drive := if low then .driven .low else .floating

/-! ### VDD33 domain -/

/-- The off level of PWM output m: low in a paired group, mid otherwise (R41, R42). -/
def State.offLevel (s : State) (m : Fin 48) : Level := if s.paired (groupOf m.val) then .low else .mid

/-- The level the pulse engine drives on PWM output m: that of phase m in a three-level group; in a paired group the even
output is the high side and the odd one the low side of the even phase (R42, R93). -/
def State.pwmLevel (s : State) (m : Fin 48) : Level :=
  if s.paired (groupOf m.val) then
    let code := s.outState (Fin.ofNat 48 (m.val - m.val % 2))
    if m.val % 2 = 0 then (if code = 2 then .high else .low) else (if code = 1 then .high else .low)
  else match s.outState m with | 1 => .low | 2 => .high | _ => .mid

/-- PWMm: unpowered without VDD33; held at its group's off level where the core does not drive it; the off level in BOOT; and
what the pulse engine drives otherwise (R17, R38, R43, R52). -/
def State.pinPwm (s : State) (m : Fin 48) : Drive :=
  if !s.sup.vdd33 then .unpowered
  else if !s.core then .weak (s.offLevel m)
  else if s.dev = .boot then .driven (s.offLevel m)
  else .driven (s.pwmLevel m)

/-- PWMm during a strap sample: high impedance in the first one after VDD33 becomes good, the off level of the type latched
before in a later one (R43, R45). -/
def State.pinPwmSampling (s : State) (first : Bool) (m : Fin 48) : Drive :=
  if first then .floating else .weak (s.offLevel m)

/-- SMODg: released in OFF, low in BOOT, then as SMODOUT says (R38, R40, R47). -/
def State.pinSmod (s : State) (g : Fin 6) : Drive :=
  if !s.sup.vdd33 || !s.core then .floating
  else if s.dev = .boot then .driven .low
  else .bool (s.gb (F.STAGEGRP_CFG_SMODOUT g.val))

/-- SMODg during a strap sample is released (R45). -/
def pinSmodSampling : Drive := .floating

/-- ISENREFg is driven outside OFF (R38). -/
def State.isenrefDriven (s : State) : Bool := s.sup.vdd33 && s.core

/-- The pull-up of TSEN6 (0) or TSEN7 (1) is switched on: NTCEN, outside OFF and BOOT (R38, R324). -/
def State.tsenPullUp (s : State) (i : Fin 2) : Bool :=
  s.sup.vdd33 && s.core && s.dev != .boot && s.gb (F.MC_NTC_NTCEN i.val)

/-! ### VIOH domain -/

/-- A host I/O output may be driven (R15, R40, R54). -/
def State.viohOut (s : State) : Bool := s.core && s.sup.vioh

/-- FAULT#: low in BOOT and while the fault pin is asserted (R38, R295). -/
def State.pinFault (s : State) : Drive := .openDrain (s.viohOut && s.faultPin)

/-- PFW# (R38, R317). -/
def State.pinPfw (s : State) : Drive := .openDrain (s.viohOut && s.dev != .boot && s.pfw)

/-- HALERT# (R367, R368). -/
def State.pinHalert (s : State) : Drive := .openDrain (s.viohOut && s.dev != .boot && s.gb F.HP_ALERT_DRIVE)

/-- PGOODk: low in BOOT and while PG is 0 (R38, R213). -/
def State.pinPgood (s : State) (k : Fin 8) : Drive :=
  .openDrain (s.viohOut && (s.dev == .boot || !s.gb (F.RAIL_TSTAT_PG k.val)))

/-- CMPOm: OUT of the comparator SELm names, or of the one that serves its function once it is retired; low while ENm is 0 and
in BOOT (R38, R273). -/
def State.pinCmpo (s : State) (i : Fin 4) : Drive :=
  let w := s.word A.CMPO_CTL
  if s.viohOut then
    .bool (s.dev != .boot && getBits w (8 * i.val + 7) 1 == 1 && s.gb (F.CMP_STATUS_OUT (s.routed (getBits w (8 * i.val) 7))))
  else .floating

/-- SYNCO's pulse stands at the present instant (R110). -/
def State.syncoHigh (s : State) : Bool :=
  s.sync.synco.any fun x => decide (elapsed x.1 s.clock < elapsed x.1 x.2)

/-- SYNCO (R38, R54, R110). -/
def State.pinSynco (s : State) : Drive := if s.viohOut then .bool (s.dev != .boot && s.syncoHigh) else .floating

/-- TDO may be driven, and is while the TAP shifts; it is high impedance in OFF and BOOT (R38). -/
def State.tdoMayDrive (s : State) : Bool := s.viohOut && s.dev != .boot

/-! ### VIOL domain -/

/-- FLALERTp#: PEN is 1 and an enabled endpoint holds a cause its AMASK enables (R38, R236). -/
def State.pinFlalert (s : State) (p : Fin 2) : Drive :=
  .openDrain (s.core && s.dev != .boot && s.sup.viol && s.gb (F.LNK_CTL_PEN p.val) && (List.range 4).any fun e =>
    s.epOn p.val e && s.word (A.LNK_EP_CAUSE p.val e) &&& s.word (A.LNK_EP_AMASK p.val e) != 0)

/-- The bits of a response in the order they are sent (R219). -/
def Response.bits (r : Response) : List Bool :=
  bitsMsb 4 r.ack ++ bitsMsb 4 r.tag.toNat ++ bitsMsb 16 r.data.toNat ++ bitsMsb 8 r.crc.toNat

/-- FLDATp in cycle c of the port's last transaction: the response in cycles 48-79, high impedance otherwise and wherever the
port does not answer (R38, R55, R219). -/
def State.pinFldat (s : State) (p : Fin 2) (c : Fin 82) : Drive :=
  if s.linkOn p && 48 ≤ c.val && c.val < 80 then
    match (vget s.port p).resp with
    | some r => .bool (r.bits.getD (c.val - 48) false)
    | none => .floating
  else .floating

end Sys2Proof.Machine
end

