-- ==== Sys2Proof/Safety.lean ====
section
/-!
DEFINITION. The terms claims are stated in: that a command completes, that registers alone change, and that a state is
settled.
-/

namespace Sys2Proof.Machine

/-- The command completes: its next state is `finish u`, the settling of R17, R47, R81 and R378 after the command's own
effect, for a state u of which P holds. -/
def Completes (c : Instr) (s : State) (P : State → Prop) : Prop := ∃ u, exec c s = .next (finish u) ∧ P u

/-- The command completes and its own effect leaves exactly the state u. -/
def Leaves (c : Instr) (s : State) (u : State) : Prop := exec c s = .next (finish u)

/-- The state in which a granted write of master m takes effect: SUP's has passed through Q10 (R371), and DBG's access status
shows the grant (R381). -/
def accepted (m : Master) (a : Nat) (w : Word) (s : State) : State := viaQ10 m a w (dbgStatus m .ok s)

/-- u differs from s in the register words at the addresses of l alone. -/
def OnlyWords (u s : State) (l : List Nat) : Prop :=
  u = { s with regs := u.regs } ∧ ∀ a, a ∉ l → u.word a = s.word a

/-- The next launch of rail k goes to phase n: outside onset mode, with OVL below its limit, the ring phase at POS is
eligible (R117, R122, R123). -/
def NextLaunch (s : State) (k : Fin 8) (n : Fin 48) : Prop :=
  s.onset k = false ∧ s.ovl k < s.ovlLimit k ∧ (s.ring k)[(s.ra k).md.pos]? = some n ∧ s.eligible false n = true

/-- Between s and u a launch was issued to phase n of rail k: it is in delivery with the phase's epoch and on-time, POS moves
on, and blanking runs (R116, R121, R122, R125). -/
def LaunchIssued (s u : State) (k : Fin 8) (n : Fin 48) : Prop :=
  (u.ra k).md.inFlight = (s.ra k).md.inFlight ++ [⟨n, (s.rl n).epoch, s.onTimeOf k n⟩]
    ∧ (u.ra k).md.blanking = true ∧ (u.ra k).md.waiting = false
    ∧ (u.ra k).md.pos = (if (s.ra k).md.pos + 1 < (s.ring k).length then (s.ra k).md.pos + 1 else 0)
    ∧ u.phase = s.phase

/-- A frame of opcode op reaches port p, passes its first three checks, and its endpoint is enabled (R222). -/
def Heard (s : State) (p : Fin 2) (op : Nat) (f : Frame) : Prop :=
  s.linkOn p = true ∧ opKnown op (s.g (F.LNK_STATUS_VER p.val)) = true ∧ s.duplicate p op f = none
    ∧ s.epOn p.val f.ep.val = true

/-- A frame of a slot opcode is heard, outside SAFE, and its slot names rail k (R216, R222). -/
def HeardFor (s : State) (p : Fin 2) (base : Nat) (f : Frame) (k : Fin 8) : Prop :=
  Heard s p (base + f.slot.val) f ∧ s.slotRail p.val f.ep.val f.slot.val = some k ∧ s.dev ≠ .safe

/-- Between s and u port p counts a frame and answers it (R219, R240). -/
def Answered (s u : State) (p : Fin 2) (ack : Nat) (f : Frame) (data : BitVec 16) : Prop :=
  (vget u.port p).resp = some (makeResponse ack f.tag data)
    ∧ u.g (F.LNK_NFRAME_FRAMES p.val) = incHold 32 (s.g (F.LNK_NFRAME_FRAMES p.val))

/-- The entry a frame puts into a rail's queue (R196, R234). -/
def linkEntry (p : Fin 2) (f : Frame) (kind : Nat) (data : Word) : QEntry :=
  ⟨data, BitVec.ofNat 16 (masterCode (linkMaster p) * 2 ^ 13 + f.ep.val * 2 ^ 11 + f.tag.toNat), BitVec.ofNat 16 (kind * 4096)⟩

/-- Port x serves transactions without PEC outside BOOT, with no write open (R346, R357, R360, R369). -/
def Serves (s : State) (x : Fin 2) : Prop :=
  s.hostOn x = true ∧ s.dev ≠ .boot ∧ s.gb (F.HP_CTL_PECEN x.val) = false ∧ (vget s.host x).part = none

/-- Port x has a write of this command code open, without PEC, and has taken the bytes l of it (R369). -/
def Opened (s : State) (x : Fin 2) (code : Nat) (l : List Byte) : Prop :=
  s.hostOn x = true ∧ s.dev ≠ .boot ∧ (vget s.host x).part = some ⟨byte code, l, false⟩

/-- Port x serves PMBus transactions (R361). -/
def ServesPmbus (s : State) (x : Fin 2) : Prop := Serves s x ∧ s.gb (F.HP_CTL_PMBEN x.val) = true

/-- The state in which an accepted PMBus write of port x commits (R353, R357). -/
def taken (x : Fin 2) (s : State) : State := hpResult x 1 (hpStart x s)

/-- Between s and u port x answered a read with the bytes l and result c, and changed its own status alone (R352, R353). -/
def Sent (s u : State) (x : Fin 2) (c : Nat) (l : List Byte) : Prop :=
  (vget u.host x).sent = l ∧ u.g (F.HP_STATUS_LASTRES x.val) = c
    ∧ OnlyWords { u with host := s.host } s [A.HP_STATUS x.val]

/-- The address bytes of a register, least significant first (R351). -/
def addrBytes (a : BitVec 24) : List Byte := leBytes 3 a.toNat

/-- The bytes of an F1h push after its count (R354). -/
def pushBytes (q : Fin 16) (e : QEntry) : List Byte := byte q.val :: e.bytes

/-- The device state follows the rails (R17: STANDBY has no rail enabled, RUN has one or more), and the interrupt record is
what EV_PEND & EV_MASK shows (R378). -/
def Settled (s : State) : Prop :=
  (s.dev = .standby → s.anyEnabled = false) ∧ (s.dev = .run → s.anyEnabled = true) ∧ s.evSeen = s.evActive

end Sys2Proof.Machine
end

