-- ==== Sys2Proof/Certificates/Slice0/Obligations.lean ====
section
/-!
DEFINITION. The statements for the provers. Each says what commands of the block do to the state, for every state and
every operand that meets its hypotheses. A command that completes answers `finish u`: the settling after a command, whose
own statements come first, applied to the state u its effect leaves.
-/

open Sys2Proof Sys2Proof.Machine

/-! ### The queue of commands, reset, and the settling after a command -/

/-- For every state whose queue begins with a command c, step is exec of c at the state with the rest of the queue. That the
block takes its commands first in, first out is the model's frame (log entry 1), not a rule of the spec. -/
def Obligations.StepRunsFrontCommand : Prop :=
  ∀ (s : State) (c : Instr) (rest : List Instr), s.pending = c :: rest → step s = exec c { s with pending := rest }

/-- For every state with an empty queue: outside OFF a step advances TBCOUNT by one, wrapping after 2^48, and changes nothing
else; in OFF it changes nothing. That an idle step is a base tick is the model's choice (log entry 2). -/
def Obligations.IdleStepTicks : Prop :=
  ∀ s : State, s.pending = [] →
    (s.dev ≠ .off → step s = .next { s with tb := s.tb + 1 }) ∧ (s.dev = .off → step s = .next s)

/-- After reset the device is in BOOT, TBCOUNT is 0, every register holds the reset word of its address but NP_SECS, which the
cold start has taken to 1 (R325), every rail is in OFF, every phase is at its off level, every queue is empty and no command waits. The supplies and straps that reset
assumes, and the contents of the non-volatile store, are the model's choice (log entry 3) and are not stated.
What no register holds starts empty or at rest (log entry 5). -/
def Obligations.ResetState : Prop :=
  State.reset.dev = .boot ∧ State.reset.tb = 0 ∧ (∀ a, a ≠ A.NP_SECS → State.reset.word a = resetWord a)
    ∧ State.reset.g F.NP_SECS_SECS = 1
    ∧ (∀ k, State.reset.st k = .off) ∧ (∀ n, (State.reset.ph n).out = .off) ∧ (∀ q, State.reset.q q = [])
    ∧ State.reset.pending = []

/-- The reset words the register map gives, through the address decoding of the model: the default
classes of FM_CLASS, the strike thresholds of FM_STRIKE, the first breaker point, the queue watermark, the Gatehouse access table, a comparator's control. -/
def Obligations.ResetWords : Prop :=
  State.reset.word (A.FM_CLASS 0) = 0x40222310 ∧ State.reset.word (A.FM_CLASS 1) = 0x44440343
    ∧ State.reset.word (A.FM_CLASS 2) = 0x00005500 ∧ State.reset.word (A.FM_CLASS 3) = 0
    ∧ State.reset.word (A.FM_STRIKE 0) = 0x03010E10 ∧ State.reset.word (A.FM_STRIKE 3) = 0x040003E8
    ∧ State.reset.word (A.PT_BRK 0) = 0x050186A0 ∧ State.reset.word (A.PT_BRK 7) = 0x1E000000
    ∧ State.reset.word (A.Q_STAT 11) = 0x4000 ∧ State.reset.word (A.Q_STAT 13) = 0x2000
    ∧ State.reset.word (A.GH_ACC 0x11) = 0x2F33 ∧ State.reset.word (A.GH_ACC 0x04) = 0x2333
    ∧ State.reset.word (A.CMP_CTL 48) = 0xB0 ∧ State.reset.word (A.CMP_CTL 127) = 0x7F

/-- After reset the device state agrees with the rails and the interrupt record with EV_PEND & EV_MASK. -/
def Obligations.ResetIsSettled : Prop := Settled State.reset

/-- For every state that is settled and every step, whichever command it runs: if the step answers a next state, that state is
settled. STANDBY has no rail enabled, RUN has one or more, and the enabled interrupt bits last seen are EV_PEND &
EV_MASK, so that the next change of a bit is seen as a change. A step that runs a command settles even a state that was
not. -/
def Obligations.StepsKeepSettled : Prop :=
  ∀ s t : State, (s.pending = [] → Settled s) → step s = .next t → Settled t

/-- Whatever the command and the state, exec answers a next state, and that state is a settled one: no command faults and none
is refused by the model. Errors are effects on the state, as the statements below say.
That a block has no faulting access is the model's frame (log entry 73). -/
def Obligations.EveryCommandAnswers : Prop := ∀ (c : Instr) (s : State), ∃ u, exec c s = .next (finish u)

/-- The settling after a command writes no register but STAGEGRP[g].CFG (SMODg follows the phases) and HP_ALERT (HALERT#
follows the interrupt), unless a commit armed for a stopped block waits (a breaker curve for a stopped Porter, or the
timing of a phase that does not run); the device state can move only between STANDBY and
RUN; supplies and pins but the stage groups' wake flags, phases, rails, queues, the link, the host ports, the store and the
image slots are as the command left them. -/
def Obligations.SettlingFrame : Prop :=
  ∀ u : State,
    ((u.porterRuns = true ∨ u.isArmed 4 0xFF = false) →
      (∀ x ∈ u.img.armed, x.group = 1 → u.phRuns (Fin.ofNat 48 x.index) = true) →
      ∀ a, (∀ g : Fin 6, a ≠ A.STAGEGRP_CFG g.val) → a ≠ A.HP_ALERT → (finish u).word a = u.word a)
    ∧ (u.dev ≠ .standby → u.dev ≠ .run → (finish u).dev = u.dev)
    ∧ (u.dev = .standby ∨ u.dev = .run → (finish u).dev = .standby ∨ (finish u).dev = .run)
    ∧ (finish u).sup = { u.sup with groupAwake := (finish u).sup.groupAwake }
    ∧ (finish u).phase = u.phase ∧ (finish u).role = u.role ∧ (finish u).rail = u.rail ∧ (finish u).queue = u.queue
    ∧ (finish u).port = u.port ∧ (finish u).host = u.host ∧ (finish u).nv = u.nv ∧ (finish u).plate = u.plate
    ∧ (finish u).img.slots = u.img.slots ∧ (finish u).tb = u.tb ∧ (finish u).pending = u.pending

/-- For every master, cause and address: a refusal increments CFGERR_COUNT.COUNT (holding at its maximum); with VALID 0 it fills
CFGERR with VALID, the master, the cause and the address, with VALID 1 it leaves CFGERR; nothing else of the state changes. A
refused SAFE_EXIT while a device-level fault cause is active carries cause ACTIVEFAULT. A refusal by the Gatehouse, for every
KIND, leaves CFGERR and its count. An accepted write of 1 to VALID clears CFGERR. -/
def Obligations.RefusalsAreCounted : Prop :=
  (∀ (m : Master) (c : CfgCause) (a : Nat) (s : State), a < 2 ^ 24 →
    let u := cfgRefuse m c a s
    u.g F.CFGERR_COUNT_COUNT = min (s.g F.CFGERR_COUNT_COUNT + 1) (2 ^ F.CFGERR_COUNT_COUNT.w - 1)
      ∧ (s.gb F.CFGERR_VALID = true → u.word A.CFGERR = s.word A.CFGERR)
      ∧ (s.gb F.CFGERR_VALID = false → u.gb F.CFGERR_VALID = true ∧ u.g F.CFGERR_MASTER = masterCode m
          ∧ u.g F.CFGERR_CAUSE = c.code ∧ u.g F.CFGERR_ADDR = a)
      ∧ OnlyWords u s [A.CFGERR, A.CFGERR_COUNT])
  ∧ (∀ (m : Master) (s : State), s.dev = .safe → s.faultActive = true →
      safeExit m s = cfgRefuse m .activeFault A.DEVICE_CTL s)
  ∧ (∀ (m : Master) (kind a : Nat) (s : State), (ghRefuse m kind a s).word A.CFGERR = s.word A.CFGERR
      ∧ (ghRefuse m kind a s).word A.CFGERR_COUNT = s.word A.CFGERR_COUNT)
  ∧ (∀ (m : Master) (w : Word) (s : State), judge m A.CFGERR w s = .ok → getBits w 31 1 = 1 →
      (regWrite m A.CFGERR w s).1.word A.CFGERR = 0)

/-! ### Supplies, RESET#, OFF and BOOT -/

/-- From every state outside OFF, SUPPLY_LOSS, RESET_ASSERT and VAON_LOSS complete, and the device is in OFF with every
phase at its off level, every rail OFF, every queue empty and no session open, and the image slots as they were; the supply or pin that caused it reads lost, and RSTPIN is set by RESET# alone. In OFF, a
further loss only takes its supply, and a reset sets RSTPIN and clears a latched sleep. In OFF every stage-mode, host and link
output is released, and a PWM output is held weakly at its group's off level while VDD33 is good and unpowered without it.
That RSTPIN is 0 after every other cause is the model's reading (log entry 39). -/
def Obligations.LossesEnterOff : Prop :=
  (∀ (s : State) (w : CoreSupply), s.dev ≠ .off → Completes (.supplyLoss w) s fun u =>
      u.dev = .off ∧ (∀ n, (u.ph n).out = .off) ∧ (∀ k, u.st k = .off) ∧ (∀ q, u.q q = []) ∧ u.gate.session = none
      ∧ u.img.slots = s.img.slots ∧ u.gb F.SUPPLY_STATUS_RSTPIN = false
      ∧ (w = .vcore → u.sup.vcore = false ∧ u.sup.vdd33 = s.sup.vdd33)
      ∧ (w = .vdd33 → u.sup.vdd33 = false ∧ u.sup.vcore = s.sup.vcore))
  ∧ (∀ s : State, s.dev ≠ .off → Completes .resetAssert s fun u =>
      u.dev = .off ∧ (∀ n, (u.ph n).out = .off) ∧ (∀ k, u.st k = .off) ∧ (∀ q, u.q q = []) ∧ u.gate.session = none
      ∧ u.img.slots = s.img.slots ∧ u.gb F.SUPPLY_STATUS_RSTPIN = true ∧ u.sup.resetHigh = false
      ∧ u.sup.vcore = s.sup.vcore)
  ∧ (∀ s : State, s.dev ≠ .off → Completes .vaonLoss s fun u =>
      u.dev = .off ∧ (∀ n, (u.ph n).out = .off) ∧ (∀ k, u.st k = .off) ∧ (∀ q, u.q q = []) ∧ u.gate.session = none
      ∧ u.img.slots = s.img.slots ∧ u.sup.vaon = false ∧ u.gb F.SUPPLY_STATUS_AONCOLD = true
      ∧ u.g F.NP_RSTATE_RCNT = 0)
  ∧ (∀ s : State, s.dev = .off → Leaves (.supplyLoss .vcore) s { s with sup := { s.sup with vcore := false } })
  ∧ (∀ s : State, s.dev = .off → Completes .resetAssert s fun u => u.gb F.SUPPLY_STATUS_RSTPIN = true
      ∧ OnlyWords { u with sup := s.sup } s [A.SUPPLY_STATUS]
      ∧ u.sup = { s.sup with resetHigh := false, sleep := false, wake := none })
  ∧ (∀ s : State, s.dev = .off → (∀ g, s.pinSmod g = .floating) ∧ (∀ k, s.pinPgood k = .floating)
      ∧ (∀ i, s.pinCmpo i = .floating) ∧ (∀ p, s.pinFlalert p = .floating) ∧ s.pinFault = .floating
      ∧ s.pinPfw = .floating ∧ s.pinHalert = .floating ∧ s.pinSynco = .floating
      ∧ ∀ m, s.pinPwm m = (if s.sup.vdd33 then .weak (s.offLevel m) else .unpowered))

/-- From OFF, the last of the conditions to come true enters BOOT with the time base at 0: good core supplies (which sample
SMODg), a release of RESET# or a rise of VAON (which sample the address straps), or, while a sleep is latched, a wake event, of
which WAKESRC names the port. With a condition missing, the device stays in OFF; a matcher whose port is not enabled, or whose
supplies are not good, ACKs nothing.
That WAKESRC is 0 without a latched sleep is the model's reading (log entry 39). -/
def Obligations.OffIsLeftForBoot : Prop :=
  (∀ (s : State) (l : Vector SmodStrap 6), s.dev = .off → s.sup.vaon = true → s.sup.resetHigh = true → s.sup.sleep = false →
      s.sup.vdd33 = false → Completes (.supplyGood l) s fun u => u.dev = .boot ∧ u.tb = 0 ∧ u.sup.vcore = true
        ∧ u.sup.vdd33 = true ∧ u.sup.smod = l)
  ∧ (∀ (s : State) (l : Vector SmodStrap 6), s.dev = .off → s.sup.resetHigh = false →
      Completes (.supplyGood l) s fun u => u.dev = .off ∧ u.sup.vcore = true ∧ u.sup.vdd33 = true)
  ∧ (∀ (s : State) (a b : Option (Fin 4)), s.dev = .off → s.sup.vaon = true → s.sup.vcore = true → s.sup.vdd33 = true →
      s.sup.vioh = true → s.sup.sleep = false →
      Completes (.resetRelease a b) s fun u => u.dev = .boot ∧ u.tb = 0 ∧ u.sup.resetHigh = true ∧ u.sup.addr0 = a
        ∧ u.sup.addr1 = b)
  ∧ (∀ (s : State) (a b : Option (Fin 4)), s.dev = .off → s.sup.vioh = false →
      Completes (.resetRelease a b) s fun u => u.sup.addr0 = s.sup.addr0 ∧ u.sup.addr1 = s.sup.addr1
        ∧ u.sup.addrWait = true)
  ∧ (∀ (s : State) (a b : Option (Fin 4)), s.dev = .off → s.sup.resetHigh = true → s.sup.vcore = true →
      s.sup.vdd33 = true → Completes (.vaonPowerOn a b) s fun u => u.dev = .boot ∧ u.tb = 0 ∧ u.sup.vaon = true
        ∧ u.gb F.SUPPLY_STATUS_AONCOLD = true)
  ∧ (∀ (s : State) (x : Fin 2), s.dev = .off → s.sup.resetHigh = true → s.sup.vcore = true → s.sup.vdd33 = true →
      s.sup.vaon = true → s.sup.vioh = true → s.gb (F.HP_CTL_EN x.val) = true → s.sup.sleep = true → s.sup.wake = none →
      Completes (.addressMatchWake x) s fun u => u.dev = .boot ∧ u.tb = 0 ∧ u.sup.sleep = false
        ∧ u.g F.DEVICE_STATUS_WAKESRC = (if x.val = 0 then 1 else 2))
  ∧ (∀ (s : State) (x : Fin 2), s.dev ≠ .off ∨ s.sup.vcore = false ∨ s.sup.vdd33 = false ∨ s.sup.vioh = false
      ∨ s.gb (F.HP_CTL_EN x.val) = false → Leaves (.addressMatchWake x) s s)

/-- HVIN alone starts or stops the internal regulator. A loss of VIOH outside OFF raises VIOHLOSS (FID 10h), keeps
the EN pins' last sample and, the class of VIOHLOSS being 3 or below, sets VIOHLOST; its return resamples EN0-EN7. A loss of VIOL sets VIOLLOST and counts a transaction
under way at a port in service in its CNT.TIMEOUT, which no other port's count follows; its return sets each port to version 1. That
the two flags come of the loss alone is the model's choice (log entries 100 and 101). The loss of the reference sets REFLOST and nothing else. An ENk level acts only while VIOH is good. -/
def Obligations.PinSuppliesAct : Prop :=
  (∀ s : State, Leaves .hvinLoss s { s with sup := { s.sup with hvin := false } })
  ∧ (∀ s : State, Leaves .hvinGood s { s with sup := { s.sup with hvin := true } })
  ∧ (∀ s : State, s.core = true → s.sup.vioh = true → Completes .viohLoss s fun u =>
      u.g F.FM_STATUS_LASTFID = 0x10 ∧ u.sup.vioh = false ∧ u.sup.en = s.sup.en
        ∧ (s.classOf 0x10 none < 4 → u.gb F.SUPPLY_STATUS_VIOHLOST = true))
  ∧ (∀ (s : State) (en : Vector Bool 8) (a b : Option (Fin 4)), s.core = true →
      Completes (.viohGood en a b) s fun u => u.sup.vioh = true ∧ u.sup.en = en
        ∧ (s.sup.addrWait = true → u.sup.addr0 = a ∧ u.sup.addr1 = b ∧ u.sup.addrWait = false)
        ∧ (s.sup.addrWait = false → u.sup.addr0 = s.sup.addr0 ∧ u.sup.addr1 = s.sup.addr1))
  ∧ (∀ s : State, s.core = true → s.sup.viol = true → Completes .violLoss s fun u =>
      u.sup = { s.sup with viol := false } ∧ u.gb F.SUPPLY_STATUS_VIOLLOST = true ∧ u.phase = s.phase ∧ u.queue = s.queue
        ∧ ∀ p : Fin 2, u.g (F.LNK_CNT_TIMEOUT p.val) = s.g (F.LNK_CNT_TIMEOUT p.val)
            ∨ s.linkOn p = true ∧ u.g (F.LNK_CNT_TIMEOUT p.val)
              = incHold (F.LNK_CNT_TIMEOUT p.val).w (s.g (F.LNK_CNT_TIMEOUT p.val)))
  ∧ (∀ s : State, s.core = true → s.sup.viol = false → Leaves .violLoss s s)
  ∧ (∀ s : State, Completes .violGood s fun u => u.sup = { s.sup with viol := true } ∧ u.rail = s.rail
      ∧ ∀ p : Fin 2, u.g (F.LNK_STATUS_VER p.val) = 1)
  ∧ (∀ s : State, s.core = true → Completes .referenceLoss s fun u =>
      u.gb F.DEVICE_STATUS_REFLOST = true ∧ OnlyWords u s [A.DEVICE_STATUS])
  ∧ (∀ (s : State) (k : Fin 8) (l : Bool), s.core = true → s.sup.vioh = true →
      Leaves (.enPinChange k l) s { s with sup := { s.sup with
        en := vset s.sup.en k l, enHist := vset s.sup.enHist k (s.noteLevel (vget s.sup.en k) l (vget s.sup.enHist k)) } })
  ∧ (∀ (s : State) (k : Fin 8) (l : Bool), s.sup.vioh = false → Leaves (.enPinChange k l) s s)
  ∧ (∀ (s : State) (k : Fin 8), s.dev = .off → s.sup.vioh = true → s.sup.sleep = true → s.sup.wake = none →
      vget s.sup.en k = false → s.sup.vcore = true → s.sup.vdd33 = true → s.sup.vaon = true → s.sup.resetHigh = true →
      Completes (.enPinChange k true) s fun u => u.dev = .boot ∧ u.g F.DEVICE_STATUS_WAKESRC = 3)

/-- With PLL 0 not retired: with BOOTSEL high, whatever was applied before, BOOT ends in SAFE with BOOT held, the contents and
marks of both slots unaltered; with BOOTSEL low it ends in SAFE where neither slot can be applied, and in SAFE with a
calibration that fails; with an image applied and a good calibration it ends in STANDBY. The straps and BOOTSEL read as sampled.
Outside BOOT the row changes nothing. That a PLL which is not retired locks is the model's reading (log entry 78). -/
def Obligations.BootEndsInStandbyOrSafe : Prop :=
  (∀ (s : State) (b : BootIn), s.dev = .boot → s.nv.health.pllRetired.getLsbD 0 = false → b.bootsel = true →
      Completes (.boot b) s fun u => u.dev = .safe ∧ u.img.held = true ∧ u.img.applied = false ∧ u.sup.bootsel = true
        ∧ u.sup.smod = b.smod ∧ ∀ i : Fin 2, (vget u.img.slots i).bytes = (vget s.img.slots i).bytes
          ∧ (vget u.img.slots i).preferred = (vget s.img.slots i).preferred
          ∧ (vget u.img.slots i).trial = (vget s.img.slots i).trial
          ∧ (vget u.img.slots i).tried = (vget s.img.slots i).tried)
  ∧ (∀ (s : State) (b : BootIn), s.dev = .boot → s.nv.health.pllRetired.getLsbD 0 = false → b.bootsel = false →
      (bootImage b (bootStart b s)).1.img.applied = false → Completes (.boot b) s fun u =>
        u.dev = .safe ∧ u.sup.smod = b.smod ∧ u.sup.bootsel = false)
  ∧ (∀ (s : State) (b : BootIn), s.dev = .boot → s.nv.health.pllRetired.getLsbD 0 = false → b.calOk = false →
      Completes (.boot b) s fun u => u.dev = .safe ∧ u.sup.smod = b.smod)
  ∧ (∀ (s : State) (b : BootIn), s.dev = .boot → s.nv.health.pllRetired.getLsbD 0 = false → b.calOk = true →
      b.bootsel = false → (bootImage b (bootStart b s)).1.img.applied = true →
      Completes (.boot b) s fun u => u.dev = .standby ∧ u.sup.smod = b.smod ∧ vget u.pll.locked 0 = true)
  ∧ (∀ (s : State) (b : BootIn), s.dev ≠ .boot → Leaves (.boot b) s s)

/-- For every master whose write of DEVICE_CTL the checks before it let through: SLEEP in STANDBY enters OFF with sleep
latched; SAFE_EXIT in SAFE enters STANDBY, every rail waiting for its request to be seen false, or, while a device-level
fault cause is active, is refused with cause ACTIVEFAULT; either one in another state is refused with cause STATE, and a write of
both bits with cause RANGE, leaving the rest of the state as it was. -/
def Obligations.SleepAndSafeExit : Prop :=
  (∀ (s : State) (m : Master), judge m A.DEVICE_CTL 1 s = .ok → s.dev = .standby → Completes (.sleep m) s fun u =>
      u.dev = .off ∧ u.sup.sleep = true ∧ u.sup.wake = none)
  ∧ (∀ (s : State) (m : Master), judge m A.DEVICE_CTL 1 s = .ok → s.dev ≠ .standby →
      Leaves (.sleep m) s (cfgRefuse m .state A.DEVICE_CTL (accepted m A.DEVICE_CTL 1 s)))
  ∧ (∀ (s : State) (m : Master), judge m A.DEVICE_CTL 2 s = .ok → s.dev = .safe → s.faultActive = false →
      Completes (.safeExit m) s fun u => u.dev = .standby ∧ (∀ k, (u.ra k).tr.needOff = true) ∧ u.regs = (accepted m A.DEVICE_CTL 2 s).regs)
  ∧ (∀ (s : State) (m : Master), judge m A.DEVICE_CTL 2 s = .ok → s.dev = .safe → s.faultActive = true →
      Leaves (.safeExit m) s (cfgRefuse m .activeFault A.DEVICE_CTL (accepted m A.DEVICE_CTL 2 s)))
  ∧ (∀ (s : State) (m : Master), judge m A.DEVICE_CTL 2 s = .ok → s.dev ≠ .safe →
      Leaves (.safeExit m) s (cfgRefuse m .state A.DEVICE_CTL (accepted m A.DEVICE_CTL 2 s)))
  ∧ (∀ (s : State) (m : Master) (b : Bool), s.dev ≠ .off → s.dev ≠ .boot → s.gateWrite m A.DEVICE_CTL false = none →
      Leaves (.registerWrite m 0x000014 3 b) s (dbgStatus m (.refused .range) (cfgRefuse m .range A.DEVICE_CTL s)))

/-- With PLL i working and both locked, PLL i not retired, outside OFF and BOOT: PLL_LOSS takes every phase to its off level, marks
every capture unit, makes the other PLL the working one, clears SPAREOK, adds a strike to PLL i and, while its strikes stay
below the threshold, leaves it restarting (the class of PLLFAIL being 3 or below, and no forced sequence boundary waiting);
launches in delivery are lost and the frequency lock freezes for 16 sequence boundaries. Where the working PLL is the last one
locked, in STANDBY or RUN, its loss raises PLLBOTH (13h) too, and the device is in SAFE with every phase at its off level. A
relock makes a restarted PLL the spare; a restart that fails retires it. Where no PLL restarts the last two change nothing. -/
def Obligations.PllChangeover : Prop :=
  (∀ (s : State) (i : Fin 2), s.dev = .standby ∨ s.dev = .run ∨ s.dev = .safe ∨ s.dev = .lockdown →
      s.gb F.FM_PLL_ACTIVE = (i == 1) → s.pll.locked = .replicate 2 true →
      vget s.strikes.pll i + 1 < s.g (F.FM_STRIKE_STH 4) → s.chanRetired 5 i.val = false → s.classOf 0x17 none < 4 →
      (∀ k, (s.ra k).md.forcePend = false) →
      Completes .pllLoss s fun u => (∀ n, (u.ph n).out = .off) ∧ u.gb F.FM_PLL_ACTIVE = (i == 0)
        ∧ u.gb F.FM_PLL_SPAREOK = false ∧ vget u.strikes.pll i = vget s.strikes.pll i + 1
        ∧ vget u.pll.locked (otherFeed i) = true
        ∧ vget u.pll.restarting i = true ∧ u.capDisc = BitVec.allOnes 32
        ∧ ∀ k, (u.ra k).md.inFlight = [] ∧ (u.ra k).md.lockFreeze = 16)
  ∧ (∀ (s : State) (i : Fin 2), s.dev = .standby ∨ s.dev = .run → s.gb F.FM_PLL_ACTIVE = (i == 1) →
      vget s.pll.locked i = true → vget s.pll.locked (otherFeed i) = false → s.classOf 0x17 none < 4 →
      (∀ k, (s.ra k).md.forcePend = false) →
      Completes .pllLoss s fun u => u.dev = .safe ∧ u.g F.FM_STATUS_LASTFID = 0x13 ∧ (∀ n, (u.ph n).out = .off)
        ∧ vget u.pll.locked i = false ∧ u.gb F.FM_PLL_SPAREOK = false)
  ∧ (∀ (s : State) (i : Fin 2), s.restarted = some i → vget s.pll.locked (otherFeed i) = true →
      Completes .pllRelock s fun u => u = { s with pll := u.pll, regs := u.regs } ∧ vget u.pll.locked i = true
        ∧ vget u.pll.restarting i = false ∧ u.gb F.FM_PLL_SPAREOK = true ∧ u.gb F.FM_PLL_ACTIVE = s.gb F.FM_PLL_ACTIVE)
  ∧ (∀ (s : State) (i : Fin 2), s.restarted = some i → s.chanRetired 5 i.val = false →
      Completes .pllRelockTimeout s fun u => vget u.pll.restarting i = false ∧ u.chanRetired 5 i.val = true)
  ∧ (∀ s : State, s.restarted = none → Leaves .pllRelock s s ∧ Leaves .pllRelockTimeout s s)

/-! ### The phase pulse engine -/

/-- ON_TIME_END of a high phase whose block runs turns the low side on in a three-level group, with its count of consecutive
limited cycles back at 0, and starts the dead time in a paired one; a phase whose block has stopped goes to the off level at
its programmed on-time, which is a normal end too, and a high level that fills its period goes on while the block runs.
DEAD_TIME_END turns on the FET that waits, or none where the block has stopped or the phase is latched. In diode emulation or a tail a zero-current crossing seen by
a comparator takes a low phase to its off level and ends the tail. No other phase's output changes.
The rows are the events themselves (log entry 10). -/
def Obligations.PulseEndsFollowTheGroup : Prop :=
  (∀ (s : State) (n : Fin 48) (t : Time), s.phRuns n = true → (s.ph n).out = .high → (s.ph n).full = false →
      s.paired (groupOf n.val) = false → Completes (.onTimeEnd ⟨n, t⟩) s fun u => (u.ph n).out = .low
        ∧ u.g (F.PHASE_LIMCNT_CONSEC n.val) = 0 ∧ ∀ m, m ≠ n → (u.ph m).out = (s.ph m).out)
  ∧ (∀ (s : State) (n : Fin 48) (t : Time), s.phRuns n = true → (s.ph n).out = .high → (s.ph n).full = false →
      s.paired (groupOf n.val) = true → Completes (.onTimeEnd ⟨n, t⟩) s fun u => (u.ph n).out = .off ∧ (u.ph n).dead = .hl
        ∧ u.g (F.PHASE_LIMCNT_CONSEC n.val) = 0 ∧ ∀ m, m ≠ n → (u.ph m).out = (s.ph m).out)
  ∧ (∀ (s : State) (n : Fin 48) (t : Time), s.phRuns n = false → (s.ph n).out = .high →
      Completes (.onTimeEnd ⟨n, t⟩) s fun u => (u.ph n).out = .off ∧ (u.ph n).dead = .none
        ∧ u.g (F.PHASE_LIMCNT_CONSEC n.val) = 0 ∧ ∀ m, m ≠ n → (u.ph m).out = (s.ph m).out)
  ∧ (∀ (s : State) (n : Fin 48) (t : Time), (s.ph n).out ≠ .high ∨ ((s.ph n).full = true ∧ s.phRuns n = true) →
      Leaves (.onTimeEnd ⟨n, t⟩) s (s.atTime t))
  ∧ (∀ (s : State) (n : Fin 48) (t : Time), s.phRuns n = true → s.latched n.val = false → (s.ph n).dead ≠ .none →
      Completes (.deadTimeEnd ⟨n, t⟩) s fun u => (u.ph n).dead = .none
        ∧ (u.ph n).out = (if (s.ph n).dead = .lh then .high else .low) ∧ ∀ m, m ≠ n → u.ph m = s.ph m)
  ∧ (∀ (s : State) (n : Fin 48) (t : Time), s.phRuns n = false ∨ s.latched n.val = true → (s.ph n).dead ≠ .none →
      Completes (.deadTimeEnd ⟨n, t⟩) s fun u => (u.ph n).dead = .none ∧ (u.ph n).out = .off
        ∧ ∀ m, m ≠ n → u.ph m = s.ph m)
  ∧ (∀ (s : State) (n : Fin 48) (t : Time), (s.ph n).dead = .none → Leaves (.deadTimeEnd ⟨n, t⟩) s (s.atTime t))
  ∧ (∀ (s : State) (n : Fin 48) (t : Time), (s.ph n).out = .low → (s.ph n).de = true ∨ (s.ph n).tail ≠ none →
      s.servedBy (48 + n.val) < 128 → Completes (.zeroCurrentCrossing ⟨n, t⟩) s fun u => (u.ph n).out = .off
        ∧ (u.ph n).dead = .none ∧ (u.ph n).tail = none ∧ ∀ m, m ≠ n → u.ph m = s.ph m)
  ∧ (∀ (s : State) (n : Fin 48) (t : Time), 128 ≤ s.servedBy (48 + n.val) →
      Leaves (.zeroCurrentCrossing ⟨n, t⟩) s (s.atTime t))

/-- A period boundary in fixed mode falls on the grid of the phase's first boundary where the phase is synced or was handed over; it
passes that first boundary, and the counter counts from it anew; with no shadow, armed or cancelled commit, latch, cut source or tail in its way, no modulator override and its group awake it starts a pulse in a three-level group
whenever R95 applies a code other than 0 to PHASE[n].DUTY. A latched phase starts none, and an active latch source latches
an unlatched one at the boundary (here with no strike and class 1 or below). An idle boundary in launched mode starts no pulse and leaves
the output, outside a tail, and comes only after the first launch. A phase whose block does not run passes no boundary. -/
def Obligations.BoundariesStartPulses : Prop :=
  (∀ (s : State) (n : Fin 48) (t : Time), s.phRuns n = true → s.mode n = 2 → (s.atTime t).boundaryFalls n = true →
      (s.ph n).boundary = [] → s.isArmed 1 n.val = false →
      (∀ x ∈ s.img.cancelled, x.commit.group = 1 → x.commit.index ≠ n.val) → s.g (F.PHASE_TRIPCFG_LATCH n.val) = 0 →
      Completes (.periodBoundary ⟨n, t⟩) s fun u => (u.ph n).started = true ∧ (u.ph n).bound = some (s.atTime t).clock)
  ∧ (∀ (s : State) (n : Fin 48) (t : Time), s.phRuns n = true → s.mode n = 2 → (s.atTime t).boundaryFalls n = true →
      (s.ph n).modeOver = none → (s.ph n).boundary = [] → s.isArmed 1 n.val = false →
      (∀ x ∈ s.img.cancelled, x.commit.group = 1 → x.commit.index ≠ n.val) →
      s.latched n.val = false → s.g (F.PHASE_TRIPCFG_CUT n.val) = 0 → s.g (F.PHASE_TRIPCFG_LATCH n.val) = 0 →
      (s.ph n).tail = none → s.paired (groupOf n.val) = false → s.awake (groupOf n.val) = true →
      ((s.ph n).full = true → (s.ph n).out = .high) →
      (applyDuty s n (s.g (F.PHASE_PERIOD_PERIOD n.val)) (s.g (F.PHASE_DUTY_DUTY n.val))).1 ≠ 0 →
      Completes (.periodBoundary ⟨n, t⟩) s fun u => (u.ph n).out = .high
        ∧ u.g (F.PHASE_ACTPER_ACTPER n.val) = s.g (F.PHASE_PERIOD_PERIOD n.val))
  ∧ (∀ (s : State) (n : Fin 48) (t : Time), s.phRuns n = true → s.mode n = 2 → (s.atTime t).boundaryFalls n = true →
      s.latched n.val = true → s.gb (F.PHASE_CTL_AUTOCLR n.val) = false → s.gb (F.PHASE_CTL_SHLOCK n.val) = true →
      (s.ph n).shCount < 62 → (s.ph n).clearPend = false → (s.ph n).holdClear = false → (s.ph n).tail = none →
      (s.ph n).full = false →
      Completes (.periodBoundary ⟨n, t⟩) s fun u => u.latched n.val = true ∧ (u.ph n).out = (s.ph n).out)
  ∧ (∀ (s : State) (n : Fin 48) (t : Time), s.phRuns n = true → s.mode n = 2 → (s.atTime t).boundaryFalls n = true →
      s.latched n.val = false → s.gb (F.PHASE_CTL_SHLOCK n.val) = true → (s.ph n).shCount < 62 →
      s.latchTrips n ≠ 0 → bitAt (s.latchTrips n) 0 = false → s.classOf 6 (limRail s n <|> s.railOf n.val) ≤ 1 →
      Completes (.periodBoundary ⟨n, t⟩) s fun u => u.latched n.val = true ∧ (u.ph n).out = .off)
  ∧ (∀ (s : State) (n : Fin 48) (t : Time), s.phRuns n = true → s.mode n = 1 → (s.ph n).started = true → (s.ph n).tail = none →
      (s.ph n).boundary = [] → s.isArmed 1 n.val = false →
      (∀ x ∈ s.img.cancelled, x.commit.group = 1 → x.commit.index ≠ n.val) → s.g (F.PHASE_TRIPCFG_LATCH n.val) = 0 →
      Completes (.idleBoundary ⟨n, t⟩) s fun u => (u.ph n).started = true ∧ (u.ph n).bound = some (s.atTime t).clock
        ∧ (u.ph n).out = (s.ph n).out)
  ∧ (∀ (s : State) (n : Fin 48) (t : Time), s.phRuns n = false ∨ (s.atTime t).boundaryFalls n = false →
      Leaves (.periodBoundary ⟨n, t⟩) s (s.atTime t))
  ∧ (∀ (s : State) (n : Fin 48) (t : Time), s.phRuns n = false ∨ (s.ph n).started = false →
      Leaves (.idleBoundary ⟨n, t⟩) s (s.atTime t))

/-- The oldest launch of the rail leaves delivery (here with no forced sequence boundary waiting for it). One issued for an earlier
epoch of the phase is counted stale and lost; one to a phase whose latch stays set at the launch instant sets LAUNCHREF and is
lost; either way no output changes. To a phase in launched mode with no cut or latch source, shadow, armed or cancelled commit in its way, it
starts the pulse where R95 applies a code other than 0 (three-level groups), or with MINOFF still running waits
as a delayed launch, which its own row then starts. With no launch on its way nothing happens. -/
def Obligations.LaunchesReachPhases : Prop :=
  (∀ (s : State) (k : Fin 8) (l : Launch) (rest : List Launch) (t : Time), (s.ra k).md.inFlight = l :: rest →
      (s.ra k).md.forcePend = false → l.epoch ≠ (s.rl l.phase).epoch → Completes (.launch k t) s fun u =>
        u.g (F.PHASE_STALE_STALE l.phase.val) = incHold (F.PHASE_STALE_STALE l.phase.val).w
          (s.g (F.PHASE_STALE_STALE l.phase.val))
        ∧ u.gb (F.RAIL_MSTAT_LAUNCHLOST k.val) = true ∧ u.phase = s.phase ∧ (u.ra k).md.inFlight = rest)
  ∧ (∀ (s : State) (k : Fin 8) (l : Launch) (rest : List Launch) (t : Time), (s.ra k).md.inFlight = l :: rest →
      (s.ra k).md.forcePend = false → l.epoch = (s.rl l.phase).epoch → s.latched l.phase.val = true →
      s.gb (F.PHASE_CTL_AUTOCLR l.phase.val) = false → (s.ph l.phase).clearPend = false →
      (s.ph l.phase).holdClear = false → (s.ph l.phase).boundary = [] → s.isArmed 1 l.phase.val = false →
      (∀ x ∈ s.img.cancelled, x.commit.group = 1 → x.commit.index ≠ l.phase.val) →
      Completes (.launch k t) s fun u =>
        u.gb (F.PHASE_STATUS_LAUNCHREF l.phase.val) = true ∧ u.gb (F.RAIL_MSTAT_LAUNCHLOST k.val) = true
        ∧ (∀ m, (u.ph m).out = (s.ph m).out) ∧ (u.ra k).md.inFlight = rest)
  ∧ (∀ (s : State) (k : Fin 8) (l : Launch) (rest : List Launch) (t : Time), (s.ra k).md.inFlight = l :: rest →
      (s.ra k).md.forcePend = false → l.epoch = (s.rl l.phase).epoch → s.latched l.phase.val = false →
      (s.ph l.phase).out ≠ .high → (s.ph l.phase).dead ≠ .lh → s.phRuns l.phase = true → s.mode l.phase = 1 →
      (s.ph l.phase).modeOver = none → (s.ph l.phase).boundary = [] → s.isArmed 1 l.phase.val = false →
      (∀ x ∈ s.img.cancelled, x.commit.group = 1 → x.commit.index ≠ l.phase.val) →
      s.g (F.PHASE_TRIPCFG_CUT l.phase.val) = 0 → s.g (F.PHASE_TRIPCFG_LATCH l.phase.val) = 0 →
      (s.ph l.phase).full = false → s.paired (groupOf l.phase.val) = false →
      (applyDuty s l.phase (s.g (F.PHASE_PERIOD_PERIOD l.phase.val)) l.onTime).1 ≠ 0 →
      Completes (.launch k t) s fun u => (u.ra k).md.inFlight = rest ∧
        (if (s.atTime t).minOffDone l.phase then (u.ph l.phase).out = .high
        else u.gb (F.PHASE_STATUS_LAUNCHDLY l.phase.val) = true ∧ (u.ph l.phase).delayed = some l.onTime
          ∧ (u.ph l.phase).out = (s.ph l.phase).out))
  ∧ (∀ (s : State) (k : Fin 8) (t : Time), (s.ra k).md.inFlight = [] → Leaves (.launch k t) s (s.atTime t))
  ∧ (∀ (s : State) (n : Fin 48) (d : Nat) (t : Time), (s.ph n).delayed = some d → s.phRuns n = true →
      s.latched n.val = false → s.paired (groupOf n.val) = false → (s.ph n).full = false →
      (applyDuty s n (periodOf s n) d).1 ≠ 0 →
      Completes (.launchDelayEnd ⟨n, t⟩) s fun u => (u.ph n).out = .high ∧ (u.ph n).delayed = none)
  ∧ (∀ (s : State) (n : Fin 48) (t : Time), (s.ph n).delayed = none → Leaves (.launchDelayEnd ⟨n, t⟩) s (s.atTime t))

/-- An active source assigned to cycle-cut, and not to the latch, sets CUT and limits the period, counting it once: under LSPOL,
before the first period boundary and in a group FORCEOFF holds the output goes to its off level; otherwise the low side turns
on, in a paired group after the dead time where the high side has conducted. That a cut drives the low side so is the model's
reading (log entry 114). A high level that runs on after its block has stopped ends at its off level. An active latch source takes an unlatched phase to its off level, latches it and reports
PHLATCH (here with no strike and class 1 or below); on a latched one it holds the off level. No other phase's output
changes, and an inactive source does nothing. A TRIP pin's level is the one at the ball and moves no phase by itself. -/
def Obligations.TripsCutAndLatch : Prop :=
  (∀ (s : State) (n : Fin 48) (src : Fin 8) (t : Time), s.phRuns n = true → s.latched n.val = false →
      bitAt (s.trips n) src.val = true → bitAt (s.g (F.PHASE_TRIPCFG_CUT n.val)) src.val = true →
      bitAt (s.g (F.PHASE_TRIPCFG_LATCH n.val)) src.val = false →
      Completes (.cycleCut n ⟨src, t⟩) s fun u => u.gb (F.PHASE_STATUS_CUT n.val) = true ∧ (u.ph n).limited = true
        ∧ (u.ph n).out = (if s.gb (F.PHASE_CTL_LSPOL n.val) || !(s.ph n).started
              || s.gb (F.STAGEGRP_CFG_FORCEOFF (groupOf n.val)) then .off
            else if (s.ph n).out = .high then (if s.paired (groupOf n.val) then .off else .low)
            else if (s.ph n).dead = .hl then (s.ph n).out else .low)
        ∧ u.g (F.PHASE_LIMCNT_TOTAL n.val) = (if (s.ph n).limited then s.g (F.PHASE_LIMCNT_TOTAL n.val)
            else incHold (F.PHASE_LIMCNT_TOTAL n.val).w (s.g (F.PHASE_LIMCNT_TOTAL n.val)))
        ∧ ∀ m, m ≠ n → (u.ph m).out = (s.ph m).out)
  ∧ (∀ (s : State) (n : Fin 48) (src : Fin 8) (t : Time), s.phRuns n = false → (s.ph n).out = .high →
      s.latched n.val = false → bitAt (s.trips n) src.val = true →
      bitAt (s.g (F.PHASE_TRIPCFG_CUT n.val)) src.val = true →
      bitAt (s.g (F.PHASE_TRIPCFG_LATCH n.val)) src.val = false →
      Completes (.cycleCut n ⟨src, t⟩) s fun u => u.gb (F.PHASE_STATUS_CUT n.val) = true ∧ (u.ph n).out = .off
        ∧ ∀ m, m ≠ n → (u.ph m).out = (s.ph m).out)
  ∧ (∀ (s : State) (n : Fin 48) (src : Fin 8) (t : Time), bitAt (s.trips n) src.val = false →
      Leaves (.cycleCut n ⟨src, t⟩) s (s.atTime t) ∧ Leaves (.tripLatch n ⟨src, t⟩) s (s.atTime t))
  ∧ (∀ (s : State) (n : Fin 48) (src : Fin 8) (t : Time), bitAt (s.trips n) src.val = true → src ≠ 0 →
      bitAt (s.g (F.PHASE_TRIPCFG_LATCH n.val)) src.val = true → s.latched n.val = false →
      s.classOf 6 (limRail s n <|> s.railOf n.val) ≤ 1 → Completes (.tripLatch n ⟨src, t⟩) s fun u =>
        u.latched n.val = true ∧ (u.ph n).out = .off ∧ (u.ph n).tail = none ∧ u.g F.FM_STATUS_LASTFID = 6
        ∧ u.g (F.FM_PH_STAT_LASTFID n.val) = 6 ∧ ∀ m, m ≠ n → (u.ph m).out = (s.ph m).out)
  ∧ (∀ (s : State) (n : Fin 48) (src : Fin 8) (t : Time), bitAt (s.trips n) src.val = true →
      bitAt (s.g (F.PHASE_TRIPCFG_LATCH n.val)) src.val = true → s.latched n.val = true →
      Completes (.tripLatch n ⟨src, t⟩) s fun u => u.latched n.val = true ∧ (u.ph n).out = .off
        ∧ (u.ph n).clearPend = false ∧ ∀ m, m ≠ n → u.ph m = s.ph m)
  ∧ (∀ (s : State) (i : Fin 4) (l : Bool), Completes (.tripPin i l) s fun u =>
      u.sup = { s.sup with tripPin := vset s.sup.tripPin i l } ∧ u.phase = s.phase ∧ u.rail = s.rail)

/-- A clear of the latch, let through by the checks of a write, is refused with CLRREFUSED while a latch source is active, and waits for
a period boundary while the phase runs; of a phase whose block does not run it takes effect at once, which is the
model's choice (log entry 93). The end of a class 2 hold-off lets the latch of a running phase clear at a boundary, and
clears that of a stopped one when no other latch source is active. Without a hold-off its end does nothing. -/
def Obligations.LatchesClearWhenInactive : Prop :=
  (∀ (s : State) (m : Master) (n : Fin 48), judge m (A.PHASE_STATUS n.val) (BitVec.ofNat 32
        (2 ^ (F.PHASE_STATUS_LATCHED n.val).lo)) s = .ok → s.latched n.val = true →
      Completes (.phaseLatchClear m n) s fun u =>
        if s.latchActive n then u.gb (F.PHASE_STATUS_CLRREFUSED n.val) = true ∧ u.latched n.val = true
        else if s.phRuns n then (u.ph n).clearPend = true ∧ u.latched n.val = true
        else u.latched n.val = false)
  ∧ (∀ (s : State) (n : Fin 48), s.gb (F.FM_PH_STAT_PHOFFACT n.val) = true → s.phRuns n = true →
      Completes (.phaseHoldoffEnd n) s fun u => u.gb (F.FM_PH_STAT_PHOFFACT n.val) = false
        ∧ (u.ph n).holdClear = true ∧ u.latched n.val = s.latched n.val ∧ ∀ m, m ≠ n → u.ph m = s.ph m)
  ∧ (∀ (s : State) (n : Fin 48), s.gb (F.FM_PH_STAT_PHOFFACT n.val) = true → s.phRuns n = false →
      s.latchTrips n = 0 → (s.ph n).holdRetire = false →
      Completes (.phaseHoldoffEnd n) s fun u => u.gb (F.FM_PH_STAT_PHOFFACT n.val) = false
        ∧ u.latched n.val = false ∧ (u.ph n).out = (s.ph n).out ∧ ∀ m, m ≠ n → u.ph m = s.ph m)
  ∧ (∀ (s : State) (n : Fin 48), s.gb (F.FM_PH_STAT_PHOFFACT n.val) = false → Leaves (.phaseHoldoffEnd n) s s)

/-- SHLOCK_TIMEOUT clears SHLOCK and sets SHLOCKTO. A stage group counts as awake once its wake time has passed with SMODg
high. An accepted SYNCI edge of the chosen polarity sets t_ref to its time plus SYNCIDLY and moves no output: the first one, without
an error (the model's choice, log entry 94), and one within SYNCPER / 16 of the predicted time, with its error in SYNCERR;
one further away is counted, clears SYNCLOCK and leaves t_ref. t_ref recurs at SYNCPER, with no SYNCO pulse placed while SYNCOEN is
0; the holdover sets SYNCLOST and keeps t_ref. An
enabled free capture unit whose source and edge match stamps TBCOUNT and the fine tap, and one that holds a stamp in single mode keeps it. -/
def Obligations.SyncAndCapture : Prop :=
  (∀ (s : State) (n : Fin 48), s.gb (F.PHASE_CTL_SHLOCK n.val) = true → Completes (.shlockTimeout n) s fun u =>
      u.gb (F.PHASE_CTL_SHLOCK n.val) = false ∧ u.gb (F.PHASE_STATUS_SHLOCKTO n.val) = true
      ∧ u = { s with regs := u.regs, phase := u.phase })
  ∧ (∀ (s : State) (g : Fin 6), s.gb (F.STAGEGRP_CFG_SMODOUT g.val) = true → Leaves (.stageWakeDone g) s
      { s with sup := { s.sup with groupAwake := vset s.sup.groupAwake g true } })
  ∧ (∀ (s : State) (t : Time) (r : Bool), s.core = true → s.gb F.PE_SYNC_CTL_SYNCSRC = true →
      s.gb F.PE_SYNC_CTL_SYNCIEDGE = !r → s.sync.lastEdge = none → Completes (.synciEdge t r) s fun u =>
        (u.sync.tref : Int) = ((t.toNat : Int) + s.gi F.PE_SYNC_DLY_SYNCIDLY) % 2 ^ 52
        ∧ u.sync.lastEdge = some t.toNat ∧ u.g F.PE_SYNC_STATUS_SYNCERR = s.g F.PE_SYNC_STATUS_SYNCERR
        ∧ ∀ n, (u.ph n).out = (s.ph n).out)
  ∧ (∀ (s : State) (t : Time) (r : Bool) (p : Nat), s.core = true → s.gb F.PE_SYNC_CTL_SYNCSRC = true →
      s.gb F.PE_SYNC_CTL_SYNCIEDGE = !r → s.sync.lastEdge = some p →
      16 * ((elapsed p t.toNat : Int) - s.syncFine).natAbs ≤ s.syncFine → Completes (.synciEdge t r) s fun u =>
        (u.sync.tref : Int) = ((t.toNat : Int) + s.gi F.PE_SYNC_DLY_SYNCIDLY) % 2 ^ 52
        ∧ u.sync.lastEdge = some t.toNat
        ∧ u.gi F.PE_SYNC_STATUS_SYNCERR = clampInt ((elapsed p t.toNat : Int) - s.syncFine) (-32767) 32767
        ∧ ∀ n, (u.ph n).out = (s.ph n).out)
  ∧ (∀ (s : State) (t : Time) (r : Bool) (p : Nat), s.core = true → s.gb F.PE_SYNC_CTL_SYNCSRC = true →
      s.gb F.PE_SYNC_CTL_SYNCIEDGE = !r → s.sync.lastEdge = some p →
      s.syncFine < 16 * ((elapsed p t.toNat : Int) - s.syncFine).natAbs → s.gb F.PE_SYNC_STATUS_SYNCLOST = false →
      Completes (.synciEdge t r) s fun u => u.sync.tref = s.sync.tref ∧ u.sync.lastEdge = some p
        ∧ u.gb F.PE_SYNC_STATUS_SYNCLOCK = false
        ∧ u.g F.PE_SYNC_STATUS_REJCNT = incHold F.PE_SYNC_STATUS_REJCNT.w (s.g F.PE_SYNC_STATUS_REJCNT))
  ∧ (∀ s : State, s.core = true → Completes .syncReferenceTick s fun u =>
      u.sync.tref = (s.sync.tref + s.syncFine) % 2 ^ 52 ∧ u.sync.lastEdge = s.sync.lastEdge ∧ u.sup = s.sup
        ∧ (s.gb F.PE_SYNCO_CTL_SYNCOEN = false → u.sync.synco = []))
  ∧ (∀ s : State, s.core = true → s.gb F.PE_SYNC_CTL_SYNCSRC = true → s.sync.lastEdge ≠ none →
      s.gb F.PE_SYNC_STATUS_SYNCLOST = false → Completes .syncHoldover s fun u =>
        u.gb F.PE_SYNC_STATUS_SYNCLOST = true ∧ u.sync.tref = s.sync.tref ∧ u.sync.lastEdge = s.sync.lastEdge
        ∧ u.phase = s.phase)
  ∧ (∀ (s : State) (c : Fin 32) (src : BitVec 8) (f : Bool) (fine : BitVec 4), s.core = true →
      s.gb (F.CAP_CTL_EN c.val) = true → s.g (F.CAP_CTL_SRC c.val) = src.toNat →
      edgeMatches (s.g (F.CAP_CTL_EDGE c.val)) (!f) = true → s.gb (F.CAP_TSHI_VALID c.val) = false →
      Completes (.capture src f fine) s fun u => u.gb (F.CAP_TSHI_VALID c.val) = true
        ∧ u.word (A.CAP_TSLO c.val) = BitVec.ofNat 32 s.tb.toNat ∧ u.g (F.CAP_TSHI_TSHI c.val) = s.tb.toNat / 2 ^ 32
        ∧ u.g (F.CAP_TSHI_FINE c.val) = fine.toNat)
  ∧ (∀ (s : State) (c : Fin 32) (src : BitVec 8) (f : Bool) (fine : BitVec 4), s.gb (F.CAP_TSHI_VALID c.val) = true →
      s.gb (F.CAP_CTL_CONT c.val) = false → Completes (.capture src f fine) s fun u =>
        u.word (A.CAP_TSLO c.val) = s.word (A.CAP_TSLO c.val) ∧ u.word (A.CAP_TSHI c.val) = s.word (A.CAP_TSHI c.val))

/-! ### The rail modulator -/

/-- On an enabled rail in constant on-time mode: a crossing into demand outside blanking, blanking that ends with demand
continuing, and a waiting launch whose overlap limit allows it with demand continuing each issue one launch to the ring
phase at POS, where it is eligible outside onset mode. With no ring phase eligible no launch is issued, LAUNCHLOST is set and
blanking starts all the same. With OVL at its limit the launch waits and is counted. Blanking that
ends without demand ends the series and, outside a forecast window, onset mode; a waiting launch without demand is dropped. A
rail that does not launch does nothing at any of the three. -/
def Obligations.DemandIssuesLaunches : Prop :=
  (∀ (s : State) (k : Fin 8) (n : Fin 48) (t : Time), s.launches k = true → (s.ra k).md.blanking = false →
      (s.ra k).md.waiting = false → NextLaunch s k n → Completes (.launchDemand ⟨k, t⟩) s fun u => LaunchIssued s u k n)
  ∧ (∀ (s : State) (k : Fin 8) (t : Time), s.launches k = true → (s.ra k).md.blanking = false →
      (s.ra k).md.waiting = false → s.ovlLimit k ≤ s.ovl k →
      Completes (.launchDemand ⟨k, t⟩) s fun u => (u.ra k).md.waiting = true
        ∧ (u.ra k).md.inFlight = (s.ra k).md.inFlight
        ∧ u.g (F.RAIL_MCNT_OVLWAIT k.val) = incHold (F.RAIL_MCNT_OVLWAIT k.val).w (s.g (F.RAIL_MCNT_OVLWAIT k.val)))
  ∧ (∀ (s : State) (k : Fin 8) (n : Fin 48) (t : Time), s.launches k = true → (s.ra k).md.blanking = true →
      NextLaunch s k n → Completes (.blankingEnd k ⟨true, t⟩) s fun u => LaunchIssued s u k n)
  ∧ (∀ (s : State) (k : Fin 8) (t : Time), s.launches k = true → (s.ra k).md.blanking = true → s.onset k = false →
      s.ovl k < s.ovlLimit k → (∀ n ∈ s.ring k, s.eligible false n = false) →
      Completes (.blankingEnd k ⟨true, t⟩) s fun u => u.gb (F.RAIL_MSTAT_LAUNCHLOST k.val) = true
        ∧ (u.ra k).md.inFlight = (s.ra k).md.inFlight ∧ (u.ra k).md.blanking = true
        ∧ (u.ra k).md.cont = (s.ra k).md.cont ∧ u.phase = s.phase)
  ∧ (∀ (s : State) (k : Fin 8) (t : Time), s.launches k = true → (s.ra k).md.blanking = true → s.windowOpen k = false →
      Completes (.blankingEnd k ⟨false, t⟩) s fun u => (u.ra k).md.blanking = false ∧ (u.ra k).md.cont = 0
        ∧ u.onset k = false ∧ (u.ra k).md.inFlight = (s.ra k).md.inFlight ∧ u.phase = s.phase)
  ∧ (∀ (s : State) (k : Fin 8) (n : Fin 48) (t : Time), s.launches k = true → (s.ra k).md.waiting = true →
      NextLaunch s k n → Completes (.overlapRelease k ⟨true, t⟩) s fun u => LaunchIssued s u k n)
  ∧ (∀ (s : State) (k : Fin 8) (t : Time), s.launches k = true → (s.ra k).md.waiting = true →
      s.ovl k < s.ovlLimit k → Completes (.overlapRelease k ⟨false, t⟩) s fun u => (u.ra k).md.waiting = false
        ∧ (u.ra k).md.inFlight = (s.ra k).md.inFlight ∧ u.regs = s.regs)
  ∧ (∀ (s : State) (k : Fin 8) (d : Bool) (t : Time), s.launches k = false →
      Leaves (.launchDemand ⟨k, t⟩) s (s.atTime t) ∧ Leaves (.blankingEnd k ⟨d, t⟩) s (s.atTime t)
        ∧ Leaves (.overlapRelease k ⟨d, t⟩) s (s.atTime t))

/-- Outside OFF a VINFF conversion enters the last four, newest first; VINC is min((their sum x VINGAIN) / 2^14, FFFFh), or
VINFIX with SRC 1, and nothing but VINFF_DATA changes among the registers. On an enabled rail a ripple step takes HF and LF of each
phase of ring and tail: the fine steps of its 64 in which the phase was high, and low. One that does not change in the step
gives 64 of HF where it is high, of LF where it is low; one that changes once in it gives what came before and after the
change; with every one at mid, ACC only leaks; ACC saturates and RIPCODE is ACC >> 16 held to -512..511; a disabled rail's
accumulator stands. A frame in which the converter has failed marks it failed and leaves VINC.
That a frame without a code stands for the failure is the model's choice (log entry 21). -/
def Obligations.FeedForwardAndRipple : Prop :=
  (∀ (s : State) (c : BitVec 10), s.core = true → s.gb F.VINFF_CFG_SRC = false → s.vinffFailed = false →
      Completes (.vinffUpdate (some c)) s fun u => u.vinff = (c.toNat :: s.vinff).take 4
        ∧ u.g F.VINFF_DATA_VINC = min (((c.toNat :: s.vinff).take 4).sum * s.g F.VINFF_CFG_VINGAIN / 2 ^ 14) 0xFFFF
        ∧ u.g F.VINFF_DATA_SRCNOW = 0 ∧ ∀ a, a ≠ A.VINFF_DATA → u.word a = s.word a)
  ∧ (∀ s : State, s.core = true → s.gb F.VINFF_CFG_SRC = false → Leaves (.vinffUpdate none) s { s with vinffFailed := true })
  ∧ (∀ (s : State) (c : Option (BitVec 10)), s.core = true → s.gb F.VINFF_CFG_SRC = true →
      Completes (.vinffUpdate c) s fun u => u.g F.VINFF_DATA_VINC = s.g F.VINFF_FIX_VINFIX
        ∧ u.g F.VINFF_DATA_SRCNOW = 2 ∧ ∀ a, a ≠ A.VINFF_DATA → u.word a = s.word a)
  ∧ (∀ (s : State) (k : Fin 8) (t : Time), s.enabled k = true → (∀ n ∈ s.ringTail k, (s.ph n).out ≠ .off) →
      (∀ n ∈ s.ringTail k, ∀ x ∈ (s.ph n).hist, 64 ≤ elapsed x.1 (s.atTime t).clock) →
      Completes (.rippleStep k t) s fun u =>
        let hf : Int := 64 * ((s.ringTail k).filter fun n => (s.ph n).out == .high).length
        let lf : Int := 64 * ((s.ringTail k).filter fun n => (s.ph n).out == .low).length
        let d : Int := hf * 20 * (s.ra k).md.vinc - (hf + lf) * (s.ra k).md.vsetc
        (u.ra k).md.acc = sat32 ((s.ra k).md.acc + asr (d * s.g (F.RAIL_RIP_RIPGAIN k.val)) 6
          - asr (s.ra k).md.acc (s.g (F.RAIL_RIP_RIPLEAK k.val)))
        ∧ (u.ra k).md.ripcode = clampInt (asr (u.ra k).md.acc 16) (-512) 511 ∧ u.regs = s.regs)
  ∧ (∀ (s : State) (k : Fin 8) (t : Time), s.enabled k = true →
      Completes (.rippleStep k t) s fun u =>
        let c := (s.ringTail k).map (s.atTime t).rippleCounts
        let hf : Int := (c.map fun x => (x.1 : Int)).sum
        let lf : Int := (c.map fun x => (x.2 : Int)).sum
        let d : Int := hf * 20 * (s.ra k).md.vinc - (hf + lf) * (s.ra k).md.vsetc
        (u.ra k).md.acc = sat32 ((s.ra k).md.acc + asr (d * s.g (F.RAIL_RIP_RIPGAIN k.val)) 6
          - asr (s.ra k).md.acc (s.g (F.RAIL_RIP_RIPLEAK k.val))) ∧ u.regs = s.regs)
  ∧ (∀ (s : State) (n : Fin 48) (x : Nat × Nat) (rest : List (Nat × Nat)), (s.ph n).hist = x :: rest →
      elapsed x.1 s.clock < 64 → (∀ y ∈ rest, 64 ≤ elapsed y.1 s.clock) →
        s.rippleCounts n = ((if s.rippleClass n = 2 then elapsed x.1 s.clock else 0) + (if x.2 = 2 then 64 - elapsed x.1 s.clock else 0),
          (if s.rippleClass n = 1 then elapsed x.1 s.clock else 0) + (if x.2 = 1 then 64 - elapsed x.1 s.clock else 0)))
  ∧ (∀ (s : State) (n : Fin 48), (s.rippleCounts n).1 + (s.rippleCounts n).2 ≤ 64)
  ∧ (∀ (s : State) (k : Fin 8) (t : Time), s.enabled k = true → (∀ n ∈ s.ringTail k, (s.ph n).out = .off ∧ (s.ph n).dead = .none
        ∧ s.gb (F.PHASE_STATUS_CUT n.val) = false) →
      (∀ n ∈ s.ringTail k, ∀ x ∈ (s.ph n).hist, 64 ≤ elapsed x.1 (s.atTime t).clock) → Completes (.rippleStep k t) s fun u =>
      (u.ra k).md.acc = sat32 ((s.ra k).md.acc - asr (s.ra k).md.acc (s.g (F.RAIL_RIP_RIPLEAK k.val)))
      ∧ (u.ra k).md.ripcode = clampInt (asr (u.ra k).md.acc 16) (-512) 511 ∧ u.regs = s.regs
      ∧ ∀ j, j ≠ k → u.ra j = s.ra j)
  ∧ (∀ (s : State) (k : Fin 8) (t : Time), s.enabled k = true → Completes (.rippleStep k t) s fun u =>
      -2147483647 ≤ (u.ra k).md.acc ∧ (u.ra k).md.acc ≤ 2147483647 ∧ -512 ≤ (u.ra k).md.ripcode
      ∧ (u.ra k).md.ripcode ≤ 511)
  ∧ (∀ (s : State) (k : Fin 8) (t : Time), s.enabled k = false → Leaves (.rippleStep k t) s (s.atTime t))

/-- A sequence boundary of an enabled rail with no ring change waiting, nor one cancelled, writes as lock error its time less the nearest of t_ref
+ LOCKOFS and its repeats; while a condition freezes the lock TRIM is kept, and with LOCKEN 0 FLOCK is 0 and LOCKFRZ 1;
otherwise the integral and TRIM move as the lock's settings say. A forced boundary is counted and measures nothing; with a launch in
delivery it waits, and falls when that launch is delivered. A rewrite completed in time, into which nothing is still to be merged,
takes effect at a forced boundary: nothing waits any more and POS is 0. A positive forecast opens its window once, with FCARMED
and onset mode, and the close of an open window clears FCARMED. -/
def Obligations.SequenceAndForecastWindows : Prop :=
  (∀ (s : State) (k : Fin 8) (t : Time), s.enabled k = true → s.effMode k = 2 ∨ (s.ra k).md.pos = 0 →
      s.isArmed 2 k.val = false →
      (∀ x ∈ s.img.cancelled, x.commit.group = 2 → x.commit.index ≠ k.val) → (s.ra k).ink.rewrite = none → Completes (.sequenceBoundary k t) s fun u =>
        let e := nearest (((s.atTime t).clock : Int) - s.sync.tref - s.g (F.RAIL_LOCKOFS_LOCKOFS k.val)) (max 1 s.syncFine)
        let lim : Int := s.g (F.RAIL_LOCKCFG_LOCKLIM k.val)
        let ti := clampInt ((s.ra k).md.trimi - asr e (s.g (F.RAIL_LOCKCFG_FLKI k.val))) (-lim) lim
        u.gi (F.RAIL_LOCKSTAT_LOCKERR k.val) = clampInt e (-32767) 32767
        ∧ (if s.lockFrozen k then u.g (F.RAIL_LOCKSTAT_TRIM k.val) = s.g (F.RAIL_LOCKSTAT_TRIM k.val)
              ∧ (u.ra k).md.trimi = (s.ra k).md.trimi
            else (u.ra k).md.trimi = ti
              ∧ u.g (F.RAIL_LOCKSTAT_TRIM k.val)
                = ofSigned 16 (clampInt (ti - asr e (s.g (F.RAIL_LOCKCFG_FLKP k.val))) (-lim) lim))
        ∧ (s.gb (F.RAIL_MCTL_LOCKEN k.val) = false → u.gb (F.RAIL_MSTAT_FLOCK k.val) = false
          ∧ u.gb (F.RAIL_MSTAT_LOCKFRZ k.val) = true)
        ∧ u.phase = s.phase ∧ u.queue = s.queue)
  ∧ (∀ (s : State) (k : Fin 8) (t : Time), s.enabled k = true → (s.ra k).md.seqPend = true →
      (s.ra k).md.inFlight = [] → s.isArmed 2 k.val = false →
      (∀ x ∈ s.img.cancelled, x.commit.group = 2 → x.commit.index ≠ k.val) → (s.ra k).ink.rewrite = none →
      Completes (.forcedSequenceBoundary ⟨k, t⟩) s fun u =>
        u.g (F.RAIL_MCNT_FORCEDSEQ k.val) = incHold (F.RAIL_MCNT_FORCEDSEQ k.val).w (s.g (F.RAIL_MCNT_FORCEDSEQ k.val))
        ∧ (u.ra k).md.seqPend = false ∧ u.g (F.RAIL_LOCKSTAT_LOCKERR k.val) = s.g (F.RAIL_LOCKSTAT_LOCKERR k.val)
        ∧ u.phase = s.phase ∧ u.queue = s.queue)
  ∧ (∀ (s : State) (k : Fin 8) (l : List (Fin 48)) (t : Time), s.enabled k = true → (s.ra k).md.seqPend = true →
      (s.ra k).md.inFlight = [] → s.isArmed 2 k.val = false →
      (∀ x ∈ s.img.cancelled, x.commit.group = 2 → x.commit.index ≠ k.val) → (s.ra k).ink.rewrite = some l →
      (s.atTime t).rewriteDue k = true → Completes (.forcedSequenceBoundary ⟨k, t⟩) s fun u =>
        (u.ra k).ink.rewrite = none ∧ (u.ra k).md.seqPend = false ∧ (u.ra k).md.pos = 0)
  ∧ (∀ (s : State) (k : Fin 8) (t : Time), s.enabled k = true → (s.ra k).md.seqPend = true →
      (s.ra k).md.inFlight ≠ [] → Leaves (.forcedSequenceBoundary ⟨k, t⟩) s
        ((s.atTime t).modMd k fun m => { m with forcePend := true }))
  ∧ (∀ (s : State) (k : Fin 8) (l : Launch) (t : Time), s.enabled k = true → (s.ra k).md.seqPend = true →
      (s.ra k).md.inFlight = [l] → l.epoch ≠ (s.rl l.phase).epoch → (s.ra k).md.forcePend = true →
      s.isArmed 2 k.val = false →
      (∀ x ∈ s.img.cancelled, x.commit.group = 2 → x.commit.index ≠ k.val) → (s.ra k).ink.rewrite = none → Completes (.launch k t) s fun u =>
        u.g (F.RAIL_MCNT_FORCEDSEQ k.val) = incHold (F.RAIL_MCNT_FORCEDSEQ k.val).w (s.g (F.RAIL_MCNT_FORCEDSEQ k.val))
        ∧ (u.ra k).md.seqPend = false ∧ (u.ra k).md.forcePend = false ∧ (u.ra k).md.inFlight = [])
  ∧ (∀ (s : State) (k : Fin 8) (t : Time), s.enabled k = false →
      Leaves (.forcedSequenceBoundary ⟨k, t⟩) s (s.atTime t) ∧ Leaves (.sequenceBoundary k t) s (s.atTime t))
  ∧ (∀ (s : State) (k : Fin 8) (f : Forecast), (s.ra k).md.fc = some f → 0 < f.deltaI → f.windowOpen = false →
      f.closed = false → s.effMode k = 1 → Completes (.forecastWindowOpen k) s fun u =>
        u.gb (F.RAIL_MSTAT_FCARMED k.val) = true ∧ u.onset k = true ∧ u.windowOpen k = true ∧ u.phase = s.phase)
  ∧ (∀ (s : State) (k : Fin 8) (f : Forecast), (s.ra k).md.fc = some f → f.windowOpen = true →
      Completes (.forecastWindowClose k) s fun u => u.gb (F.RAIL_MSTAT_FCARMED k.val) = false ∧ u.windowOpen k = false
        ∧ OnlyWords { u with rail := s.rail } s [A.RAIL_MSTAT k.val])
  ∧ (∀ (s : State) (k : Fin 8), (s.ra k).md.fc = none →
      Leaves (.forecastWindowOpen k) s s ∧ Leaves (.forecastWindowClose k) s s)

/-! ### Set-points, sequencing and the boundary window -/

/-- A write of RAIL[k].VSET that the checks let through pushes one SET entry with the voltage, the slew override and the
master's tag, or, with the queue full, sets QFULL, counts the drop in DROPS and leaves the entries held. A write of RAIL[k].ON pushes an ON or an OFF
entry likewise. The instant of a push is kept beside the entry. A write of SEQGRP[g].CTL takes GEN as written. No other queue and
no other rail changes. -/
def Obligations.SetPointWritesPush : Prop :=
  (∀ (s : State) (m : Master) (k : Fin 8) (v : Word), judge m (A.RAIL_VSET k.val) v s = .ok →
      s.room (Fin.ofNat 16 k.val) 1 = true → Completes (.railVsetWrite m k v) s fun u =>
        u.q (Fin.ofNat 16 k.val) = s.q (Fin.ofNat 16 k.val) ++ [⟨BitVec.ofNat 32 (getBits v 0 16 * 65536 + getBits v 16 16),
          BitVec.ofNat 16 (masterCode m * 8192), 0x1000⟩]
        ∧ (∀ q, q ≠ Fin.ofNat 16 k.val → u.q q = s.q q) ∧ u.phase = s.phase
        ∧ u.ra k = { s.ra k with pushed := (s.ra k).pushed ++ [s.clock] } ∧ ∀ j, j ≠ k → u.ra j = s.ra j)
  ∧ (∀ (s : State) (m : Master) (k : Fin 8) (v : Word), judge m (A.RAIL_VSET k.val) v s = .ok →
      s.room (Fin.ofNat 16 k.val) 1 = false → Completes (.railVsetWrite m k v) s fun u => u.queue = s.queue
        ∧ u.gb (F.RAIL_TSTAT_QFULL k.val) = true ∧ u.word (A.RAIL_VSET k.val) = s.word (A.RAIL_VSET k.val)
        ∧ u.gb (F.Q_STAT_OVF k.val) = true
        ∧ u.g (F.Q_STAT_DROPS k.val) = incHold (F.Q_STAT_DROPS k.val).w (s.g (F.Q_STAT_DROPS k.val)))
  ∧ (∀ (s : State) (m : Master) (k : Fin 8) (v : Word), judge m (A.RAIL_ON k.val) v s = .ok →
      s.room (Fin.ofNat 16 k.val) 1 = false → Completes (.railOnWrite m k v) s fun u => u.queue = s.queue
        ∧ u.gb (F.RAIL_TSTAT_QFULL k.val) = true ∧ u.gb (F.Q_STAT_OVF k.val) = true
        ∧ u.g (F.Q_STAT_DROPS k.val) = incHold (F.Q_STAT_DROPS k.val).w (s.g (F.Q_STAT_DROPS k.val)))
  ∧ (∀ (s : State) (m : Master) (k : Fin 8) (v : Word), judge m (A.RAIL_ON k.val) v s = .ok →
      s.room (Fin.ofNat 16 k.val) 1 = true → Completes (.railOnWrite m k v) s fun u =>
        u.q (Fin.ofNat 16 k.val) = s.q (Fin.ofNat 16 k.val) ++ [⟨0, BitVec.ofNat 16 (masterCode m * 8192),
          if getBits v 0 1 = 1 then 0x3000 else 0x4000⟩]
        ∧ (∀ q, q ≠ Fin.ofNat 16 k.val → u.q q = s.q q) ∧ u.phase = s.phase
        ∧ u.ra k = { s.ra k with pushed := (s.ra k).pushed ++ [s.clock] } ∧ ∀ j, j ≠ k → u.ra j = s.ra j)
  ∧ (∀ (s : State) (m : Master) (g : Fin 4) (v : Word), judge m (A.SEQGRP_CTL g.val) v s = .ok →
      Completes (.seqgrpGenWrite m g v) s fun u =>
        u.g (F.SEQGRP_CTL_GEN g.val) = getBits v (F.SEQGRP_CTL_GEN g.val).lo (F.SEQGRP_CTL_GEN g.val).w
        ∧ u.queue = s.queue ∧ u.rail = s.rail ∧ u.phase = s.phase)

/-- With the request present, the start delay's end enables the rail (WAKE) once its group's turn is reached and its graph and ring
allow it, puts it to OFF with ENBLK where they do not, and otherwise waits; the wake time's end enters RAMP with the ring's groups whose SMODg is high awake. With the
request gone, the stop delay's end starts the soft stop or switches off as STOPMODE says. A hiccup's end restarts the
rail and counts; PG good for HICGOOD clears the count; a class 5 stop that lasts too long ends OFF. A progress check that passes
changes nothing but the pending check, one that fails, in ON or in a RAMP that lasts, declares START_SHORT. In every other
state, and without the request or the condition each needs, none of these does anything.
The rows are the events themselves (log entry 10). -/
def Obligations.SequencerTimersAct : Prop :=
  (∀ (s : State) (k : Fin 8), s.st k = .delay → s.request k = true → s.turn k = true → s.canEnable k = true →
      Completes (.startDelayExpiry k) s fun u => u.st k = .wake)
  ∧ (∀ (s : State) (k : Fin 8), s.st k = .delay → s.request k = true → s.turn k = true → s.canEnable k = false →
      Completes (.startDelayExpiry k) s fun u => u.st k = .off ∧ u.gb (F.RAIL_TSTAT_ENBLK k.val) = true)
  ∧ (∀ (s : State) (k : Fin 8), s.st k = .delay → s.turn k = false →
      Completes (.startDelayExpiry k) s fun u => u.st k = .delay ∧ u.rail = s.rail ∧ u.phase = s.phase)
  ∧ (∀ (s : State) (k : Fin 8), s.st k = .wake → s.request k = true → Completes (.wakeExpiry k) s fun u =>
      u.st k = .ramp ∧ (∀ n ∈ s.ring k, s.gb (F.STAGEGRP_CFG_SMODOUT (groupOf n.val)) = true →
        u.awake (groupOf n.val) = true) ∧ u.phase = s.phase)
  ∧ (∀ (s : State) (k : Fin 8), s.st k = .stopdly → s.request k = false → Completes (.stopDelayExpiry k) s fun u =>
      u.st k = (if s.gb (F.RAIL_SEQCTL_STOPMODE k.val) then .off else .stopping))
  ∧ (∀ (s : State) (k : Fin 8), s.st k = .on → (s.ra k).tr.grace ≠ none →
      -(s.g (F.OL_FE_FELIM k.val) : Int) ≤ (s.ra k).gr.x → (s.ra k).gr.winNeg = false →
      Leaves (.startProgressCheck k) s (s.modTr k fun t => { t with grace := none }))
  ∧ (∀ (s : State) (k : Fin 8), s.st k = .on → (s.ra k).tr.grace ≠ none →
      (s.ra k).gr.x < -(s.g (F.OL_FE_FELIM k.val) : Int) →
      Completes (.startProgressCheck k) s fun u => u.g F.FM_STATUS_LASTFID = 0x0A)
  ∧ (∀ (s : State) (k : Fin 8), s.st k = .ramp → (s.ra k).gr.x < -(s.g (F.OL_FE_FELIM k.val) : Int) →
      Completes (.startProgressCheck k) s fun u => u.g F.FM_STATUS_LASTFID = 0x0A)
  ∧ (∀ (s : State) (k : Fin 8), s.st k = .hiccup → s.request k = true → (s.ra k).tr.needOff = false →
      s.running = true → s.canEnable k = true → Completes (.hiccupRetry k) s fun u => u.st k = .wake
        ∧ u.g (F.FM_RAIL_STAT_HICCNT k.val) = incHold (F.FM_RAIL_STAT_HICCNT k.val).w (s.g (F.FM_RAIL_STAT_HICCNT k.val)))
  ∧ (∀ (s : State) (k : Fin 8), s.gb (F.RAIL_TSTAT_PG k.val) = true → Completes (.hiccupCountClear k) s fun u =>
      u.g (F.FM_RAIL_STAT_HICCNT k.val) = 0 ∧ OnlyWords u s [A.FM_RAIL_STAT k.val])
  ∧ (∀ (s : State) (k : Fin 8), s.enabled k = true → (s.ra k).pr.safeStop = true →
      Completes (.safeStopTimeout k) s fun u => u.st k = .off)
  ∧ (∀ (s : State) (k : Fin 8), s.st k ≠ .delay ∨ s.request k = false → Leaves (.startDelayExpiry k) s s)
  ∧ (∀ (s : State) (k : Fin 8), s.st k ≠ .wake ∨ s.request k = false → Leaves (.wakeExpiry k) s s)
  ∧ (∀ (s : State) (k : Fin 8), s.st k ≠ .stopdly ∨ s.request k = true → Leaves (.stopDelayExpiry k) s s)
  ∧ (∀ (s : State) (k : Fin 8), (s.st k ≠ .on ∨ (s.ra k).tr.grace = none) → s.st k ≠ .ramp →
      Leaves (.startProgressCheck k) s s)
  ∧ (∀ (s : State) (k : Fin 8), s.st k ≠ .hiccup ∨ s.request k = false ∨ (s.ra k).tr.needOff = true ∨ s.running = false →
      Leaves (.hiccupRetry k) s s)
  ∧ (∀ (s : State) (k : Fin 8), s.gb (F.RAIL_TSTAT_PG k.val) = false → Leaves (.hiccupCountClear k) s s)
  ∧ (∀ (s : State) (k : Fin 8), s.enabled k = false ∨ (s.ra k).pr.safeStop = false → Leaves (.safeStopTimeout k) s s)

/-- In a boundary window of a rail in OFF, outside a lane move, with no request, no waiting SAMPLE write or armed commit, no
current conversion and its overvoltage comparator not armed: x becomes the mean of the sample's limited conversions in 1/128
code. Where the oldest entry of the rail's queue completed before the window, it leaves the queue, and a SET entry within
VLIM with and without the margin becomes VCMD, but in LOCKDOWN VCMD stays (there the entry is discarded, the model's choice, log entry 98);
an entry that completed later stays in the queue. For every rail outside a lane move the window is its steps in order: the
sample and the current conversions, for an enabled rail the outer loops, the fault timers, power-good, and the writes,
hand-overs, Transit and loads. Of these steps: the following-error timer counts a sample beyond its limit up to FETIME, where it
declares, and returns to 0 on one within; the overvoltage count declares at OVDLY + 1; COAST starts at a boundary with COASTN 1,
counts to its limit and ends with its request; a current-group publication forms ITOT's sum, DROOPR and the droop of the error;
the ramp profile moves by at most VL and arrives within it; and REF is the clamped difference of profile, margin, droop and
forecast term. In OFF and BOOT of the device there is no window.
The window lists the conversions oldest first (log entry 29). -/
def Obligations.BoundaryWindowTakesEntry : Prop :=
  (∀ (s : State) (k : Fin 8) (w : WindowIn) (e : QEntry) (rest : List QEntry),
      s.dev ≠ .off → s.dev ≠ .boot → s.st k = .off → s.request k = false →
      s.moving k = false → (s.ra k).sample = [] → s.isArmed 3 k.val = false → s.fnArmed (96 + k.val) = false →
      (s.ra k).tr.grace = none → (∀ n, vget w.icode n = []) → s.q (Fin.ofNat 16 k.val) = e :: rest →
      e.met.toNat / 4096 = 1 → s.inLimits k.val (e.data.toNat / 65536 : Nat) = true →
      s.inLimits k.val ((e.data.toNat / 65536 : Nat) + s.gi (F.RAIL_CMARGNOW_CMARG k.val)) = true →
      Completes (.boundaryWindow k w) s fun u =>
        u.q (Fin.ofNat 16 k.val) = (if (s.atTime w.t).entryDue k then rest else e :: rest)
        ∧ u.g (F.RAIL_REFNOW_VCMD k.val) = (if (s.atTime w.t).entryDue k ∧ s.dev ≠ .lockdown then e.data.toNat / 65536
            else s.g (F.RAIL_REFNOW_VCMD k.val))
        ∧ (u.ra k).gr.x = (s.codesOf k w).sum * 128 / (8 * framesOf (s.rate k.val) : Nat) ∧ u.st k = .off)
  ∧ (∀ (s : State) (k : Fin 8) (w : WindowIn), s.dev ≠ .off → s.dev ≠ .boot → s.moving k = false →
      Completes (.boundaryWindow k w) s fun u =>
        let a := latchCodes k w.icode (latchX k w (holdNodes k .outside
          (routerEvent (0xD0 + k.val) (plateBase 0 k.val (s.atTime w.t)))))
        let b := if a.enabled k then outerStep k (dueStep k a) else dueStep k a
        u = windowWork k .outside w.ephBad (decidePG k false (faultTimers k false b).2 (faultTimers k false b).1))
  ∧ (∀ (s : State) (k : Fin 8), s.enabled k = true →
      (s.exceeds k = false → (feTimer k s).1.g (F.OL_STATUS_FECNT k.val) = 0 ∧ (feTimer k s).2 = false)
      ∧ (s.exceeds k = true → s.g (F.OL_STATUS_FECNT k.val) + 1 < s.g (F.OL_FE_FETIME k.val) →
          (feTimer k s).1.g (F.OL_STATUS_FECNT k.val) = s.g (F.OL_STATUS_FECNT k.val) + 1 ∧ (feTimer k s).2 = false)
      ∧ (s.exceeds k = true → s.g (F.OL_FE_FETIME k.val) ≤ s.g (F.OL_STATUS_FECNT k.val) + 1 →
          (feTimer k s).1.g (F.OL_STATUS_FECNT k.val) = 0 ∧ (feTimer k s).2 = true))
  ∧ (∀ (s : State) (k : Fin 8), s.fnArmed (96 + k.val) = true → (s.ra k).pr.ovDone = false →
      (s.fnOut (96 + k.val) = true → ((ovTimer k s).1.ra k).pr.ov = (s.ra k).pr.ov + 1
        ∧ (ovTimer k s).2 = decide (s.g (F.FM_RAIL_PROT_OVDLY k.val) ≤ (s.ra k).pr.ov))
      ∧ (s.fnOut (96 + k.val) = false → ((ovTimer k s).1.ra k).pr.ov = 0 ∧ (ovTimer k s).2 = false))
  ∧ (∀ (s : State) (k : Fin 8), s.gb (F.GRAPH_CTL_COAST k.val) = true →
      (s.gb (F.GRAPH_STATUS_COASTING k.val) = false → (coastBoundary k s).gb (F.GRAPH_STATUS_COASTING k.val) = true
        ∧ (coastBoundary k s).g (F.GRAPH_STATUS_COASTN k.val) = 1)
      ∧ (s.gb (F.GRAPH_STATUS_COASTING k.val) = true →
          s.g (F.GRAPH_STATUS_COASTN k.val) < s.g (F.GRAPH_CTL_COASTLIM k.val) →
          (coastBoundary k s).gb (F.GRAPH_STATUS_COASTING k.val) = true
          ∧ (coastBoundary k s).g (F.GRAPH_STATUS_COASTN k.val)
            = incHold (F.GRAPH_STATUS_COASTN k.val).w (s.g (F.GRAPH_STATUS_COASTN k.val))))
  ∧ (∀ (s : State) (k : Fin 8), s.gb (F.GRAPH_CTL_COAST k.val) = false →
      (coastBoundary k s).gb (F.GRAPH_STATUS_COASTING k.val) = false)
  ∧ (∀ (s : State) (k : Fin 8) (x : CurrentIn) (i : Int), -2147483648 ≤ i → i ≤ 2147483647 →
      let u := publishTotals k x i s
      u.gi (F.OL_ITOT_ITOT k.val) = i ∧ (u.ra k).ol.inp = none
        ∧ (u.ra k).ol.droopR = scaled i (x.llr * 2 ^ 32 / 6400 : Nat) 32
        ∧ (u.ra k).ol.droopE = scaled i (x.llr * 2 ^ 31 / 2500 : Nat) 27
        ∧ (u.ra k).ol.out3 = low32 (i - s.gi (F.OL_ITOT_ITOT k.val)))
  ∧ (∀ (vl al jl g p v a : Int), 1 ≤ vl → profileStep 1 vl al jl g p v a
      = if g - p ≤ vl ∧ -vl ≤ g - p then (g, 0, 0, true) else (p + signInt (g - p) * vl, signInt (g - p) * vl, 0, false))
  ∧ (∀ (s : State) (k : Fin 8), (formRef k s).g (F.RAIL_REFNOW_REF k.val) = (clampInt
      (asr ((s.ra k).tr.p - (s.ra k).tr.meff) 16
        - (if s.g (F.OL_CTL_LLMODE k.val) = 1 then (s.ra k).ol.droopR else 0) - (s.ra k).tr.f)
      0 (s.g (F.RAIL_VLIM_VMAX k.val))).toNat)
  ∧ (∀ (s : State) (k : Fin 8) (w : WindowIn), s.dev = .off ∨ s.dev = .boot →
      Leaves (.boundaryWindow k w) s (s.atTime w.t))

/-- Where its condition holds, each declaration reports its own FID as the last one: RAILOV 07h once per episode of a
tripped armed overvoltage comparator, RAILUV 08h once per armed undervoltage episode, each marking the episode, which bars a
second declaration, FOLLOWERR 09h for an enabled rail whose sample exceeds the limit; where it does not hold, nothing changes. PG
asserts in ON with the sample in window and no fault timer running, deasserts out of window, and changes no phase, no queue and no
other rail.
The rows are the declarations themselves (log entry 10). -/
def Obligations.MonitorsDeclare : Prop :=
  (∀ (s : State) (k : Fin 8), s.core = true → s.fnArmed (96 + k.val) = true → s.fnOut (96 + k.val) = true →
      (s.ra k).pr.ovDone = false → Completes (.railov k) s fun u => u.g F.FM_STATUS_LASTFID = 7 ∧ (u.ra k).pr.ovDone = true)
  ∧ (∀ (s : State) (k : Fin 8), (s.ra k).pr.ovDone = true → Leaves (.railov k) s s)
  ∧ (∀ (s : State) (k : Fin 8), s.uvArm k = true → s.fnArmed (104 + k.val) = true → s.fnOut (104 + k.val) = true →
      (s.ra k).pr.uvDone = false → Completes (.railuv k) s fun u => u.g F.FM_STATUS_LASTFID = 8 ∧ (u.ra k).pr.uvDone = true)
  ∧ (∀ (s : State) (k : Fin 8), (s.ra k).pr.uvDone = true → Leaves (.railuv k) s s)
  ∧ (∀ (s : State) (k : Fin 8), s.uvArm k = false → Leaves (.railuv k) s s)
  ∧ (∀ (s : State) (k : Fin 8), s.enabled k = true → s.exceeds k = true → Completes (.followerr k) s fun u =>
      u.g F.FM_STATUS_LASTFID = 9)
  ∧ (∀ (s : State) (k : Fin 8), s.exceeds k = false → Leaves (.followerr k) s s)
  ∧ (∀ (s : State) (k : Fin 8), s.st k = .on → s.timers k = false → s.inWindow k = true →
      Completes (.pgAssert k) s fun u => u.gb (F.RAIL_TSTAT_PG k.val) = true ∧ u.phase = s.phase ∧ u.queue = s.queue
        ∧ ∀ j, j ≠ k → u.ra j = s.ra j)
  ∧ (∀ (s : State) (k : Fin 8), s.timers k = false → s.inWindow k = false → Completes (.pgDeassert k) s fun u =>
      u.gb (F.RAIL_TSTAT_PG k.val) = false ∧ u.phase = s.phase ∧ u.queue = s.queue ∧ ∀ j, j ≠ k → u.ra j = s.ra j)
  ∧ (∀ (s : State) (k : Fin 8), s.timers k = true → Leaves (.pgAssert k) s s ∧ Leaves (.pgDeassert k) s s)

/-- OCHIC 02h is declared against an enabled rail once RCONS has reached HICN. PHOC 03h is declared for a phase once CONSEC has
reached PHN while another ring phase ended normally, whether or not its rail is already going down: it adds one strike (here still
below the threshold) and, with class 1 or below, changes no phase. Without the condition nothing changes.
The rows are the declarations themselves (log entry 10). -/
def Obligations.OvercurrentDeclares : Prop :=
  (∀ (s : State) (k : Fin 8), s.enabled k = true → s.g (F.FM_RAIL_HIC_HICN k.val) ≤ s.g (F.FM_RAIL_STAT_RCONS k.val) →
      Completes (.ochic k) s fun u => u.g F.FM_STATUS_LASTFID = 2)
  ∧ (∀ (s : State) (k : Fin 8), s.enabled k = false → Leaves (.ochic k) s s)
  ∧ (∀ (s : State) (k : Fin 8), s.g (F.FM_RAIL_STAT_RCONS k.val) < s.g (F.FM_RAIL_HIC_HICN k.val) →
      Leaves (.ochic k) s s)
  ∧ (∀ (s : State) (n : Fin 48), (s.ph n).neighbour = true →
      s.g (F.FM_PH_CFG_PHN n.val) ≤ s.g (F.PHASE_LIMCNT_CONSEC n.val) →
      vget s.strikes.phase n + 1 < s.g (F.FM_STRIKE_STH 0) → s.classOf 3 none < 2 → Completes (.phoc n) s fun u =>
        u.g F.FM_STATUS_LASTFID = 3 ∧ u.g (F.FM_PH_STAT_LASTFID n.val) = 3
        ∧ vget u.strikes.phase n = vget s.strikes.phase n + 1 ∧ (∀ m, m ≠ n → vget u.strikes.phase m = vget s.strikes.phase m)
        ∧ u.phase = s.phase)
  ∧ (∀ (s : State) (n : Fin 48), (s.ph n).neighbour = false → Leaves (.phoc n) s s)
  ∧ (∀ (s : State) (n : Fin 48), s.g (F.PHASE_LIMCNT_CONSEC n.val) < s.g (F.FM_PH_CFG_PHN n.val) → Leaves (.phoc n) s s)

/-- The shared response to a source of rail scope, for every FID and rail: classes 0 to 2 act as class 0 and leave the rail's
sequencing state (that the record then shows class 0 is the model's reading, log entry 83), class 3 takes an
enabled rail to HICCUP, or to LATCHED once its retries are used up, class 4 takes it to LATCHED, both with the FID in
LATFID and, outside the held-low response to RAILOV, every phase of its ring and tail at its off level; class 5 in STANDBY or RUN enters SAFE with the
FID in SAFEFID. PG reads 0 after each. A phase of a rail that RAILOV takes down is at its off level or held low. -/
def Obligations.ResponsesByClass : Prop :=
  ∀ (fid : Nat) (k : Fin 8) (s : State), fid < 0x20 → s.enabled k = true →
    (∀ c, c ≤ 2 → (railRespond fid c k s).1.st k = s.st k ∧ (railRespond fid c k s).2 = 0
      ∧ (railRespond fid c k s).1.phase = s.phase ∧ (railRespond fid c k s).1.gb (F.RAIL_TSTAT_PG k.val) = false)
    ∧ (s.hiccupClass k = 3 → (railRespond fid 3 k s).1.st k = .hiccup ∧ (railRespond fid 3 k s).2 = 3
      ∧ (railRespond fid 3 k s).1.g (F.FM_RAIL_STAT_LATFID k.val) = fid
      ∧ (railRespond fid 3 k s).1.gb (F.RAIL_TSTAT_PG k.val) = false
      ∧ ∀ n ∈ s.ringTail k, ((railRespond fid 3 k s).1.ph n).out = .off
          ∨ fid = 7 ∧ ((railRespond fid 3 k s).1.ph n).out = .low)
    ∧ (s.hiccupClass k = 4 → (railRespond fid 3 k s).1.st k = .latched ∧ (railRespond fid 3 k s).2 = 4
      ∧ (railRespond fid 3 k s).1.gb (F.RAIL_TSTAT_PG k.val) = false)
    ∧ ((railRespond fid 4 k s).1.st k = .latched ∧ (railRespond fid 4 k s).2 = 4
      ∧ (railRespond fid 4 k s).1.g (F.FM_RAIL_STAT_LATFID k.val) = fid
      ∧ (railRespond fid 4 k s).1.gb (F.RAIL_TSTAT_PG k.val) = false
      ∧ ∀ n ∈ s.ringTail k, ((railRespond fid 4 k s).1.ph n).out = .off
          ∨ fid = 7 ∧ ((railRespond fid 4 k s).1.ph n).out = .low)
    ∧ (s.dev = .standby ∨ s.dev = .run → (railRespond fid 5 k s).1.dev = .safe ∧ (railRespond fid 5 k s).2 = 5
      ∧ (railRespond fid 5 k s).1.g F.FM_STATUS_SAFEFID = fid
      ∧ (railRespond fid 5 k s).1.gb (F.RAIL_TSTAT_PG k.val) = false)

/-! ### Lanes, graphs, outer loops and the Ephemeris -/

/-- A slot of a rail that computes, with a graph of one OUT stage fed from a latched source, leaves y at the source plus the stage's state,
and on a marked sample at the y applied before, and consumes the mark; a stage of each other type before the OUT stage forms its
output and its states as R146 gives them, and y is that output plus the OUT stage's state. Held, it keeps the y applied, counts the held sample
for rail and lane, and adds two parity counts and two strikes (while these stay below the threshold and the class is 3 or below); an
error in the transfer of y alone holds the sample with one of each; a replay counts one of each, the replay, and where it
corrected a store copy that correction (counting it: the model's deduction, log entry 24), and holds nothing. Without its
end-of-work marker (class 3 or below, a spare lane free) the lane retires and the rail is sent to the same half of the
spare. While the rail coasts, a clean slot changes nothing, errors add their counts and strikes and lose the slice's
results alone, and a missing marker retires the lane as well (the model's deduction, log entry 130). A rail that no lane serves is
left as it is. -/
def Obligations.LaneSlotsCompute : Prop :=
  (∀ (s : State) (k : Fin 8) (m : Fin 5) (c d : Nat), s.computes k = some m → s.nstage k.val = 1 →
      s.stage k.val 0 = (0xA, 0, c, d) → 16 ≤ c → s.gb (F.GRAPH_STATUS_SELNOW k.val) = false →
      Completes (.laneSlot k .clean) s fun u => (u.ra k).gr.mark = false
        ∧ (u.ra k).gr.y = (if (s.ra k).gr.mark then s.word (A.GRAPH_YOUT k.val)
            else BitVec.ofInt 32 (low32 (s.source k c + (vget (vget (s.ra k).gr.st 0) 0).toInt)))
        ∧ (∀ j, j ≠ k → u.ra j = s.ra j) ∧ u.phase = s.phase ∧ u.queue = s.queue)
  ∧ (∀ (s : State) (k : Fin 8) (m : Fin 5) (typ c d e : Nat) (v : Int) (z : Vector (BitVec 32) 4), s.computes k = some m →
      s.nstage k.val = 2 → s.stage k.val 0 = (typ, 0, c, d) → 16 ≤ c → 16 ≤ d → s.stage k.val 1 = (0xA, 0, 0, e) → 16 ≤ e →
      s.gb (F.GRAPH_STATUS_SELNOW k.val) = false → (s.ra k).gr.mark = false →
      (let a := s.source k c; let b := s.source k d; let z0 := vget (s.ra k).gr.st 0
       let i := fun (j : Fin 4) => (vget z0 j).toInt; let w := fun (x : Int) => BitVec.ofInt 32 x
       let h := fun (j : Nat) => getBits (s.word (A.GRAPH_STG_SHIFT k.val 0)) (6 * j) 6
       let g := fun (x : Int) (j : Nat) => scaled x (s.gi (F.GRAPH_STG_COEF_COEF k.val 0 j)) (h j)
       match typ with
       | 1 => v = g a 0 ∧ z = z0
       | 2 => v = low32 (if s.gb (F.GRAPH_STG_DESC_NEGB k.val 0) then a - b else a + b) ∧ z = z0
       | 3 => v = low32 (g a 0 + g b 1) ∧ z = z0
       | 4 => v = low32 (i 0 + g a 0) ∧ z = vset z0 0 (w v)
       | 5 => v = i 0 ∧ z = vset z0 0 (w a)
       | 6 => v = g (low32 (a - i 0)) 0 ∧ z = vset z0 0 (w a)
       | 7 => v = low32 (g a 0 + g (i 0) 1 + g (i 1) 2) ∧ z = vset (vset z0 0 (w a)) 1 (w v)
       | 8 => v = low32 (g a 0 + g (i 0) 1 + g (i 1) 2 + g (i 2) 3 + g (i 3) 4)
         ∧ z = #v[w a, vget z0 0, w v, vget z0 2]
       | 9 => v = low32 (asr (a * b) (h 0)) ∧ z = z0
       | _ => False) →
      Completes (.laneSlot k .clean) s fun u => vget (u.ra k).gr.st 0 = z
        ∧ (u.ra k).gr.y = BitVec.ofInt 32 (low32 ((BitVec.ofInt 32 v).toInt + (vget (vget (s.ra k).gr.st 1) 0).toInt))
        ∧ (∀ j, j ≠ k → u.ra j = s.ra j) ∧ u.phase = s.phase)
  ∧ (∀ (s : State) (k : Fin 8) (m : Fin 5), s.computes k = some m → s.classOf 0x16 none < 4 →
      vget s.strikes.lane m + 2 < s.g (F.FM_STRIKE_STH 3) → Completes (.laneSlot k .held) s fun u =>
        (u.ra k).gr.y = s.word (A.GRAPH_YOUT k.val) ∧ (u.ra k).ol.spoiled = true
        ∧ u.g (F.GRAPH_CNT_HELD k.val) = incHold 16 (s.g (F.GRAPH_CNT_HELD k.val))
        ∧ u.g (F.LANE_CNT_HELD m.val) = incHold 16 (s.g (F.LANE_CNT_HELD m.val))
        ∧ u.g (F.LANE_CNT_PARITY m.val) = incHold 16 (incHold 16 (s.g (F.LANE_CNT_PARITY m.val)))
        ∧ vget u.strikes.lane m = vget s.strikes.lane m + 2 ∧ u.g F.FM_STATUS_LASTFID = 0x16)
  ∧ (∀ (s : State) (k : Fin 8) (m : Fin 5), s.computes k = some m → s.classOf 0x16 none < 4 →
      vget s.strikes.lane m + 1 < s.g (F.FM_STRIKE_STH 3) → Completes (.laneSlot k .transfer) s fun u =>
        (u.ra k).gr.y = s.word (A.GRAPH_YOUT k.val)
        ∧ u.g (F.GRAPH_CNT_HELD k.val) = incHold 16 (s.g (F.GRAPH_CNT_HELD k.val))
        ∧ u.g (F.LANE_CNT_HELD m.val) = incHold 16 (s.g (F.LANE_CNT_HELD m.val))
        ∧ u.g (F.LANE_CNT_PARITY m.val) = incHold 16 (s.g (F.LANE_CNT_PARITY m.val))
        ∧ vget u.strikes.lane m = vget s.strikes.lane m + 1)
  ∧ (∀ (s : State) (k : Fin 8) (m : Fin 5) (fix : Bool), s.computes k = some m → s.classOf 0x16 none < 4 →
      s.laneRet m.val = false → vget s.strikes.lane m + 1 < s.g (F.FM_STRIKE_STH 3) →
      Completes (.laneSlot k (if fix then .corrected else .replayed)) s fun u =>
        u.g (F.GRAPH_CNT_REPLAY k.val) = incHold (F.GRAPH_CNT_REPLAY k.val).w (s.g (F.GRAPH_CNT_REPLAY k.val))
        ∧ u.g (F.GRAPH_CNT_HELD k.val) = s.g (F.GRAPH_CNT_HELD k.val)
        ∧ u.g (F.LANE_CNT_PARITY m.val) = incHold 16 (s.g (F.LANE_CNT_PARITY m.val))
        ∧ u.g F.LE_STORE_CORR = (if fix then incHold 16 (s.g F.LE_STORE_CORR) else s.g F.LE_STORE_CORR)
        ∧ vget u.strikes.lane m = vget s.strikes.lane m + 1 ∧ (u.ra k).gr.mark = false)
  ∧ (∀ (s : State) (k : Fin 8) (m sp : Fin 5) (h : Bool), s.computes k = some m → (s.ra k).gr.place = some (m, h) →
      (s.ra k).gr.moveTo = none → s.laneRet m.val = false → s.spareLane = some sp → s.classOf 0x16 none < 4 →
      Completes (.laneSlot k .noMarker) s fun u => u.laneRet m.val = true ∧ (u.ra k).gr.moveTo = some (sp, h)
        ∧ u.g F.FM_STATUS_LASTFID = 0x16)
  ∧ (∀ (s : State) (k : Fin 8) (m : Fin 5), s.coastLane k = some m → Leaves (.laneSlot k .clean) s s)
  ∧ (∀ (s : State) (k : Fin 8) (m : Fin 5), s.coastLane k = some m → s.classOf 0x16 none < 4 →
      vget s.strikes.lane m + 2 < s.g (F.FM_STRIKE_STH 3) → Completes (.laneSlot k .held) s fun u =>
        (u.ra k).gr = (s.ra k).gr ∧ (u.ra k).ol.spoiled = true ∧ (u.ra k).ol.spoiledH = true
        ∧ u.g (F.GRAPH_CNT_HELD k.val) = s.g (F.GRAPH_CNT_HELD k.val)
        ∧ u.g (F.LANE_CNT_HELD m.val) = s.g (F.LANE_CNT_HELD m.val)
        ∧ u.g (F.LANE_CNT_PARITY m.val) = incHold 16 (incHold 16 (s.g (F.LANE_CNT_PARITY m.val)))
        ∧ vget u.strikes.lane m = vget s.strikes.lane m + 2 ∧ u.g F.FM_STATUS_LASTFID = 0x16)
  ∧ (∀ (s : State) (k : Fin 8) (m sp : Fin 5) (h : Bool), s.coastLane k = some m → (s.ra k).gr.place = some (m, h) →
      (s.ra k).gr.moveTo = none → s.laneRet m.val = false → s.spareLane = some sp → s.classOf 0x16 none < 4 →
      Completes (.laneSlot k .noMarker) s fun u => u.laneRet m.val = true ∧ (u.ra k).gr.moveTo = some (sp, h)
        ∧ (u.ra k).gr.y = (s.ra k).gr.y ∧ u.g F.FM_STATUS_LASTFID = 0x16)
  ∧ (∀ (s : State) (k : Fin 8) (o : SlotOutcome), s.computes k = none → s.coastLane k = none → Leaves (.laneSlot k o) s s)

/-- A passed self test of an idle or spare lane sets TESTOK alone; a failed one (class 3 or below) retires the lane. Once the
programs are copied, exactly the rails on their way to that lane may be taken over. A scrub without a loss adds its corrections to
CORR, holding at the maximum; with words of one rail lost in both copies the last fault is GRAPHLOST (0Eh). COAST's expiry clears COAST and
COASTING, sets COASTEXP and marks the next sample, and touches no other rail. -/
def Obligations.LaneTestsAndMoves : Prop :=
  (∀ (s : State) (m : Fin 5), s.core = true → s.laneRet m.val = false → s.laneBusy m = false →
      Completes (.laneSelfTest m true) s fun u => u.gb (F.LANE_STATUS_TESTOK m.val) = true
        ∧ OnlyWords u s [A.LANE_STATUS m.val])
  ∧ (∀ (s : State) (m : Fin 5), s.core = true → s.laneRet m.val = false → s.laneBusy m = false →
      s.classOf 0x16 none < 4 → Completes (.laneSelfTest m false) s fun u => u.laneRet m.val = true
        ∧ u.g F.FM_STATUS_LASTFID = 0x16 ∧ u.rail = s.rail ∧ u.phase = s.phase)
  ∧ (∀ (s : State) (m : Fin 5) (ok : Bool), s.laneRet m.val = true → Leaves (.laneSelfTest m ok) s s)
  ∧ (∀ (s : State) (m : Fin 5), Completes (.laneMoveCopyDone m) s fun u => u = { s with rail := u.rail }
      ∧ ∀ k, u.ra k = (if ∃ h, (s.ra k).gr.moveTo = some (m, h) then
          { s.ra k with gr := { (s.ra k).gr with copied := true } } else s.ra k))
  ∧ (∀ (s : State) (n : BitVec 16), s.core = true → Completes (.graphStoreScrub n (.replicate 8 0)) s fun u =>
      u.g F.LE_STORE_CORR = min (s.g F.LE_STORE_CORR + n.toNat) 0xFFFF ∧ u.g F.LE_STORE_LOST = s.g F.LE_STORE_LOST
      ∧ OnlyWords u s [A.LE_STORE])
  ∧ (∀ (s : State) (n : BitVec 16) (k : Fin 8) (l : Nat), s.core = true → l ≠ 0 →
      Completes (.graphStoreScrub n ((Vector.replicate 8 0).set k.val l)) s fun u =>
        u.g F.FM_STATUS_LASTFID = 0x0E)
  ∧ (∀ (s : State) (k : Fin 8), s.enabled k = true → s.gb (F.GRAPH_STATUS_COASTING k.val) = true →
      Completes (.coastExpiry k) s fun u => u.gb (F.GRAPH_CTL_COAST k.val) = false
        ∧ u.gb (F.GRAPH_STATUS_COASTING k.val) = false ∧ u.gb (F.GRAPH_STATUS_COASTEXP k.val) = true
        ∧ (u.ra k).gr.mark = true ∧ (∀ j, j ≠ k → u.ra j = s.ra j)
        ∧ OnlyWords { u with rail := s.rail } s [A.GRAPH_CTL k.val, A.GRAPH_STATUS k.val])
  ∧ (∀ (s : State) (k : Fin 8), s.gb (F.GRAPH_STATUS_COASTING k.val) = false → Leaves (.coastExpiry k) s s)

/-- The silence of an endpoint that reported sets HZTOUT and takes M to 0 at the next window, on an enabled rail with Horizon
enabled; otherwise nothing happens. A missing period message or edge sets ELOST where the check is on, alone. With PSRC 2, an
edge is remembered and zeroes the position at the next boundary; two edges within range give T, their interval in whole ns, and
clear ELOST. A write of ECLR that the checks let through has the table cleared at the next boundary. -/
def Obligations.HorizonAndEphemeris : Prop :=
  (∀ (s : State) (k : Fin 8), s.enabled k = true → s.gb (F.OL_HZCTL_HZEN k.val) = true → (s.ra k).ol.reported ≠ 0 →
      Completes (.horizonTimeout k) s fun u => u.gb (F.OL_STATUS_HZTOUT k.val) = true ∧ (u.ra k).ol.mZero = (s.ra k).ol.mZero ++ [s.clock]
        ∧ (∀ j, j ≠ k → u.ra j = s.ra j) ∧ OnlyWords { u with rail := s.rail } s [A.OL_STATUS k.val])
  ∧ (∀ (s : State) (k : Fin 8), (s.ra k).ol.reported = 0 → Leaves (.horizonTimeout k) s s)
  ∧ (∀ (s : State) (k : Fin 8), s.core = true → s.g (F.EPH_CTL_PSRC k.val) ≠ 1 → s.g (F.EPH_PER_EPTO k.val) ≠ 0 →
      Completes (.ephemerisPeriodTimeout k) s fun u => u.gb (F.EPH_STATUS_ELOST k.val) = true
        ∧ OnlyWords u s [A.EPH_STATUS k.val])
  ∧ (∀ (s : State) (k : Fin 8), s.g (F.EPH_PER_EPTO k.val) = 0 → Leaves (.ephemerisPeriodTimeout k) s s)
  ∧ (∀ (s : State) (k : Fin 8) (t : BitVec 52), s.core = true → s.g (F.EPH_CTL_PSRC k.val) = 2 → (s.ra k).ep.edge = none →
      Leaves (.ephemerisPeriodEdge k t) s (s.modEp k fun e => { e with edge := some t.toNat, zero := true }))
  ∧ (∀ (s : State) (k : Fin 8) (t : BitVec 52) (o : Nat), s.core = true → s.g (F.EPH_CTL_PSRC k.val) = 2 →
      (s.ra k).ep.edge = some o → o ≤ t.toNat → 16 * s.ts k.val ≤ ((t.toNat - o) * 5 + 32) / 64 →
      ((t.toNat - o) * 5 + 32) / 64 ≤ 16777215 → Completes (.ephemerisPeriodEdge k t) s fun u =>
        u.g (F.EPH_TNOW_TNOW k.val) = ((t.toNat - o) * 5 + 32) / 64 ∧ (u.ra k).ep.t = some (((t.toNat - o) * 5 + 32) / 64)
        ∧ u.gb (F.EPH_STATUS_ELOST k.val) = false ∧ (u.ra k).ep.edge = some t.toNat ∧ (u.ra k).ep.zero = true)
  ∧ (∀ (s : State) (k : Fin 8) (t : BitVec 52), s.g (F.EPH_CTL_PSRC k.val) ≠ 2 → Leaves (.ephemerisPeriodEdge k t) s s)
  ∧ (∀ (s : State) (m : Master) (k : Fin 8),
      judge m (A.EPH_CTL k.val) (s.withField (F.EPH_CTL_ECLR k.val) 1) s = .ok →
      Completes (.ephemerisClear m k) s fun u => (u.ra k).ep.clear = true ∧ u.phase = s.phase ∧ u.queue = s.queue)

/-! ### Comparators, converters, strikes and temperature -/

/-- A crossing of an armed comparator of a function whose change has no further effect here (below 96 with no late low side, 104 to 111,
119, an overvoltage function that trips, 112 to 116 when they release)
takes OUT, and a rise sets LATCHED; an overcurrent trip of a phase that is not high, late after its high level and not under the on-time
model, is reported as HSSHORT (04h). Function 96+k releasing ends the low side an overvoltage disable holds on a rail that is not
enabled; 112 asserts PFW with cause 2, a feed's undervoltage (117, 118) with cause 1 where the other feed is not present, in BOOT neither;
113 in INRUSH or ON marks the input overvoltage; 114 turns the hot-swap FET off at once; a reverse detector (115, 116) turns its feed's
gate off, counted. An unarmed comparator shows no crossing. A write of ARM = 1 that the checks let through sets ARM. The end of arming records both readings, sets
ARMED, and OUT from the side of the input, in band as tripped for the overvoltage and input functions alone, with INBAND. A write
of ARM = 0 disarms at once, OUT 0 and LATCHED kept. A clear of LATCHED is refused with
CLRREFUSED while OUT is 1. -/
def Obligations.ComparatorsCrossArmAndLatch : Prop :=
  (∀ (s : State) (c : Fin 128) (o late : Bool), s.core = true → s.gb (F.CMP_STATUS_ARMED c.val) = true →
      s.gb (F.CMP_STATUS_OUT c.val) = !o → s.g (F.CMP_CTL_FUNC c.val) < 96 ∧ late = false
        ∨ 104 ≤ s.g (F.CMP_CTL_FUNC c.val) ∧ s.g (F.CMP_CTL_FUNC c.val) < 112 ∨ s.g (F.CMP_CTL_FUNC c.val) = 119
        ∨ 96 ≤ s.g (F.CMP_CTL_FUNC c.val) ∧ s.g (F.CMP_CTL_FUNC c.val) < 104 ∧ o = true
        ∨ 112 ≤ s.g (F.CMP_CTL_FUNC c.val) ∧ s.g (F.CMP_CTL_FUNC c.val) < 117 ∧ o = false →
      Completes (.comparatorCrossing c o late) s fun u => u.gb (F.CMP_STATUS_OUT c.val) = o
        ∧ u.gb (F.CMP_STATUS_LATCHED c.val) = (s.gb (F.CMP_STATUS_LATCHED c.val) || o) ∧ u.phase = s.phase
        ∧ u.rail = s.rail ∧ u.queue = s.queue)
  ∧ (∀ (s : State) (n : Fin 48), s.core = true → s.gb (F.CMP_STATUS_ARMED n.val) = true →
      s.gb (F.CMP_STATUS_OUT n.val) = false → s.g (F.CMP_CTL_FUNC n.val) = n.val → s.servedBy n.val = n.val →
      (s.ph n).out ≠ .high → s.onModel n.val = false → Completes (.comparatorCrossing ⟨n.val, by omega⟩ true true) s fun u =>
        u.g F.FM_STATUS_LASTFID = 4)
  ∧ (∀ (s : State) (c : Fin 128) (k : Fin 8) (late : Bool), s.core = true → s.gb (F.CMP_STATUS_ARMED c.val) = true →
      s.gb (F.CMP_STATUS_OUT c.val) = true → s.g (F.CMP_CTL_FUNC c.val) = 96 + k.val → s.servedBy (96 + k.val) = c.val →
      (s.ra k).pr.ovLow = true → s.enabled k = false → Completes (.comparatorCrossing c false late) s fun u =>
        u.gb (F.CMP_STATUS_OUT c.val) = false ∧ (u.ra k).pr.ovLow = false
        ∧ ∀ n : Fin 48, if s.railOf n.val = some k ∧ s.phRuns n = false then (u.ph n).out = .off else (u.ph n).out = (s.ph n).out)
  ∧ (∀ (s : State) (c : Fin 128) (late : Bool), s.core = true → s.dev ≠ .boot → s.gb (F.CMP_STATUS_ARMED c.val) = true →
      s.gb (F.CMP_STATUS_OUT c.val) = false → s.g (F.CMP_CTL_FUNC c.val) = 112 → s.servedBy 112 = c.val →
      s.pfw = false → bitAt (s.g F.PT_PFW_PFWSRC) 1 = true → Completes (.comparatorCrossing c true late) s fun u =>
        u.gb F.PT_STATUS_PFWNOW = true ∧ u.g F.PT_STATUS_PFWCAUSE = 2 ∧ u.gb (F.CMP_STATUS_LATCHED c.val) = true)
  ∧ (∀ (s : State) (c : Fin 128) (late : Bool), s.core = true → s.gb (F.CMP_STATUS_ARMED c.val) = true →
      s.gb (F.CMP_STATUS_OUT c.val) = false → s.g (F.CMP_CTL_FUNC c.val) = 113 → s.servedBy 113 = c.val →
      Completes (.comparatorCrossing c true late) s fun u =>
        u.pt.inov = (s.pt.inov || s.ptSt == 2 || s.ptSt == 3) ∧ u.gb (F.CMP_STATUS_OUT c.val) = true ∧ u.np = s.np)
  ∧ (∀ (s : State) (c : Fin 128) (late : Bool), s.core = true → s.gb (F.CMP_STATUS_ARMED c.val) = true →
      s.gb (F.CMP_STATUS_OUT c.val) = false → s.g (F.CMP_CTL_FUNC c.val) = 114 → s.servedBy 114 = c.val →
      s.np.hs = true → s.pt.inCharge = true → Completes (.comparatorCrossing c true late) s fun u =>
        u.np.hs = false ∧ u.pt.fast = true ∧ u.gb (F.CMP_STATUS_OUT c.val) = true)
  ∧ (∀ (s : State) (c : Fin 128) (b : Fin 2) (late : Bool), s.core = true → s.gb (F.CMP_STATUS_ARMED c.val) = true →
      s.gb (F.CMP_STATUS_OUT c.val) = false → s.g (F.CMP_CTL_FUNC c.val) = 115 + b.val → s.servedBy (115 + b.val) = c.val →
      vget s.np.gate b = true → Completes (.comparatorCrossing c true late) s fun u =>
        vget u.np.gate b = false ∧ u.gb (if b = 0 then F.PT_STATUS_REVA else F.PT_STATUS_REVB) = true
        ∧ u.g F.PT_CNT_REVOFF = incHold F.PT_CNT_REVOFF.w (s.g F.PT_CNT_REVOFF) ∧ u.np.hs = s.np.hs)
  ∧ (∀ (s : State) (c : Fin 128) (b : Fin 2) (late : Bool), s.core = true → s.dev ≠ .boot →
      s.gb (F.CMP_STATUS_ARMED c.val) = true → s.gb (F.CMP_STATUS_OUT c.val) = false →
      s.g (F.CMP_CTL_FUNC c.val) = 117 + b.val → s.servedBy (117 + b.val) = c.val → s.pfw = false →
      bitAt (s.g F.PT_PFW_PFWSRC) 0 = true → s.feed b = true → s.feed (otherFeed b) = false →
      Completes (.comparatorCrossing c true late) s fun u =>
        u.gb F.PT_STATUS_PFWNOW = true ∧ u.g F.PT_STATUS_PFWCAUSE = 1)
  ∧ (∀ (s : State) (c : Fin 128) (o late : Bool), s.gb (F.CMP_STATUS_ARMED c.val) = false →
      Leaves (.comparatorCrossing c o late) s s)
  ∧ (∀ (s : State) (m : Master) (c : Fin 128), judge m (A.CMP_CTL c.val) (s.withField (F.CMP_CTL_ARM c.val) 1) s = .ok →
      Completes (.cmpArm m c) s fun u => u.gb (F.CMP_CTL_ARM c.val) = true
        ∧ u.gb (F.CMP_STATUS_ARMED c.val) = s.gb (F.CMP_STATUS_ARMED c.val) ∧ u.phase = s.phase ∧ u.queue = s.queue)
  ∧ (∀ (s : State) (c : Fin 128) (v d : BitVec 12), s.core = true → s.gb (F.CMP_CTL_ARM c.val) = true →
      s.gb (F.CMP_STATUS_ARMED c.val) = false → s.gb (F.CMP_STATUS_RETIRED c.val) = false →
      Completes (.cmpArmed c v d) s fun u => u.gb (F.CMP_STATUS_ARMED c.val) = true
        ∧ u.g (F.CMP_RDBK_VINRB c.val) = v.toNat ∧ u.g (F.CMP_RDBK_DACRB c.val) = d.toNat
        ∧ u.gb (F.CMP_STATUS_OUT c.val) = (s.side c.val v.toNat d.toNat).getD (armsTripped (s.g (F.CMP_CTL_FUNC c.val)))
        ∧ (s.side c.val v.toNat d.toNat = none → u.gb (F.CMP_STATUS_INBAND c.val) = true))
  ∧ (∀ (s : State) (c : Fin 128) (v d : BitVec 12), s.gb (F.CMP_CTL_ARM c.val) = false → Leaves (.cmpArmed c v d) s s)
  ∧ (∀ (s : State) (m : Master) (c : Fin 128), judge m (A.CMP_CTL c.val) (s.withField (F.CMP_CTL_ARM c.val) 0) s = .ok →
      s.gb (F.CMP_CTL_ARM c.val) = true →
      Completes (.cmpDisarm m c) s fun u => u.gb (F.CMP_CTL_ARM c.val) = false
        ∧ u.gb (F.CMP_STATUS_ARMED c.val) = false ∧ u.gb (F.CMP_STATUS_OUT c.val) = false
        ∧ u.gb (F.CMP_STATUS_LATCHED c.val) = s.gb (F.CMP_STATUS_LATCHED c.val))
  ∧ (∀ (s : State) (m : Master) (c : Fin 128), judge m (A.CMP_STATUS c.val) (BitVec.ofNat 32
        (2 ^ (F.CMP_STATUS_LATCHED c.val).lo)) s = .ok → Completes (.cmpLatchClear m c) s fun u =>
      if s.gb (F.CMP_STATUS_OUT c.val) then u.gb (F.CMP_STATUS_CLRREFUSED c.val) = true
        ∧ u.gb (F.CMP_STATUS_LATCHED c.val) = s.gb (F.CMP_STATUS_LATCHED c.val)
      else u.gb (F.CMP_STATUS_LATCHED c.val) = false)

/-- For a phase function, a DAC readback within 16 codes only records the readings; one beyond 16 and within 64 adds a strike (below the
threshold, class 3 or below); one beyond 64, or a failed sweep of a free spare, retires the comparator, which serves no other kind of function, and reports COMPFAIL (14h). A substitution puts the lowest free
spare in the function's place with its threshold and ends the interim cover. A converter within 32 codes of the main one keeps its
history free of a disagreement. The spare converter takes a retired one's group once.
A group whose every phase reads an end code retires its converter with ICFAIL (15h), here with a spare left. The operand that says so is the model's choice (log entry 21). -/
def Obligations.ChannelsAreCheckedAndReplaced : Prop :=
  (∀ (s : State) (c : Fin 128) (v d : BitVec 12) (ok : Bool), s.core = true → s.gb (F.CMP_STATUS_RETIRED c.val) = false →
      s.g (F.CMP_CTL_FUNC c.val) < 96 → ((d.toNat : Int) - 4 * s.g (F.CMP_DAC_DACNOW c.val)).natAbs ≤ 16 →
      Completes (.comparatorCheck c v d ok) s fun u => u.g (F.CMP_RDBK_VINRB c.val) = v.toNat
        ∧ u.g (F.CMP_RDBK_DACRB c.val) = d.toNat ∧ OnlyWords u s [A.CMP_RDBK c.val])
  ∧ (∀ (s : State) (c : Fin 128) (v d : BitVec 12) (ok : Bool), s.core = true → s.gb (F.CMP_STATUS_RETIRED c.val) = false →
      s.gb (F.CMP_STATUS_ARMED c.val) = true → s.g (F.CMP_CTL_FUNC c.val) < 96 →
      16 < ((d.toNat : Int) - 4 * s.g (F.CMP_DAC_DACNOW c.val)).natAbs →
      ((d.toNat : Int) - 4 * s.g (F.CMP_DAC_DACNOW c.val)).natAbs ≤ 64 →
      vget s.strikes.cmp c + 1 < s.g (F.FM_STRIKE_STH 1) → s.classOf 0x14 none < 4 →
      Completes (.comparatorCheck c v d ok) s fun u => vget u.strikes.cmp c = vget s.strikes.cmp c + 1
        ∧ u.g (F.CMP_STATUS_STRIKES c.val) = vget s.strikes.cmp c + 1 ∧ u.gb (F.CMP_STATUS_RETIRED c.val) = false
        ∧ u.g F.FM_STATUS_LASTFID = 0x14)
  ∧ (∀ (s : State) (c : Fin 128) (v d : BitVec 12) (ok : Bool), s.core = true → s.gb (F.CMP_STATUS_RETIRED c.val) = false →
      s.gb (F.CMP_STATUS_ARMED c.val) = true → s.g (F.CMP_CTL_FUNC c.val) < 96 →
      64 < ((d.toNat : Int) - 4 * s.g (F.CMP_DAC_DACNOW c.val)).natAbs → s.classOf 0x14 none < 4 →
      (∀ f : Fin 120, s.servedBy f.val = c.val → f.val < 96) →
      Completes (.comparatorCheck c v d ok) s fun u => u.gb (F.CMP_STATUS_RETIRED c.val) = true
        ∧ u.g F.FM_STATUS_LASTFID = 0x14)
  ∧ (∀ (s : State) (c : Fin 128) (v d : BitVec 12), s.core = true → s.gb (F.CMP_STATUS_RETIRED c.val) = false →
      120 ≤ c.val → s.g (F.CMP_CTL_FUNC c.val) = 0x7F → s.gb (F.CMP_STATUS_ARMED c.val) = false →
      s.classOf 0x14 none < 4 → (∀ f : Fin 120, s.servedBy f.val ≠ c.val) →
      Completes (.comparatorCheck c v d false) s fun u => u.gb (F.CMP_STATUS_RETIRED c.val) = true ∧ u.g F.FM_STATUS_LASTFID = 0x14)
  ∧ (∀ (s : State) (f : Fin 120) (c : Nat), s.core = true → s.servedBy f.val = 0xFF → s.spareCmp = some c →
      Completes (.comparatorSubstitution f) s fun u => u.servedBy f.val = c ∧ u.covered f.val = false
        ∧ u.g (F.CMP_CTL_FUNC c) = f.val ∧ u.word (A.CMP_DAC c) = s.word (A.CMP_DAC f.val) ∧ u.phase = s.phase)
  ∧ (∀ (s : State) (f : Fin 120), s.servedBy f.val ≠ 0xFF → Leaves (.comparatorSubstitution f) s s)
  ∧ (∀ (s : State) (i : Fin 7) (n : Fin 48) (a b : BitVec 12), s.core = true → bitAt (s.g F.FM_IC_ICRET) i.val = false →
      ((a.toNat : Int) - b.toNat).natAbs ≤ 32 → Leaves (.icCrosscheck i n a b false) s { s with chk := { s.chk with
        ic := vset s.chk.ic i ((none :: vget s.chk.ic i).take 16) } })
  ∧ (∀ (s : State) (i : Fin 7) (n : Fin 48) (a b : BitVec 12), s.core = true → bitAt (s.g F.FM_IC_ICRET) i.val = false →
      s.g F.FM_IC_ICSPARE ≠ i.val → s.g F.FM_IC_ICSPARE ≠ 7 → s.classOf 0x15 none < 4 → Completes (.icCrosscheck i n a b true) s fun u =>
        bitAt (u.g F.FM_IC_ICRET) i.val = true ∧ u.g F.FM_STATUS_LASTFID = 0x15)
  ∧ (∀ (s : State) (g : Fin 6), s.core = true → s.noConverter g.val = true → s.g F.FM_IC_ICSPARE ≠ 7 →
      Completes (.converterSubstitution g) s fun u => u.g F.FM_IC_GMAP / 8 ^ g.val % 8 = s.g F.FM_IC_ICSPARE
        ∧ u.g F.FM_IC_ICSPARE = 7 ∧ u.g F.FM_IC_ICRET = s.g F.FM_IC_ICRET ∧ u.rail = s.rail ∧ u.phase = s.phase)
  ∧ (∀ (s : State) (g : Fin 6), s.g F.FM_IC_ICSPARE = 7 → Leaves (.converterSubstitution g) s s)

/-- A strike that leaves the window takes one from its channel's count, which the phase's and the comparator's registers show, and
from no other channel's. A sensor whose reading has stayed at its shutdown threshold declares once per episode: the junction as 12h, a
stage or board sensor as 0Ch against the rails it affects; in an episode already declared nothing happens. -/
def Obligations.StrikesDecayAndHeatDeclares : Prop :=
  (∀ (s : State) (n : Fin 48), vget s.strikes.phase n ≤ 15 → Completes (.strikeDecay 0 ⟨n.val, by omega⟩) s fun u =>
      vget u.strikes.phase n = vget s.strikes.phase n - 1 ∧ u.g (F.FM_PH_STAT_STRIKES n.val) = vget s.strikes.phase n - 1
      ∧ (∀ m, m ≠ n → vget u.strikes.phase m = vget s.strikes.phase m) ∧ u.strikes.cmp = s.strikes.cmp
      ∧ OnlyWords { u with strikes := s.strikes } s [A.FM_PH_STAT n.val])
  ∧ (∀ (s : State) (c : Fin 128), vget s.strikes.cmp c ≤ 15 → Completes (.strikeDecay 1 c) s fun u =>
      vget u.strikes.cmp c = vget s.strikes.cmp c - 1 ∧ u.g (F.CMP_STATUS_STRIKES c.val) = vget s.strikes.cmp c - 1
      ∧ u.strikes.phase = s.strikes.phase)
  ∧ (∀ (s : State) (i : Fin 2), Leaves (.strikeDecay 4 ⟨i.val, by omega⟩) s { s with strikes := { s.strikes with
      pll := vset s.strikes.pll i (vget s.strikes.pll i - 1) } })
  ∧ (∀ (s : State) (i : Fin 128), 48 ≤ i.val → Leaves (.strikeDecay 0 i) s s)
  ∧ (∀ s : State, s.core = true → (vget s.conv.sensor 8).seen = true → (vget s.conv.sensor 8).valid = true →
      (vget s.conv.sensor 8).hot = true → (vget s.conv.sensor 8).done = false → Completes (.ots 8) s fun u =>
        (vget u.conv.sensor 8).done = true ∧ u.g F.FM_STATUS_LASTFID = 0x12)
  ∧ (∀ (s : State) (i : Fin 9) (k : Fin 8), i ≠ 8 → s.core = true → (vget s.conv.sensor i).seen = true →
      (vget s.conv.sensor i).valid = true → (vget s.conv.sensor i).hot = true → (vget s.conv.sensor i).done = false →
      s.affects i.val k = true → Completes (.ots i) s fun u =>
        (vget u.conv.sensor i).done = true ∧ u.g F.FM_STATUS_LASTFID = 0x0C)
  ∧ (∀ (s : State) (i : Fin 9), (vget s.conv.sensor i).done = true → Leaves (.ots i) s s)

/-! ### The Innkeeper -/

/-- An ACTIVE phase that has ended eight pulses in a row near zero under its rail's load is reported as OPENPHASE (05h) and retires
with cause 2 (class below 2); with fewer, or on a phase of no rail, nothing happens. An ACTIVE phase whose reading has stood at the rail of
its range for 64 conversions is marked blind, or, as the last sighted of its ring, SENSELOST (0Dh) is raised; with fewer nothing happens. On a phase
under test the same 64 are remembered for the result. A suspect of the thermal or of the sum test that fails is marked blind the same way,
and the test begins anew (the model's deduction, log entry 109); where the test has not failed or the phase is not the suspect nothing happens. -/
def Obligations.SensorsAreDeclared : Prop :=
  (∀ (s : State) (n : Fin 48) (k : Fin 8), s.railOf n.val = some k → s.enabled k = true → (s.rl n).role = .active →
      s.g (F.INK_OPEN_OPENLOAD k.val) ≠ 0 → 8 ≤ (s.rl n).near →
      s.g (F.PHASE_ROLE_RCAUSE n.val) = 0 → s.classOf 5 none < 2 → Completes (.openPhase n) s fun u =>
        u.g F.FM_STATUS_LASTFID = 5 ∧ u.g (F.PHASE_ROLE_RCAUSE n.val) = 2)
  ∧ (∀ (s : State) (n : Fin 48), s.railOf n.val = none → Leaves (.openPhase n) s s)
  ∧ (∀ (s : State) (n : Fin 48), (s.rl n).near < 8 → Leaves (.openPhase n) s s)
  ∧ (∀ (s : State) (n m : Fin 48) (k : Fin 8), s.railOf n.val = some k → (s.rl n).role = .active → s.blind n.val = false →
      64 ≤ (s.rl n).stuckN → m ∈ s.ring k → m ≠ n → s.sighted m = true → (s.rl m).role = .active →
      Completes (.blindDeclared n 0) s fun u =>
        u.gb (F.PHASE_ROLE_BLIND n.val) = true ∧ u.phase = s.phase ∧ u.rail = s.rail)
  ∧ (∀ (s : State) (n : Fin 48) (k : Fin 8), s.railOf n.val = some k → (s.rl n).role = .active → s.blind n.val = false →
      64 ≤ (s.rl n).stuckN → (∀ m ∈ s.ring k, m = n ∨ s.sighted m = false ∨ (s.rl m).role ≠ .active) →
      Completes (.blindDeclared n 0) s fun u => u.g F.FM_STATUS_LASTFID = 0x0D)
  ∧ (∀ (s : State) (n : Fin 48), (s.rl n).role = .test → 64 ≤ (s.rl n).stuckN → Leaves (.blindDeclared n 0) s
      (s.modRl n fun r => { r with stuck := true }))
  ∧ (∀ (s : State) (n : Fin 48), (s.rl n).stuckN < 64 → Leaves (.blindDeclared n 0) s s)
  ∧ (∀ (s : State) (n m : Fin 48) (k : Fin 8) (g : Fin 6) (a : Nat), s.railOf n.val = some k → (s.rl n).role = .active →
      s.blind n.val = false → g.val = groupOf n.val → s.tooWarm g.val = true → vget s.chk.warm g = some a →
      s.g F.INK_HCFG_TDWELL * 1280000000 ≤ elapsed a s.clock →
      s.suspect (fun m => s.inRing m && groupOf m.val == groupOf n.val) = some n →
      m ∈ s.ring k → m ≠ n → s.sighted m = true → (s.rl m).role = .active → Completes (.blindDeclared n 1) s fun u =>
        u.gb (F.PHASE_ROLE_BLIND n.val) = true ∧ vget u.chk.warm g = none ∧ u.phase = s.phase ∧ u.rail = s.rail)
  ∧ (∀ (s : State) (n : Fin 48), s.tooWarm (groupOf n.val) = false → Leaves (.blindDeclared n 1) s s)
  ∧ (∀ (s : State) (n m : Fin 48) (k : Fin 8), s.railOf n.val = some k → (s.rl n).role = .active → s.blind n.val = false →
      s.gb (F.INK_XSENSE_XEN k.val) = true → s.st k = .on → 8 ≤ (s.ra k).ink.sumBad → s.suspect (s.ring k).contains = some n →
      m ∈ s.ring k → m ≠ n → s.sighted m = true → (s.rl m).role = .active → Completes (.blindDeclared n 2) s fun u =>
        u.gb (F.PHASE_ROLE_BLIND n.val) = true ∧ (u.ra k).ink.sumBad = 0 ∧ u.phase = s.phase)
  ∧ (∀ (s : State) (n : Fin 48), (∀ k : Fin 8, (s.ra k).ink.sumBad < 8) → Leaves (.blindDeclared n 2) s s)

/-- Where nothing waits a ring rewrite changes nothing; a decision that waits on an enabled rail is formed in base order and waits for a
boundary. A forecast at its due instant is due, and late where the group of an added ACTIVE phase still wakes. Every second of STANDBY, RUN
and LOCKDOWN each existing phase's WEAR and WORN are evaluated. HEALTH_SAVE puts one write into Q15, or has it wait for room there.
The states in which wear is evaluated are the model's reading (log entry 54). -/
def Obligations.InnkeeperActs : Prop :=
  (∀ (s : State) (k : Fin 8), (s.ra k).ink.want = none → (s.ra k).ink.rewrite = none → s.retiring k = [] →
      Leaves (.ringRewrite k) s s)
  ∧ (∀ (s : State) (k : Fin 8) (l : List (Fin 48)), (s.ra k).ink.want = some l → s.retiring k = [] → s.enabled k = true →
      Completes (.ringRewrite k) s fun u => (u.ra k).ink.rewrite = some ((s.ra k).ink.base.filter fun n => l.contains n)
        ∧ (u.ra k).ink.want = none ∧ (u.ra k).md.seqPend = true ∧ u.gb (F.RAIL_MSTAT_SEQPEND k.val) = true
        ∧ u.role = s.role ∧ u.phase = s.phase)
  ∧ (∀ (s : State) (k : Fin 8), (s.ra k).md.fc = none → Leaves (.forecastDue k) s s)
  ∧ (∀ (s : State) (k : Fin 8) (f : Forecast), (s.ra k).md.fc = some f → Completes (.forecastDue k) s fun u =>
      (u.ra k).md.fc = some { f with due := true } ∧ (u.ra k).ink.fcPending = false ∧ (u.ra k).ink.fcAdded = []
      ∧ (u.ra k).ink.sinceDue = 0
      ∧ u.g (F.INK_CNT_FCLATE k.val) = (if (s.ra k).ink.fcAdded.any (fun n => (s.rl n).role == .active && !s.awake (groupOf n.val))
          then incHold 8 (s.g (F.INK_CNT_FCLATE k.val)) else s.g (F.INK_CNT_FCLATE k.val)))
  ∧ (∀ s : State, s.running = true → Completes .wearUpdate s fun u => ∀ n : Fin 48, s.exists_ n.val = true →
      u.g (F.PHASE_WEAR_WEAR n.val) = u.wearOf n.val
      ∧ u.gb (F.PHASE_ROLE_WORN n.val) = (s.g F.INK_WEARCFG_WEARMAX != 0
          && decide (s.g F.INK_WEARCFG_WEARMAX ≤ u.g (F.PHASE_WEAR_WEAR n.val))))
  ∧ (∀ s : State, s.running = false → Leaves .wearUpdate s s)
  ∧ (∀ s : State, s.core = true → Completes .healthSave s fun u => u.dev = s.dev ∧ u.nv =
      (if s.q15Len < 32 ∧ s.nv.waiting = [] then { s.nv with q15 := s.nv.q15 ++ [.health] }
        else { s.nv with waiting := s.nv.waiting ++ [.health] }))
  ∧ (∀ s : State, s.core = false → Leaves .healthSave s s)

/-- For a write of INK_REQ that the checks let through: under another epoch than the phase's, the request is stale (RESULT 3), counted, and no
role changes. Under its epoch, RETIRE of a phase neither retired nor unavailable sets cause 5; TEST of a phase that may be tested gives it role
TEST and ENDTEST of one under test gives its former role back, each with the next epoch, all with RESULT 1; where its condition does not hold a request has
RESULT 2 and changes no role. The end of a test that has run its TESTLEN boundaries does what ENDTEST does, before that nothing: with a stuck reading TESTRES is 3, else it
compares the mean of the readings with TESTIMIN; one of an earlier epoch is dropped and counted. -/
def Obligations.PhaseRequestsAndTests : Prop :=
  (∀ (s : State) (m : Master) (n : Fin 48) (e : BitVec 8), judge m A.INK_REQ (inkWord 1 n e) s = .ok → e ≠ (s.rl n).epoch →
      Completes (.retire m n e) s fun u => u.g F.INK_REQSTAT_RESULT = 3 ∧ u.g F.INK_REQSTAT_PHASE = n.val
        ∧ u.g (F.PHASE_STALE_STALE n.val) = incHold 16 (s.g (F.PHASE_STALE_STALE n.val)) ∧ u.role = s.role
        ∧ u.phase = s.phase ∧ u.rail = s.rail)
  ∧ (∀ (s : State) (m : Master) (n : Fin 48), judge m A.INK_REQ (inkWord 1 n (s.rl n).epoch) s = .ok →
      (s.rl n).role ≠ .retired → (s.rl n).role ≠ .unavailable → s.g (F.PHASE_ROLE_RCAUSE n.val) = 0 →
      Completes (.retire m n (s.rl n).epoch) s fun u => u.g F.INK_REQSTAT_RESULT = 1
        ∧ u.g F.INK_REQSTAT_PHASE = n.val ∧ u.g (F.PHASE_ROLE_RCAUSE n.val) = 5)
  ∧ (∀ (s : State) (m : Master) (n : Fin 48), judge m A.INK_REQ (inkWord 1 n (s.rl n).epoch) s = .ok →
      (s.rl n).role = .retired → Completes (.retire m n (s.rl n).epoch) s fun u => u.g F.INK_REQSTAT_RESULT = 2
        ∧ u.g F.INK_REQSTAT_PHASE = n.val ∧ OnlyWords u (accepted m A.INK_REQ (inkWord 1 n (s.rl n).epoch) s) [A.INK_REQ, A.INK_REQSTAT])
  ∧ (∀ (s : State) (m : Master) (n : Fin 48), judge m A.INK_REQ (inkWord 2 n (s.rl n).epoch) s = .ok →
      s.mayTest n = true → Completes (.test m n (s.rl n).epoch) s fun u => u.g F.INK_REQSTAT_RESULT = 1
        ∧ (u.rl n).role = .test ∧ (u.rl n).before = (s.rl n).role ∧ (u.rl n).epoch = (s.rl n).epoch + 1
        ∧ (u.rl n).stuck = false ∧ (∀ j, j ≠ n → u.rl j = s.rl j) ∧ u.rail = s.rail)
  ∧ (∀ (s : State) (m : Master) (n : Fin 48), judge m A.INK_REQ (inkWord 2 n (s.rl n).epoch) s = .ok →
      s.mayTest n = false → Completes (.test m n (s.rl n).epoch) s fun u => u.g F.INK_REQSTAT_RESULT = 2
        ∧ OnlyWords u (accepted m A.INK_REQ (inkWord 2 n (s.rl n).epoch) s) [A.INK_REQ, A.INK_REQSTAT])
  ∧ (∀ (s : State) (m : Master) (n : Fin 48), judge m A.INK_REQ (inkWord 3 n (s.rl n).epoch) s = .ok →
      (s.rl n).role = .test → (s.rl n).before ≠ .test → Completes (.endtest m n (s.rl n).epoch) s fun u =>
        u.g F.INK_REQSTAT_RESULT = 1 ∧ (u.rl n).role = (s.rl n).before ∧ (u.rl n).epoch = (s.rl n).epoch + 1
        ∧ (∀ j, j ≠ n → u.rl j = s.rl j) ∧ u.rail = s.rail)
  ∧ (∀ (s : State) (m : Master) (n : Fin 48), judge m A.INK_REQ (inkWord 3 n (s.rl n).epoch) s = .ok →
      (s.rl n).role ≠ .test → Completes (.endtest m n (s.rl n).epoch) s fun u => u.g F.INK_REQSTAT_RESULT = 2
        ∧ OnlyWords u (accepted m A.INK_REQ (inkWord 3 n (s.rl n).epoch) s) [A.INK_REQ, A.INK_REQSTAT])
  ∧ (∀ (s : State) (n : Fin 48), (s.rl n).role = .test → (s.rl n).before ≠ .test →
      s.g F.INK_TEST_TESTLEN ≤ (s.rl n).testRun → s.q15Len < 32 → s.nv.waiting = [] → Completes (.phaseTestEnd ⟨n, (s.rl n).epoch⟩) s fun u =>
        (u.rl n).role = (s.rl n).before ∧ (u.rl n).epoch = (s.rl n).epoch + 1 ∧ (u.rl n).testRun = 0
        ∧ ((s.rl n).stuck = true → u.g (F.PHASE_ROLE_TESTRES n.val) = 3)
        ∧ ((s.rl n).stuck = false → (s.rl n).testCnt ≠ 0 → u.g (F.PHASE_ROLE_TESTRES n.val) =
            if (s.g F.INK_TEST_TESTIMIN : Int) * 64 * (s.rl n).testCnt ≤ (s.rl n).testSum then 1 else 2)
        ∧ u.nv.q15 = s.nv.q15 ++ [.health] ∧ (∀ j, j ≠ n → u.rl j = s.rl j) ∧ u.rail = s.rail)
  ∧ (∀ (s : State) (n : Fin 48), (s.rl n).testRun < s.g F.INK_TEST_TESTLEN →
      Leaves (.phaseTestEnd ⟨n, (s.rl n).epoch⟩) s s)
  ∧ (∀ (s : State) (n : Fin 48), (s.rl n).role ≠ .test → Leaves (.phaseTestEnd ⟨n, (s.rl n).epoch⟩) s s)
  ∧ (∀ (s : State) (n : Fin 48) (e : BitVec 8), e ≠ (s.rl n).epoch →
      Leaves (.phaseTestEnd ⟨n, e⟩) s (s.inc (F.PHASE_STALE_STALE n.val)))

/-! ### The Porter and the Night Porter -/

/-- A step latches the readings of the converter and adds HVIN times IIN and the power of each
enabled rail to the energy counters (no armed commit waits, the Night Porter in charge); a trip of the breaker turns HSGATE off, is counted, and latches FID 18h. The watch of a feed
follows FEED_PRESENT and FEED_ABSENT while VAON is good. Under the Night Porter a first feed starts DEBOUNCE and the last one's loss ends in IDLE with HSGATE
off; under the Porter STATE waits for the next step (the model's deduction, log entry 33). A feed newly present wakes a sleeping device. A reverse detector turns its feed's gate off and counts; ORDLY turns it on where it may conduct. -/
def Obligations.ModelStepAndFeeds : Prop :=
  (∀ s : State, s.core = true → s.pt.inCharge = false → s.isArmed 4 0xFF = false →
      Completes .porterModelStep s fun u =>
      u.g F.PT_VIN_HVIN = ofSigned 16 (s.mcV 71) ∧ u.g F.PT_VIN_VBULK = ofSigned 16 (s.mcV 72)
        ∧ u.pt.ein = s.pt.ein + (u.g F.PT_VIN_HVIN : Int) * u.gi F.PT_IIN_IIN
        ∧ (∀ k : Fin 8, vget u.pt.erail k = vget s.pt.erail k
            + (if s.enabled k then s.mcV (54 + k.val) * s.gi (F.OL_ITOT_ITOT k.val) else 0))
        ∧ u.ptSt = s.ptSt ∧ u.phase = s.phase ∧ u.rail = s.rail)
  ∧ (∀ s : State, s.core = true → s.img.armed = [] → (breaker (latchReadings (s.atTime s.porterTime))).2 = true →
      Completes .porterModelStep s fun u => u.np.hs = false ∧ (s.pt.short = false → u.g F.PT_STATUS_LATFID = 0x18)
        ∧ u.g F.PT_CNT_BRKTRIPS = incHold 8 (s.g F.PT_CNT_BRKTRIPS))
  ∧ (∀ s : State, s.core = false → Leaves .porterModelStep s s)
  ∧ (∀ (s : State) (b : Bool), s.core = true → s.img.armed = [] → s.sup.vaon = true → s.pt.inCharge = false → s.ptSt = 0 →
      s.fnOut 112 = false → bitAt s.np.feeden (feedIx b).val = true →
      Completes (.feedPresent b) s fun u => u.np.watch = vset s.np.watch (feedIx b) true ∧ u.ptSt = 1)
  ∧ (∀ (s : State) (b : Bool), s.core = true → s.img.armed = [] → s.sup.vaon = true → s.pt.inCharge = true →
      (Completes (.feedPresent b) s fun u => u.np.watch = vset s.np.watch (feedIx b) true ∧ u.ptSt = s.ptSt)
      ∧ Completes (.feedAbsent b) s fun u => u.np.watch = vset s.np.watch (feedIx b) false ∧ u.ptSt = s.ptSt)
  ∧ (∀ (s : State) (b : Bool), s.dev = .off → s.sup.vaon = true → s.sup.vcore = true → s.sup.vdd33 = true →
      s.sup.resetHigh = true → s.sup.sleep = true → s.sup.wake = none → vget s.np.watch (feedIx b) = false →
      bitAt (if s.pt.inCharge then s.g F.PT_CTL_FEEDEN else s.np.feeden) (feedIx b).val = true →
      Completes (.feedPresent b) s fun u => u.dev = .boot ∧ u.g F.DEVICE_STATUS_WAKESRC = 4)
  ∧ (∀ (s : State) (b : Bool), s.sup.vaon = true → s.img.armed = [] → s.pt.inCharge = false →
      vget s.np.watch (otherFeed (feedIx b)) = false → 1 ≤ s.ptSt → s.ptSt ≤ 3 →
      Completes (.feedAbsent b) s fun u => u.np.watch = vset s.np.watch (feedIx b) false ∧ u.ptSt = 0 ∧ u.np.hs = false)
  ∧ (∀ (s : State) (b : Bool), s.sup.vaon = false → Leaves (.feedPresent b) s s ∧ Leaves (.feedAbsent b) s s)
  ∧ (∀ (s : State) (b : Bool), s.core = true → s.img.armed = [] → vget s.np.gate (feedIx b) = true →
      vget s.pt.raised (feedIx b) ≠ some (s.g F.NP_SECS_SECS) → Completes (.feedReverseOff b) s fun u =>
        vget u.np.gate (feedIx b) = false ∧ u.g F.PT_CNT_REVOFF = incHold 8 (s.g F.PT_CNT_REVOFF)
        ∧ u.gb (if b then F.PT_STATUS_REVB else F.PT_STATUS_REVA) = true ∧ u.g F.FM_STATUS_LASTFID = 0x1E)
  ∧ (∀ (s : State) (b : Bool), vget s.np.gate (feedIx b) = false → Leaves (.feedReverseOff b) s s)
  ∧ (∀ (s : State) (b : Bool), Leaves (.feedGateOn b) s (if s.mayConduct (feedIx b) then
      { s with np := { s.np with gate := vset s.np.gate (feedIx b) true } } else s))

/-- With the Porter in charge, steps 1 to 4 decide the gate faults of the step. Where there is one, HSGATE goes off and LATFID takes the
lowest; the state becomes OFF with HOSTOFF, LATCHED when the retries are used up without it, else WAIT, and in OFF and WAIT one more retry
is counted and the wait starts. FETOT is a gate fault in INRUSH and ON alone (log entry 27). Where there is none, and no short, overvoltage or warning, one transition applies:
LATCHED ends by CLRLATCH, HOSTOFF takes every other state to OFF and its release leaves it, WAIT ends with REMWAIT, a
lost input ends in IDLE, DEBOUNCE starts INRUSH once debounced with no wait, and INRUSH is ON after 1 ms near the input. -/
def Obligations.ModelStepMovesState : Prop :=
  (∀ (s : State) (f : Nat) (l : List Nat), s.core = true → s.pt.inCharge = true → s.img.armed = [] →
      gateFids (breaker (latchReadings (s.atTime s.porterTime))).2
        (fetHotIdle s.fetHot (fetWarn (fetModel (breaker (latchReadings (s.atTime s.porterTime))).1))) = f :: l →
      s.pt.short = false → s.pt.inov = false → s.pt.warnArmed = false →
      Completes .porterModelStep s fun u => u.np.hs = false ∧ u.g F.PT_STATUS_LATFID = f
        ∧ (s.gb F.PT_CTL_HOSTOFF = false → s.g F.PT_RETRY_RETRIES ≠ 15 → s.g F.PT_RETRY_RETRIES ≤ s.g F.NP_RSTATE_RCNT → u.ptSt = 5)
        ∧ (s.gb F.PT_CTL_HOSTOFF = true ∨ s.g F.PT_RETRY_RETRIES = 15 ∨ s.g F.NP_RSTATE_RCNT < s.g F.PT_RETRY_RETRIES →
          u.ptSt = (if s.gb F.PT_CTL_HOSTOFF then 6 else 4)
          ∧ u.g F.NP_RSTATE_RCNT = min 15 (s.g F.NP_RSTATE_RCNT + 1)
          ∧ u.g F.NP_RSTATE_REMWAIT = aonTicks (s.g F.PT_RETRY_RWAIT) % 2 ^ 21))
  ∧ (∀ s : State, s.core = true → s.pt.inCharge = true → s.img.armed = [] →
      gateFids (breaker (latchReadings (s.atTime s.porterTime))).2
        (fetHotIdle s.fetHot (fetWarn (fetModel (breaker (latchReadings (s.atTime s.porterTime))).1))) = [] →
      s.pt.short = false → s.pt.inov = false → s.pt.warnArmed = false →
      Completes .porterModelStep s fun u => u.ptSt =
        (if s.ptSt = 5 then (if s.pt.clr then 0 else 5)
        else if s.gb F.PT_CTL_HOSTOFF then 6
        else if s.ptSt = 6 then (if s.g F.NP_RSTATE_REMWAIT = 0 then 0 else 4)
        else if s.ptSt = 4 then (if s.g F.NP_RSTATE_REMWAIT = 0 then (if s.inputPresent then 1 else 0) else 4)
        else if 1 ≤ s.ptSt && s.ptSt ≤ 3 && !s.inputPresent then 0
        else if s.ptSt = 0 then (if s.inputPresent then 1 else 0)
        else if s.ptSt = 1 then (if s.pt.debounced && s.g F.NP_RSTATE_REMWAIT == 0 && !s.fnOut 113 then 2 else 1)
        else if s.ptSt = 2 then (if 100 ≤ u.pt.near then 3 else 2)
        else s.ptSt)
        ∧ (s.ptSt = 2 → u.pt.near = if (u.g F.PT_VIN_HVIN : Int) - u.g F.PT_VIN_VBULK ≤ 250 then s.pt.near + 1 else 0)
        ∧ (s.ptSt ≠ 2 → u.ptSt = 2 → u.np.hs = true ∧ u.pt.vt = 2 * u.g F.PT_VIN_VBULK ∧ u.pt.brk = 0)
        ∧ (s.ptSt = 5 → s.pt.clr = true → u.g F.NP_RSTATE_RCNT = 0))

/-- Under the Night Porter the end of the debounce starts INRUSH with VT at VBULK where no wait runs; otherwise it is kept for the
next model step, as a timeout of INRUSH, HOSTOFF and CLRLATCH are (the model's deduction, log entry 33). The end of the wait under the Night Porter
goes to DEBOUNCE or IDLE. FETSHORT raises 1Dh, whoever is in charge (log entry 112). The Night Porter's own fault and its ON act only while it is in charge. The early warning is released when none of its causes holds in ON.
That PFWCAUSE stands after the release (log entry 28) is the model's reading. -/
def Obligations.HotSwapStates : Prop :=
  (∀ s : State, s.sup.vaon = true → s.pt.inCharge = false → s.ptSt = 1 → s.inputPresent = true → s.g F.NP_RSTATE_REMWAIT = 0 →
      Completes .insertionDebounceEnd s fun u => u.ptSt = 2 ∧ u.np.hs = true
        ∧ u.pt.vt = 2 * s.g F.PT_VIN_VBULK ∧ u.pt.brk = 0 ∧ u.phase = s.phase ∧ u.rail = s.rail)
  ∧ (∀ s : State, s.sup.vaon = true → s.ptSt = 1 → s.inputPresent = true → (s.pt.inCharge = true ∨ s.g F.NP_RSTATE_REMWAIT ≠ 0) →
      Leaves .insertionDebounceEnd s { s with pt := { s.pt with debounced := true } })
  ∧ (∀ s : State, s.ptSt ≠ 1 → Leaves .insertionDebounceEnd s s)
  ∧ (∀ s : State, s.pt.inCharge = true → s.ptSt = 2 → Leaves .inrushto s { s with pt := { s.pt with late := true } })
  ∧ (∀ s : State, s.ptSt ≠ 2 → Leaves .inrushto s s)
  ∧ (∀ s : State, s.fetShorted = true → s.img.armed = [] → Completes .fetshort s fun u => u.g F.FM_STATUS_LASTFID = 0x1D ∧ u.ptSt = s.ptSt)
  ∧ (∀ s : State, s.fetShorted = false → Leaves .fetshort s s)
  ∧ (∀ s : State, s.sup.vaon = true → s.g F.NP_RSTATE_REMWAIT ≠ 0 → s.ptSt = 4 → Completes .retryWaitEnd s fun u =>
      u.g F.NP_RSTATE_REMWAIT = 0 ∧ u.ptSt = (if s.pt.inCharge then 4 else if s.inputPresent then 1 else 0))
  ∧ (∀ s : State, s.sup.vaon = true → Leaves .retryCountClear s (if s.ptSt = 3 then s.p F.NP_RSTATE_RCNT 0 else s))
  ∧ (∀ (s : State) (m : Master) (b : Bool), judge m A.PT_CTL (s.withField F.PT_CTL_HOSTOFF b.toNat) s = .ok → s.pt.inCharge = true →
      s.img.armed = [] → Completes (.hostoff m b) s fun u => u.gb F.PT_CTL_HOSTOFF = b ∧ u.ptSt = s.ptSt)
  ∧ (∀ (s : State) (m : Master), judge m A.PT_CTL (s.withField F.PT_CTL_CLRLATCH 1) s = .ok → s.pt.inCharge = true → s.img.armed = [] →
      Completes (.clrlatch m) s fun u => u.ptSt = s.ptSt ∧ u.pt.clr = (s.pt.clr || decide (s.ptSt = 5)))
  ∧ (∀ (s : State) (t : Bool), s.sup.vaon = true → s.pt.inCharge = false → s.ptSt = 2 → Completes (.npGateFault t) s fun u =>
      u.np.hs = false ∧ u.np.toRecord = true ∧ u.g F.NP_RSTATE_NPCAUSE = (if t then 2 else 1)
        ∧ (u.ptSt = 4 ∨ u.ptSt = 5))
  ∧ (∀ s : State, s.sup.vaon = true → s.pt.inCharge = false → s.ptSt = 2 → Completes .nightPorterInrushOn s fun u =>
      u.ptSt = 3 ∧ u.np.hs = true ∧ OnlyWords { u with np := s.np, pt := s.pt } s [A.NP_RSTATE])
  ∧ (∀ (s : State) (t : Bool), s.pt.inCharge = true → Leaves (.npGateFault t) s s ∧ Leaves .nightPorterInrushOn s s)
  ∧ (∀ s : State, s.core = true → s.pfw = true → s.ptSt = 3 → s.pfwHolds = false → Completes .pfwRelease s fun u =>
      u.pfw = false ∧ u.g F.PT_STATUS_PFWCAUSE = s.g F.PT_STATUS_PFWCAUSE ∧ u.phase = s.phase ∧ u.rail = s.rail)
  ∧ (∀ s : State, s.pfwHolds = true → Leaves .pfwRelease s s)

/-! ### The load link -/

/-- For a frame a port hears: PING answers its data, GETT a temperature, GETSTAT its page, GETV and GETI values of the slot's rail,
each with ACK 0 and leaving rails, phases and queues as they were; CLRALERT clears the causes its data names whose condition no longer holds; NEGOTIATE sets
the lower of the two versions. In SAFE GETV is refused with 5. A disabled endpoint or a slot that is not valid gives 4, an unassigned
opcode 7, a bad CRC 6; a framing error or a clock timeout is flagged, counted and not answered, and a port that is off does not answer. A
duplicate gets the stored response and no effect but its count. -/
def Obligations.LinkFramesAnswer : Prop :=
  (∀ (s : State) (p : Fin 2) (f : Frame), Heard s p 0 f → Completes (.ping p f) s fun u => Answered s u p 0 f f.data
      ∧ OnlyWords { u with port := s.port } s [A.LNK_NFRAME p.val])
  ∧ (∀ (s : State) (p : Fin 2) (f : Frame), Heard s p 3 f → f.arg.toNat ≤ 8 → Completes (.gett p f) s fun u =>
      Answered s u p 0 f (BitVec.ofInt 16 (s.mcV (62 + f.arg.toNat)))
      ∧ OnlyWords { u with port := s.port } s [A.LNK_NFRAME p.val])
  ∧ (∀ (s : State) (p : Fin 2) (f : Frame), Heard s p (4 + f.slot.val) f → f.arg = 1 → Completes (.getstat p f) s fun u =>
      Answered s u p 0 f ((s.word (A.LNK_EP_CAUSE p.val f.ep.val)).setWidth 16)
      ∧ OnlyWords { u with port := s.port } s [A.LNK_NFRAME p.val])
  ∧ (∀ (s : State) (p : Fin 2) (f : Frame) (k : Fin 8), HeardFor s p 4 f k → f.arg = 0 → Completes (.getstat p f) s fun u =>
      Answered s u p 0 f (BitVec.ofNat 16 (s.statPage p f.ep.val f.slot.val k)) ∧ u.rail = s.rail ∧ u.queue = s.queue)
  ∧ (∀ (s : State) (p : Fin 2) (f : Frame) (k : Fin 8), HeardFor s p 8 f k → s.g (F.LNK_STATUS_VER p.val) = 2 →
      Completes (.getv p f) s fun u => (f.arg = 0 → Answered s u p 0 f (BitVec.ofInt 16 (s.mcV (54 + k.val))))
        ∧ (f.arg = 1 → Answered s u p 0 f (BitVec.ofNat 16 (s.g (F.RAIL_REFNOW_REF k.val))))
        ∧ (6 ≤ f.arg.toNat → Answered s u p 3 f 0) ∧ OnlyWords { u with port := s.port } s [A.LNK_NFRAME p.val])
  ∧ (∀ (s : State) (p : Fin 2) (f : Frame) (k : Fin 8), HeardFor s p 0xC f k → Completes (.geti p f) s fun u =>
      (f.arg = 0 → Answered s u p 0 f (BitVec.ofInt 16 (asr (s.gi (F.OL_ITOT_ITOT k.val)) 6)))
        ∧ (f.arg = 2 → Answered s u p 0 f (BitVec.ofNat 16 (s.g (F.RAIL_SEQ_RINGLEN k.val))))
        ∧ (3 ≤ f.arg.toNat → Answered s u p 3 f 0) ∧ OnlyWords { u with port := s.port } s [A.LNK_NFRAME p.val])
  ∧ (∀ (s : State) (p : Fin 2) (f : Frame), Heard s p 2 f → s.dev ≠ .safe → f.arg = 1 → Completes (.clralert p f) s fun u =>
      u.word (A.LNK_EP_CAUSE p.val f.ep.val) = s.word (A.LNK_EP_CAUSE p.val f.ep.val)
          &&& ~~~ (f.data.setWidth 32 &&& ~~~ BitVec.ofNat 32 (s.standing p.val f.ep.val))
        ∧ Answered s u p 0 f ((u.word (A.LNK_EP_CAUSE p.val f.ep.val)).setWidth 16)
        ∧ u.rail = s.rail ∧ u.phase = s.phase ∧ u.queue = s.queue)
  ∧ (∀ (s : State) (p : Fin 2) (f : Frame), Heard s p 1 f → s.dev ≠ .safe → f.arg ≠ 0 → f.data = 0 →
      Completes (.negotiate p f) s fun u => u.g (F.LNK_STATUS_VER p.val) = min f.arg.toNat (s.g (F.LNK_CTL_MAXVER p.val))
        ∧ Answered s u p 0 f (BitVec.ofNat 16 (min f.arg.toNat (s.g (F.LNK_CTL_MAXVER p.val)) * 256
          + s.g (F.LNK_CTL_MAXVER p.val))) ∧ u.rail = s.rail ∧ u.phase = s.phase ∧ u.queue = s.queue)
  ∧ (∀ (s : State) (p : Fin 2) (f : Frame), Heard s p (8 + f.slot.val) f → s.dev = .safe →
      s.slotRail p.val f.ep.val f.slot.val ≠ none → Completes (.getv p f) s fun u => Answered s u p 5 f 0)
  ∧ (∀ (s : State) (p : Fin 2) (f : Frame), s.linkOn p = true → s.epOn p.val f.ep.val = false →
      Completes (.ping p f) s fun u => Answered s u p 4 f 0)
  ∧ (∀ (s : State) (p : Fin 2) (f : Frame), s.linkOn p = true → s.slotRail p.val f.ep.val f.slot.val = none →
      Completes (.geti p f) s fun u => Answered s u p 4 f 0)
  ∧ (∀ (s : State) (p : Fin 2) (op : BitVec 6) (f : Frame), s.linkOn p = true → 0x28 ≤ op.toNat →
      Completes (.unknownOp p op f) s fun u => Answered s u p 7 f 0
        ∧ OnlyWords { u with port := s.port } s [A.LNK_NFRAME p.val])
  ∧ (∀ (s : State) (p : Fin 2) (op : BitVec 6) (f : Frame), s.linkOn p = true → Completes (.crcError p op f) s fun u =>
      Answered s u p 6 f 0 ∧ u.g (F.LNK_CNT_CRC p.val) = incHold 8 (s.g (F.LNK_CNT_CRC p.val))
        ∧ u.gb (F.LNK_STATUS_CRCERR p.val) = true
        ∧ OnlyWords { u with port := s.port } s [A.LNK_NFRAME p.val, A.LNK_CNT p.val, A.LNK_STATUS p.val])
  ∧ (∀ (s : State) (p : Fin 2), s.linkOn p = true → Completes (.linkFrameError p) s fun u => (vget u.port p).resp = none
      ∧ u.g (F.LNK_CNT_FRAME p.val) = incHold 8 (s.g (F.LNK_CNT_FRAME p.val)) ∧ u.gb (F.LNK_STATUS_FRAMEERR p.val) = true)
  ∧ (∀ (s : State) (p : Fin 2) (c : Fin 82), s.linkOn p = true → Completes (.linkClockTimeout p c) s fun u =>
      (vget u.port p).resp = none ∧ u.g (F.LNK_CNT_TIMEOUT p.val) = incHold 8 (s.g (F.LNK_CNT_TIMEOUT p.val))
      ∧ u.gb (F.LNK_STATUS_FRAMETO p.val) = true)
  ∧ (∀ (s : State) (p : Fin 2) (f : Frame), s.linkOn p = false → Leaves (.setv p f) s (noResponse p s))
  ∧ (∀ (s : State) (p : Fin 2) (f : Frame) (a : Nat) (d : BitVec 16), s.linkOn p = true →
      s.duplicate p (0x10 + f.slot.val) f = some (a, d) → Completes (.setv p f) s fun u => Answered s u p a f d
        ∧ u.g (F.LNK_CNT_DUP p.val) = incHold 8 (s.g (F.LNK_CNT_DUP p.val))
        ∧ OnlyWords { u with port := s.port } s [A.LNK_NFRAME p.val, A.LNK_CNT p.val])

/-- For a frame of a rail's slot whose write the Gatehouse grants and that no earlier check refuses: with room in the rail's queue SETV, SETV_SLEW,
MARGIN in command form and POWERSTATE each append one entry of their kind and answer ACK 1 with the occupancy, and SETV is remembered; a full queue answers 2
and keeps its entries, a target outside the limits 3. A slack report answers 0 and is kept with its instant for the boundary it is eligible at, by a running Horizon; below SLKCRIT it also sets
HZCRIT and takes M to 0 at that boundary. FORECAST hands the step over with its instant and its due instant, and PERIOD the period, both with
ACK 0; a period outside the limits is absent at once. A refusal of the Gatehouse answers 4, counts GH_DENYCNT and queues nothing.
The address reported for a refused frame is the model's reading (log entry 52). -/
def Obligations.LinkFramesCommand : Prop :=
  (∀ (s : State) (p : Fin 2) (f : Frame) (k : Fin 8), HeardFor s p 0x10 f k → f.arg = 0 →
      s.gateWrite (linkMaster p) (A.RAIL_VSET k.val) false = none → s.g (F.LNK_STATUS_VER p.val) = 2 →
      s.inLimits k.val f.data.toNat = true → s.room ⟨k.val, by omega⟩ 1 = true → Completes (.setv p f) s fun u =>
        u.q ⟨k.val, by omega⟩ = s.q ⟨k.val, by omega⟩ ++ [linkEntry p f 1 (BitVec.ofNat 32 (f.data.toNat * 2 ^ 16))]
        ∧ Answered s u p 1 f (BitVec.ofNat 16 (((s.q ⟨k.val, by omega⟩).length + 1) * 256))
        ∧ u.duplicate p (0x10 + f.slot.val) f = some (1, BitVec.ofNat 16 (((s.q ⟨k.val, by omega⟩).length + 1) * 256))
        ∧ u.ra k = { s.ra k with pushed := (s.ra k).pushed ++ [s.clock] } ∧ (∀ j, j ≠ k → u.ra j = s.ra j) ∧ u.phase = s.phase
        ∧ ∀ q : Fin 16, q.val ≠ k.val → u.q q = s.q q)
  ∧ (∀ (s : State) (p : Fin 2) (f : Frame) (k : Fin 8), HeardFor s p 0x10 f k → f.arg = 0 →
      s.gateWrite (linkMaster p) (A.RAIL_VSET k.val) false = none → s.g (F.LNK_STATUS_VER p.val) = 2 →
      s.inLimits k.val f.data.toNat = true → s.room ⟨k.val, by omega⟩ 1 = false → Completes (.setv p f) s fun u =>
        Answered s u p 2 f 0 ∧ u.queue = s.queue
        ∧ u.g (F.Q_STAT_DROPS k.val) = incHold (F.Q_STAT_DROPS k.val).w (s.g (F.Q_STAT_DROPS k.val)))
  ∧ (∀ (s : State) (p : Fin 2) (f : Frame) (k : Fin 8), HeardFor s p 0x10 f k → f.arg = 0 →
      s.gateWrite (linkMaster p) (A.RAIL_VSET k.val) false = none → s.g (F.LNK_STATUS_VER p.val) = 2 →
      s.inLimits k.val f.data.toNat = false → Completes (.setv p f) s fun u => Answered s u p 3 f 0
        ∧ OnlyWords { u with port := s.port } s [A.LNK_NFRAME p.val])
  ∧ (∀ (s : State) (p : Fin 2) (f : Frame) (k : Fin 8) (kind : Nat), HeardFor s p 0x10 f k →
      s.gateWrite (linkMaster p) (A.RAIL_VSET k.val) false = some kind → Completes (.setv p f) s fun u =>
        Answered s u p 4 f 0 ∧ u.queue = s.queue ∧ u.rail = s.rail
        ∧ u.g F.GH_DENYCNT_COUNT = incHold F.GH_DENYCNT_COUNT.w (s.g F.GH_DENYCNT_COUNT)
        ∧ u.word A.CFGERR = s.word A.CFGERR)
  ∧ (∀ (s : State) (p : Fin 2) (f : Frame) (k : Fin 8) (w : Nat), HeardFor s p 0x14 f k → slewOverride f.arg.toNat = some w →
      s.gateWrite (linkMaster p) (A.RAIL_VSET k.val) false = none → s.g (F.LNK_STATUS_VER p.val) = 2 →
      s.inLimits k.val f.data.toNat = true → s.room ⟨k.val, by omega⟩ 1 = true → Completes (.setvSlew p f) s fun u =>
        u.q ⟨k.val, by omega⟩ = s.q ⟨k.val, by omega⟩ ++ [linkEntry p f 1 (BitVec.ofNat 32 (f.data.toNat * 2 ^ 16 + w))]
        ∧ 1 ≤ w ∧ w ≤ 8000 ∧ u.ra k = { s.ra k with pushed := (s.ra k).pushed ++ [s.clock] } ∧ (∀ j, j ≠ k → u.ra j = s.ra j) ∧ u.phase = s.phase)
  ∧ (∀ (s : State) (p : Fin 2) (f : Frame) (k : Fin 8), HeardFor s p 0x18 f k → f.arg = 0 →
      s.gateWrite (linkMaster p) (A.RAIL_VSET k.val) false = none → s.room ⟨k.val, by omega⟩ 1 = true →
      Completes (.marginCommand p f) s fun u => u.q ⟨k.val, by omega⟩ = s.q ⟨k.val, by omega⟩
          ++ [linkEntry p f 2 (BitVec.ofNat 32 (f.data.toNat * 2 ^ 16))]
        ∧ u.ra k = { s.ra k with pushed := (s.ra k).pushed ++ [s.clock] } ∧ (∀ j, j ≠ k → u.ra j = s.ra j) ∧ u.phase = s.phase)
  ∧ (∀ (s : State) (p : Fin 2) (f : Frame) (k : Fin 8), HeardFor s p 0x24 f k → f.arg = 0 ∨ f.arg = 1 → f.data = 0 →
      s.gateWrite (linkMaster p) (A.RAIL_VSET k.val) false = none → s.g (F.RAIL_SEQCTL_ENMODE k.val) = 0 →
      s.room ⟨k.val, by omega⟩ 1 = true → Completes (.powerstate p f) s fun u => u.q ⟨k.val, by omega⟩
          = s.q ⟨k.val, by omega⟩ ++ [linkEntry p f (if f.arg = 1 then 3 else 4) 0]
        ∧ u.ra k = { s.ra k with pushed := (s.ra k).pushed ++ [s.clock] } ∧ (∀ j, j ≠ k → u.ra j = s.ra j) ∧ u.phase = s.phase)
  ∧ (∀ (s : State) (p : Fin 2) (f : Frame) (k : Fin 8), HeardFor s p 0x24 f k →
      s.gateWrite (linkMaster p) (A.RAIL_VSET k.val) false = none → s.g (F.RAIL_SEQCTL_ENMODE k.val) = 3 →
      Completes (.powerstate p f) s fun u => Answered s u p 5 f 0 ∧ u.queue = s.queue)
  ∧ (∀ (s : State) (p : Fin 2) (f : Frame) (k : Fin 8), HeardFor s p 0x18 f k → f.arg = 0x80 →
      Completes (.marginReport p f) s fun u => Answered s u p 0 f 0 ∧ u.queue = s.queue
        ∧ (s.gb (F.OL_HZCTL_HZEN k.val) = true → s.enabled k = true → (s.ra k).tr.trans = none →
          (u.ra k).ol.reports = (s.ra k).ol.reports ++ [(s.clock, f.data.toInt)] ∧ (u.ra k).ol.smin = (s.ra k).ol.smin
          ∧ (if f.data.toInt < s.gi (F.OL_HZSTEP_SLKCRIT k.val) then u.gb (F.OL_STATUS_HZCRIT k.val) = true
              ∧ (u.ra k).ol.mZero = (s.ra k).ol.mZero ++ [s.clock]
            else (u.ra k).ol.mZero = (s.ra k).ol.mZero))
        ∧ (s.gb (F.OL_HZCTL_HZEN k.val) = false → u.rail = s.rail))
  ∧ (∀ (s : State) (p : Fin 2) (f : Frame) (k : Fin 8), HeardFor s p 0x1C f k →
      s.gateWrite (linkMaster p) (A.RAIL_VSET k.val) false = none → s.st k = .wake ∨ s.st k = .ramp ∨ s.st k = .on →
      Completes (.forecast p f) s fun u => Answered s u p 0 f 0 ∧ u.queue = s.queue
        ∧ (u.ra k).md.fc = some ⟨f.data.toInt, s.clock, s.clock + 12800 * f.arg.toNat, false, false, false, none, false⟩ ∧ (u.ra k).ink.fcPending = true
        ∧ u.gb (F.RAIL_MSTAT_FCARMED k.val) = false ∧ ∀ j, j ≠ k → u.ra j = s.ra j)
  ∧ (∀ (s : State) (p : Fin 2) (f : Frame) (k : Fin 8), HeardFor s p 0x20 f k →
      s.gateWrite (linkMaster p) (A.RAIL_VSET k.val) false = none → s.st k = .wake ∨ s.st k = .ramp ∨ s.st k = .on →
      s.g (F.EPH_CTL_PSRC k.val) = 0 → 16 * s.ts k.val ≤ f.data.toNat + f.arg.toNat % 128 * 2 ^ 16 →
      Completes (.period p f) s fun u => Answered s u p 0 f 0 ∧ u.queue = s.queue
        ∧ (u.ra k).ep = { (s.ra k).ep with msgs := (s.ra k).ep.msgs
            ++ [(s.clock, some (f.data.toNat + f.arg.toNat % 128 * 2 ^ 16), decide (128 ≤ f.arg.toNat))] }
        ∧ u.g (F.EPH_TNOW_TNOW k.val) = s.g (F.EPH_TNOW_TNOW k.val) ∧ ∀ j, j ≠ k → u.ra j = s.ra j)
  ∧ (∀ (s : State) (p : Fin 2) (f : Frame) (k : Fin 8), HeardFor s p 0x20 f k →
      s.gateWrite (linkMaster p) (A.RAIL_VSET k.val) false = none → s.st k = .wake ∨ s.st k = .ramp ∨ s.st k = .on →
      s.g (F.EPH_CTL_PSRC k.val) = 0 → f.data.toNat + f.arg.toNat % 128 * 2 ^ 16 < 16 * s.ts k.val →
      Completes (.period p f) s fun u => Answered s u p 0 f 0 ∧ u.gb (F.EPH_STATUS_ELOST k.val) = true
        ∧ u.g (F.EPH_TNOW_TNOW k.val) = s.g (F.EPH_TNOW_TNOW k.val)
        ∧ (∀ x ∈ (u.ra k).ep.msgs, x.2.1 = none) ∧ (u.ra k).ep.msgs.length = (s.ra k).ep.msgs.length + 1
        ∧ u.queue = s.queue ∧ ∀ j, j ≠ k → u.ra j = s.ra j)
  ∧ (∀ (s : State) (p : Fin 2) (f : Frame) (k : Fin 8), HeardFor s p 0x1C f k → s.st k = .off →
      s.gateWrite (linkMaster p) (A.RAIL_VSET k.val) false = none → Completes (.forecast p f) s fun u =>
        Answered s u p 5 f 0 ∧ u.rail = s.rail)

/-! ### Converter frames, seconds, telemetry, the non-volatile store and the Plates -/

/-- A frame (no armed commit) publishes the code of each fixed slot's channel and moves to the next frame; HVIN's first value is its code times
48,000 >> 12. A second advances SECS while VAON is good, marks the time base while it runs, takes one second from a session and from
REMWAIT, and wakes a sleeping device at the alarm. A telemetry period advances SEQ and puts every item into Q12 with the new SEQ (log entry 51) or, without room for all, none, and counts the loss.
A window sets EFF, PINAVG and PRAVG from the energies since the last one, and EFFNA without any input energy.
That a second takes 32,768 from REMWAIT and leaves at least 1, less for the part of a second in which the wait started, is the model's
reading (log entry 12). -/
def Obligations.TelemetryActs : Prop :=
  (∀ (s : State) (c : Vector (BitVec 12) 20), s.core = true → s.img.armed = [] → Completes (.converterFrame c) s fun u =>
      (∀ i, i < 14 → u.g (F.MC_CH_DATA_CODE (fixedChannel i)) = (c.toList.getD i 0).toNat)
      ∧ u.conv.frame = (s.conv.frame + 1) % 100
      ∧ (s.conv.done.getLsbD 71 = false → u.g (F.MC_CH_DATA_VALUE 71) = (c.toList.getD 8 0).toNat * 48000 / 4096))
  ∧ (∀ (s : State) (c : Vector (BitVec 12) 20), s.core = false → Leaves (.converterFrame c) s s)
  ∧ (∀ s : State, s.sup.vaon = true → s.core = true → Completes .secsIncrement s fun u =>
      u.g F.NP_SECS_SECS = (s.g F.NP_SECS_SECS + 1) % 2 ^ 32 ∧ u.secMark = s.tb ∧ u.dev = s.dev
      ∧ (s.g F.NP_RSTATE_REMWAIT = 0 → u.g F.NP_RSTATE_REMWAIT = 0)
      ∧ (s.g F.NP_RSTATE_REMWAIT ≠ 0 → s.np.remMid = false →
          u.g F.NP_RSTATE_REMWAIT = max 1 (s.g F.NP_RSTATE_REMWAIT - 32768))
      ∧ (s.g F.NP_RSTATE_REMWAIT ≠ 0 → s.np.remMid = true →
          1 ≤ u.g F.NP_RSTATE_REMWAIT ∧ u.g F.NP_RSTATE_REMWAIT ≤ s.remNow)
      ∧ u.np.remMid = (s.np.remMid && s.g F.NP_RSTATE_REMWAIT == 0)
      ∧ u.gate.session = s.gate.session.map (fun x => { x with left := x.left - 1 }) ∧ u.phase = s.phase ∧ u.rail = s.rail)
  ∧ (∀ s : State, s.sup.vaon = true → s.dev = .off → s.sup.sleep = true → s.sup.vcore = true → s.sup.vdd33 = true →
      s.sup.resetHigh = true → s.sup.wake = none → s.g F.NP_ALARM_ALARM ≠ 0 →
      s.g F.NP_ALARM_ALARM = (s.g F.NP_SECS_SECS + 1) % 2 ^ 32 → Completes .secsIncrement s fun u =>
        u.dev = .boot ∧ u.g F.DEVICE_STATUS_WAKESRC = 5)
  ∧ (∀ s : State, s.sup.vaon = false → Leaves .secsIncrement s s)
  ∧ (∀ s : State, s.core = true → s.gb F.TM_CTL_EN = true → s.room 12 s.items.length = true →
      Completes .telemetryPeriod s fun u => u.g F.TM_STATUS_SEQ = (s.g F.TM_STATUS_SEQ + 1) % 256
        ∧ u.q 12 = s.q 12 ++ s.items.map fun x => ⟨BitVec.ofInt 32 (s.item x.1), BitVec.ofNat 16 (x.1 * 256 + x.2 * 16),
            BitVec.ofNat 16 (0x1000 + (s.g F.TM_STATUS_SEQ + 1) % 256)⟩)
  ∧ (∀ s : State, s.core = true → s.gb F.TM_CTL_EN = true → s.room 12 s.items.length = false →
      Completes .telemetryPeriod s fun u => u.g F.TM_STATUS_SEQ = (s.g F.TM_STATUS_SEQ + 1) % 256
        ∧ u.g F.TM_STATUS_LOST = incHold 8 (s.g F.TM_STATUS_LOST) ∧ u.queue = s.queue
        ∧ u.gb (F.Q_STAT_OVF 12) = true)
  ∧ (∀ s : State, s.gb F.TM_CTL_EN = false → Leaves .telemetryPeriod s s)
  ∧ (∀ s : State, s.core = true → Completes .efficiencyWindow s fun u => u.conv.effEin = s.pt.ein / 1600000
      ∧ u.conv.effEr = s.erSum ∧ u.gb F.TM_EFF_EFFNA = decide (s.pt.ein / 1600000 ≤ s.conv.effEin)
      ∧ (s.pt.ein / 1600000 ≤ s.conv.effEin → u.g F.TM_EFF_EFF = 0)
      ∧ (s.conv.effEin < s.pt.ein / 1600000 → s.conv.effEr ≤ s.erSum →
          u.g F.TM_EFF_EFF = min 0xFFFF (65536 * (s.erSum - s.conv.effEr) / (s.pt.ein / 1600000 - s.conv.effEin)).toNat
          ∧ u.g F.TM_EFF_PINAVG = min 0x7FFF ((s.pt.ein / 1600000 - s.conv.effEin) / (s.g F.TM_EFFCFG_EFFWIN : Int)).toNat
          ∧ u.g F.TM_PRAVG_PRAVG = min 0xFFFF ((s.erSum - s.conv.effEr) / (s.g F.TM_EFFCFG_EFFWIN : Int)).toNat))

/-- The entry at Q15's head is written in order, and the first write that waits for room takes a place: a record goes to the ring, and to the pinned slot where it qualified and PINHOLD keeps no other; a
host word goes to its place, and a health write keeps every phase's counters and flags. A sector's write is counted; a verify that fails, or the count at its limit,
takes a spare sector. A scrub pass starts only without one under way, 30 days after the last, and 10 s after OFF was left where it fell due before; a clean sector leads to the next, the last one ends the pass,
corrected words are counted and the sector, corrected in two passes running, remapped; an uncorrectable one is counted with its address; a secure-bank word lost in both copies erases the keys and raises the alarm.
A record of the Ledger is loaded, or reported as not held or bad, bad too where the load finds a lost word. PINREL empties the pinned slot. A host word is queued and WADDR advances, or HNVBUSY is set and a drop counted with fewer than
nine entries free; a read answers the word and advances WADDR, a corrected one counted; an uncorrectable one answers 0 with HNVERR, is counted, and stays so until it is written.
That a refused host write keeps WADDR (log entry 42), the sector numbers (log entry 20) and the alarm's cause (log entry 36) are the model's. -/
def Obligations.NonVolatileStore : Prop :=
  (∀ (s : State) (r : LedgerRec) (pin : Bool) (l : List NvWrite), s.dev ≠ .off → s.nv.q15 = .record r pin :: l →
      s.nv.waiting = [] → SMap.get (fun _ => (0 : Nat)) s.nv.writes (192 + ringSlot r.seq / 4) + 1 < writeLimit →
      Completes (.nvRecordWrite true) s fun u => u.nv.q15 = l ∧ u.nv.ring = (r :: s.nv.ring).take 240
        ∧ u.nv.pinned = (if pin && !(s.gb F.LG_CTL_PINHOLD && s.nv.pinned.isSome) then some r else s.nv.pinned)
        ∧ SMap.get (fun _ => (0 : Nat)) u.nv.writes (192 + ringSlot r.seq / 4)
          = SMap.get (fun _ => (0 : Nat)) s.nv.writes (192 + ringSlot r.seq / 4) + 1
        ∧ u.nv.spare = s.nv.spare ∧ u.regs = s.regs)
  ∧ (∀ (s : State) (i : Nat) (v : Word) (l : List NvWrite), s.dev ≠ .off → s.nv.q15 = .hostWord i v :: l →
      s.nv.waiting = [] → SMap.get (fun _ => (0 : Nat)) s.nv.writes (288 + i / 256) + 1 < writeLimit →
      Completes (.nvRecordWrite true) s fun u => u.nv.q15 = l ∧ SMap.get (fun _ => (0 : Word)) u.nv.hnv i = v
        ∧ i ∉ u.nv.hnvBad ∧ u.nv.ring = s.nv.ring ∧ u.regs = s.regs)
  ∧ (∀ (s : State) (l : List NvWrite), s.dev ≠ .off → s.nv.q15 = .health :: l → Completes (.nvRecordWrite true) s fun u =>
      (∀ n : Fin 48, vget u.nv.health.phase n = s.healthOf n.val) ∧ u.nv.health.secs = s.g F.NP_SECS_SECS)
  ∧ (∀ (s : State) (w v : NvWrite) (l ws : List NvWrite) (b : Bool), s.dev ≠ .off → s.nv.q15 = w :: l →
      s.nv.waiting = v :: ws → Completes (.nvRecordWrite b) s fun u => u.nv.q15 = l ++ [v] ∧ u.nv.waiting = ws)
  ∧ (∀ (s : State) (w : NvWrite) (l : List NvWrite), s.dev ≠ .off → s.nv.q15 = w :: l → s.nv.spare ≠ 0 →
      Completes (.nvRecordWrite false) s fun u => u.nv.spare = s.nv.spare - 1 ∧ u.nv.remaps = s.nv.remaps + 1)
  ∧ (∀ (s : State) (r : LedgerRec) (pin : Bool) (l : List NvWrite), s.dev ≠ .off → s.nv.q15 = .record r pin :: l →
      s.nv.spare ≠ 0 → writeLimit ≤ SMap.get (fun _ => (0 : Nat)) s.nv.writes (192 + ringSlot r.seq / 4) + 1 →
      Completes (.nvRecordWrite true) s fun u => u.nv.spare = s.nv.spare - 1 ∧ u.nv.remaps = s.nv.remaps + 1
        ∧ SMap.get (fun _ => (0 : Nat)) u.nv.writes (192 + ringSlot r.seq / 4) = 0)
  ∧ (∀ (s : State) (b : Bool), s.nv.q15 = [] → Leaves (.nvRecordWrite b) s s)
  ∧ (∀ s : State, s.running = true ∨ s.dev = .safe → s.nv.scrub = none → s.nv.lastScrub + 2592000 ≤ s.g F.NP_SECS_SECS →
      s.nv.ready < s.nv.lastScrub + 2592000 ∨ s.nv.ready + 10 ≤ s.g F.NP_SECS_SECS →
      Leaves .scrubPassStart s { s with nv := { s.nv with scrub := some 0, corrPrev := s.nv.corrNow, corrNow := [] } })
  ∧ (∀ s : State, s.g F.NP_SECS_SECS < s.nv.lastScrub + 2592000
      ∨ s.nv.lastScrub + 2592000 ≤ s.nv.ready ∧ s.g F.NP_SECS_SECS < s.nv.ready + 10 → Leaves .scrubPassStart s s)
  ∧ (∀ (s : State) (i : Nat), s.nv.scrub = some i → Leaves .scrubPassStart s s)
  ∧ (∀ (s : State) (i : Nat), s.nv.scrub = some i → i < 511 → Leaves (.scrubSector [] []) s
      { s with nv := { s.nv with scrub := some (i + 1) } })
  ∧ (∀ s : State, s.nv.scrub = some 511 → Leaves (.scrubSector [] []) s
      { s with nv := { s.nv with scrub := none, lastScrub := s.g F.NP_SECS_SECS } })
  ∧ (∀ (s : State) (i : Nat) (c : List (Fin 256)), s.nv.scrub = some i → i < 308 → c ≠ [] →
      SMap.get (fun _ => (0 : Nat)) s.nv.writes i + c.length < writeLimit → Completes (.scrubSector c []) s fun u =>
      u.g F.NV_STATUS_CORR = min (s.g F.NV_STATUS_CORR + c.length) 0xFFFF ∧ u.nv.scrub = some (i + 1)
      ∧ (i ∈ s.nv.corrPrev → s.nv.spare ≠ 0 → u.nv.spare = s.nv.spare - 1)
      ∧ (i ∉ s.nv.corrPrev → u.nv.spare = s.nv.spare))
  ∧ (∀ (s : State) (i : Nat) (w : Fin 256), s.nv.scrub = some i → i < 192 →
      Completes (.scrubSector [] [⟨w.val, false⟩]) s fun u =>
      u.g F.NV_UNCORR_UNCOR = incHold 8 (s.g F.NV_UNCORR_UNCOR) ∧ u.g F.NV_UNCORR_UADDR = i * 1024 + 4 * w.val
      ∧ i % 96 * 256 + w.val ∈ (vget u.img.slots (Fin.ofNat 2 (i / 96))).badw)
  ∧ (∀ (s : State) (i : Nat) (w : Fin 256), s.nv.scrub = some i → 288 ≤ i → i < 304 →
      Completes (.scrubSector [] [⟨w.val, false⟩]) s fun u =>
      u.g F.NV_UNCORR_UNCOR = incHold 8 (s.g F.NV_UNCORR_UNCOR) ∧ (i - 288) * 256 + w.val ∈ u.nv.hnvBad)
  ∧ (∀ (s : State) (i : Nat) (w : Fin 256), s.nv.scrub = some i → 304 ≤ i → i < 308 →
      Completes (.scrubSector [] [⟨w.val, true⟩]) s fun u =>
      (∀ j, vget u.gate.bank.keys j = none) ∧ u.gb F.GH_STAT_ALARMED = true ∧ u.gate.session = none)
  ∧ (∀ (s : State) (c : List (Fin 256)) (l : List LostWord), s.nv.scrub = none → Leaves (.scrubSector c l) s s)
  ∧ (∀ (s : State) (m : Master) (q : Word) (f : ReadFind), judge m A.LG_RDSEQ q s = .ok → Completes (.ledgerRead m ⟨q, f⟩) s fun u =>
      u.nv = { s.nv with reading := some q.toNat, found := f, win := none } ∧ u.g F.LG_RDSTAT_RESULT = 3 ∧ u.word A.LG_RDSEQ = q)
  ∧ (∀ (s : State) (q : Nat), s.nv.reading = some q → q ≠ 0 → s.nv.found = ⟨[], []⟩ → Completes .ledgerReadDone s fun u => u.nv.reading = none
      ∧ ((∀ r ∈ s.nv.ring, r.seq ≠ q) → u.g F.LG_RDSTAT_RESULT = 1)
      ∧ ((∃ r ∈ s.nv.ring, r.seq = q) → q ∈ s.nv.bad → u.g F.LG_RDSTAT_RESULT = 2)
      ∧ ((∃ r ∈ s.nv.ring, r.seq = q) → q ∉ s.nv.bad → u.g F.LG_RDSTAT_RESULT = 0
          ∧ ∃ r ∈ s.nv.ring, r.seq = q ∧ u.nv.win = some r))
  ∧ (∀ (s : State) (r : LedgerRec) (w : Nat), s.nv.reading = some 0 → s.nv.pinned = some r → s.nv.pinBad = false → w < 64 →
      s.nv.found = ⟨[w], []⟩ → Completes .ledgerReadDone s fun u => u.g F.LG_RDSTAT_RESULT = 0 ∧ u.nv.win = some r
        ∧ u.g F.NV_STATUS_CORR = min (s.g F.NV_STATUS_CORR + 1) 0xFFFF)
  ∧ (∀ (s : State) (r : LedgerRec) (w : Nat), s.nv.reading = some 0 → s.nv.pinned = some r → w < 64 →
      s.nv.found = ⟨[], [⟨w, false⟩]⟩ → Completes .ledgerReadDone s fun u => u.g F.LG_RDSTAT_RESULT = 2 ∧ u.nv.pinBad = true
        ∧ u.g F.NV_UNCORR_UNCOR = incHold 8 (s.g F.NV_UNCORR_UNCOR)
        ∧ u.g F.NV_UNCORR_UADDR = 192 * 1024 + 4 * (64 + w))
  ∧ (∀ s : State, s.nv.reading = none → Leaves .ledgerReadDone s s)
  ∧ (∀ (s : State) (m : Master), judge m A.LG_CTL (s.withField F.LG_CTL_PINREL 1) s = .ok → Completes (.pinrel m) s fun u =>
      u.nv = { s.nv with pinned := none, pinBad := false } ∧ u.gb F.LG_CTL_PINHOLD = s.gb F.LG_CTL_PINHOLD)
  ∧ (∀ (s : State) (m : Master) (v : Word) (b : WordFind), judge m A.HNV_DATA v s = .ok → s.nv.waiting = [] →
      Completes (.hnvDataAccess m (some v) b) s fun u => if s.q15Len < 24 then u.nv.q15 = s.nv.q15 ++ [.hostWord (s.g F.HNV_ADDR_WADDR) v]
          ∧ u.g F.HNV_ADDR_WADDR = (s.g F.HNV_ADDR_WADDR + 1) % 4096
        else u.nv = s.nv ∧ u.gb F.HNV_ADDR_HNVBUSY = true ∧ u.g F.HNV_ADDR_WADDR = s.g F.HNV_ADDR_WADDR
          ∧ u.gb (F.Q_STAT_OVF 15) = true
          ∧ u.g (F.Q_STAT_DROPS 15) = incHold (F.Q_STAT_DROPS 15).w (s.g (F.Q_STAT_DROPS 15))
          ∧ u.word A.CFGERR = s.word A.CFGERR)
  ∧ (∀ (s : State) (m : Master), judgeRead m A.HNV_DATA s = .ok → s.dev ≠ .boot →
      s.nv.hnvBad.contains (s.g F.HNV_ADDR_WADDR) = false → Completes (.hnvDataAccess m none .clean) s
      fun u => u.g F.HNV_ADDR_WADDR = (s.g F.HNV_ADDR_WADDR + 1) % 4096 ∧ u.nv = s.nv
        ∧ u.answer = SMap.get (fun _ => (0 : Word)) s.nv.hnv (s.g F.HNV_ADDR_WADDR))
  ∧ (∀ (s : State) (m : Master), judgeRead m A.HNV_DATA s = .ok → s.dev ≠ .boot →
      s.nv.hnvBad.contains (s.g F.HNV_ADDR_WADDR) = false → Completes (.hnvDataAccess m none .corrected) s
      fun u => u.g F.HNV_ADDR_WADDR = (s.g F.HNV_ADDR_WADDR + 1) % 4096
        ∧ u.g F.NV_STATUS_CORR = min (s.g F.NV_STATUS_CORR + 1) 0xFFFF
        ∧ u.answer = SMap.get (fun _ => (0 : Word)) s.nv.hnv (s.g F.HNV_ADDR_WADDR))
  ∧ (∀ (s : State) (m : Master) (b : WordFind), judgeRead m A.HNV_DATA s = .ok → s.dev ≠ .boot →
      b = .uncorrectable ∨ s.nv.hnvBad.contains (s.g F.HNV_ADDR_WADDR) = true → Completes (.hnvDataAccess m none b) s
      fun u => u.g F.HNV_ADDR_WADDR = (s.g F.HNV_ADDR_WADDR + 1) % 4096 ∧ u.answer = 0 ∧ u.gb F.HNV_ADDR_HNVERR = true
        ∧ u.nv.hnvBad.contains (s.g F.HNV_ADDR_WADDR) = true
        ∧ u.g F.NV_UNCORR_UNCOR = incHold 8 (s.g F.NV_UNCORR_UNCOR))

/-- A write of RUN from 0 to 1 that the checks let through arms the Plate empty; one from 1 to 0 abandons the capture; TRIGNOW triggers an armed Plate and stamps it.
A tick counts under BASE 1, or where an occurrence of its base is owed, taking it; without one it changes nothing.
With DEC and DECMODE 0 each tick of an armed, untriggered Plate without a level trigger keeps the last PRE samples of its nodes, the tick after a trigger starts
the capture, and the last sample of a capture ends it with RUN 0, raising E4h + p; a Plate neither armed nor capturing, or armed less than 35 ns before, ignores ticks. The export of a done Plate
fills Q13 in order, waits while it is full and goes on when there is room.
What arming clears is the model's reading (log entry 50), as is what an occurrence of base 4 is (log entry 132). -/
def Obligations.PlatesCaptureAndExport : Prop :=
  (∀ (s : State) (m : Master) (p : Fin 4), judge m (A.PL_CTL p.val) (s.withField (F.PL_CTL_RUN p.val) 1) s = .ok →
      s.gb (F.PL_CTL_RUN p.val) = false → s.gb (F.PL_CTL_TRIGNOW p.val) = false → Completes (.plateArm m p) s fun u =>
        let a := accepted m (A.PL_CTL p.val) (s.withField (F.PL_CTL_RUN p.val) 1) s
        vget u.plate p = ⟨.armed, 0, [], [], 0, false, 0, s.clock, s.g (F.PL_CTL_NCHC p.val), 0, false⟩ ∧ u.gb (F.PL_CTL_RUN p.val) = true
        ∧ u.gb (F.PL_TTSHI_TVALID p.val) = false ∧ (∀ j, j ≠ p → vget u.plate j = vget a.plate j) ∧ u.rail = s.rail)
  ∧ (∀ (s : State) (m : Master) (p : Fin 4), judge m (A.PL_CTL p.val) (s.withField (F.PL_CTL_RUN p.val) 0) s = .ok →
      s.gb (F.PL_CTL_RUN p.val) = true → Completes (.plateStop m p) s fun u =>
        let a := accepted m (A.PL_CTL p.val) (s.withField (F.PL_CTL_RUN p.val) 0) s
        vget u.plate p = { vget a.plate p with st := .idle, buf := [], sums := [], pre := 0, trig := false } ∧ u.gb (F.PL_CTL_RUN p.val) = false
        ∧ (∀ j, j ≠ p → vget u.plate j = vget a.plate j) ∧ u.rail = s.rail)
  ∧ (∀ (s : State) (m : Master) (p : Fin 4), judge m (A.PL_CTL p.val) (s.withField (F.PL_CTL_TRIGNOW p.val) 1) s = .ok →
      (vget s.plate p).st = .armed → (vget s.plate p).trig = false → Completes (.trignow m p) s fun u =>
        let a := accepted m (A.PL_CTL p.val) (s.withField (F.PL_CTL_TRIGNOW p.val) 1) s
        vget u.plate p = { vget a.plate p with trig := true } ∧ u.gb (F.PL_TTSHI_TVALID p.val) = true
        ∧ u.word (A.PL_TTSLO p.val) = s.tb.setWidth 32 ∧ (∀ j, j ≠ p → vget u.plate j = vget a.plate j))
  ∧ (∀ (s : State) (p : Fin 4) (t : Time), s.core = true →
      s.g (F.PL_CTL_BASE p.val) = 1 ∨ (vget s.plate p).owed ≠ 0 → (vget s.plate p).st = .armed → (vget s.plate p).trig = false →
      ns35 ≤ elapsed (vget s.plate p).at_ (s.atTime t).clock → s.g (F.PL_TRIG_TSRC p.val) ≠ 2 → s.g (F.PL_DEC_DEC p.val) = 0 → s.gb (F.PL_CTL_DECMODE p.val) = false →
      Completes (.plateTick ⟨p, t⟩) s fun u => (vget u.plate p).st = .armed ∧ u.regs = s.regs
        ∧ (vget u.plate p).buf = (let b := (vget s.plate p).buf ++ [((s.atTime t).plateNodes p).map (BitVec.ofInt 32)]
            b.drop (b.length - s.g (F.PL_PRE_PRE p.val))))
  ∧ (∀ (s : State) (p : Fin 4) (t : Time), s.core = true →
      s.g (F.PL_CTL_BASE p.val) = 1 ∨ (vget s.plate p).owed ≠ 0 → (vget s.plate p).st = .armed → (vget s.plate p).trig = true →
      ns35 ≤ elapsed (vget s.plate p).at_ (s.atTime t).clock → s.g (F.PL_DEC_DEC p.val) = 0 → s.gb (F.PL_CTL_DECMODE p.val) = false →
      s.g (F.PL_PRE_PRE p.val) + 1 < plateDepth (s.g (F.PL_CTL_NCHC p.val)) → Completes (.plateTick ⟨p, t⟩) s fun u =>
        (vget u.plate p).st = .capturing ∧ (vget u.plate p).pre = (vget s.plate p).buf.length
        ∧ (vget u.plate p).left = plateDepth (s.g (F.PL_CTL_NCHC p.val)) - s.g (F.PL_PRE_PRE p.val) - 1
        ∧ (vget u.plate p).buf = (vget s.plate p).buf ++ [((s.atTime t).plateNodes p).map (BitVec.ofInt 32)])
  ∧ (∀ (s : State) (p : Fin 4) (t : Time), s.core = true →
      s.g (F.PL_CTL_BASE p.val) = 1 ∨ (vget s.plate p).owed ≠ 0 → (vget s.plate p).st = .capturing → (vget s.plate p).left = 1 →
      s.g (F.PL_DEC_DEC p.val) = 0 → s.gb (F.PL_CTL_DECMODE p.val) = false → Completes (.plateTick ⟨p, t⟩) s fun u =>
        (vget u.plate p).st = .done ∧ u.gb (F.PL_CTL_RUN p.val) = false
        ∧ (vget u.plate p).buf = (vget s.plate p).buf ++ [((s.atTime t).plateNodes p).map (BitVec.ofInt 32)])
  ∧ (∀ (s : State) (p : Fin 4) (t : Time), s.g (F.PL_CTL_BASE p.val) ≠ 1 → (vget s.plate p).owed = 0 →
      Leaves (.plateTick ⟨p, t⟩) s (s.atTime t))
  ∧ (∀ (s : State) (p : Fin 4) (t : Time), s.g (F.PL_CTL_BASE p.val) = 1 → (vget s.plate p).st = .idle
      ∨ (vget s.plate p).st = .done ∨ (vget s.plate p).st = .armed ∧ elapsed (vget s.plate p).at_ (s.atTime t).clock < ns35 →
      Leaves (.plateTick ⟨p, t⟩) s (s.atTime t))
  ∧ (∀ (s : State) (m : Master) (p : Fin 4), judge m A.PL_EXP (setBits (setBits 0 31 1 1) 0 2 p.val) s = .ok →
      (vget s.plate p).st = .done → s.room 13 1 = false → Completes (.plateExport m p) s fun u =>
        u.exp = some (p, 0) ∧ u.queue = s.queue ∧ u.plate = (accepted m A.PL_EXP (setBits (setBits 0 31 1 1) 0 2 p.val) s).plate)
  ∧ (∀ (s : State) (m : Master) (p : Fin 4), judge m A.PL_EXP (setBits (setBits 0 31 1 1) 0 2 p.val) s = .ok →
      (vget s.plate p).st = .done → s.q 13 = [] → 32 < s.exportLen p → Completes (.plateExport m p) s fun u =>
        u.exp = some (p, 32) ∧ u.q 13 = (List.range 32).map (s.exportEntry p))
  ∧ (∀ (s : State) (p : Fin 4) (i : Nat), s.exp = some (p, i) → i + 1 < s.exportLen p → (s.q 13).length = 31 →
      Completes .plateExportResume s fun u => u.q 13 = s.q 13 ++ [s.exportEntry p i] ∧ u.exp = some (p, i + 1))
  ∧ (∀ s : State, s.exp = none → Leaves .plateExportResume s s)

/-! ### The two-wire host ports -/

/-- At a port that serves without PEC, an F0h write of one aligned word that the Gatehouse grants is exactly that register write by the port's master; a
refusal NACKs, reports and leaves the register, and a bad count is NACKed. A wrong PEC drops the write and is counted. A write the host leaves open after its address keeps its bytes; its rest completes it, is
refused by the state of that moment, or is no event without it; a new START aborts it.
An F0h read sends its count, status 1 and the word as the port's master reads it, or zeros with status 3 where the Gatehouse refuses; one the
host ends early is counted. A code without a transaction
is NACKed with UNKCMD; a read without a command sends FFh. A port that is off ignores the bus.
The bytes sent are kept by the model (log entry 72), a wrong PEC is one wrong byte (log entry 58), the STATUS_CML bit of a code above F2h is the model's
reading (log entry 64), the counter of an early end its choice (log entry 135), and the abort of an open write its deduction (log entry 136). -/
def Obligations.RegisterAccessOverAPort : Prop :=
  (∀ (s : State) (x : Fin 2) (a : BitVec 24) (w : Word) (more : Bool), Serves s x → a.toNat % 4 = 0 →
      s.gateWrite (hostMaster x) a.toNat false = none →
      (∀ k, judge (hostMaster x) a.toNat w (hpStart x s) ≠ .gate k) →
      Leaves (.extendedWrite x (7 :: addrBytes a ++ leBytes 4 w.toNat) ⟨.absent, false, more⟩) s
        (hpResult x 1 (regWrite (hostMaster x) a.toNat w (hpStart x s)).1))
  ∧ (∀ (s : State) (x : Fin 2) (a : BitVec 24), Serves s x → a.toNat % 4 = 0 → s.gateWrite (hostMaster x) a.toNat false = none →
      Completes (.extendedWrite x (7 :: addrBytes a) ⟨.absent, false, true⟩) s fun u =>
        Opened u x 0xF0 (7 :: addrBytes a) ∧ u.gb (F.HP_STATUS_BUSY x.val) = true
        ∧ OnlyWords { u with host := s.host } s [A.HP_STATUS x.val])
  ∧ (∀ (s : State) (x : Fin 2) (a : BitVec 24) (w : Word) (more : Bool), Opened s x 0xF0 (7 :: addrBytes a) → a.toNat % 4 = 0 →
      (∀ k, judge (hostMaster x) a.toNat w (hpClear x s) ≠ .gate k) →
      Leaves (.extendedWrite x (leBytes 4 w.toNat) ⟨.absent, true, more⟩) s
        (hpResult x 1 (regWrite (hostMaster x) a.toNat w (hpClear x s)).1))
  ∧ (∀ (s : State) (x : Fin 2) (a : BitVec 24) (w : Word) (more : Bool) (k : Nat), Opened s x 0xF0 (7 :: addrBytes a) →
      a.toNat % 4 = 0 → judge (hostMaster x) a.toNat w (hpClear x s) = .gate k →
      Completes (.extendedWrite x (leBytes 4 w.toNat) ⟨.absent, true, more⟩) s fun u =>
        u.g (F.HP_STATUS_LASTRES x.val) = 3 ∧ (vget u.host x).part = none
        ∧ OnlyWords { u with host := s.host } s [A.HP_STATUS x.val, A.GH_DENY, A.GH_DENYCNT])
  ∧ (∀ (s : State) (x : Fin 2) (l : List Byte) (p : Pec) (more : Bool), (vget s.host x).part = none →
      Leaves (.extendedWrite x l ⟨p, true, more⟩) s s)
  ∧ (∀ (s : State) (x : Fin 2) (c : Nat) (l : List Byte) (n : Nat), Opened s x c l → Completes (.readWithoutCommand x n) s
      fun u => (vget u.host x).part = none ∧ u.g (F.HP_CNT_ABORTS x.val) = incHold 8 (s.g (F.HP_CNT_ABORTS x.val))
        ∧ OnlyWords { u with host := s.host } s [A.HP_STATUS x.val, A.HP_CNT x.val])
  ∧ (∀ (s : State) (x : Fin 2) (a : BitVec 24) (w : Word) (k : Nat) (p : Pec) (more : Bool), s.hostOn x = true → s.dev ≠ .boot →
      a.toNat % 4 = 0 → s.gateWrite (hostMaster x) a.toNat false = some k →
      Completes (.extendedWrite x (7 :: addrBytes a ++ leBytes 4 w.toNat) ⟨p, false, more⟩) s fun u =>
        u.g (F.HP_STATUS_LASTRES x.val) = 3 ∧ u.g (F.HP_CNT_NACKS x.val) = incHold 8 (s.g (F.HP_CNT_NACKS x.val))
        ∧ OnlyWords { u with host := s.host } s [A.HP_STATUS x.val, A.HP_CNT x.val, A.GH_DENY, A.GH_DENYCNT])
  ∧ (∀ (s : State) (x : Fin 2) (a : BitVec 24) (w : Word) (more : Bool), s.hostOn x = true → s.dev ≠ .boot →
      s.gb (F.HP_CTL_PECEN x.val) = true → a.toNat % 4 = 0 → s.gateWrite (hostMaster x) a.toNat false = none →
      Completes (.extendedWrite x (7 :: addrBytes a ++ leBytes 4 w.toNat) ⟨.wrong, false, more⟩) s fun u =>
        u.g (F.HP_STATUS_LASTRES x.val) = 9 ∧ u.gb (F.HP_STATUS_PECERR x.val) = true
        ∧ u.g (F.HP_CNT_PECERRS x.val) = incHold 8 (s.g (F.HP_CNT_PECERRS x.val))
        ∧ OnlyWords { u with host := s.host } s [A.HP_STATUS x.val, A.HP_CNT x.val])
  ∧ (∀ (s : State) (x : Fin 2) (n : Byte) (l : List Byte) (p : Pec) (more : Bool), s.hostOn x = true → s.dev ≠ .boot →
      n.toNat < 7 ∨ 67 < n.toNat ∨ n.toNat % 4 ≠ 3 → Completes (.extendedWrite x (n :: l) ⟨p, false, more⟩) s fun u =>
        u.g (F.HP_STATUS_LASTRES x.val) = 8 ∧ u.g (F.HP_CNT_NACKS x.val) = incHold 8 (s.g (F.HP_CNT_NACKS x.val))
        ∧ OnlyWords { u with host := s.host } s [A.HP_STATUS x.val, A.HP_CNT x.val])
  ∧ (∀ (s : State) (x : Fin 2) (a : BitVec 24) (b : WordFind), Serves s x → a.toNat % 4 = 0 →
      judgeRead (hostMaster x) a.toNat (hpStart x s) = .ok → Completes (.extendedRead x (4 :: addrBytes a ++ [0]) 6 .absent b) s
      fun u => (vget u.host x).sent = 5 :: 1 :: leBytes 4
          (((hpStart x s).pb (F.HP_STATUS_BUSY x.val) true).readWord (hostMaster x) a.toNat b).toNat
        ∧ u.g (F.HP_STATUS_LASTRES x.val) = 1 ∧ u.phase = s.phase ∧ u.rail = s.rail ∧ u.queue = s.queue)
  ∧ (∀ (s : State) (x : Fin 2) (a : BitVec 24) (b : WordFind) (n : Nat), Serves s x → a.toNat % 4 = 0 →
      judgeRead (hostMaster x) a.toNat (hpStart x s) = .ok → 0 < n → n < 6 →
      Completes (.extendedRead x (4 :: addrBytes a ++ [0]) n .absent b) s fun u => (vget u.host x).sent = (5 :: 1 :: leBytes 4
          (((hpStart x s).pb (F.HP_STATUS_BUSY x.val) true).readWord (hostMaster x) a.toNat b).toNat).take n
        ∧ u.g (F.HP_CNT_ABORTS x.val) = incHold 8 (s.g (F.HP_CNT_ABORTS x.val))
        ∧ OnlyWords { u with host := s.host } s [A.HP_STATUS x.val, A.HP_CNT x.val])
  ∧ (∀ (s : State) (x : Fin 2) (a : BitVec 24) (b : WordFind) (k : Nat), Serves s x → a.toNat % 4 = 0 →
      judgeRead (hostMaster x) a.toNat (hpStart x s) = .gate k →
      Completes (.extendedRead x (4 :: addrBytes a ++ [0]) 6 .absent b) s fun u =>
        (vget u.host x).sent = [5, 3, 0, 0, 0, 0] ∧ u.g (F.HP_STATUS_LASTRES x.val) = 3
        ∧ OnlyWords { u with host := s.host } s [A.HP_STATUS x.val, A.GH_DENY, A.GH_DENYCNT])
  ∧ (∀ (s : State) (x : Fin 2) (c : Byte), s.hostOn x = true → s.dev ≠ .boot → 0xF3 ≤ c.toNat → Completes (.unkcmd x c) s
      fun u => u.gb (F.HP_STATUS_UNKCMD x.val) = true ∧ u.g (F.HP_STATUS_LASTRES x.val) = 0xB
        ∧ (vget u.host x).cml = (vget s.host x).cml ||| 0x80
        ∧ OnlyWords { u with host := s.host } s [A.HP_STATUS x.val, A.HP_CNT x.val])
  ∧ (∀ (s : State) (x : Fin 2) (n : Nat), s.hostOn x = true → s.dev ≠ .boot → (vget s.host x).part = none → Completes (.readWithoutCommand x n) s fun u =>
      Sent s u x 8 (List.replicate n 0xFF))
  ∧ (∀ (s : State) (x : Fin 2) (l : List Byte) (n : Nat) (p : Pec) (b : WordFind) (e : WriteEnd), s.hostOn x = false →
      Leaves (.extendedWrite x l e) s s ∧ Leaves (.extendedRead x l n p b) s s)

/-- At a port that serves without PEC, outside SAFE, a granted push of a rail's queue with room appends the entry under the port's own tag; a full one NACKs it
and counts the drop; one found full when the rest of an open push comes drops it too, and sets RAIL[k].TSTAT.QFULL. A pop of Q11 to Q14 answers its head and removes it at the STOP, keeping a copy; one the
host ends early leaves the entry and is counted; one left open holds it. A repeat
answers the copy. An empty queue answers 5. QFLUSH empties the port's queue of register writes and no other.
What ends a pop left open is the model's reading (log entry 67), the counter of an early end its choice (log entry 135). -/
def Obligations.QueuesOverAPort : Prop :=
  (∀ (s : State) (x : Fin 2) (k : Fin 8) (e : QEntry) (more : Bool), Serves s x → s.dev ≠ .safe →
      s.gateWrite (hostMaster x) (A.RAIL_VSET k.val) false = none → s.room ⟨k.val, by omega⟩ 1 = true →
      Completes (.queuePush x (9 :: pushBytes ⟨k.val, by omega⟩ e) ⟨.absent, false, more⟩) s fun u =>
        u.q ⟨k.val, by omega⟩ = s.q ⟨k.val, by omega⟩ ++ [{ e with tag := BitVec.ofNat 16 (masterCode (hostMaster x) * 8192) }]
        ∧ u.g (F.HP_STATUS_LASTRES x.val) = 1 ∧ (∀ q : Fin 16, q.val ≠ k.val → u.q q = s.q q)
        ∧ u.ra k = { s.ra k with pushed := (s.ra k).pushed ++ [s.clock] } ∧ (∀ j, j ≠ k → u.ra j = s.ra j) ∧ u.phase = s.phase)
  ∧ (∀ (s : State) (x : Fin 2) (k : Fin 8) (e : QEntry) (more : Bool), Serves s x → s.gateWrite (hostMaster x) (A.RAIL_VSET k.val) false = none →
      s.room ⟨k.val, by omega⟩ 1 = false → Completes (.queuePush x (9 :: pushBytes ⟨k.val, by omega⟩ e) ⟨.absent, false, more⟩) s fun u =>
        u.queue = s.queue ∧ u.g (F.HP_STATUS_LASTRES x.val) = 7
        ∧ u.g (F.Q_STAT_DROPS k.val) = incHold (F.Q_STAT_DROPS k.val).w (s.g (F.Q_STAT_DROPS k.val))
        ∧ u.gb (F.Q_STAT_OVF k.val) = true)
  ∧ (∀ (s : State) (x : Fin 2) (k : Fin 8) (e : QEntry) (more : Bool), Opened s x 0xF1 [9, byte k.val] → s.dev ≠ .safe →
      s.gateWrite (hostMaster x) (A.RAIL_VSET k.val) false = none → s.room ⟨k.val, by omega⟩ 1 = false →
      Completes (.queuePush x e.bytes ⟨.absent, true, more⟩) s fun u =>
        u.queue = s.queue ∧ u.g (F.HP_STATUS_LASTRES x.val) = 7 ∧ u.gb (F.RAIL_TSTAT_QFULL k.val) = true
        ∧ u.g (F.Q_STAT_DROPS k.val) = incHold (F.Q_STAT_DROPS k.val).w (s.g (F.Q_STAT_DROPS k.val)))
  ∧ (∀ (s : State) (x : Fin 2) (q : Fin 16) (e : QEntry) (l : List QEntry) (n : Nat), Serves s x → 11 ≤ q.val → q.val ≤ 14 →
      s.gateRead (hostMaster x) (A.Q_STAT q.val) = none → s.heldByOther x q = false → s.q q = e :: l → 0 < n → n < 10 →
      Completes (.queuePop x [1, byte q.val] ⟨n, true⟩ .absent) s fun u => (vget u.host x).sent = (9 :: 1 :: e.bytes).take n
        ∧ u.queue = s.queue ∧ u.g (F.HP_CNT_ABORTS x.val) = incHold 8 (s.g (F.HP_CNT_ABORTS x.val))
        ∧ (vget u.host x).hold = none ∧ (vget u.host x).copies = (vget s.host x).copies)
  ∧ (∀ (s : State) (x : Fin 2) (q : Fin 16) (e : QEntry) (l : List QEntry), Serves s x → 11 ≤ q.val → q.val ≤ 14 →
      s.gateRead (hostMaster x) (A.Q_STAT q.val) = none → s.heldByOther x q = false → s.q q = e :: l →
      Completes (.queuePop x [1, byte q.val] ⟨10, true⟩ .absent) s fun u => (vget u.host x).sent = 9 :: 1 :: e.bytes
        ∧ u.q q = l ∧ vget (vget u.host x).copies (Fin.ofNat 4 (q.val - 11)) = some e
        ∧ u.g (F.HP_STATUS_LASTRES x.val) = 1 ∧ (∀ j, j ≠ q → u.q j = s.q j) ∧ u.rail = s.rail ∧ u.phase = s.phase)
  ∧ (∀ (s : State) (x : Fin 2) (q : Fin 16) (e : QEntry) (l : List QEntry), Serves s x → 11 ≤ q.val → q.val ≤ 14 →
      s.gateRead (hostMaster x) (A.Q_STAT q.val) = none → s.heldByOther x q = false → s.q q = e :: l →
      Completes (.queuePop x [1, byte q.val] ⟨10, false⟩ .absent) s fun u => Sent s u x 1 (9 :: 1 :: e.bytes)
        ∧ (vget u.host x).hold = some q ∧ u.gb (F.HP_STATUS_BUSY x.val) = true)
  ∧ (∀ (s : State) (x : Fin 2) (q : Fin 16) (e : QEntry), Serves s x → 11 ≤ q.val → q.val ≤ 14 →
      s.gateRead (hostMaster x) (A.Q_STAT q.val) = none →
      vget (vget s.host x).copies (Fin.ofNat 4 (q.val - 11)) = some e →
      Completes (.queuePop x [1, byte (q.val + 128)] ⟨10, true⟩ .absent) s fun u => Sent s u x 1 (9 :: 1 :: e.bytes))
  ∧ (∀ (s : State) (x : Fin 2) (q : Fin 16), Serves s x → 11 ≤ q.val → q.val ≤ 14 →
      s.gateRead (hostMaster x) (A.Q_STAT q.val) = none → s.heldByOther x q = false → s.q q = [] →
      Completes (.queuePop x [1, byte q.val] ⟨2, true⟩ .absent) s fun u => Sent s u x 5 [1, 5])
  ∧ (∀ (s : State) (x : Fin 2) (q : Byte) (z : PopEnd), Serves s x → q.toNat % 128 < 11 ∨ 14 < q.toNat % 128 →
      Completes (.queuePop x [1, q] z .absent) s fun u => u.g (F.HP_STATUS_LASTRES x.val) = 8 ∧ u.queue = s.queue)
  ∧ (∀ (s : State) (m : Master) (x : Fin 2), judge m (A.HP_CTL x.val) (s.withField (F.HP_CTL_QFLUSH x.val) 1) s = .ok →
      Completes (.qflush m x) s fun u => u.q (Fin.ofNat 16 (8 + x.val)) = []
        ∧ (∀ q, q ≠ Fin.ofNat 16 (8 + x.val) → u.q q = s.q q) ∧ u.rail = s.rail ∧ u.phase = s.phase)

/-- A stretch timeout, an SMBus timeout and a bus error each abandon the port's transaction, with their flag, counter and STATUS_CML bit, and take no entry from a
queue. The Alert Response of a port that wins releases HALERT# and sets ACKED; a port that loses leaves it low; with HALERT# high, ARAEN 0 or in BOOT its address is NACKed and counted. A GO starts HPB's transaction
as attempt 1; a lost arbitration waits, or after the retries ends with ARBLOST; a retry counts; the end sets MRES, clears MBUSY and leaves the bytes
a read received in HPM_RX; with MPEC the byte after them, compared with the PEC expected, makes MRES done or bad PEC.
Which counters a timeout counts in (log entry 63), what HPM_RX keeps (log entry 70), LASTRES after an Alert Response (log entry 71) and what an
early end of HPB's transaction leaves (log entry 90) are the model's readings. -/
def Obligations.PortErrorsAlertAndMaster : Prop :=
  (∀ (s : State) (x : Fin 2), s.hostOn x = true → s.dev ≠ .boot → Completes (.stretchTimeout x) s fun u =>
      u.gb (F.HP_STATUS_STRETCHTO x.val) = true ∧ u.g (F.HP_STATUS_LASTRES x.val) = 0xA
        ∧ u.g (F.HP_CNT_TIMEOUTS x.val) = incHold 8 (s.g (F.HP_CNT_TIMEOUTS x.val)) ∧ (vget u.host x).hold = none
        ∧ (vget u.host x).cml = (vget s.host x).cml ||| 2
        ∧ OnlyWords { u with host := s.host } s [A.HP_STATUS x.val, A.HP_CNT x.val])
  ∧ (∀ (s : State) (x : Fin 2), s.hostOn x = true → s.dev ≠ .boot → s.gb (F.HP_CTL_SMBTO x.val) = true →
      s.mastering = false → Completes (.smbusTimeout x) s fun u =>
        u.gb (F.HP_STATUS_SMBTOUT x.val) = true ∧ u.g (F.HP_STATUS_LASTRES x.val) = 0xA
        ∧ u.g (F.HP_CNT_TIMEOUTS x.val) = incHold 8 (s.g (F.HP_CNT_TIMEOUTS x.val)) ∧ (vget u.host x).hold = none
        ∧ OnlyWords { u with host := s.host } s [A.HP_STATUS x.val, A.HP_CNT x.val])
  ∧ (∀ (s : State) (x : Fin 2), s.gb (F.HP_CTL_SMBTO x.val) = false → Leaves (.smbusTimeout x) s s)
  ∧ (∀ (s : State) (x : Fin 2) (b : Bool), s.hostOn x = true → s.dev ≠ .boot → Completes (.busError x b) s fun u =>
      u.gb (F.HP_STATUS_BUSERR x.val) = (s.gb (F.HP_STATUS_BUSERR x.val) || !b)
        ∧ u.g (F.HP_STATUS_LASTRES x.val) = 0xA ∧ u.g (F.HP_CNT_ABORTS x.val) = incHold 8 (s.g (F.HP_CNT_ABORTS x.val))
        ∧ OnlyWords { u with host := s.host } s [A.HP_STATUS x.val, A.HP_CNT x.val])
  ∧ (∀ (s : State) (x : Fin 2), Serves s x → s.gb (F.HP_CTL_ARAEN x.val) = true → s.gb F.HP_ALERT_DRIVE = true →
      Completes (.alertResponse x true) s fun u => (vget u.host x).sent = [byte (2 * s.hostAddr)]
        ∧ u.gb F.HP_ALERT_DRIVE = false ∧ u.gb F.HP_ALERT_ACKED = true ∧ u.g (F.HP_STATUS_LASTRES x.val) = 1
        ∧ OnlyWords { u with host := s.host } s [A.HP_STATUS x.val, A.HP_ALERT])
  ∧ (∀ (s : State) (x : Fin 2), s.hostOn x = true → s.dev ≠ .boot → s.gb (F.HP_CTL_ARAEN x.val) = true →
      s.gb F.HP_ALERT_DRIVE = true → Leaves (.alertResponse x false) s (hpStart x s))
  ∧ (∀ (s : State) (x : Fin 2) (won : Bool), s.hostOn x = true →
      s.gb F.HP_ALERT_DRIVE = false ∨ s.gb (F.HP_CTL_ARAEN x.val) = false ∨ s.dev = .boot →
      Completes (.alertResponse x won) s fun u => (vget u.host x).nacked = true
        ∧ u.g (F.HP_CNT_NACKS x.val) = incHold 8 (s.g (F.HP_CNT_NACKS x.val)) ∧ u.word A.HP_ALERT = s.word A.HP_ALERT
        ∧ OnlyWords { u with host := s.host } s [A.HP_STATUS x.val, A.HP_CNT x.val])
  ∧ (∀ (s : State) (m : Master) (w : Word), judge m A.HPM_CTL (setBits w 31 1 1) s = .ok → Completes (.masterGo m w) s fun u =>
      u.gb F.HPM_STATUS_MBUSY = true ∧ u.g F.HPM_STATUS_ATTEMPTS = 1 ∧ u.masterWait = false
        ∧ OnlyWords { u with masterWait := s.masterWait } (accepted m A.HPM_CTL (setBits w 31 1 1) s) [A.HPM_CTL, A.HPM_STATUS])
  ∧ (∀ (s : State) (m : Master) (w : Word), s.gb F.HPM_STATUS_MBUSY = true → judge m A.HPM_CTL (setBits w 31 1 1) s ≠ .ok)
  ∧ (∀ s : State, s.mastering = true → s.g F.HPM_STATUS_ATTEMPTS ≤ s.g F.HPM_CTL_MRETRY →
      Leaves .arbitrationLost s { s with masterWait := true })
  ∧ (∀ s : State, s.mastering = true → s.g F.HPM_CTL_MRETRY < s.g F.HPM_STATUS_ATTEMPTS →
      Completes .arbitrationLost s fun u => u.gb F.HPM_STATUS_MBUSY = false ∧ u.g F.HPM_STATUS_MRES = 4
        ∧ ∀ i : Fin 2, u.word (A.HPM_RX i.val) = s.word (A.HPM_RX i.val))
  ∧ (∀ s : State, s.core = true → s.sup.vioh = true → s.gb F.HPM_STATUS_MBUSY = true → s.masterWait = true → Completes .masterRetry s fun u =>
      u.masterWait = false ∧ u.g F.HPM_STATUS_ATTEMPTS = incHold 4 (s.g F.HPM_STATUS_ATTEMPTS)
        ∧ OnlyWords { u with masterWait := s.masterWait } s [A.HPM_STATUS])
  ∧ (∀ (s : State) (i : BitVec 4) (l : List Byte), s.mastering = true → l.length = s.g F.HPM_CTL_NRD → l.length ≤ 8 →
      s.gb F.HPM_CTL_MPEC = false ∨ l = [] → Completes (.masterTransactionEnd 1 i l) s fun u => u.gb F.HPM_STATUS_MBUSY = false ∧ u.g F.HPM_STATUS_MRES = 1
        ∧ (∀ j (h : j < l.length), getBits (u.word (A.HPM_RX (j / 4))) (8 * (j % 4)) 8 = (l[j]'h).toNat)
        ∧ u.rail = s.rail ∧ u.phase = s.phase)
  ∧ (∀ (s : State) (r i : BitVec 4) (l : List Byte) (b : Byte), s.mastering = true → l.length = s.g F.HPM_CTL_NRD → l.length ≤ 8 →
      s.gb F.HPM_CTL_MPEC = true → l ≠ [] → r = 1 ∨ r = 6 → Completes (.masterTransactionEnd r i (l ++ [b])) s fun u =>
        u.g F.HPM_STATUS_MRES = (if b = smbusPec (s.masterBytes ++ l) then 1 else 6) ∧ u.gb F.HPM_STATUS_MBUSY = false
        ∧ ∀ j (h : j < l.length), getBits (u.word (A.HPM_RX (j / 4))) (8 * (j % 4)) 8 = (l[j]'h).toNat)
  ∧ (∀ (s : State) (i : BitVec 4) (l : List Byte), s.mastering = true → Completes (.masterTransactionEnd 3 i l) s fun u =>
      u.g F.HPM_STATUS_MRES = 3 ∧ u.g F.HPM_STATUS_NACKIDX = i.toNat ∧ u.gb F.HPM_STATUS_MBUSY = false
        ∧ ∀ j : Fin 2, u.word (A.HPM_RX j.val) = s.word (A.HPM_RX j.val))
  ∧ (∀ (s : State) (r i : BitVec 4) (l : List Byte), s.mastering = false → Leaves (.masterTransactionEnd r i l) s s
      ∧ Leaves .arbitrationLost s s)

/-- At a port that serves PMBus without PEC, with PAGE naming rail k and every read granted, each read sends its bytes and changes nothing but
the port's status: REQON, the ENMODE code, the fixed codes, VCMD, VMAX, VSLEW and LLR in their formats, the status latches and words, the
readings of the rail and of the device, and the identification blocks. A refused block is answered with zeros and result 3; under PAGE FFh a
read is NACKed with result 8. A read the host ends after its first byte is counted as aborted, a data byte written to a command that is only read is
NACKed with result 8 (log entries 135, 137).
The NACK under PAGE FFh is the model's choice (log entry 68); which registers the Gatehouse is asked for is its reading (log entry 69). -/
def Obligations.PmbusReadsAnswer : Prop :=
  (∀ (s : State) (x : Fin 2) (k : Fin 8), ServesPmbus s x → s.pageOf x = k.val → (∀ a, s.gateRead (hostMaster x) a = none) →
      Completes (.page x none (.plain .absent)) s (fun u => Sent s u x 1 [byte k.val])
      ∧ Completes (.operation x none (.plain .absent)) s (fun u =>
          Sent s u x 1 [if s.gb (F.RAIL_TSTAT_REQON k.val) then 0x80 else 0])
      ∧ Completes (.onOffConfig x (.plain .absent)) s (fun u => Sent s u x 1 [byte (onOffCode (s.g (F.RAIL_SEQCTL_ENMODE k.val)))])
      ∧ Completes (.capability x (.plain .absent)) s (fun u => Sent s u x 1 [0xD0])
      ∧ Completes (.voutMode x (.plain .absent)) s (fun u => Sent s u x 1 [0x13])
      ∧ Completes (.voutCommand x none (.plain .absent)) s (fun u =>
          Sent s u x 1 (leBytes 2 (ulinearWord (s.g (F.RAIL_REFNOW_VCMD k.val)))))
      ∧ Completes (.voutMax x none (.plain .absent)) s (fun u => Sent s u x 1 (leBytes 2 (ulinearWord (s.g (F.RAIL_VLIM_VMAX k.val)))))
      ∧ Completes (.voutTransitionRate x none (.plain .absent)) s (fun u =>
          Sent s u x 1 (leBytes 2 (linWord (s.g (F.RAIL_SLEW_VSLEW k.val)) 100)))
      ∧ Completes (.voutDroop x none (.plain .absent)) s (fun u => Sent s u x 1 (leBytes 2 (linWord (s.g (F.OL_LL_LLR k.val)) 1000)))
      ∧ Completes (.statusByte x (.plain .absent)) s (fun u => Sent s u x 1 [byte (s.statusWord x k % 256)])
      ∧ Completes (.statusWord x (.plain .absent)) s (fun u => Sent s u x 1 (leBytes 2 (s.statusWord x k)))
      ∧ Completes (.statusVout x (.plain .absent)) s (fun u => Sent s u x 1 [(vget s.latches k).vout])
      ∧ Completes (.statusIout x (.plain .absent)) s (fun u => Sent s u x 1 [(vget s.latches k).iout])
      ∧ Completes (.statusInput x (.plain .absent)) s (fun u => Sent s u x 1 [(vget s.latches k).input])
      ∧ Completes (.statusTemperature x (.plain .absent)) s (fun u => Sent s u x 1 [(vget s.latches k).temp])
      ∧ Completes (.statusCml x (.plain .absent)) s (fun u => Sent s u x 1 [(vget s.host x).cml])
      ∧ Completes (.readVout x (.plain .absent)) s (fun u => Sent s u x 1 (leBytes 2 (ulinearWord (s.mcV (54 + k.val)))))
      ∧ Completes (.readIout x (.plain .absent)) s (fun u => Sent s u x 1 (leBytes 2 (linWord (s.gi (F.OL_ITOT_ITOT k.val)) 64)))
      ∧ Completes (.readTemperature1 x (.plain .absent)) s (fun u => Sent s u x 1 (leBytes 2 (tempWord (s.hottest k))))
      ∧ Completes (.readPout x (.plain .absent)) s (fun u =>
          Sent s u x 1 (leBytes 2 (linWord (s.mcV (54 + k.val) * s.gi (F.OL_ITOT_ITOT k.val)) 640000))))
  ∧ (∀ (s : State) (x : Fin 2), ServesPmbus s x → (∀ a, s.gateRead (hostMaster x) a = none) →
      Completes (.readVin x (.plain .absent)) s (fun u => Sent s u x 1 (leBytes 2 (linWord (s.g F.PT_VIN_HVIN) 500)))
      ∧ Completes (.readIin x (.plain .absent)) s (fun u => Sent s u x 1 (leBytes 2 (linWord (s.gi F.PT_IIN_IIN) 32)))
      ∧ Completes (.readTemperature2 x (.plain .absent)) s (fun u => Sent s u x 1 (leBytes 2 (tempWord (s.mcV 70))))
      ∧ Completes (.readPin x (.plain .absent)) s (fun u =>
          Sent s u x 1 (leBytes 2 (linWord (s.g F.PT_VIN_HVIN * s.gi F.PT_IIN_IIN) 16000)))
      ∧ Completes (.pmbusRevision x (.plain .absent)) s (fun u => Sent s u x 1 [0x33])
      ∧ Completes (.mfrId x (.plain .absent)) s (fun u => Sent s u x 1 [7, 0x59, 0x55, 0x4E, 0x41, 0x57, 0x49, 0x4E])
      ∧ Completes (.mfrModel x (.plain .absent)) s (fun u => Sent s u x 1 [7, 0x47, 0x46, 0x2D, 0x39, 0x36, 0x34, 0x38])
      ∧ Completes (.mfrRevision x (.plain .absent)) s (fun u => Sent s u x 1 [2, 0x42, 0x30]))
  ∧ (∀ (s : State) (x : Fin 2) (k : Nat), ServesPmbus s x → s.gateRead (hostMaster x) A.PT_VIN = some k →
      Completes (.readVin x (.plain .absent)) s fun u => (vget u.host x).sent = [0, 0] ∧ u.g (F.HP_STATUS_LASTRES x.val) = 3
        ∧ OnlyWords { u with host := s.host } s [A.HP_STATUS x.val, A.GH_DENY, A.GH_DENYCNT])
  ∧ (∀ (s : State) (x : Fin 2) (p : Pec), ServesPmbus s x → s.pageOf x = 0xFF → Completes (.readVout x (.plain p)) s fun u =>
      u.g (F.HP_STATUS_LASTRES x.val) = 8 ∧ (vget u.host x).cml = (vget s.host x).cml ||| 0x40
        ∧ OnlyWords { u with host := s.host } s [A.HP_STATUS x.val, A.HP_CNT x.val])
  ∧ (∀ (s : State) (x : Fin 2), ServesPmbus s x → s.gateRead (hostMaster x) A.PT_VIN = none → Completes (.readVin x (.early 1)) s
      fun u => (vget u.host x).sent = [byte (linWord (s.g F.PT_VIN_HVIN) 500 % 256)]
        ∧ u.g (F.HP_CNT_ABORTS x.val) = incHold 8 (s.g (F.HP_CNT_ABORTS x.val))
        ∧ OnlyWords { u with host := s.host } s [A.HP_STATUS x.val, A.HP_CNT x.val])
  ∧ (∀ (s : State) (x : Fin 2), ServesPmbus s x → Completes (.capability x .call) s fun u =>
      u.g (F.HP_STATUS_LASTRES x.val) = 8 ∧ (vget u.host x).nacked = true
        ∧ u.g (F.HP_CNT_NACKS x.val) = incHold 8 (s.g (F.HP_CNT_NACKS x.val))
        ∧ OnlyWords { u with host := s.host } s [A.HP_STATUS x.val, A.HP_CNT x.val])
  ∧ (∀ (s : State) (x : Fin 2) (e : PmEnd), s.hostOn x = true → s.dev = .boot → Completes (.statusWord x e) s fun u =>
      u.g (F.HP_CNT_NACKS x.val) = incHold 8 (s.g (F.HP_CNT_NACKS x.val)) ∧ (vget u.host x).nacked = true
        ∧ OnlyWords { u with host := s.host } s [A.HP_STATUS x.val, A.HP_CNT x.val])

/-- At a port that serves PMBus without PEC, in STANDBY or RUN: PAGE takes 0 to 7 and FFh and refuses other values; OPERATION and VOUT_COMMAND put their entry
into the page's rail's queue as a write of ON and VSET by the port's master does; VOUT_MAX, VOUT_TRANSITION_RATE and VOUT_DROOP of a disabled rail set their field
to the value of their word; CLEAR_FAULTS clears the page's latches and the port's STATUS_CML. A rail with ENMODE 11b refuses OPERATION. A write that
ends after one of two bytes is aborted; a read after its data is NACKed and leaves the write done (log entry 137).
Which register a write changes for the Gatehouse is the model's reading (log entry 69). -/
def Obligations.PmbusWritesAct : Prop :=
  (∀ (s : State) (x : Fin 2) (b : Byte), ServesPmbus s x → s.dev ≠ .safe → s.dev ≠ .lockdown →
      Completes (.page x (some b) (.plain .absent)) s fun u =>
        if b.toNat < 8 ∨ b.toNat = 0xFF then u.pageOf x = b.toNat ∧ u.g (F.HP_STATUS_LASTRES x.val) = 1
          ∧ (vget u.host x).cml = (vget s.host x).cml ∧ OnlyWords { u with host := s.host } s [A.HP_STATUS x.val]
        else u.pageOf x = s.pageOf x ∧ (vget u.host x).cml = (vget s.host x).cml ||| 0x40)
  ∧ (∀ (s : State) (x : Fin 2) (b : Byte), ServesPmbus s x → s.dev ≠ .safe → s.dev ≠ .lockdown → b.toNat < 8 →
      Completes (.page x (some b) .call) s fun u => u.pageOf x = b.toNat ∧ (vget u.host x).nacked = true
        ∧ u.g (F.HP_CNT_NACKS x.val) = incHold 8 (s.g (F.HP_CNT_NACKS x.val))
        ∧ OnlyWords { u with host := s.host } s [A.HP_STATUS x.val, A.HP_CNT x.val])
  ∧ (∀ (s : State) (x : Fin 2) (k : Fin 8) (v : BitVec 16), ServesPmbus s x → s.pageOf x = k.val →
      s.gateWrite (hostMaster x) (A.RAIL_VSET k.val) false = none → Completes (.voutCommand x (some v) (.early 1)) s fun u =>
        u.g (F.HP_STATUS_LASTRES x.val) = 0xA ∧ u.g (F.HP_CNT_ABORTS x.val) = incHold 8 (s.g (F.HP_CNT_ABORTS x.val))
        ∧ OnlyWords { u with host := s.host } s [A.HP_STATUS x.val, A.HP_CNT x.val])
  ∧ (∀ (s : State) (x : Fin 2) (k : Fin 8) (b : Byte), ServesPmbus s x → s.dev = .standby ∨ s.dev = .run → s.pageOf x = k.val →
      b = 0 ∨ b = 0x40 ∨ b = 0x80 → s.g (F.RAIL_SEQCTL_ENMODE k.val) ≠ 3 → s.room ⟨k.val, by omega⟩ 1 = true →
      s.gateWrite (hostMaster x) (A.RAIL_ON k.val) false = none →
      judge (hostMaster x) (A.RAIL_ON k.val) (if b = 0x80 then 1 else 0) (taken x s) = .ok →
      Completes (.operation x (some b) (.plain .absent)) s fun u => u.q ⟨k.val, by omega⟩ = s.q ⟨k.val, by omega⟩
          ++ [⟨0, BitVec.ofNat 16 (masterCode (hostMaster x) * 8192), if b = 0x80 then 0x3000 else 0x4000⟩]
        ∧ u.ra k = { s.ra k with pushed := (s.ra k).pushed ++ [s.clock] } ∧ (∀ j, j ≠ k → u.ra j = s.ra j)
        ∧ u.phase = s.phase ∧ u.g (F.HP_STATUS_LASTRES x.val) = 1)
  ∧ (∀ (s : State) (x : Fin 2) (k : Fin 8) (b : Byte), ServesPmbus s x → s.dev = .standby ∨ s.dev = .run → s.pageOf x = k.val →
      b = 0 ∨ b = 0x40 ∨ b = 0x80 → s.g (F.RAIL_SEQCTL_ENMODE k.val) = 3 →
      s.gateWrite (hostMaster x) (A.RAIL_ON k.val) false = none → Completes (.operation x (some b) (.plain .absent)) s fun u =>
        u.queue = s.queue ∧ (vget u.host x).cml = (vget s.host x).cml ||| 0x40)
  ∧ (∀ (s : State) (x : Fin 2) (k : Fin 8) (v : BitVec 16), ServesPmbus s x → s.dev = .standby ∨ s.dev = .run → s.pageOf x = k.val →
      s.room ⟨k.val, by omega⟩ 1 = true → s.gateWrite (hostMaster x) (A.RAIL_VSET k.val) false = none →
      ulinearCode v.toNat < 65536 →
      judge (hostMaster x) (A.RAIL_VSET k.val) (BitVec.ofNat 32 (ulinearCode v.toNat)) (taken x s) = .ok →
      Completes (.voutCommand x (some v) (.plain .absent)) s fun u => u.q ⟨k.val, by omega⟩ = s.q ⟨k.val, by omega⟩
          ++ [⟨BitVec.ofNat 32 (ulinearCode v.toNat * 65536), BitVec.ofNat 16 (masterCode (hostMaster x) * 8192), 0x1000⟩]
        ∧ u.ra k = { s.ra k with pushed := (s.ra k).pushed ++ [s.clock] } ∧ (∀ j, j ≠ k → u.ra j = s.ra j)
        ∧ u.phase = s.phase ∧ u.g (F.RAIL_VSET_VSET k.val) = ulinearCode v.toNat)
  ∧ (∀ (s : State) (x : Fin 2) (k : Fin 8) (v : BitVec 16) (n : Nat), ServesPmbus s x → s.dev = .standby ∨ s.dev = .run →
      s.pageOf x = k.val → s.enabled k = false → inField 16 (ulinearCode v.toNat) = some n →
      s.gateWrite (hostMaster x) (A.RAIL_VLIM k.val) false = none →
      judge (hostMaster x) (A.RAIL_VLIM k.val) ((taken x s).withField (F.RAIL_VLIM_VMAX k.val) n) (taken x s) = .ok →
      Completes (.voutMax x (some v) (.plain .absent)) s fun u => u.g (F.RAIL_VLIM_VMAX k.val) = n
        ∧ u.g (F.RAIL_VLIM_VMIN k.val) = s.g (F.RAIL_VLIM_VMIN k.val)
        ∧ OnlyWords { u with host := s.host } s [A.RAIL_VLIM k.val, A.HP_STATUS x.val])
  ∧ (∀ (s : State) (x : Fin 2) (k : Fin 8) (v : BitVec 16) (n : Nat), ServesPmbus s x → s.dev = .standby ∨ s.dev = .run →
      s.pageOf x = k.val → s.enabled k = false → inField 16 (linValue v.toNat 100) = some n →
      s.gateWrite (hostMaster x) (A.RAIL_SLEW k.val) false = none →
      judge (hostMaster x) (A.RAIL_SLEW k.val) ((taken x s).withField (F.RAIL_SLEW_VSLEW k.val) n) (taken x s) = .ok →
      Completes (.voutTransitionRate x (some v) (.plain .absent)) s fun u => u.g (F.RAIL_SLEW_VSLEW k.val) = n
        ∧ OnlyWords { u with host := s.host } s [A.RAIL_SLEW k.val, A.HP_STATUS x.val])
  ∧ (∀ (s : State) (x : Fin 2) (k : Fin 8) (v : BitVec 16) (n : Nat), ServesPmbus s x → s.dev = .standby ∨ s.dev = .run →
      s.pageOf x = k.val → s.enabled k = false → inField 11 (linValue v.toNat 1000) = some n →
      s.gateWrite (hostMaster x) (A.OL_LL k.val) false = none →
      judge (hostMaster x) (A.OL_LL k.val) ((taken x s).withField (F.OL_LL_LLR k.val) n) (taken x s) = .ok →
      Completes (.voutDroop x (some v) (.plain .absent)) s fun u => u.g (F.OL_LL_LLR k.val) = n
        ∧ OnlyWords { u with host := s.host } s [A.OL_LL k.val, A.HP_STATUS x.val])
  ∧ (∀ (s : State) (x : Fin 2) (k : Fin 8), ServesPmbus s x → s.dev ≠ .safe → s.dev ≠ .lockdown → s.pageOf x = k.val →
      Completes (.clearFaults x (.plain .absent)) s fun u => vget u.latches k = ⟨0, 0, 0, 0⟩ ∧ (vget u.host x).cml = 0
        ∧ (∀ j, j ≠ k → vget u.latches j = vget s.latches j) ∧ u.rail = s.rail ∧ u.phase = s.phase ∧ u.queue = s.queue)

/-! ### Images and coupled groups -/

/-- For writes the checks let through while no verification runs: OPEN of a slot that is not running empties its marks, makes its CAUSE Ch and starts WPTR at 0;
OPEN of the running slot outside SAFE is refused. A word of image data goes to the open slot at WPTR, and to none where no slot is open; where it does not verify, its sector is remapped. VERIFY
starts the checks of the open slot or of one that holds an image, and their end sets CAUSE to what they find and CMDRES; a word the reading corrects is counted, and one it cannot correct counts and fails the checks. COMMIT of a slot that passed makes it preferred and on trial,
and leaves SAFE for BOOT. ACCEPT ends the running slot's trial and raises the floor. ABORT closes the open slot.
What a refused command leaves and which slots VERIFY takes are the model's readings (log entry 43), as is that COMMIT rests on the verified mark the model keeps
(log entry 44); what the MRAM's reads and writes find is an operand (log entry 134). -/
def Obligations.ImageCommandsAct : Prop :=
  (∀ (s : State) (m : Master) (b : Bool), judge m A.IMG_CTL (imgWord 1 b) s = .ok → s.img.verifying = none →
      s.img.running ≠ some (Fin.ofNat 2 (bit b)) → s.img.openSlot = none → Completes (.openCmd m b) s fun u =>
        let i : Fin 2 := Fin.ofNat 2 (bit b)
        u.img.openSlot = some i ∧ u.g F.IMG_WPTR_WPTR = 0 ∧ u.g F.IMG_STATUS_CMDRES = 0
        ∧ (vget u.img.slots i).cause = 0xC ∧ (vget u.img.slots i).preferred = false ∧ (vget u.img.slots i).trial = false
        ∧ hasMagic ((vget u.img.slots i).first 4) = false ∧ (∀ j, j ≠ i → vget u.img.slots j = vget s.img.slots j)
        ∧ u.rail = s.rail ∧ u.phase = s.phase)
  ∧ (∀ (s : State) (m : Master) (b : Bool), judge m A.IMG_CTL (imgWord 1 b) s = .ok → s.img.verifying = none →
      s.img.running = some (Fin.ofNat 2 (bit b)) → s.dev ≠ .safe → Completes (.openCmd m b) s fun u =>
        u.img = s.img ∧ u.g F.IMG_STATUS_CMDRES = 1
        ∧ u.g F.CFGERR_COUNT_COUNT = incHold 16 (s.g F.CFGERR_COUNT_COUNT))
  ∧ (∀ (s : State) (m : Master) (w : Word) (i : Fin 2) (b : Bool), judge m A.IMG_WDATA w s = .ok → s.img.openSlot = some i →
      s.g F.IMG_WPTR_WPTR < 0x18000 → Completes (.imgWdataWrite m ⟨w, b⟩) s fun u =>
        ((List.range 4).map fun j => SMap.get (fun _ => (0 : Byte)) (vget u.img.slots i).bytes (s.g F.IMG_WPTR_WPTR + j))
            = leBytes 4 w.toNat
        ∧ (∀ a, a < s.g F.IMG_WPTR_WPTR ∨ s.g F.IMG_WPTR_WPTR + 4 ≤ a →
            SMap.get (fun _ => (0 : Byte)) (vget u.img.slots i).bytes a
              = SMap.get (fun _ => (0 : Byte)) (vget s.img.slots i).bytes a)
        ∧ u.g F.IMG_WPTR_WPTR = s.g F.IMG_WPTR_WPTR + 4 ∧ (vget u.img.slots i).verified = false
        ∧ (∀ j, j ≠ i → vget u.img.slots j = vget s.img.slots j))
  ∧ (∀ (s : State) (m : Master) (w : Word) (i : Fin 2) (b : Bool), judge m A.IMG_WDATA w s = .ok → s.img.openSlot = some i →
      s.g F.IMG_WPTR_WPTR < 0x18000 → s.nv.spare ≠ 0 →
      SMap.get (fun _ => 0) s.nv.writes (96 * i.val + s.g F.IMG_WPTR_WPTR / 1024) + 1 < writeLimit →
      Completes (.imgWdataWrite m ⟨w, b⟩) s fun u =>
        u.nv.spare = (if b then s.nv.spare else s.nv.spare - 1) ∧ u.nv.remaps = (if b then s.nv.remaps else s.nv.remaps + 1)
        ∧ SMap.get (fun _ => 0) u.nv.writes (96 * i.val + s.g F.IMG_WPTR_WPTR / 1024)
            = (if b then SMap.get (fun _ => 0) s.nv.writes (96 * i.val + s.g F.IMG_WPTR_WPTR / 1024) + 1 else 0))
  ∧ (∀ (s : State) (m : Master) (w : Word) (b : Bool), judge m A.IMG_WDATA w s = .ok → s.img.openSlot = none →
      Completes (.imgWdataWrite m ⟨w, b⟩) s fun u => u.img = s.img
        ∧ u.g F.CFGERR_COUNT_COUNT = incHold 16 (s.g F.CFGERR_COUNT_COUNT))
  ∧ (∀ (s : State) (m : Master) (b : Bool) (f : ReadFind), judge m A.IMG_CTL (imgWord 2 b) s = .ok → s.img.verifying = none →
      (s.img.openSlot = some (Fin.ofNat 2 (bit b)) ∨ (vget s.img.slots (Fin.ofNat 2 (bit b))).holdsImage = true) → Completes (.verify m ⟨b, f⟩) s fun u =>
        u.img = { s.img with openSlot := none, verifying := some (Fin.ofNat 2 (bit b)), found := f } ∧ u.dev = s.dev)
  ∧ (∀ (s : State) (i : Fin 2), s.img.verifying = some i → s.img.found = ⟨[], []⟩ → Completes .verifyDone s fun u => u.img.verifying = none
      ∧ (vget u.img.slots i).cause = (fullCheck s (vget s.img.slots i)).cause
      ∧ (vget u.img.slots i).bytes = (vget s.img.slots i).bytes
      ∧ (vget u.img.slots i).verified = ((fullCheck s (vget s.img.slots i)).cause == 0)
      ∧ u.g F.IMG_STATUS_CMDRES = (if (fullCheck s (vget s.img.slots i)).cause = 0 then 0 else 2)
      ∧ (∀ j, j ≠ i → vget u.img.slots j = vget s.img.slots j) ∧ u.rail = s.rail ∧ u.phase = s.phase)
  ∧ (∀ (s : State) (i : Fin 2) (w : Nat), s.img.verifying = some i → s.img.found = ⟨[w], []⟩ → Completes .verifyDone s fun u =>
        u.img.verifying = none ∧ u.g F.NV_STATUS_CORR = incHold F.NV_STATUS_CORR.w (s.g F.NV_STATUS_CORR)
        ∧ (vget u.img.slots i).cause = (fullCheck s (vget s.img.slots i)).cause
        ∧ (vget u.img.slots i).bytes = (vget s.img.slots i).bytes ∧ (vget u.img.slots i).badw = (vget s.img.slots i).badw)
  ∧ (∀ (s : State) (i : Fin 2) (w : Nat), s.img.verifying = some i → s.img.found = ⟨[], [⟨w, false⟩]⟩ → w < 24576 →
      Completes .verifyDone s fun u => let sl := { vget s.img.slots i with badw := w :: (vget s.img.slots i).badw }
        u.img.verifying = none ∧ u.g F.NV_UNCORR_UNCOR = incHold F.NV_UNCORR_UNCOR.w (s.g F.NV_UNCORR_UNCOR)
        ∧ (vget u.img.slots i).badw = sl.badw ∧ (vget u.img.slots i).bytes = sl.bytes
        ∧ (vget u.img.slots i).cause = (fullCheck s sl).cause
        ∧ (vget u.img.slots i).verified = ((fullCheck s sl).cause == 0))
  ∧ (∀ s : State, s.img.verifying = none → Leaves .verifyDone s s)
  ∧ (∀ (s : State) (m : Master) (b : Bool), judge m A.IMG_CTL (imgWord 3 b) s = .ok → s.img.verifying = none →
      (vget s.img.slots (Fin.ofNat 2 (bit b))).verified = true →
      Completes (.commit m b) s fun u =>
        let i : Fin 2 := Fin.ofNat 2 (bit b)
        (vget u.img.slots i).preferred = true ∧ (vget u.img.slots i).trial = true ∧ (vget u.img.slots i).tried = false
        ∧ (vget u.img.slots (otherSlot i)).preferred = false ∧ (s.dev = .safe → u.dev = .boot)
        ∧ (s.dev ≠ .safe → u.dev = s.dev ∧ u.g F.IMG_STATUS_CMDRES = 0))
  ∧ (∀ (s : State) (m : Master) (r : Fin 2), judge m A.IMG_CTL (s.withField F.IMG_CTL_CMD 4) s = .ok →
      s.img.verifying = none → s.img.running = some r → s.dev = .standby ∨ s.dev = .run → (vget s.img.slots r).trial = true →
      Completes (.accept m) s fun u => (vget u.img.slots r).trial = false
        ∧ u.gate.bank.floor = max s.gate.bank.floor (vget s.img.slots r).secver ∧ u.g F.IMG_STATUS_CMDRES = 0
        ∧ u.rail = s.rail ∧ u.phase = s.phase)
  ∧ (∀ (s : State) (m : Master) (b : Bool), judge m A.IMG_CTL (imgWord 5 b) s = .ok → s.img.verifying = none →
      s.img.openSlot = some (Fin.ofNat 2 (bit b)) → Completes (.abort m b) s fun u =>
        u.img = { s.img with openSlot := none } ∧ u.g F.IMG_STATUS_CMDRES = 0)

/-- For writes of GROUP_COMMIT the checks let through: a query of a group that exists only names it in GROUP_STATE, one of a group that does not exist is
refused with cause RANGE. A commit with nothing staged has result 2; staged duty and period that break their rule are refused with result 3; of a stopped phase they take
effect with result 1, and of a running one the commit is armed. An abort discards the staged values and the armed commit with result 4, and what was armed is kept with the instant of the abort: at the boundary an abort less
than 35 ns before it has come too late, and the commit takes effect; one in time leaves nothing.
That the boundary decides what an abort was too late for is the model's reading (log entry 53). -/
def Obligations.GroupCommandsAct : Prop :=
  (∀ (s : State) (m : Master) (g i : BitVec 8), judge m A.GROUP_COMMIT (groupWord 0 g i) s = .ok →
      Completes (.groupQuery m g i) s fun u =>
        if groupExists g.toNat i.toNat then u.g F.GROUP_STATE_GROUP = g.toNat ∧ u.g F.GROUP_STATE_INDEX = i.toNat
          ∧ OnlyWords u (accepted m A.GROUP_COMMIT (groupWord 0 g i) s) [A.GROUP_STATE]
        else OnlyWords u (accepted m A.GROUP_COMMIT (groupWord 0 g i) s) [A.CFGERR, A.CFGERR_COUNT]
          ∧ u.g F.CFGERR_COUNT_COUNT = incHold 16 (s.g F.CFGERR_COUNT_COUNT))
  ∧ (∀ (s : State) (m : Master) (g i : BitVec 8), judge m A.GROUP_COMMIT (groupWord 1 g i) s = .ok →
      groupExists g.toNat i.toNat = true → s.isArmed g.toNat i.toNat = false → s.stagedOf g.toNat i.toNat = [] →
      Completes (.groupCommit m g i) s fun u => u.g F.GROUP_STATE_LASTRESULT = 2
        ∧ OnlyWords u (accepted m A.GROUP_COMMIT (groupWord 1 g i) s) [A.GROUP_STATE])
  ∧ (∀ (s : State) (m : Master) (n : Fin 48), judge m A.GROUP_COMMIT (groupWord 1 1 (BitVec.ofNat 8 n.val)) s = .ok →
      s.isArmed 1 n.val = false → s.stagedOf 1 n.val ≠ [] →
      16 * s.sg 1 n.val (F.PHASE_PERIOD_PERIOD n.val) < s.sg 1 n.val (F.PHASE_DUTY_DUTY n.val) →
      Completes (.groupCommit m 1 (BitVec.ofNat 8 n.val)) s fun u => u.g F.GROUP_STATE_LASTRESULT = 3
        ∧ OnlyWords u (accepted m A.GROUP_COMMIT (groupWord 1 1 (BitVec.ofNat 8 n.val)) s) [A.GROUP_STATE, A.CFGERR, A.CFGERR_COUNT])
  ∧ (∀ (s : State) (m : Master) (n : Fin 48) (v : Nat), judge m A.GROUP_COMMIT (groupWord 1 1 (BitVec.ofNat 8 n.val)) s = .ok →
      s.isArmed 1 n.val = false → s.phRuns n = false → v < 2 ^ (F.PHASE_DUTY_DUTY n.val).w →
      (∃ m', s.stagedOf 1 n.val = [⟨1, n.val, A.PHASE_DUTY n.val, (F.PHASE_DUTY_DUTY n.val).lo, (F.PHASE_DUTY_DUTY n.val).w, v, m'⟩]) →
      v ≤ 16 * s.g (F.PHASE_PERIOD_PERIOD n.val) → Completes (.groupCommit m 1 (BitVec.ofNat 8 n.val)) s fun u =>
        u.g (F.PHASE_DUTY_DUTY n.val) = v ∧ u.stagedOf 1 n.val = [] ∧ u.g F.GROUP_STATE_LASTRESULT = 1
        ∧ u.rail = s.rail ∧ u.phase = s.phase ∧ u.queue = s.queue)
  ∧ (∀ (s : State) (m : Master) (n : Fin 48), judge m A.GROUP_COMMIT (groupWord 1 1 (BitVec.ofNat 8 n.val)) s = .ok →
      s.isArmed 1 n.val = false → s.phRuns n = true → s.stagedOf 1 n.val ≠ [] →
      s.sg 1 n.val (F.PHASE_DUTY_DUTY n.val) ≤ 16 * s.sg 1 n.val (F.PHASE_PERIOD_PERIOD n.val) →
      Completes (.groupCommit m 1 (BitVec.ofNat 8 n.val)) s fun u =>
        u.img = { s.img with armed := s.img.armed ++ [⟨1, n.val, m, s.clock⟩] }
        ∧ u.word (A.PHASE_DUTY n.val) = s.word (A.PHASE_DUTY n.val) ∧ u.phase = s.phase)
  ∧ (∀ (s : State) (m : Master) (n : Fin 48) (t : Time), judge m A.GROUP_COMMIT (groupWord 2 1 (BitVec.ofNat 8 n.val)) (s.atTime t) = .ok →
      s.stagedOf 1 n.val ≠ [] → Completes (.groupAbort m 1 (BitVec.ofNat 8 n.val) t) s fun u =>
        u.stagedOf 1 n.val = [] ∧ u.isArmed 1 n.val = false ∧ u.g F.GROUP_STATE_LASTRESULT = 4
        ∧ u.word (A.PHASE_DUTY n.val) = s.word (A.PHASE_DUTY n.val) ∧ u.phase = s.phase)
  ∧ (∀ (s : State) (m : Master) (n : Fin 48) (t : Time) (c : Armed),
      judge m A.GROUP_COMMIT (groupWord 2 1 (BitVec.ofNat 8 n.val)) (s.atTime t) = .ok →
      (s.img.armed.filter fun y => y.group == 1 && y.index == n.val) = [c] → Completes (.groupAbort m 1 (BitVec.ofNat 8 n.val) t) s fun u =>
        u.isArmed 1 n.val = false ∧ u.g F.GROUP_STATE_LASTRESULT = 4
        ∧ (u.img.cancelled.filter fun y => y.commit.group == 1 && y.commit.index == n.val) = [⟨c, s.stagedOf 1 n.val, (s.atTime t).clock⟩])
  ∧ (∀ (s : State) (m : Master) (g i : BitVec 8) (t : Time), judge m A.GROUP_COMMIT (groupWord 2 g i) (s.atTime t) = .ok →
      groupExists g.toNat i.toNat = true → s.stagedOf g.toNat i.toNat = [] → s.isArmed g.toNat i.toNat = false →
      Completes (.groupAbort m g i t) s fun u => u.g F.GROUP_STATE_LASTRESULT = 2
        ∧ OnlyWords u (accepted m A.GROUP_COMMIT (groupWord 2 g i) (s.atTime t)) [A.GROUP_STATE])
  ∧ (∀ (s : State) (n : Fin 48) (x : Cancelled) (v : Nat), s.img.armed = [] → s.stagedOf 1 n.val = [] → s.img.cancelled = [x] →
      x.commit.group = 1 → x.commit.index = n.val → v < 2 ^ (F.PHASE_DUTY_DUTY n.val).w →
      (∃ m', x.values = [⟨1, n.val, A.PHASE_DUTY n.val, (F.PHASE_DUTY_DUTY n.val).lo, (F.PHASE_DUTY_DUTY n.val).w, v, m'⟩]) →
      s.atLeast ns35 x.commit.at_ = true →
      if s.atLeast ns35 x.at_ then applyDue ns35 1 n.val s = { s with img := { s.img with cancelled := [] } }
      else (applyDue ns35 1 n.val s).g (F.PHASE_DUTY_DUTY n.val) = v ∧ (applyDue ns35 1 n.val s).isArmed 1 n.val = false)

/-! ### The Gatehouse, JTAG and plain accesses -/

/-- For writes the checks let through: REQUEST advances UCNT and issues a nonce, whatever its value, or in a lockout is refused with result 3. SUBMIT of the
matching response opens a session with the scopes asked for and clears FAILCNT; of another it counts a failure, with a lockout from the third on; without a
nonce it is refused; in each case with a nonce of its master the nonce is used up. END from the holder ends the session, from another master it does not; a session also ends at its expiry. A lock is only ever
set. A key is written where R387 allows it, and otherwise refused; GH_KEYW is cleared; a key that does not verify remaps its sector.
That a refused REQUEST or SUBMIT keeps the nonce is the model's reading (log entry 35). -/
def Obligations.SessionsAndKeys : Prop :=
  (∀ (s : State) (m : Master) (sc se : BitVec 8), judge m A.GH_CHAL (chalWord 1 sc se) s = .ok → s.gate.session = none →
      s.gate.bank.lockEnd ≤ s.g F.NP_SECS_SECS → vget s.gate.bank.keys 4 ≠ none → s.dev ≠ .lockdown →
      Completes (.request m sc se) s fun u => u.gate = { (accepted m A.GH_CHAL (chalWord 1 sc se) s).gate with
          bank := { s.gate.bank with ucnt := s.gate.bank.ucnt + 1 }, nonce := u.gate.nonce }
        ∧ (u.gate.nonce.map fun n => (n.by_, n.scopes, n.sess)) = some (m, sc, se.toNat) ∧ u.rail = s.rail ∧ u.phase = s.phase)
  ∧ (∀ (s : State) (m : Master) (sc se : BitVec 8), judge m A.GH_CHAL (chalWord 1 sc se) s = .ok →
      s.g F.NP_SECS_SECS < s.gate.bank.lockEnd → Completes (.request m sc se) s fun u =>
        u.gate = (accepted m A.GH_CHAL (chalWord 1 sc se) s).gate
        ∧ u.g F.GH_STAT_RESULT = 3)
  ∧ (∀ (s : State) (m : Master) (n : Nonce) (key : BitVec 256), judge m A.GH_CHAL (s.withField F.GH_CHAL_CMD 2) s = .ok →
      s.dev ≠ .lockdown → s.gate.nonce = some n → n.by_ = m → vget s.gate.bank.keys 4 = some key →
      s.response = expectedResponse s n key → Completes (.submit m) s fun u =>
        u.gate.session = some ⟨m, n.scopes, n.sess⟩ ∧ u.gate.nonce = none ∧ u.gate.bank.failcnt = 0
        ∧ u.g F.GH_STAT_RESULT = 1 ∧ u.rail = s.rail ∧ u.phase = s.phase)
  ∧ (∀ (s : State) (m : Master) (n : Nonce) (key : BitVec 256), judge m A.GH_CHAL (s.withField F.GH_CHAL_CMD 2) s = .ok →
      s.dev ≠ .lockdown → s.gate.nonce = some n → n.by_ = m → vget s.gate.bank.keys 4 = some key →
      s.response ≠ expectedResponse s n key → min 15 (s.gate.bank.failcnt + 1) ≠ s.g F.GH_ALARM_ALARMTH →
      Completes (.submit m) s fun u => u.gate.session = s.gate.session ∧ u.gate.nonce = none
        ∧ u.gate.bank.failcnt = min 15 (s.gate.bank.failcnt + 1) ∧ u.g F.GH_STAT_RESULT = 2
        ∧ u.gate.bank.lockEnd = (if 3 ≤ min 15 (s.gate.bank.failcnt + 1) then
            s.g F.NP_SECS_SECS + 60 * 2 ^ (min 15 (s.gate.bank.failcnt + 1) - 3) else s.gate.bank.lockEnd))
  ∧ (∀ (s : State) (m : Master), judge m A.GH_CHAL (s.withField F.GH_CHAL_CMD 2) s = .ok → s.gate.nonce = none →
      Completes (.submit m) s fun u => u.gate = (accepted m A.GH_CHAL (s.withField F.GH_CHAL_CMD 2) s).gate ∧ u.g F.GH_STAT_RESULT = 3)
  ∧ (∀ (s : State) (m : Master) (x : Session), judge m A.GH_CHAL (s.withField F.GH_CHAL_CMD 3) s = .ok →
      s.gate.session = some x → Completes (.endCmd m) s fun u => u.gate.bank = s.gate.bank
        ∧ u.gate.session = (if x.holder = m then none else some x) ∧ u.rail = s.rail ∧ u.phase = s.phase)
  ∧ (∀ s : State, Leaves .nonceLapse s { s with gate := { s.gate with nonce := none } })
  ∧ (∀ s : State, Completes .sessionExpiry s fun u => u.gate.session = none ∧ u.gate.bank = s.gate.bank
      ∧ (∀ y ∈ u.img.staging, y ∈ s.img.staging) ∧ u.rail = s.rail ∧ u.phase = s.phase)
  ∧ (∀ s : State, Completes .lockoutEnd s fun u => u.gate.bank.lockEnd ≤ s.g F.NP_SECS_SECS ∧ u.regs = s.regs
      ∧ u.gate.bank.failcnt = s.gate.bank.failcnt)
  ∧ (∀ (s : State) (m : Master) (v : Word), judge m A.GH_LOCK v s = .ok → Completes (.ghLockWrite m v) s fun u =>
      u.g F.GH_LOCK_LOCK = s.g F.GH_LOCK_LOCK ||| v.toNat % 32 ∧ OnlyWords u (accepted m A.GH_LOCK v s) [A.GH_LOCK])
  ∧ (∀ (s : State) (m : Master) (i : Fin 5) (b : Bool), judge m A.GH_KEYCTL (setBits (setBits 0 28 4 1) 0 3 i.val) s = .ok →
      s.mayKey i = true → Completes (.keyWrite m ⟨BitVec.ofNat 3 i.val, b⟩) s fun u =>
        u.gate.bank.keys = vset s.gate.bank.keys i (some s.stagedKey) ∧ u.gate.keyw = .replicate 8 0
        ∧ u.gate.bank.provisioned = (s.gate.bank.provisioned || decide (i.val < 4))
        ∧ u.gate.bank.floor = s.gate.bank.floor ∧ (b = false → 2 ≤ s.nv.spare → s.nv.remaps < u.nv.remaps))
  ∧ (∀ (s : State) (m : Master) (i : Fin 5) (b : Bool), judge m A.GH_KEYCTL (setBits (setBits 0 28 4 1) 0 3 i.val) s = .ok →
      s.mayKey i = false → Completes (.keyWrite m ⟨BitVec.ofNat 3 i.val, b⟩) s fun u =>
        u.gate = { (accepted m A.GH_KEYCTL (setBits (setBits 0 28 4 1) 0 3 i.val) s).gate with keyw := .replicate 8 0 }
        ∧ u.g F.CFGERR_COUNT_COUNT = incHold 16 (s.g F.CFGERR_COUNT_COUNT))

/-- Outside OFF and BOOT with VIOH good the TAP takes BYPASS, IDCODE and SAMPLE/PRELOAD, and EXTEST only in a DEBUG session of DBG, in SAFE or in STANDBY without an enabled rail, else
BYPASS; otherwise its inputs are ignored. An EXTEST it has taken is served as BYPASS once its session or the device state no longer allows it. For every master, address and word: a write refused by the Gatehouse changes only GH_DENY and its counter, one refused under
R79 or R426 only CFGERR and its counter, one not ready nothing. In LOCKDOWN every write but SUP's is refused with KIND 5h; outside it every write of DBG
without a DEBUG session with 6h. A write that reaches the Loop Engine with bad parity is dropped, sets WRPERR of the graph's
window and counts in CFGERR_COUNT. A DBG read answers the word at its aligned address, or 0 where it is refused. GRANT of DBG's access status tells
whether the Gatehouse let its last access through.
That the TAP ignores its inputs without VIOH is the model's reading (log entry 55), the operand of a parity error its choice (log entry 21), and that EXTEST is served again with a new session its
reading (log entry 131). -/
def Obligations.JtagAndRefusedAccesses : Prop :=
  (∀ s : State, s.core = true → s.dev ≠ .boot → s.sup.vioh = true → Leaves .bypass s { s with jtag := .bypass }
      ∧ Leaves .idcode s { s with jtag := .idcode } ∧ Leaves .samplePreload s { s with jtag := .samplePreload }
      ∧ Leaves .extest s { s with jtag := if s.holds .dbg 4 && (s.dev == .safe || (s.dev == .standby && !s.anyEnabled))
          then .extest else .bypass })
  ∧ (∀ s : State, s.core = false ∨ s.dev = .boot ∨ s.sup.vioh = false → Leaves .bypass s s ∧ Leaves .idcode s s
      ∧ Leaves .samplePreload s s ∧ Leaves .extest s s)
  ∧ (∀ s : State, (s.jtagServed = .extest → s.holds .dbg 4 = true ∧ (s.dev = .safe ∨ s.dev = .standby ∧ s.anyEnabled = false))
      ∧ (s.jtag ≠ .extest → s.jtagServed = s.jtag) ∧ (s.jtagServed ≠ s.jtag → s.jtagServed = .bypass))
  ∧ (∀ (s : State) (m : Master) (a : BitVec 24) (w : Word) (b : Bool) (k : Nat), judge m (wordAddr m a) w s = .gate k →
      Completes (.registerWrite m a w b) s fun u => u = dbgStatus m (.gate k) (ghRefuse m k (wordAddr m a) s)
        ∧ (m = .dbg → u.gate.grant = false) ∧ (m ≠ .dbg → u.gate = s.gate) ∧ OnlyWords { u with gate := s.gate } s [A.GH_DENY, A.GH_DENYCNT])
  ∧ (∀ (s : State) (m : Master) (a : BitVec 24) (w : Word) (b : Bool) (c : CfgCause), judge m (wordAddr m a) w s = .refused c →
      c ≠ .grpBusy → Completes (.registerWrite m a w b) s fun u => u = dbgStatus m (.refused c) (cfgRefuse m c (wordAddr m a) s)
        ∧ (m = .dbg → u.gate.grant = true) ∧ (m ≠ .dbg → u.gate = s.gate) ∧ OnlyWords { u with gate := s.gate } s [A.CFGERR, A.CFGERR_COUNT])
  ∧ (∀ (s : State) (m : Master) (a : BitVec 24) (w : Word) (b : Bool), s.dev = .off ∨ s.dev = .boot → Leaves (.registerWrite m a w b) s s)
  ∧ (∀ (s : State) (m : Master) (a : BitVec 24) (w : Word) (k : Fin 8), judge m (wordAddr m a) w s = .ok →
      wordAddr m a / 65536 = 0x10 → wordAddr m a % 65536 / 4096 = k.val → Completes (.registerWrite m a w true) s fun u =>
        u.gb (F.GRAPH_STATUS_WRPERR k.val) = true ∧ u.g F.CFGERR_COUNT_COUNT = incHold F.CFGERR_COUNT_COUNT.w (s.g F.CFGERR_COUNT_COUNT)
        ∧ OnlyWords u (accepted m (wordAddr m a) w s) [A.CFGERR, A.CFGERR_COUNT, A.GRAPH_STATUS k.val])
  ∧ (∀ (s : State) (m : Master) (a : Nat) (w : Word), s.dev = .lockdown → m ≠ .sup → judge m a w s = .gate 5)
  ∧ (∀ (s : State) (a : Nat) (w : Word), s.dev = .standby ∨ s.dev = .run ∨ s.dev = .safe → s.holds .dbg 4 = false →
      judge .dbg a w s = .gate 6)
  ∧ (∀ (s : State) (a : BitVec 24) (b : WordFind), judgeRead .dbg (wordAddr .dbg a) s = .ok → Completes (.dbgRead a b) s fun u =>
      u.answer = s.readWord .dbg (a.toNat - a.toNat % 4) b ∧ u.gate = { s.gate with grant := true } ∧ u.rail = s.rail ∧ u.phase = s.phase ∧ u.queue = s.queue)
  ∧ (∀ (s : State) (a : BitVec 24) (b : WordFind) (k : Nat), judgeRead .dbg (wordAddr .dbg a) s = .gate k → Completes (.dbgRead a b) s fun u =>
      u.answer = 0 ∧ u.gate = { s.gate with grant := false } ∧ OnlyWords { u with answer := s.answer, gate := s.gate } s [A.GH_DENY, A.GH_DENYCNT])
  ∧ (∀ (s : State) (a : BitVec 24) (b : WordFind), judgeRead .dbg (wordAddr .dbg a) s = .notReady →
      Leaves (.dbgRead a b) s { s with answer := 0 })

/-- A granted read of TB_COUNT_LO, TB_SECMARK_LO or an energy LO register answers the lower half and latches the upper half for its own master alone; a
granted read of a capture's upper word answers the word and clears VALID and OVR. A granted write of a LIVE register leaves its word in it.
One of a GROUP member of a running phase is staged, replacing the value staged before; one of a SAMPLE register of an enabled rail or of a BOUNDARY register of a running phase waits in order;
with the block stopped each acts at once.
The word a read answers is kept by the model (log entry 72), and that a write to a stopped phase outlasts an older one that waits is its reading (log entry 92). -/
def Obligations.ReadsLatchUpperHalves : Prop :=
  (∀ (s : State) (m : Master), judgeRead m A.TB_COUNT_LO s = .ok → Completes (.tbCountLoRead m) s fun u =>
      u.answer = s.tb.setWidth 32 ∧ (vget u.hi (Fin.ofNat 6 (masterCode m))).tb = (s.tb >>> 32).setWidth 16
      ∧ (∀ i, i ≠ Fin.ofNat 6 (masterCode m) → vget u.hi i = vget s.hi i) ∧ u.regs = s.regs)
  ∧ (∀ (s : State) (m : Master), judgeRead m A.TB_SECMARK_LO s = .ok → Completes (.tbSecmarkLoRead m) s fun u =>
      u.answer = s.secMark.setWidth 32 ∧ (vget u.hi (Fin.ofNat 6 (masterCode m))).mark = (s.secMark >>> 32).setWidth 16
      ∧ (∀ i, i ≠ Fin.ofNat 6 (masterCode m) → vget u.hi i = vget s.hi i) ∧ u.regs = s.regs)
  ∧ (∀ (s : State) (m : Master), judgeRead m A.PT_EIN_LO s = .ok → Completes (.energyLoRead m none) s fun u =>
      u.answer = BitVec.ofNat 32 s.einMj
      ∧ (vget u.hi (Fin.ofNat 6 (masterCode m))).ein = BitVec.ofNat 16 (s.einMj / 2 ^ 32) ∧ u.regs = s.regs)
  ∧ (∀ (s : State) (m : Master) (k : Fin 8), judgeRead m (A.PT_ERAIL_LO k.val) s = .ok → Completes (.energyLoRead m (some k)) s
      fun u => u.answer = BitVec.ofNat 32 (s.erailMj k)
      ∧ vget (vget u.hi (Fin.ofNat 6 (masterCode m))).erail k = BitVec.ofNat 16 (s.erailMj k / 2 ^ 32) ∧ u.regs = s.regs)
  ∧ (∀ (s : State) (m : Master) (n : Fin 32), judgeRead m (A.CAP_TSHI n.val) s = .ok → Completes (.capTshiRead m n) s fun u =>
      u.answer = s.view m (A.CAP_TSHI n.val) ∧ u.gb (F.CAP_TSHI_VALID n.val) = false
      ∧ u.gb (F.CAP_TSHI_OVR n.val) = false ∧ u.g (F.CAP_TSHI_TSHI n.val) = s.g (F.CAP_TSHI_TSHI n.val)
      ∧ OnlyWords { u with answer := s.answer } (dbgStatus m .ok s) [A.CAP_TSHI n.val])
  ∧ (∀ (s : State) (m : Master) (v : Word) (b : Bool), judge m (A.HPM_TX 0) v s = .ok →
      Completes (.registerWrite m (BitVec.ofNat 24 (A.HPM_TX 0)) v b) s fun u => u.word (A.HPM_TX 0) = v
        ∧ OnlyWords u (accepted m (A.HPM_TX 0) v s) [A.HPM_TX 0])
  ∧ (∀ (s : State) (m : Master) (n : Fin 48) (v : Word) (b : Bool), judge m (A.PHASE_DUTY n.val) v s = .ok → s.phRuns n = true →
      Completes (.registerWrite m (BitVec.ofNat 24 (A.PHASE_DUTY n.val)) v b) s fun u =>
        u = { accepted m (A.PHASE_DUTY n.val) v s with img := { s.img with
          staging := (s.img.staging.filter fun z => !(z.addr == A.PHASE_DUTY n.val && z.lo == 0))
            ++ [⟨1, n.val, A.PHASE_DUTY n.val, 0, 21, getBits v 0 21, m⟩] } })
  ∧ (∀ (s : State) (m : Master) (n : Fin 48) (v : Word) (b : Bool), judge m (A.PHASE_DUTY n.val) v s = .ok → s.phRuns n = false →
      (∀ z ∈ s.img.staging, z.addr ≠ A.PHASE_DUTY n.val) →
      Completes (.registerWrite m (BitVec.ofNat 24 (A.PHASE_DUTY n.val)) v b) s fun u => u.g (F.PHASE_DUTY_DUTY n.val) = getBits v 0 21
        ∧ OnlyWords u (accepted m (A.PHASE_DUTY n.val) v s) [A.PHASE_DUTY n.val])
  ∧ (∀ (s : State) (m : Master) (k : Fin 8) (v : Word) (b : Bool), judge m (A.RAIL_TONMAX k.val) v s = .ok → s.enabled k = true →
      Completes (.registerWrite m (BitVec.ofNat 24 (A.RAIL_TONMAX k.val)) v b) s fun u =>
        u = (accepted m (A.RAIL_TONMAX k.val) v s).modRa k fun r => { r with sample := r.sample ++ [(s.clock, A.RAIL_TONMAX k.val, v)] })
  ∧ (∀ (s : State) (m : Master) (k : Fin 8) (v : Word) (b : Bool), judge m (A.RAIL_TONMAX k.val) v s = .ok → s.enabled k = false →
      Completes (.registerWrite m (BitVec.ofNat 24 (A.RAIL_TONMAX k.val)) v b) s fun u => u.g (F.RAIL_TONMAX_TONMAX k.val) = getBits v 0 18
        ∧ OnlyWords u (accepted m (A.RAIL_TONMAX k.val) v s) [A.RAIL_TONMAX k.val])
  ∧ (∀ (s : State) (m : Master) (n : Fin 48) (v : Word) (b : Bool), judge m (A.PHASE_DT n.val) v s = .ok → s.phRuns n = true →
      Completes (.registerWrite m (BitVec.ofNat 24 (A.PHASE_DT n.val)) v b) s fun u =>
        u = (accepted m (A.PHASE_DT n.val) v s).modPh n fun p => { p with boundary := p.boundary ++ [(A.PHASE_DT n.val, v)] })
  ∧ (∀ (s : State) (m : Master) (n : Fin 48) (v : Word) (b : Bool), judge m (A.PHASE_DT n.val) v s = .ok → s.phRuns n = false →
      Completes (.registerWrite m (BitVec.ofNat 24 (A.PHASE_DT n.val)) v b) s fun u => u.g (F.PHASE_DT_DTHL n.val) = getBits v 16 10
        ∧ u.g (F.PHASE_DT_DTLH n.val) = getBits v 0 10 ∧ (∀ y ∈ (u.ph n).boundary, y.1 ≠ A.PHASE_DT n.val)
        ∧ OnlyWords { u with phase := s.phase } (accepted m (A.PHASE_DT n.val) v s) [A.PHASE_DT n.val])

/-! ### Formats, queues and the Plates' guard -/

/-- A written ULINEAR16 word N gives the code floor((N x 10000 + 4096) / 8192), and a code reads as floor((code x 8192 + 5000) / 10000); read back from the code it
gives, every word is the word written. A written LINEAR11 word gives floor(M x 2^E x scale). For every exact value num / den, the word read has the smallest exponent from -16 to 15 for
which the floored mantissa lies in -1024 to 1023, with that mantissa; where there is none it has exponent 15 and mantissa 1023 or -1024. 1.0000 V
reads as 2000h, 1,200 A as 0A58h, and F828h writes VSLEW 2000. -/
def Obligations.PmbusFormatsAreExact : Prop :=
  (∀ n, ulinearCode n = (n * 10000 + 4096) / 8192)
  ∧ (∀ c : Nat, c < 65536 → (ulinearWord c : Int) = ((c : Int) * 8192 + 5000) / 10000)
  ∧ (∀ n, n < 65536 → ulinearWord (ulinearCode n) = n)
  ∧ (∀ (w scale : Nat), w < 65536 →
      linValue w scale = (toSigned 11 (w % 2048) * 2 ^ (toSigned 5 (w / 2048) + 16).toNat * scale) / 2 ^ 16)
  ∧ (∀ (num : Int) (den : Nat) (e : Nat), 0 < den → e < 32 →
      (-1024 ≤ linScale num den (e - 16) ∧ linScale num den (e - 16) ≤ 1023) →
      (∀ f : Nat, f < e → linScale num den (f - 16) < -1024 ∨ 1023 < linScale num den (f - 16)) →
      linWord num den = linPack (e - 16) (linScale num den (e - 16)))
  ∧ (∀ (num : Int) (den : Nat), 0 < den →
      (∀ f : Nat, f < 32 → linScale num den (f - 16) < -1024 ∨ 1023 < linScale num den (f - 16)) →
      linWord num den = if num < 0 then linPack 15 (-1024) else linPack 15 1023)
  ∧ (∀ (num : Int) (den : Nat) (e : Nat), 0 < den → e < 32 →
      linScale num den (e - 16) = (num * 65536) / ((den * 2 ^ e : Nat) : Int))
  ∧ (∀ (e m : Int), -16 ≤ e → e ≤ 15 → -1024 ≤ m → m ≤ 1023 →
      toSigned 5 (linPack e m / 2048) = e ∧ toSigned 11 (linPack e m % 2048) = m ∧ linPack e m < 65536)
  ∧ ulinearWord 10000 = 0x2000 ∧ linWord (1200 * 64) 64 = 0x0A58 ∧ linValue 0xF828 100 = 2000

/-- For every queue, entry and state: with room a push appends the entry as the newest and changes no other queue and no drop counter; without room, in every queue but Q10, Q13 and Q15, which have rules of their own, it is dropped,
DROPS is counted (holding at FFh), OVF is set, and no queue changes. An export that waits for room in Q13 counts nothing. The depth
is 16 for Q0 to Q7 and Q10, 64 for Q11 and Q12, and 32 for the rest. -/
def Obligations.PushesAppendOrDrop : Prop :=
  (∀ (q : Fin 16) (e : QEntry) (s : State), (s.q q).length < qDepth q.val →
      (qPush q e s).q q = s.q q ++ [e] ∧ (∀ j, j ≠ q → (qPush q e s).q j = s.q j)
        ∧ (∀ j : Fin 16, (qPush q e s).word (A.Q_STAT j.val) = s.word (A.Q_STAT j.val)))
  ∧ (∀ (q : Fin 16) (e : QEntry) (s : State), q.val ≠ 10 → q.val ≠ 13 → q.val ≠ 15 → qDepth q.val ≤ (s.q q).length →
      (qPush q e s).queue = s.queue ∧ (qPush q e s).g (F.Q_STAT_DROPS q.val) = min 255 (s.g (F.Q_STAT_DROPS q.val) + 1)
        ∧ (qPush q e s).gb (F.Q_STAT_OVF q.val) = true ∧ OnlyWords (qPush q e s) s [A.Q_STAT q.val])
  ∧ (∀ (s : State) (p : Fin 4) (i : Nat), s.exp = some (p, i) → i < s.exportLen p → s.room 13 1 = false →
      Leaves .plateExportResume s s)
  ∧ (∀ q : Fin 16, qDepth q.val = if q.val ≤ 7 ∨ q.val = 10 then 16 else if q.val = 11 ∨ q.val = 12 then 64 else 32)

/-- A write of RUN = 0 to a running Plate that the checks let through leaves it idle with no capture, and every word of its data area then reads 0. While
the Plate is armed or capturing, a write of PL[p].CTL that would change NCHC, DECMODE, BASE or BIDX is refused with cause
HALT, for every master whose write the Gatehouse lets through outside SAFE and SUP's in any state, and changes only CFGERR and its counter. -/
def Obligations.PlateSettingsStandWhileItRuns : Prop :=
  (∀ (s : State) (m : Master) (p : Fin 4), judge m (A.PL_CTL p.val) (s.withField (F.PL_CTL_RUN p.val) 0) s = .ok →
      s.gb (F.PL_CTL_RUN p.val) = true → Completes (.plateStop m p) s fun u => (vget u.plate p).st = .idle
        ∧ (vget u.plate p).buf = [] ∧ ∀ i, u.plateWord p i = 0)
  ∧ (∀ (s : State) (m : Master) (p : Fin 4) (w : Word) (b : Bool), s.dev = .standby ∨ s.dev = .run ∨ s.dev = .lockdown ∨ m = .sup →
      s.dev ≠ .off → s.dev ≠ .boot → s.gateWrite m (A.PL_CTL p.val) false = none →
      (vget s.plate p).st = .armed ∨ (vget s.plate p).st = .capturing →
      getBits w (F.PL_CTL_NCHC p.val).lo 2 ≠ s.g (F.PL_CTL_NCHC p.val)
        ∨ getBits w (F.PL_CTL_DECMODE p.val).lo 1 ≠ s.g (F.PL_CTL_DECMODE p.val)
        ∨ getBits w (F.PL_CTL_BASE p.val).lo 4 ≠ s.g (F.PL_CTL_BASE p.val)
        ∨ getBits w (F.PL_CTL_BIDX p.val).lo 8 ≠ s.g (F.PL_CTL_BIDX p.val) →
      Completes (.registerWrite m (BitVec.ofNat 24 (A.PL_CTL p.val)) w b) s fun u =>
        u = dbgStatus m (.refused .halt) (cfgRefuse m .halt (A.PL_CTL p.val) s) ∧ OnlyWords { u with gate := s.gate } s [A.CFGERR, A.CFGERR_COUNT])
end

