-- ==== Sys2Proof/Laws/Bits.lean ====
section
/-!
SUPPORT. The laws of bit fields: a written field reads back modulo its width, and fields that do not overlap keep their
values.
-/

namespace Sys2Proof.Machine

theorem getBits_lt (x : Word) (lo w : Nat) : getBits x lo w < 2 ^ w := Nat.mod_lt _ (Nat.two_pow_pos w)

/-- A number in three parts: above PQ, the digit between, and below P. -/
theorem three_parts (n P Q : Nat) : n = (n / (P * Q) * Q + n / P % Q) * P + n % P := by
  have e1 := Nat.div_add_mod n P
  have e2 := Nat.div_add_mod (n / P) Q
  rw [Nat.div_div_eq_div_mul] at e2
  calc n = P * (n / P) + n % P := e1.symm
    _ = P * (Q * (n / (P * Q)) + n / P % Q) + n % P := by rw [e2]
    _ = _ := by ring

theorem three_parts_lt (A P Q R v r : Nat) (hA : A < R) (hv : v < Q) (hr : r < P) : (A * Q + v) * P + r < R * Q * P := by
  calc (A * Q + v) * P + r < (A * Q + v) * P + P := by omega
    _ = (A * Q + v + 1) * P := by ring
    _ ≤ (A * Q + Q) * P := Nat.mul_le_mul_right P (by omega)
    _ = (A + 1) * Q * P := by ring
    _ ≤ R * Q * P := Nat.mul_le_mul_right P (Nat.mul_le_mul_right Q hA)

/-- The number with a field replaced, in parts above, in and below the field. -/
theorem setBits_toNat (x : Word) (lo w v : Nat) (h : lo + w ≤ 32) :
    (setBits x lo w v).toNat = (x.toNat / (2 ^ lo * 2 ^ w) * 2 ^ w + v % 2 ^ w) * 2 ^ lo + x.toNat % 2 ^ lo := by
  have hR : 2 ^ (32 - (lo + w)) * 2 ^ w * 2 ^ lo = 2 ^ 32 := by
    rw [← pow_add, ← pow_add]; congr 1; omega
  have hA : x.toNat / (2 ^ lo * 2 ^ w) < 2 ^ (32 - (lo + w)) := by
    rw [Nat.div_lt_iff_lt_mul (Nat.mul_pos (Nat.two_pow_pos _) (Nat.two_pow_pos _))]
    calc x.toNat < 2 ^ 32 := x.isLt
      _ = _ := by rw [← hR]; ring
  have hlt := three_parts_lt _ (2 ^ lo) (2 ^ w) _ (v % 2 ^ w) (x.toNat % 2 ^ lo) hA (Nat.mod_lt _ (Nat.two_pow_pos w))
    (Nat.mod_lt _ (Nat.two_pow_pos lo))
  rw [hR] at hlt
  have hx := three_parts x.toNat (2 ^ lo) (2 ^ w)
  unfold setBits getBits
  rw [BitVec.toNat_ofNat]
  generalize x.toNat / 2 ^ lo % 2 ^ w = m at *
  generalize x.toNat / (2 ^ lo * 2 ^ w) = A at *
  generalize x.toNat % 2 ^ lo = r at *
  have hs : x.toNat - m * 2 ^ lo + v % 2 ^ w * 2 ^ lo = (A * 2 ^ w + v % 2 ^ w) * 2 ^ lo + r := by
    rw [hx, show (A * 2 ^ w + m) * 2 ^ lo + r = m * 2 ^ lo + (A * 2 ^ w * 2 ^ lo + r) by ring, Nat.add_sub_cancel_left]
    ring
  rw [hs, Nat.mod_eq_of_lt hlt]

theorem getBits_setBits (x : Word) (lo w v : Nat) (h : lo + w ≤ 32) :
    getBits (setBits x lo w v) lo w = v % 2 ^ w := by
  unfold getBits
  rw [setBits_toNat x lo w v h]
  have h3 : x.toNat % 2 ^ lo < 2 ^ lo := Nat.mod_lt _ (Nat.two_pow_pos lo)
  rw [Nat.add_comm, Nat.add_mul_div_right _ _ (Nat.two_pow_pos lo), Nat.div_eq_of_lt h3, Nat.zero_add,
    Nat.add_comm, Nat.add_mul_mod_self_right, Nat.mod_mod]

/-- A field below the written one keeps its value. -/
theorem getBits_setBits_below (x : Word) (lo w v lo' w' : Nat) (h : lo + w ≤ 32) (hb : lo' + w' ≤ lo) :
    getBits (setBits x lo w v) lo' w' = getBits x lo' w' := by
  have key : ∀ n : Nat, n / 2 ^ lo' % 2 ^ w' = n % 2 ^ lo / 2 ^ lo' % 2 ^ w' := by
    intro n
    have e : 2 ^ lo = 2 ^ lo' * (2 ^ w' * 2 ^ (lo - lo' - w')) := by
      rw [← pow_add, ← pow_add]; congr 1; omega
    rw [e, Nat.mod_mul_right_div_self, Nat.mod_mul_right_mod]
  unfold getBits
  rw [key, key x.toNat, setBits_toNat x lo w v h, Nat.add_comm, Nat.add_mul_mod_self_right, Nat.mod_mod]

/-- A field above the written one keeps its value. -/
theorem getBits_setBits_above (x : Word) (lo w v lo' w' : Nat) (h : lo + w ≤ 32) (hb : lo + w ≤ lo') :
    getBits (setBits x lo w v) lo' w' = getBits x lo' w' := by
  have e : 2 ^ lo' = 2 ^ lo * (2 ^ w * 2 ^ (lo' - (lo + w))) := by
    rw [← pow_add, ← pow_add]; congr 1; omega
  have h3 : x.toNat % 2 ^ lo < 2 ^ lo := Nat.mod_lt _ (Nat.two_pow_pos lo)
  have h2 : v % 2 ^ w < 2 ^ w := Nat.mod_lt _ (Nat.two_pow_pos w)
  have key : (setBits x lo w v).toNat / 2 ^ lo' = x.toNat / 2 ^ lo' := by
    rw [setBits_toNat x lo w v h, e, ← Nat.div_div_eq_div_mul, ← Nat.div_div_eq_div_mul, Nat.add_comm,
      Nat.add_mul_div_right _ _ (Nat.two_pow_pos lo), Nat.div_eq_of_lt h3, Nat.zero_add, Nat.add_comm,
      Nat.add_mul_div_right _ _ (Nat.two_pow_pos w), Nat.div_eq_of_lt h2, Nat.zero_add,
      ← Nat.div_div_eq_div_mul, ← Nat.div_div_eq_div_mul, ← Nat.div_div_eq_div_mul]
  unfold getBits
  rw [key]

end Sys2Proof.Machine
end

