-- ==== Sys2Proof/Laws/SMap.lean ====
section
/-!
SUPPORT. The laws of sparse maps: reading back what was written, leaving every other key alone, and keeping the canonical
form.
-/

namespace Sys2Proof.Machine

variable {α : Type}

theorem SMap.find_insert (m : SMap α) (k j : Nat) (v : α) :
    SMap.find (SMap.insert m k v) j = if j = k then some v else SMap.find m j := by
  induction m with
  | nil => simp [SMap.insert, SMap.find, eq_comm]
  | cons x m ih =>
    obtain ⟨a, w⟩ := x
    unfold SMap.insert
    split
    · simp [SMap.find, eq_comm]
    · split
      · rename_i hak
        subst hak
        by_cases h : j = a <;> simp [SMap.find, h, eq_comm]
      · by_cases h : a = j
        · subst h; simp [SMap.find, *]
        · simp [SMap.find, h, ih]

theorem SMap.find_erase (m : SMap α) (k j : Nat) :
    SMap.find (SMap.erase m k) j = if j = k then none else SMap.find m j := by
  induction m with
  | nil => simp [SMap.erase, SMap.find]
  | cons x m ih =>
    obtain ⟨a, w⟩ := x
    unfold SMap.erase at ih ⊢
    by_cases h : a = k
    · subst h
      simp only [List.filter_cons, bne_self_eq_false, Bool.false_eq_true, if_false, ih]
      by_cases hj : j = a
      · simp [hj]
      · simp [SMap.find, hj, Ne.symm hj]
    · have : (a != k) = true := by simpa using h
      simp only [List.filter_cons, this, if_true, SMap.find, ih]
      by_cases hj : a = j
      · subst hj; simp [h]
      · simp [hj]

/-- A written key reads back; every other key reads as before. -/
theorem SMap.get_set [DecidableEq α] (d : Nat → α) (m : SMap α) (k j : Nat) (v : α) :
    SMap.get d (SMap.set d m k v) j = if j = k then v else SMap.get d m j := by
  unfold SMap.get SMap.set
  split
  · rw [SMap.find_erase]; by_cases h : j = k <;> simp [*]
  · rw [SMap.find_insert]; by_cases h : j = k <;> simp [*]

/-- A lower bound may be weakened. -/
theorem SMap.wfFrom_mono [DecidableEq α] (d : Nat → α) (m : SMap α) (b c : Nat) (hbc : b ≤ c)
    (h : SMap.wfFrom d (some c) m = true) : SMap.wfFrom d (some b) m = true := by
  cases m with
  | nil => rfl
  | cons x m =>
    obtain ⟨a, v⟩ := x
    simp only [SMap.wfFrom, Bool.and_eq_true, decide_eq_true_eq] at h ⊢
    exact ⟨⟨by omega, h.1.2⟩, h.2⟩

theorem SMap.wfFrom_none [DecidableEq α] (d : Nat → α) (m : SMap α) (b : Option Nat)
    (h : SMap.wfFrom d b m = true) : SMap.wfFrom d none m = true := by
  cases m with
  | nil => rfl
  | cons x m =>
    obtain ⟨a, v⟩ := x
    simp only [SMap.wfFrom, Bool.and_eq_true, decide_eq_true_eq] at h ⊢
    exact ⟨⟨trivial, h.1.2⟩, h.2⟩

theorem SMap.wfFrom_erase [DecidableEq α] (d : Nat → α) (m : SMap α) (k : Nat) (b : Option Nat)
    (h : SMap.wfFrom d b m = true) : SMap.wfFrom d b (SMap.erase m k) = true := by
  induction m generalizing b with
  | nil => exact h
  | cons x m ih =>
    obtain ⟨a, v⟩ := x
    unfold SMap.erase at ih ⊢
    simp only [SMap.wfFrom, Bool.and_eq_true, decide_eq_true_eq] at h
    by_cases hk : a = k
    · subst hk
      simp only [List.filter_cons, bne_self_eq_false, Bool.false_eq_true, if_false]
      apply ih
      cases b with
      | none => exact SMap.wfFrom_none d m _ h.2
      | some b => exact SMap.wfFrom_mono d m b a (by have := h.1.1; simp at this; omega) h.2
    · have : (a != k) = true := by simpa using hk
      simp only [List.filter_cons, this, if_true, SMap.wfFrom, Bool.and_eq_true, decide_eq_true_eq]
      exact ⟨h.1, ih _ h.2⟩

theorem SMap.wfFrom_insert [DecidableEq α] (d : Nat → α) (m : SMap α) (k : Nat) (v : α) (hv : v ≠ d k) (b : Option Nat)
    (hb : ∀ x, b = some x → x < k) (h : SMap.wfFrom d b m = true) :
    SMap.wfFrom d b (SMap.insert m k v) = true := by
  induction m generalizing b with
  | nil =>
    simp only [SMap.insert, SMap.wfFrom, Bool.and_eq_true, decide_eq_true_eq]
    refine ⟨⟨?_, hv⟩, trivial⟩
    cases b with
    | none => trivial
    | some x => simpa using hb x rfl
  | cons x m ih =>
    obtain ⟨a, w⟩ := x
    unfold SMap.insert
    simp only [SMap.wfFrom, Bool.and_eq_true, decide_eq_true_eq] at h
    split
    · simp only [SMap.wfFrom, Bool.and_eq_true, decide_eq_true_eq]
      refine ⟨⟨?_, hv⟩, ⟨by assumption, h.1.2⟩, h.2⟩
      cases b with
      | none => trivial
      | some x => simpa using hb x rfl
    · split
      · subst_vars
        simp only [SMap.wfFrom, Bool.and_eq_true, decide_eq_true_eq]
        exact ⟨⟨h.1.1, hv⟩, h.2⟩
      · simp only [SMap.wfFrom, Bool.and_eq_true, decide_eq_true_eq]
        exact ⟨h.1, ih (some a) (by intro x hx; cases hx; omega) h.2⟩

/-- A write keeps the canonical form. -/
theorem SMap.wf_set [DecidableEq α] (d : Nat → α) (m : SMap α) (k : Nat) (v : α) (h : SMap.wf d m = true) :
    SMap.wf d (SMap.set d m k v) = true := by
  unfold SMap.wf SMap.set at *
  split
  · exact SMap.wfFrom_erase d m k none h
  · exact SMap.wfFrom_insert d m k v (by assumption) none (by simp) h

end Sys2Proof.Machine
end

