-- ==== Sys2Proof/Laws/State.lean ====
section
/-!
SUPPORT. The state's small lemmas: a written register or field reads back and the others keep their values; and, one
lemma per field per update, what an update leaves alone.
-/

namespace Sys2Proof.Machine

/-! ### Words and fields -/

theorem State.word_setWord (s : State) (a b : Nat) (w : Word) :
    (s.setWord a w).word b = if b = a then w else s.word b := SMap.get_set resetWord s.regs a b w

@[simp] theorem State.word_setWord_same (s : State) (a : Nat) (w : Word) : (s.setWord a w).word a = w := by
  simp [State.word_setWord]

theorem State.word_setWord_ne (s : State) (a b : Nat) (w : Word) (h : b ≠ a) : (s.setWord a w).word b = s.word b := by
  simp [State.word_setWord, h]

theorem State.word_p (s : State) (f : Fld) (v b : Nat) :
    (s.p f v).word b = if b = f.addr then setBits (s.word f.addr) f.lo f.w v else s.word b :=
  State.word_setWord s f.addr b _

theorem State.word_p_ne (s : State) (f : Fld) (v b : Nat) (h : b ≠ f.addr) : (s.p f v).word b = s.word b := by
  simp [State.word_p, h]

/-- A written field reads back modulo its width. -/
theorem State.g_p (s : State) (f : Fld) (v : Nat) (h : f.lo + f.w ≤ 32) : (s.p f v).g f = v % 2 ^ f.w := by
  simp [State.g, State.word_p, getBits_setBits _ _ _ _ h]

/-- A field of another register keeps its value. -/
theorem State.g_p_addr (s : State) (f e : Fld) (v : Nat) (h : e.addr ≠ f.addr) : (s.p f v).g e = s.g e := by
  simp [State.g, State.word_p, h]

/-- A field of the same register that does not overlap keeps its value. -/
theorem State.g_p_apart (s : State) (f e : Fld) (v : Nat) (h : f.lo + f.w ≤ 32) (hb : e.lo + e.w ≤ f.lo ∨ f.lo + f.w ≤ e.lo) :
    (s.p f v).g e = s.g e := by
  unfold State.g
  rw [State.word_p]
  split
  · rename_i ha
    rw [ha]
    rcases hb with hb | hb
    · exact getBits_setBits_below _ _ _ _ _ _ h hb
    · exact getBits_setBits_above _ _ _ _ _ _ h hb
  · rfl

theorem State.g_lt (s : State) (f : Fld) : s.g f < 2 ^ f.w := getBits_lt _ _ _

/-- The register file's canonical form is kept by every write of a word. -/
theorem State.wf_setWord (s : State) (a : Nat) (w : Word) (h : SMap.wf resetWord s.regs = true) :
    SMap.wf resetWord (s.setWord a w).regs = true := SMap.wf_set resetWord s.regs a w h

theorem State.wf_p (s : State) (f : Fld) (v : Nat) (h : SMap.wf resetWord s.regs = true) :
    SMap.wf resetWord (s.p f v).regs = true := State.wf_setWord s _ _ h

/-! ### What an update leaves alone -/

@[simp] theorem State.setWord_sup (s : State) (a : Nat) (w : Word) : (s.setWord a w).sup = s.sup := rfl
@[simp] theorem State.setWord_dev (s : State) (a : Nat) (w : Word) : (s.setWord a w).dev = s.dev := rfl
@[simp] theorem State.setWord_tb (s : State) (a : Nat) (w : Word) : (s.setWord a w).tb = s.tb := rfl
@[simp] theorem State.setWord_fine (s : State) (a : Nat) (w : Word) : (s.setWord a w).fine = s.fine := rfl
@[simp] theorem State.setWord_secMark (s : State) (a : Nat) (w : Word) : (s.setWord a w).secMark = s.secMark := rfl
@[simp] theorem State.setWord_hi (s : State) (a : Nat) (w : Word) : (s.setWord a w).hi = s.hi := rfl
@[simp] theorem State.setWord_capDisc (s : State) (a : Nat) (w : Word) : (s.setWord a w).capDisc = s.capDisc := rfl
@[simp] theorem State.setWord_img (s : State) (a : Nat) (w : Word) : (s.setWord a w).img = s.img := rfl
@[simp] theorem State.setWord_phase (s : State) (a : Nat) (w : Word) : (s.setWord a w).phase = s.phase := rfl
@[simp] theorem State.setWord_role (s : State) (a : Nat) (w : Word) : (s.setWord a w).role = s.role := rfl
@[simp] theorem State.setWord_sync (s : State) (a : Nat) (w : Word) : (s.setWord a w).sync = s.sync := rfl
@[simp] theorem State.setWord_genHist (s : State) (a : Nat) (w : Word) : (s.setWord a w).genHist = s.genHist := rfl
@[simp] theorem State.setWord_rail (s : State) (a : Nat) (w : Word) : (s.setWord a w).rail = s.rail := rfl
@[simp] theorem State.setWord_queue (s : State) (a : Nat) (w : Word) : (s.setWord a w).queue = s.queue := rfl
@[simp] theorem State.setWord_ephTab (s : State) (a : Nat) (w : Word) : (s.setWord a w).ephTab = s.ephTab := rfl
@[simp] theorem State.setWord_strikes (s : State) (a : Nat) (w : Word) : (s.setWord a w).strikes = s.strikes := rfl
@[simp] theorem State.setWord_pll (s : State) (a : Nat) (w : Word) : (s.setWord a w).pll = s.pll := rfl
@[simp] theorem State.setWord_nv (s : State) (a : Nat) (w : Word) : (s.setWord a w).nv = s.nv := rfl
@[simp] theorem State.setWord_conv (s : State) (a : Nat) (w : Word) : (s.setWord a w).conv = s.conv := rfl
@[simp] theorem State.setWord_plate (s : State) (a : Nat) (w : Word) : (s.setWord a w).plate = s.plate := rfl
@[simp] theorem State.setWord_exp (s : State) (a : Nat) (w : Word) : (s.setWord a w).exp = s.exp := rfl
@[simp] theorem State.setWord_evSeen (s : State) (a : Nat) (w : Word) : (s.setWord a w).evSeen = s.evSeen := rfl
@[simp] theorem State.setWord_gate (s : State) (a : Nat) (w : Word) : (s.setWord a w).gate = s.gate := rfl
@[simp] theorem State.setWord_jtag (s : State) (a : Nat) (w : Word) : (s.setWord a w).jtag = s.jtag := rfl
@[simp] theorem State.setWord_port (s : State) (a : Nat) (w : Word) : (s.setWord a w).port = s.port := rfl
@[simp] theorem State.setWord_host (s : State) (a : Nat) (w : Word) : (s.setWord a w).host = s.host := rfl
@[simp] theorem State.setWord_masterWait (s : State) (a : Nat) (w : Word) : (s.setWord a w).masterWait = s.masterWait := rfl
@[simp] theorem State.setWord_latches (s : State) (a : Nat) (w : Word) : (s.setWord a w).latches = s.latches := rfl
@[simp] theorem State.setWord_np (s : State) (a : Nat) (w : Word) : (s.setWord a w).np = s.np := rfl
@[simp] theorem State.setWord_pt (s : State) (a : Nat) (w : Word) : (s.setWord a w).pt = s.pt := rfl
@[simp] theorem State.setWord_chk (s : State) (a : Nat) (w : Word) : (s.setWord a w).chk = s.chk := rfl
@[simp] theorem State.setWord_vinff (s : State) (a : Nat) (w : Word) : (s.setWord a w).vinff = s.vinff := rfl
@[simp] theorem State.setWord_vinffFailed (s : State) (a : Nat) (w : Word) : (s.setWord a w).vinffFailed = s.vinffFailed := rfl
@[simp] theorem State.setWord_answer (s : State) (a : Nat) (w : Word) : (s.setWord a w).answer = s.answer := rfl
@[simp] theorem State.setWord_free (s : State) (a : Nat) (w : Word) : (s.setWord a w).free = s.free := rfl
@[simp] theorem State.setWord_pending (s : State) (a : Nat) (w : Word) : (s.setWord a w).pending = s.pending := rfl

@[simp] theorem State.p_sup (s : State) (f : Fld) (v : Nat) : (s.p f v).sup = s.sup := rfl
@[simp] theorem State.p_dev (s : State) (f : Fld) (v : Nat) : (s.p f v).dev = s.dev := rfl
@[simp] theorem State.p_tb (s : State) (f : Fld) (v : Nat) : (s.p f v).tb = s.tb := rfl
@[simp] theorem State.p_fine (s : State) (f : Fld) (v : Nat) : (s.p f v).fine = s.fine := rfl
@[simp] theorem State.p_secMark (s : State) (f : Fld) (v : Nat) : (s.p f v).secMark = s.secMark := rfl
@[simp] theorem State.p_hi (s : State) (f : Fld) (v : Nat) : (s.p f v).hi = s.hi := rfl
@[simp] theorem State.p_capDisc (s : State) (f : Fld) (v : Nat) : (s.p f v).capDisc = s.capDisc := rfl
@[simp] theorem State.p_img (s : State) (f : Fld) (v : Nat) : (s.p f v).img = s.img := rfl
@[simp] theorem State.p_phase (s : State) (f : Fld) (v : Nat) : (s.p f v).phase = s.phase := rfl
@[simp] theorem State.p_role (s : State) (f : Fld) (v : Nat) : (s.p f v).role = s.role := rfl
@[simp] theorem State.p_sync (s : State) (f : Fld) (v : Nat) : (s.p f v).sync = s.sync := rfl
@[simp] theorem State.p_genHist (s : State) (f : Fld) (v : Nat) : (s.p f v).genHist = s.genHist := rfl
@[simp] theorem State.p_rail (s : State) (f : Fld) (v : Nat) : (s.p f v).rail = s.rail := rfl
@[simp] theorem State.p_queue (s : State) (f : Fld) (v : Nat) : (s.p f v).queue = s.queue := rfl
@[simp] theorem State.p_ephTab (s : State) (f : Fld) (v : Nat) : (s.p f v).ephTab = s.ephTab := rfl
@[simp] theorem State.p_strikes (s : State) (f : Fld) (v : Nat) : (s.p f v).strikes = s.strikes := rfl
@[simp] theorem State.p_pll (s : State) (f : Fld) (v : Nat) : (s.p f v).pll = s.pll := rfl
@[simp] theorem State.p_nv (s : State) (f : Fld) (v : Nat) : (s.p f v).nv = s.nv := rfl
@[simp] theorem State.p_conv (s : State) (f : Fld) (v : Nat) : (s.p f v).conv = s.conv := rfl
@[simp] theorem State.p_plate (s : State) (f : Fld) (v : Nat) : (s.p f v).plate = s.plate := rfl
@[simp] theorem State.p_exp (s : State) (f : Fld) (v : Nat) : (s.p f v).exp = s.exp := rfl
@[simp] theorem State.p_evSeen (s : State) (f : Fld) (v : Nat) : (s.p f v).evSeen = s.evSeen := rfl
@[simp] theorem State.p_gate (s : State) (f : Fld) (v : Nat) : (s.p f v).gate = s.gate := rfl
@[simp] theorem State.p_jtag (s : State) (f : Fld) (v : Nat) : (s.p f v).jtag = s.jtag := rfl
@[simp] theorem State.p_port (s : State) (f : Fld) (v : Nat) : (s.p f v).port = s.port := rfl
@[simp] theorem State.p_host (s : State) (f : Fld) (v : Nat) : (s.p f v).host = s.host := rfl
@[simp] theorem State.p_masterWait (s : State) (f : Fld) (v : Nat) : (s.p f v).masterWait = s.masterWait := rfl
@[simp] theorem State.p_latches (s : State) (f : Fld) (v : Nat) : (s.p f v).latches = s.latches := rfl
@[simp] theorem State.p_np (s : State) (f : Fld) (v : Nat) : (s.p f v).np = s.np := rfl
@[simp] theorem State.p_pt (s : State) (f : Fld) (v : Nat) : (s.p f v).pt = s.pt := rfl
@[simp] theorem State.p_chk (s : State) (f : Fld) (v : Nat) : (s.p f v).chk = s.chk := rfl
@[simp] theorem State.p_vinff (s : State) (f : Fld) (v : Nat) : (s.p f v).vinff = s.vinff := rfl
@[simp] theorem State.p_vinffFailed (s : State) (f : Fld) (v : Nat) : (s.p f v).vinffFailed = s.vinffFailed := rfl
@[simp] theorem State.p_answer (s : State) (f : Fld) (v : Nat) : (s.p f v).answer = s.answer := rfl
@[simp] theorem State.p_free (s : State) (f : Fld) (v : Nat) : (s.p f v).free = s.free := rfl
@[simp] theorem State.p_pending (s : State) (f : Fld) (v : Nat) : (s.p f v).pending = s.pending := rfl

@[simp] theorem State.pi_sup (s : State) (f : Fld) (v : Int) : (s.pi f v).sup = s.sup := rfl
@[simp] theorem State.pi_dev (s : State) (f : Fld) (v : Int) : (s.pi f v).dev = s.dev := rfl
@[simp] theorem State.pi_tb (s : State) (f : Fld) (v : Int) : (s.pi f v).tb = s.tb := rfl
@[simp] theorem State.pi_fine (s : State) (f : Fld) (v : Int) : (s.pi f v).fine = s.fine := rfl
@[simp] theorem State.pi_secMark (s : State) (f : Fld) (v : Int) : (s.pi f v).secMark = s.secMark := rfl
@[simp] theorem State.pi_hi (s : State) (f : Fld) (v : Int) : (s.pi f v).hi = s.hi := rfl
@[simp] theorem State.pi_capDisc (s : State) (f : Fld) (v : Int) : (s.pi f v).capDisc = s.capDisc := rfl
@[simp] theorem State.pi_img (s : State) (f : Fld) (v : Int) : (s.pi f v).img = s.img := rfl
@[simp] theorem State.pi_phase (s : State) (f : Fld) (v : Int) : (s.pi f v).phase = s.phase := rfl
@[simp] theorem State.pi_role (s : State) (f : Fld) (v : Int) : (s.pi f v).role = s.role := rfl
@[simp] theorem State.pi_sync (s : State) (f : Fld) (v : Int) : (s.pi f v).sync = s.sync := rfl
@[simp] theorem State.pi_genHist (s : State) (f : Fld) (v : Int) : (s.pi f v).genHist = s.genHist := rfl
@[simp] theorem State.pi_rail (s : State) (f : Fld) (v : Int) : (s.pi f v).rail = s.rail := rfl
@[simp] theorem State.pi_queue (s : State) (f : Fld) (v : Int) : (s.pi f v).queue = s.queue := rfl
@[simp] theorem State.pi_ephTab (s : State) (f : Fld) (v : Int) : (s.pi f v).ephTab = s.ephTab := rfl
@[simp] theorem State.pi_strikes (s : State) (f : Fld) (v : Int) : (s.pi f v).strikes = s.strikes := rfl
@[simp] theorem State.pi_pll (s : State) (f : Fld) (v : Int) : (s.pi f v).pll = s.pll := rfl
@[simp] theorem State.pi_nv (s : State) (f : Fld) (v : Int) : (s.pi f v).nv = s.nv := rfl
@[simp] theorem State.pi_conv (s : State) (f : Fld) (v : Int) : (s.pi f v).conv = s.conv := rfl
@[simp] theorem State.pi_plate (s : State) (f : Fld) (v : Int) : (s.pi f v).plate = s.plate := rfl
@[simp] theorem State.pi_exp (s : State) (f : Fld) (v : Int) : (s.pi f v).exp = s.exp := rfl
@[simp] theorem State.pi_evSeen (s : State) (f : Fld) (v : Int) : (s.pi f v).evSeen = s.evSeen := rfl
@[simp] theorem State.pi_gate (s : State) (f : Fld) (v : Int) : (s.pi f v).gate = s.gate := rfl
@[simp] theorem State.pi_jtag (s : State) (f : Fld) (v : Int) : (s.pi f v).jtag = s.jtag := rfl
@[simp] theorem State.pi_port (s : State) (f : Fld) (v : Int) : (s.pi f v).port = s.port := rfl
@[simp] theorem State.pi_host (s : State) (f : Fld) (v : Int) : (s.pi f v).host = s.host := rfl
@[simp] theorem State.pi_masterWait (s : State) (f : Fld) (v : Int) : (s.pi f v).masterWait = s.masterWait := rfl
@[simp] theorem State.pi_latches (s : State) (f : Fld) (v : Int) : (s.pi f v).latches = s.latches := rfl
@[simp] theorem State.pi_np (s : State) (f : Fld) (v : Int) : (s.pi f v).np = s.np := rfl
@[simp] theorem State.pi_pt (s : State) (f : Fld) (v : Int) : (s.pi f v).pt = s.pt := rfl
@[simp] theorem State.pi_chk (s : State) (f : Fld) (v : Int) : (s.pi f v).chk = s.chk := rfl
@[simp] theorem State.pi_vinff (s : State) (f : Fld) (v : Int) : (s.pi f v).vinff = s.vinff := rfl
@[simp] theorem State.pi_vinffFailed (s : State) (f : Fld) (v : Int) : (s.pi f v).vinffFailed = s.vinffFailed := rfl
@[simp] theorem State.pi_answer (s : State) (f : Fld) (v : Int) : (s.pi f v).answer = s.answer := rfl
@[simp] theorem State.pi_free (s : State) (f : Fld) (v : Int) : (s.pi f v).free = s.free := rfl
@[simp] theorem State.pi_pending (s : State) (f : Fld) (v : Int) : (s.pi f v).pending = s.pending := rfl

@[simp] theorem State.pb_sup (s : State) (f : Fld) (b : Bool) : (s.pb f b).sup = s.sup := rfl
@[simp] theorem State.pb_dev (s : State) (f : Fld) (b : Bool) : (s.pb f b).dev = s.dev := rfl
@[simp] theorem State.pb_tb (s : State) (f : Fld) (b : Bool) : (s.pb f b).tb = s.tb := rfl
@[simp] theorem State.pb_fine (s : State) (f : Fld) (b : Bool) : (s.pb f b).fine = s.fine := rfl
@[simp] theorem State.pb_secMark (s : State) (f : Fld) (b : Bool) : (s.pb f b).secMark = s.secMark := rfl
@[simp] theorem State.pb_hi (s : State) (f : Fld) (b : Bool) : (s.pb f b).hi = s.hi := rfl
@[simp] theorem State.pb_capDisc (s : State) (f : Fld) (b : Bool) : (s.pb f b).capDisc = s.capDisc := rfl
@[simp] theorem State.pb_img (s : State) (f : Fld) (b : Bool) : (s.pb f b).img = s.img := rfl
@[simp] theorem State.pb_phase (s : State) (f : Fld) (b : Bool) : (s.pb f b).phase = s.phase := rfl
@[simp] theorem State.pb_role (s : State) (f : Fld) (b : Bool) : (s.pb f b).role = s.role := rfl
@[simp] theorem State.pb_sync (s : State) (f : Fld) (b : Bool) : (s.pb f b).sync = s.sync := rfl
@[simp] theorem State.pb_genHist (s : State) (f : Fld) (b : Bool) : (s.pb f b).genHist = s.genHist := rfl
@[simp] theorem State.pb_rail (s : State) (f : Fld) (b : Bool) : (s.pb f b).rail = s.rail := rfl
@[simp] theorem State.pb_queue (s : State) (f : Fld) (b : Bool) : (s.pb f b).queue = s.queue := rfl
@[simp] theorem State.pb_ephTab (s : State) (f : Fld) (b : Bool) : (s.pb f b).ephTab = s.ephTab := rfl
@[simp] theorem State.pb_strikes (s : State) (f : Fld) (b : Bool) : (s.pb f b).strikes = s.strikes := rfl
@[simp] theorem State.pb_pll (s : State) (f : Fld) (b : Bool) : (s.pb f b).pll = s.pll := rfl
@[simp] theorem State.pb_nv (s : State) (f : Fld) (b : Bool) : (s.pb f b).nv = s.nv := rfl
@[simp] theorem State.pb_conv (s : State) (f : Fld) (b : Bool) : (s.pb f b).conv = s.conv := rfl
@[simp] theorem State.pb_plate (s : State) (f : Fld) (b : Bool) : (s.pb f b).plate = s.plate := rfl
@[simp] theorem State.pb_exp (s : State) (f : Fld) (b : Bool) : (s.pb f b).exp = s.exp := rfl
@[simp] theorem State.pb_evSeen (s : State) (f : Fld) (b : Bool) : (s.pb f b).evSeen = s.evSeen := rfl
@[simp] theorem State.pb_gate (s : State) (f : Fld) (b : Bool) : (s.pb f b).gate = s.gate := rfl
@[simp] theorem State.pb_jtag (s : State) (f : Fld) (b : Bool) : (s.pb f b).jtag = s.jtag := rfl
@[simp] theorem State.pb_port (s : State) (f : Fld) (b : Bool) : (s.pb f b).port = s.port := rfl
@[simp] theorem State.pb_host (s : State) (f : Fld) (b : Bool) : (s.pb f b).host = s.host := rfl
@[simp] theorem State.pb_masterWait (s : State) (f : Fld) (b : Bool) : (s.pb f b).masterWait = s.masterWait := rfl
@[simp] theorem State.pb_latches (s : State) (f : Fld) (b : Bool) : (s.pb f b).latches = s.latches := rfl
@[simp] theorem State.pb_np (s : State) (f : Fld) (b : Bool) : (s.pb f b).np = s.np := rfl
@[simp] theorem State.pb_pt (s : State) (f : Fld) (b : Bool) : (s.pb f b).pt = s.pt := rfl
@[simp] theorem State.pb_chk (s : State) (f : Fld) (b : Bool) : (s.pb f b).chk = s.chk := rfl
@[simp] theorem State.pb_vinff (s : State) (f : Fld) (b : Bool) : (s.pb f b).vinff = s.vinff := rfl
@[simp] theorem State.pb_vinffFailed (s : State) (f : Fld) (b : Bool) : (s.pb f b).vinffFailed = s.vinffFailed := rfl
@[simp] theorem State.pb_answer (s : State) (f : Fld) (b : Bool) : (s.pb f b).answer = s.answer := rfl
@[simp] theorem State.pb_free (s : State) (f : Fld) (b : Bool) : (s.pb f b).free = s.free := rfl
@[simp] theorem State.pb_pending (s : State) (f : Fld) (b : Bool) : (s.pb f b).pending = s.pending := rfl

@[simp] theorem State.inc_sup (s : State) (f : Fld) : (s.inc f).sup = s.sup := rfl
@[simp] theorem State.inc_dev (s : State) (f : Fld) : (s.inc f).dev = s.dev := rfl
@[simp] theorem State.inc_tb (s : State) (f : Fld) : (s.inc f).tb = s.tb := rfl
@[simp] theorem State.inc_fine (s : State) (f : Fld) : (s.inc f).fine = s.fine := rfl
@[simp] theorem State.inc_secMark (s : State) (f : Fld) : (s.inc f).secMark = s.secMark := rfl
@[simp] theorem State.inc_hi (s : State) (f : Fld) : (s.inc f).hi = s.hi := rfl
@[simp] theorem State.inc_capDisc (s : State) (f : Fld) : (s.inc f).capDisc = s.capDisc := rfl
@[simp] theorem State.inc_img (s : State) (f : Fld) : (s.inc f).img = s.img := rfl
@[simp] theorem State.inc_phase (s : State) (f : Fld) : (s.inc f).phase = s.phase := rfl
@[simp] theorem State.inc_role (s : State) (f : Fld) : (s.inc f).role = s.role := rfl
@[simp] theorem State.inc_sync (s : State) (f : Fld) : (s.inc f).sync = s.sync := rfl
@[simp] theorem State.inc_genHist (s : State) (f : Fld) : (s.inc f).genHist = s.genHist := rfl
@[simp] theorem State.inc_rail (s : State) (f : Fld) : (s.inc f).rail = s.rail := rfl
@[simp] theorem State.inc_queue (s : State) (f : Fld) : (s.inc f).queue = s.queue := rfl
@[simp] theorem State.inc_ephTab (s : State) (f : Fld) : (s.inc f).ephTab = s.ephTab := rfl
@[simp] theorem State.inc_strikes (s : State) (f : Fld) : (s.inc f).strikes = s.strikes := rfl
@[simp] theorem State.inc_pll (s : State) (f : Fld) : (s.inc f).pll = s.pll := rfl
@[simp] theorem State.inc_nv (s : State) (f : Fld) : (s.inc f).nv = s.nv := rfl
@[simp] theorem State.inc_conv (s : State) (f : Fld) : (s.inc f).conv = s.conv := rfl
@[simp] theorem State.inc_plate (s : State) (f : Fld) : (s.inc f).plate = s.plate := rfl
@[simp] theorem State.inc_exp (s : State) (f : Fld) : (s.inc f).exp = s.exp := rfl
@[simp] theorem State.inc_evSeen (s : State) (f : Fld) : (s.inc f).evSeen = s.evSeen := rfl
@[simp] theorem State.inc_gate (s : State) (f : Fld) : (s.inc f).gate = s.gate := rfl
@[simp] theorem State.inc_jtag (s : State) (f : Fld) : (s.inc f).jtag = s.jtag := rfl
@[simp] theorem State.inc_port (s : State) (f : Fld) : (s.inc f).port = s.port := rfl
@[simp] theorem State.inc_host (s : State) (f : Fld) : (s.inc f).host = s.host := rfl
@[simp] theorem State.inc_masterWait (s : State) (f : Fld) : (s.inc f).masterWait = s.masterWait := rfl
@[simp] theorem State.inc_latches (s : State) (f : Fld) : (s.inc f).latches = s.latches := rfl
@[simp] theorem State.inc_np (s : State) (f : Fld) : (s.inc f).np = s.np := rfl
@[simp] theorem State.inc_pt (s : State) (f : Fld) : (s.inc f).pt = s.pt := rfl
@[simp] theorem State.inc_chk (s : State) (f : Fld) : (s.inc f).chk = s.chk := rfl
@[simp] theorem State.inc_vinff (s : State) (f : Fld) : (s.inc f).vinff = s.vinff := rfl
@[simp] theorem State.inc_vinffFailed (s : State) (f : Fld) : (s.inc f).vinffFailed = s.vinffFailed := rfl
@[simp] theorem State.inc_answer (s : State) (f : Fld) : (s.inc f).answer = s.answer := rfl
@[simp] theorem State.inc_free (s : State) (f : Fld) : (s.inc f).free = s.free := rfl
@[simp] theorem State.inc_pending (s : State) (f : Fld) : (s.inc f).pending = s.pending := rfl

@[simp] theorem State.incBy_sup (s : State) (f : Fld) (n : Nat) : (s.incBy f n).sup = s.sup := rfl
@[simp] theorem State.incBy_dev (s : State) (f : Fld) (n : Nat) : (s.incBy f n).dev = s.dev := rfl
@[simp] theorem State.incBy_tb (s : State) (f : Fld) (n : Nat) : (s.incBy f n).tb = s.tb := rfl
@[simp] theorem State.incBy_fine (s : State) (f : Fld) (n : Nat) : (s.incBy f n).fine = s.fine := rfl
@[simp] theorem State.incBy_secMark (s : State) (f : Fld) (n : Nat) : (s.incBy f n).secMark = s.secMark := rfl
@[simp] theorem State.incBy_hi (s : State) (f : Fld) (n : Nat) : (s.incBy f n).hi = s.hi := rfl
@[simp] theorem State.incBy_capDisc (s : State) (f : Fld) (n : Nat) : (s.incBy f n).capDisc = s.capDisc := rfl
@[simp] theorem State.incBy_img (s : State) (f : Fld) (n : Nat) : (s.incBy f n).img = s.img := rfl
@[simp] theorem State.incBy_phase (s : State) (f : Fld) (n : Nat) : (s.incBy f n).phase = s.phase := rfl
@[simp] theorem State.incBy_role (s : State) (f : Fld) (n : Nat) : (s.incBy f n).role = s.role := rfl
@[simp] theorem State.incBy_sync (s : State) (f : Fld) (n : Nat) : (s.incBy f n).sync = s.sync := rfl
@[simp] theorem State.incBy_genHist (s : State) (f : Fld) (n : Nat) : (s.incBy f n).genHist = s.genHist := rfl
@[simp] theorem State.incBy_rail (s : State) (f : Fld) (n : Nat) : (s.incBy f n).rail = s.rail := rfl
@[simp] theorem State.incBy_queue (s : State) (f : Fld) (n : Nat) : (s.incBy f n).queue = s.queue := rfl
@[simp] theorem State.incBy_ephTab (s : State) (f : Fld) (n : Nat) : (s.incBy f n).ephTab = s.ephTab := rfl
@[simp] theorem State.incBy_strikes (s : State) (f : Fld) (n : Nat) : (s.incBy f n).strikes = s.strikes := rfl
@[simp] theorem State.incBy_pll (s : State) (f : Fld) (n : Nat) : (s.incBy f n).pll = s.pll := rfl
@[simp] theorem State.incBy_nv (s : State) (f : Fld) (n : Nat) : (s.incBy f n).nv = s.nv := rfl
@[simp] theorem State.incBy_conv (s : State) (f : Fld) (n : Nat) : (s.incBy f n).conv = s.conv := rfl
@[simp] theorem State.incBy_plate (s : State) (f : Fld) (n : Nat) : (s.incBy f n).plate = s.plate := rfl
@[simp] theorem State.incBy_exp (s : State) (f : Fld) (n : Nat) : (s.incBy f n).exp = s.exp := rfl
@[simp] theorem State.incBy_evSeen (s : State) (f : Fld) (n : Nat) : (s.incBy f n).evSeen = s.evSeen := rfl
@[simp] theorem State.incBy_gate (s : State) (f : Fld) (n : Nat) : (s.incBy f n).gate = s.gate := rfl
@[simp] theorem State.incBy_jtag (s : State) (f : Fld) (n : Nat) : (s.incBy f n).jtag = s.jtag := rfl
@[simp] theorem State.incBy_port (s : State) (f : Fld) (n : Nat) : (s.incBy f n).port = s.port := rfl
@[simp] theorem State.incBy_host (s : State) (f : Fld) (n : Nat) : (s.incBy f n).host = s.host := rfl
@[simp] theorem State.incBy_masterWait (s : State) (f : Fld) (n : Nat) : (s.incBy f n).masterWait = s.masterWait := rfl
@[simp] theorem State.incBy_latches (s : State) (f : Fld) (n : Nat) : (s.incBy f n).latches = s.latches := rfl
@[simp] theorem State.incBy_np (s : State) (f : Fld) (n : Nat) : (s.incBy f n).np = s.np := rfl
@[simp] theorem State.incBy_pt (s : State) (f : Fld) (n : Nat) : (s.incBy f n).pt = s.pt := rfl
@[simp] theorem State.incBy_chk (s : State) (f : Fld) (n : Nat) : (s.incBy f n).chk = s.chk := rfl
@[simp] theorem State.incBy_vinff (s : State) (f : Fld) (n : Nat) : (s.incBy f n).vinff = s.vinff := rfl
@[simp] theorem State.incBy_vinffFailed (s : State) (f : Fld) (n : Nat) : (s.incBy f n).vinffFailed = s.vinffFailed := rfl
@[simp] theorem State.incBy_answer (s : State) (f : Fld) (n : Nat) : (s.incBy f n).answer = s.answer := rfl
@[simp] theorem State.incBy_free (s : State) (f : Fld) (n : Nat) : (s.incBy f n).free = s.free := rfl
@[simp] theorem State.incBy_pending (s : State) (f : Fld) (n : Nat) : (s.incBy f n).pending = s.pending := rfl

@[simp] theorem State.modPh_sup (s : State) (n : Fin 48) (f : PhaseState → PhaseState) : (s.modPh n f).sup = s.sup := rfl
@[simp] theorem State.modPh_dev (s : State) (n : Fin 48) (f : PhaseState → PhaseState) : (s.modPh n f).dev = s.dev := rfl
@[simp] theorem State.modPh_tb (s : State) (n : Fin 48) (f : PhaseState → PhaseState) : (s.modPh n f).tb = s.tb := rfl
@[simp] theorem State.modPh_fine (s : State) (n : Fin 48) (f : PhaseState → PhaseState) : (s.modPh n f).fine = s.fine := rfl
@[simp] theorem State.modPh_secMark (s : State) (n : Fin 48) (f : PhaseState → PhaseState) : (s.modPh n f).secMark = s.secMark := rfl
@[simp] theorem State.modPh_hi (s : State) (n : Fin 48) (f : PhaseState → PhaseState) : (s.modPh n f).hi = s.hi := rfl
@[simp] theorem State.modPh_capDisc (s : State) (n : Fin 48) (f : PhaseState → PhaseState) : (s.modPh n f).capDisc = s.capDisc := rfl
@[simp] theorem State.modPh_regs (s : State) (n : Fin 48) (f : PhaseState → PhaseState) : (s.modPh n f).regs = s.regs := rfl
@[simp] theorem State.modPh_img (s : State) (n : Fin 48) (f : PhaseState → PhaseState) : (s.modPh n f).img = s.img := rfl
@[simp] theorem State.modPh_role (s : State) (n : Fin 48) (f : PhaseState → PhaseState) : (s.modPh n f).role = s.role := rfl
@[simp] theorem State.modPh_sync (s : State) (n : Fin 48) (f : PhaseState → PhaseState) : (s.modPh n f).sync = s.sync := rfl
@[simp] theorem State.modPh_genHist (s : State) (n : Fin 48) (f : PhaseState → PhaseState) : (s.modPh n f).genHist = s.genHist := rfl
@[simp] theorem State.modPh_rail (s : State) (n : Fin 48) (f : PhaseState → PhaseState) : (s.modPh n f).rail = s.rail := rfl
@[simp] theorem State.modPh_queue (s : State) (n : Fin 48) (f : PhaseState → PhaseState) : (s.modPh n f).queue = s.queue := rfl
@[simp] theorem State.modPh_ephTab (s : State) (n : Fin 48) (f : PhaseState → PhaseState) : (s.modPh n f).ephTab = s.ephTab := rfl
@[simp] theorem State.modPh_strikes (s : State) (n : Fin 48) (f : PhaseState → PhaseState) : (s.modPh n f).strikes = s.strikes := rfl
@[simp] theorem State.modPh_pll (s : State) (n : Fin 48) (f : PhaseState → PhaseState) : (s.modPh n f).pll = s.pll := rfl
@[simp] theorem State.modPh_nv (s : State) (n : Fin 48) (f : PhaseState → PhaseState) : (s.modPh n f).nv = s.nv := rfl
@[simp] theorem State.modPh_conv (s : State) (n : Fin 48) (f : PhaseState → PhaseState) : (s.modPh n f).conv = s.conv := rfl
@[simp] theorem State.modPh_plate (s : State) (n : Fin 48) (f : PhaseState → PhaseState) : (s.modPh n f).plate = s.plate := rfl
@[simp] theorem State.modPh_exp (s : State) (n : Fin 48) (f : PhaseState → PhaseState) : (s.modPh n f).exp = s.exp := rfl
@[simp] theorem State.modPh_evSeen (s : State) (n : Fin 48) (f : PhaseState → PhaseState) : (s.modPh n f).evSeen = s.evSeen := rfl
@[simp] theorem State.modPh_gate (s : State) (n : Fin 48) (f : PhaseState → PhaseState) : (s.modPh n f).gate = s.gate := rfl
@[simp] theorem State.modPh_jtag (s : State) (n : Fin 48) (f : PhaseState → PhaseState) : (s.modPh n f).jtag = s.jtag := rfl
@[simp] theorem State.modPh_port (s : State) (n : Fin 48) (f : PhaseState → PhaseState) : (s.modPh n f).port = s.port := rfl
@[simp] theorem State.modPh_host (s : State) (n : Fin 48) (f : PhaseState → PhaseState) : (s.modPh n f).host = s.host := rfl
@[simp] theorem State.modPh_masterWait (s : State) (n : Fin 48) (f : PhaseState → PhaseState) : (s.modPh n f).masterWait = s.masterWait := rfl
@[simp] theorem State.modPh_latches (s : State) (n : Fin 48) (f : PhaseState → PhaseState) : (s.modPh n f).latches = s.latches := rfl
@[simp] theorem State.modPh_np (s : State) (n : Fin 48) (f : PhaseState → PhaseState) : (s.modPh n f).np = s.np := rfl
@[simp] theorem State.modPh_pt (s : State) (n : Fin 48) (f : PhaseState → PhaseState) : (s.modPh n f).pt = s.pt := rfl
@[simp] theorem State.modPh_chk (s : State) (n : Fin 48) (f : PhaseState → PhaseState) : (s.modPh n f).chk = s.chk := rfl
@[simp] theorem State.modPh_vinff (s : State) (n : Fin 48) (f : PhaseState → PhaseState) : (s.modPh n f).vinff = s.vinff := rfl
@[simp] theorem State.modPh_vinffFailed (s : State) (n : Fin 48) (f : PhaseState → PhaseState) : (s.modPh n f).vinffFailed = s.vinffFailed := rfl
@[simp] theorem State.modPh_answer (s : State) (n : Fin 48) (f : PhaseState → PhaseState) : (s.modPh n f).answer = s.answer := rfl
@[simp] theorem State.modPh_free (s : State) (n : Fin 48) (f : PhaseState → PhaseState) : (s.modPh n f).free = s.free := rfl
@[simp] theorem State.modPh_pending (s : State) (n : Fin 48) (f : PhaseState → PhaseState) : (s.modPh n f).pending = s.pending := rfl
@[simp] theorem State.modPh_word (s : State) (n : Fin 48) (f : PhaseState → PhaseState) (x : Nat) : (s.modPh n f).word x = s.word x := rfl
@[simp] theorem State.modPh_g (s : State) (n : Fin 48) (f : PhaseState → PhaseState) (x : Fld) : (s.modPh n f).g x = s.g x := rfl

@[simp] theorem State.modRl_sup (s : State) (n : Fin 48) (f : RoleState → RoleState) : (s.modRl n f).sup = s.sup := rfl
@[simp] theorem State.modRl_dev (s : State) (n : Fin 48) (f : RoleState → RoleState) : (s.modRl n f).dev = s.dev := rfl
@[simp] theorem State.modRl_tb (s : State) (n : Fin 48) (f : RoleState → RoleState) : (s.modRl n f).tb = s.tb := rfl
@[simp] theorem State.modRl_fine (s : State) (n : Fin 48) (f : RoleState → RoleState) : (s.modRl n f).fine = s.fine := rfl
@[simp] theorem State.modRl_secMark (s : State) (n : Fin 48) (f : RoleState → RoleState) : (s.modRl n f).secMark = s.secMark := rfl
@[simp] theorem State.modRl_hi (s : State) (n : Fin 48) (f : RoleState → RoleState) : (s.modRl n f).hi = s.hi := rfl
@[simp] theorem State.modRl_capDisc (s : State) (n : Fin 48) (f : RoleState → RoleState) : (s.modRl n f).capDisc = s.capDisc := rfl
@[simp] theorem State.modRl_regs (s : State) (n : Fin 48) (f : RoleState → RoleState) : (s.modRl n f).regs = s.regs := rfl
@[simp] theorem State.modRl_img (s : State) (n : Fin 48) (f : RoleState → RoleState) : (s.modRl n f).img = s.img := rfl
@[simp] theorem State.modRl_phase (s : State) (n : Fin 48) (f : RoleState → RoleState) : (s.modRl n f).phase = s.phase := rfl
@[simp] theorem State.modRl_sync (s : State) (n : Fin 48) (f : RoleState → RoleState) : (s.modRl n f).sync = s.sync := rfl
@[simp] theorem State.modRl_genHist (s : State) (n : Fin 48) (f : RoleState → RoleState) : (s.modRl n f).genHist = s.genHist := rfl
@[simp] theorem State.modRl_rail (s : State) (n : Fin 48) (f : RoleState → RoleState) : (s.modRl n f).rail = s.rail := rfl
@[simp] theorem State.modRl_queue (s : State) (n : Fin 48) (f : RoleState → RoleState) : (s.modRl n f).queue = s.queue := rfl
@[simp] theorem State.modRl_ephTab (s : State) (n : Fin 48) (f : RoleState → RoleState) : (s.modRl n f).ephTab = s.ephTab := rfl
@[simp] theorem State.modRl_strikes (s : State) (n : Fin 48) (f : RoleState → RoleState) : (s.modRl n f).strikes = s.strikes := rfl
@[simp] theorem State.modRl_pll (s : State) (n : Fin 48) (f : RoleState → RoleState) : (s.modRl n f).pll = s.pll := rfl
@[simp] theorem State.modRl_nv (s : State) (n : Fin 48) (f : RoleState → RoleState) : (s.modRl n f).nv = s.nv := rfl
@[simp] theorem State.modRl_conv (s : State) (n : Fin 48) (f : RoleState → RoleState) : (s.modRl n f).conv = s.conv := rfl
@[simp] theorem State.modRl_plate (s : State) (n : Fin 48) (f : RoleState → RoleState) : (s.modRl n f).plate = s.plate := rfl
@[simp] theorem State.modRl_exp (s : State) (n : Fin 48) (f : RoleState → RoleState) : (s.modRl n f).exp = s.exp := rfl
@[simp] theorem State.modRl_evSeen (s : State) (n : Fin 48) (f : RoleState → RoleState) : (s.modRl n f).evSeen = s.evSeen := rfl
@[simp] theorem State.modRl_gate (s : State) (n : Fin 48) (f : RoleState → RoleState) : (s.modRl n f).gate = s.gate := rfl
@[simp] theorem State.modRl_jtag (s : State) (n : Fin 48) (f : RoleState → RoleState) : (s.modRl n f).jtag = s.jtag := rfl
@[simp] theorem State.modRl_port (s : State) (n : Fin 48) (f : RoleState → RoleState) : (s.modRl n f).port = s.port := rfl
@[simp] theorem State.modRl_host (s : State) (n : Fin 48) (f : RoleState → RoleState) : (s.modRl n f).host = s.host := rfl
@[simp] theorem State.modRl_masterWait (s : State) (n : Fin 48) (f : RoleState → RoleState) : (s.modRl n f).masterWait = s.masterWait := rfl
@[simp] theorem State.modRl_latches (s : State) (n : Fin 48) (f : RoleState → RoleState) : (s.modRl n f).latches = s.latches := rfl
@[simp] theorem State.modRl_np (s : State) (n : Fin 48) (f : RoleState → RoleState) : (s.modRl n f).np = s.np := rfl
@[simp] theorem State.modRl_pt (s : State) (n : Fin 48) (f : RoleState → RoleState) : (s.modRl n f).pt = s.pt := rfl
@[simp] theorem State.modRl_chk (s : State) (n : Fin 48) (f : RoleState → RoleState) : (s.modRl n f).chk = s.chk := rfl
@[simp] theorem State.modRl_vinff (s : State) (n : Fin 48) (f : RoleState → RoleState) : (s.modRl n f).vinff = s.vinff := rfl
@[simp] theorem State.modRl_vinffFailed (s : State) (n : Fin 48) (f : RoleState → RoleState) : (s.modRl n f).vinffFailed = s.vinffFailed := rfl
@[simp] theorem State.modRl_answer (s : State) (n : Fin 48) (f : RoleState → RoleState) : (s.modRl n f).answer = s.answer := rfl
@[simp] theorem State.modRl_free (s : State) (n : Fin 48) (f : RoleState → RoleState) : (s.modRl n f).free = s.free := rfl
@[simp] theorem State.modRl_pending (s : State) (n : Fin 48) (f : RoleState → RoleState) : (s.modRl n f).pending = s.pending := rfl
@[simp] theorem State.modRl_word (s : State) (n : Fin 48) (f : RoleState → RoleState) (x : Nat) : (s.modRl n f).word x = s.word x := rfl
@[simp] theorem State.modRl_g (s : State) (n : Fin 48) (f : RoleState → RoleState) (x : Fld) : (s.modRl n f).g x = s.g x := rfl

@[simp] theorem State.modRa_sup (s : State) (k : Fin 8) (f : RailState → RailState) : (s.modRa k f).sup = s.sup := rfl
@[simp] theorem State.modRa_dev (s : State) (k : Fin 8) (f : RailState → RailState) : (s.modRa k f).dev = s.dev := rfl
@[simp] theorem State.modRa_tb (s : State) (k : Fin 8) (f : RailState → RailState) : (s.modRa k f).tb = s.tb := rfl
@[simp] theorem State.modRa_fine (s : State) (k : Fin 8) (f : RailState → RailState) : (s.modRa k f).fine = s.fine := rfl
@[simp] theorem State.modRa_secMark (s : State) (k : Fin 8) (f : RailState → RailState) : (s.modRa k f).secMark = s.secMark := rfl
@[simp] theorem State.modRa_hi (s : State) (k : Fin 8) (f : RailState → RailState) : (s.modRa k f).hi = s.hi := rfl
@[simp] theorem State.modRa_capDisc (s : State) (k : Fin 8) (f : RailState → RailState) : (s.modRa k f).capDisc = s.capDisc := rfl
@[simp] theorem State.modRa_regs (s : State) (k : Fin 8) (f : RailState → RailState) : (s.modRa k f).regs = s.regs := rfl
@[simp] theorem State.modRa_img (s : State) (k : Fin 8) (f : RailState → RailState) : (s.modRa k f).img = s.img := rfl
@[simp] theorem State.modRa_phase (s : State) (k : Fin 8) (f : RailState → RailState) : (s.modRa k f).phase = s.phase := rfl
@[simp] theorem State.modRa_role (s : State) (k : Fin 8) (f : RailState → RailState) : (s.modRa k f).role = s.role := rfl
@[simp] theorem State.modRa_sync (s : State) (k : Fin 8) (f : RailState → RailState) : (s.modRa k f).sync = s.sync := rfl
@[simp] theorem State.modRa_genHist (s : State) (k : Fin 8) (f : RailState → RailState) : (s.modRa k f).genHist = s.genHist := rfl
@[simp] theorem State.modRa_queue (s : State) (k : Fin 8) (f : RailState → RailState) : (s.modRa k f).queue = s.queue := rfl
@[simp] theorem State.modRa_ephTab (s : State) (k : Fin 8) (f : RailState → RailState) : (s.modRa k f).ephTab = s.ephTab := rfl
@[simp] theorem State.modRa_strikes (s : State) (k : Fin 8) (f : RailState → RailState) : (s.modRa k f).strikes = s.strikes := rfl
@[simp] theorem State.modRa_pll (s : State) (k : Fin 8) (f : RailState → RailState) : (s.modRa k f).pll = s.pll := rfl
@[simp] theorem State.modRa_nv (s : State) (k : Fin 8) (f : RailState → RailState) : (s.modRa k f).nv = s.nv := rfl
@[simp] theorem State.modRa_conv (s : State) (k : Fin 8) (f : RailState → RailState) : (s.modRa k f).conv = s.conv := rfl
@[simp] theorem State.modRa_plate (s : State) (k : Fin 8) (f : RailState → RailState) : (s.modRa k f).plate = s.plate := rfl
@[simp] theorem State.modRa_exp (s : State) (k : Fin 8) (f : RailState → RailState) : (s.modRa k f).exp = s.exp := rfl
@[simp] theorem State.modRa_evSeen (s : State) (k : Fin 8) (f : RailState → RailState) : (s.modRa k f).evSeen = s.evSeen := rfl
@[simp] theorem State.modRa_gate (s : State) (k : Fin 8) (f : RailState → RailState) : (s.modRa k f).gate = s.gate := rfl
@[simp] theorem State.modRa_jtag (s : State) (k : Fin 8) (f : RailState → RailState) : (s.modRa k f).jtag = s.jtag := rfl
@[simp] theorem State.modRa_port (s : State) (k : Fin 8) (f : RailState → RailState) : (s.modRa k f).port = s.port := rfl
@[simp] theorem State.modRa_host (s : State) (k : Fin 8) (f : RailState → RailState) : (s.modRa k f).host = s.host := rfl
@[simp] theorem State.modRa_masterWait (s : State) (k : Fin 8) (f : RailState → RailState) : (s.modRa k f).masterWait = s.masterWait := rfl
@[simp] theorem State.modRa_latches (s : State) (k : Fin 8) (f : RailState → RailState) : (s.modRa k f).latches = s.latches := rfl
@[simp] theorem State.modRa_np (s : State) (k : Fin 8) (f : RailState → RailState) : (s.modRa k f).np = s.np := rfl
@[simp] theorem State.modRa_pt (s : State) (k : Fin 8) (f : RailState → RailState) : (s.modRa k f).pt = s.pt := rfl
@[simp] theorem State.modRa_chk (s : State) (k : Fin 8) (f : RailState → RailState) : (s.modRa k f).chk = s.chk := rfl
@[simp] theorem State.modRa_vinff (s : State) (k : Fin 8) (f : RailState → RailState) : (s.modRa k f).vinff = s.vinff := rfl
@[simp] theorem State.modRa_vinffFailed (s : State) (k : Fin 8) (f : RailState → RailState) : (s.modRa k f).vinffFailed = s.vinffFailed := rfl
@[simp] theorem State.modRa_answer (s : State) (k : Fin 8) (f : RailState → RailState) : (s.modRa k f).answer = s.answer := rfl
@[simp] theorem State.modRa_free (s : State) (k : Fin 8) (f : RailState → RailState) : (s.modRa k f).free = s.free := rfl
@[simp] theorem State.modRa_pending (s : State) (k : Fin 8) (f : RailState → RailState) : (s.modRa k f).pending = s.pending := rfl
@[simp] theorem State.modRa_word (s : State) (k : Fin 8) (f : RailState → RailState) (x : Nat) : (s.modRa k f).word x = s.word x := rfl
@[simp] theorem State.modRa_g (s : State) (k : Fin 8) (f : RailState → RailState) (x : Fld) : (s.modRa k f).g x = s.g x := rfl

@[simp] theorem State.modTr_sup (s : State) (k : Fin 8) (f : TransitState → TransitState) : (s.modTr k f).sup = s.sup := rfl
@[simp] theorem State.modTr_dev (s : State) (k : Fin 8) (f : TransitState → TransitState) : (s.modTr k f).dev = s.dev := rfl
@[simp] theorem State.modTr_tb (s : State) (k : Fin 8) (f : TransitState → TransitState) : (s.modTr k f).tb = s.tb := rfl
@[simp] theorem State.modTr_fine (s : State) (k : Fin 8) (f : TransitState → TransitState) : (s.modTr k f).fine = s.fine := rfl
@[simp] theorem State.modTr_secMark (s : State) (k : Fin 8) (f : TransitState → TransitState) : (s.modTr k f).secMark = s.secMark := rfl
@[simp] theorem State.modTr_hi (s : State) (k : Fin 8) (f : TransitState → TransitState) : (s.modTr k f).hi = s.hi := rfl
@[simp] theorem State.modTr_capDisc (s : State) (k : Fin 8) (f : TransitState → TransitState) : (s.modTr k f).capDisc = s.capDisc := rfl
@[simp] theorem State.modTr_regs (s : State) (k : Fin 8) (f : TransitState → TransitState) : (s.modTr k f).regs = s.regs := rfl
@[simp] theorem State.modTr_img (s : State) (k : Fin 8) (f : TransitState → TransitState) : (s.modTr k f).img = s.img := rfl
@[simp] theorem State.modTr_phase (s : State) (k : Fin 8) (f : TransitState → TransitState) : (s.modTr k f).phase = s.phase := rfl
@[simp] theorem State.modTr_role (s : State) (k : Fin 8) (f : TransitState → TransitState) : (s.modTr k f).role = s.role := rfl
@[simp] theorem State.modTr_sync (s : State) (k : Fin 8) (f : TransitState → TransitState) : (s.modTr k f).sync = s.sync := rfl
@[simp] theorem State.modTr_genHist (s : State) (k : Fin 8) (f : TransitState → TransitState) : (s.modTr k f).genHist = s.genHist := rfl
@[simp] theorem State.modTr_queue (s : State) (k : Fin 8) (f : TransitState → TransitState) : (s.modTr k f).queue = s.queue := rfl
@[simp] theorem State.modTr_ephTab (s : State) (k : Fin 8) (f : TransitState → TransitState) : (s.modTr k f).ephTab = s.ephTab := rfl
@[simp] theorem State.modTr_strikes (s : State) (k : Fin 8) (f : TransitState → TransitState) : (s.modTr k f).strikes = s.strikes := rfl
@[simp] theorem State.modTr_pll (s : State) (k : Fin 8) (f : TransitState → TransitState) : (s.modTr k f).pll = s.pll := rfl
@[simp] theorem State.modTr_nv (s : State) (k : Fin 8) (f : TransitState → TransitState) : (s.modTr k f).nv = s.nv := rfl
@[simp] theorem State.modTr_conv (s : State) (k : Fin 8) (f : TransitState → TransitState) : (s.modTr k f).conv = s.conv := rfl
@[simp] theorem State.modTr_plate (s : State) (k : Fin 8) (f : TransitState → TransitState) : (s.modTr k f).plate = s.plate := rfl
@[simp] theorem State.modTr_exp (s : State) (k : Fin 8) (f : TransitState → TransitState) : (s.modTr k f).exp = s.exp := rfl
@[simp] theorem State.modTr_evSeen (s : State) (k : Fin 8) (f : TransitState → TransitState) : (s.modTr k f).evSeen = s.evSeen := rfl
@[simp] theorem State.modTr_gate (s : State) (k : Fin 8) (f : TransitState → TransitState) : (s.modTr k f).gate = s.gate := rfl
@[simp] theorem State.modTr_jtag (s : State) (k : Fin 8) (f : TransitState → TransitState) : (s.modTr k f).jtag = s.jtag := rfl
@[simp] theorem State.modTr_port (s : State) (k : Fin 8) (f : TransitState → TransitState) : (s.modTr k f).port = s.port := rfl
@[simp] theorem State.modTr_host (s : State) (k : Fin 8) (f : TransitState → TransitState) : (s.modTr k f).host = s.host := rfl
@[simp] theorem State.modTr_masterWait (s : State) (k : Fin 8) (f : TransitState → TransitState) : (s.modTr k f).masterWait = s.masterWait := rfl
@[simp] theorem State.modTr_latches (s : State) (k : Fin 8) (f : TransitState → TransitState) : (s.modTr k f).latches = s.latches := rfl
@[simp] theorem State.modTr_np (s : State) (k : Fin 8) (f : TransitState → TransitState) : (s.modTr k f).np = s.np := rfl
@[simp] theorem State.modTr_pt (s : State) (k : Fin 8) (f : TransitState → TransitState) : (s.modTr k f).pt = s.pt := rfl
@[simp] theorem State.modTr_chk (s : State) (k : Fin 8) (f : TransitState → TransitState) : (s.modTr k f).chk = s.chk := rfl
@[simp] theorem State.modTr_vinff (s : State) (k : Fin 8) (f : TransitState → TransitState) : (s.modTr k f).vinff = s.vinff := rfl
@[simp] theorem State.modTr_vinffFailed (s : State) (k : Fin 8) (f : TransitState → TransitState) : (s.modTr k f).vinffFailed = s.vinffFailed := rfl
@[simp] theorem State.modTr_answer (s : State) (k : Fin 8) (f : TransitState → TransitState) : (s.modTr k f).answer = s.answer := rfl
@[simp] theorem State.modTr_free (s : State) (k : Fin 8) (f : TransitState → TransitState) : (s.modTr k f).free = s.free := rfl
@[simp] theorem State.modTr_pending (s : State) (k : Fin 8) (f : TransitState → TransitState) : (s.modTr k f).pending = s.pending := rfl
@[simp] theorem State.modTr_word (s : State) (k : Fin 8) (f : TransitState → TransitState) (x : Nat) : (s.modTr k f).word x = s.word x := rfl
@[simp] theorem State.modTr_g (s : State) (k : Fin 8) (f : TransitState → TransitState) (x : Fld) : (s.modTr k f).g x = s.g x := rfl

@[simp] theorem State.modMd_sup (s : State) (k : Fin 8) (f : ModState → ModState) : (s.modMd k f).sup = s.sup := rfl
@[simp] theorem State.modMd_dev (s : State) (k : Fin 8) (f : ModState → ModState) : (s.modMd k f).dev = s.dev := rfl
@[simp] theorem State.modMd_tb (s : State) (k : Fin 8) (f : ModState → ModState) : (s.modMd k f).tb = s.tb := rfl
@[simp] theorem State.modMd_fine (s : State) (k : Fin 8) (f : ModState → ModState) : (s.modMd k f).fine = s.fine := rfl
@[simp] theorem State.modMd_secMark (s : State) (k : Fin 8) (f : ModState → ModState) : (s.modMd k f).secMark = s.secMark := rfl
@[simp] theorem State.modMd_hi (s : State) (k : Fin 8) (f : ModState → ModState) : (s.modMd k f).hi = s.hi := rfl
@[simp] theorem State.modMd_capDisc (s : State) (k : Fin 8) (f : ModState → ModState) : (s.modMd k f).capDisc = s.capDisc := rfl
@[simp] theorem State.modMd_regs (s : State) (k : Fin 8) (f : ModState → ModState) : (s.modMd k f).regs = s.regs := rfl
@[simp] theorem State.modMd_img (s : State) (k : Fin 8) (f : ModState → ModState) : (s.modMd k f).img = s.img := rfl
@[simp] theorem State.modMd_phase (s : State) (k : Fin 8) (f : ModState → ModState) : (s.modMd k f).phase = s.phase := rfl
@[simp] theorem State.modMd_role (s : State) (k : Fin 8) (f : ModState → ModState) : (s.modMd k f).role = s.role := rfl
@[simp] theorem State.modMd_sync (s : State) (k : Fin 8) (f : ModState → ModState) : (s.modMd k f).sync = s.sync := rfl
@[simp] theorem State.modMd_genHist (s : State) (k : Fin 8) (f : ModState → ModState) : (s.modMd k f).genHist = s.genHist := rfl
@[simp] theorem State.modMd_queue (s : State) (k : Fin 8) (f : ModState → ModState) : (s.modMd k f).queue = s.queue := rfl
@[simp] theorem State.modMd_ephTab (s : State) (k : Fin 8) (f : ModState → ModState) : (s.modMd k f).ephTab = s.ephTab := rfl
@[simp] theorem State.modMd_strikes (s : State) (k : Fin 8) (f : ModState → ModState) : (s.modMd k f).strikes = s.strikes := rfl
@[simp] theorem State.modMd_pll (s : State) (k : Fin 8) (f : ModState → ModState) : (s.modMd k f).pll = s.pll := rfl
@[simp] theorem State.modMd_nv (s : State) (k : Fin 8) (f : ModState → ModState) : (s.modMd k f).nv = s.nv := rfl
@[simp] theorem State.modMd_conv (s : State) (k : Fin 8) (f : ModState → ModState) : (s.modMd k f).conv = s.conv := rfl
@[simp] theorem State.modMd_plate (s : State) (k : Fin 8) (f : ModState → ModState) : (s.modMd k f).plate = s.plate := rfl
@[simp] theorem State.modMd_exp (s : State) (k : Fin 8) (f : ModState → ModState) : (s.modMd k f).exp = s.exp := rfl
@[simp] theorem State.modMd_evSeen (s : State) (k : Fin 8) (f : ModState → ModState) : (s.modMd k f).evSeen = s.evSeen := rfl
@[simp] theorem State.modMd_gate (s : State) (k : Fin 8) (f : ModState → ModState) : (s.modMd k f).gate = s.gate := rfl
@[simp] theorem State.modMd_jtag (s : State) (k : Fin 8) (f : ModState → ModState) : (s.modMd k f).jtag = s.jtag := rfl
@[simp] theorem State.modMd_port (s : State) (k : Fin 8) (f : ModState → ModState) : (s.modMd k f).port = s.port := rfl
@[simp] theorem State.modMd_host (s : State) (k : Fin 8) (f : ModState → ModState) : (s.modMd k f).host = s.host := rfl
@[simp] theorem State.modMd_masterWait (s : State) (k : Fin 8) (f : ModState → ModState) : (s.modMd k f).masterWait = s.masterWait := rfl
@[simp] theorem State.modMd_latches (s : State) (k : Fin 8) (f : ModState → ModState) : (s.modMd k f).latches = s.latches := rfl
@[simp] theorem State.modMd_np (s : State) (k : Fin 8) (f : ModState → ModState) : (s.modMd k f).np = s.np := rfl
@[simp] theorem State.modMd_pt (s : State) (k : Fin 8) (f : ModState → ModState) : (s.modMd k f).pt = s.pt := rfl
@[simp] theorem State.modMd_chk (s : State) (k : Fin 8) (f : ModState → ModState) : (s.modMd k f).chk = s.chk := rfl
@[simp] theorem State.modMd_vinff (s : State) (k : Fin 8) (f : ModState → ModState) : (s.modMd k f).vinff = s.vinff := rfl
@[simp] theorem State.modMd_vinffFailed (s : State) (k : Fin 8) (f : ModState → ModState) : (s.modMd k f).vinffFailed = s.vinffFailed := rfl
@[simp] theorem State.modMd_answer (s : State) (k : Fin 8) (f : ModState → ModState) : (s.modMd k f).answer = s.answer := rfl
@[simp] theorem State.modMd_free (s : State) (k : Fin 8) (f : ModState → ModState) : (s.modMd k f).free = s.free := rfl
@[simp] theorem State.modMd_pending (s : State) (k : Fin 8) (f : ModState → ModState) : (s.modMd k f).pending = s.pending := rfl
@[simp] theorem State.modMd_word (s : State) (k : Fin 8) (f : ModState → ModState) (x : Nat) : (s.modMd k f).word x = s.word x := rfl
@[simp] theorem State.modMd_g (s : State) (k : Fin 8) (f : ModState → ModState) (x : Fld) : (s.modMd k f).g x = s.g x := rfl

@[simp] theorem State.modGr_sup (s : State) (k : Fin 8) (f : GraphState → GraphState) : (s.modGr k f).sup = s.sup := rfl
@[simp] theorem State.modGr_dev (s : State) (k : Fin 8) (f : GraphState → GraphState) : (s.modGr k f).dev = s.dev := rfl
@[simp] theorem State.modGr_tb (s : State) (k : Fin 8) (f : GraphState → GraphState) : (s.modGr k f).tb = s.tb := rfl
@[simp] theorem State.modGr_fine (s : State) (k : Fin 8) (f : GraphState → GraphState) : (s.modGr k f).fine = s.fine := rfl
@[simp] theorem State.modGr_secMark (s : State) (k : Fin 8) (f : GraphState → GraphState) : (s.modGr k f).secMark = s.secMark := rfl
@[simp] theorem State.modGr_hi (s : State) (k : Fin 8) (f : GraphState → GraphState) : (s.modGr k f).hi = s.hi := rfl
@[simp] theorem State.modGr_capDisc (s : State) (k : Fin 8) (f : GraphState → GraphState) : (s.modGr k f).capDisc = s.capDisc := rfl
@[simp] theorem State.modGr_regs (s : State) (k : Fin 8) (f : GraphState → GraphState) : (s.modGr k f).regs = s.regs := rfl
@[simp] theorem State.modGr_img (s : State) (k : Fin 8) (f : GraphState → GraphState) : (s.modGr k f).img = s.img := rfl
@[simp] theorem State.modGr_phase (s : State) (k : Fin 8) (f : GraphState → GraphState) : (s.modGr k f).phase = s.phase := rfl
@[simp] theorem State.modGr_role (s : State) (k : Fin 8) (f : GraphState → GraphState) : (s.modGr k f).role = s.role := rfl
@[simp] theorem State.modGr_sync (s : State) (k : Fin 8) (f : GraphState → GraphState) : (s.modGr k f).sync = s.sync := rfl
@[simp] theorem State.modGr_genHist (s : State) (k : Fin 8) (f : GraphState → GraphState) : (s.modGr k f).genHist = s.genHist := rfl
@[simp] theorem State.modGr_queue (s : State) (k : Fin 8) (f : GraphState → GraphState) : (s.modGr k f).queue = s.queue := rfl
@[simp] theorem State.modGr_ephTab (s : State) (k : Fin 8) (f : GraphState → GraphState) : (s.modGr k f).ephTab = s.ephTab := rfl
@[simp] theorem State.modGr_strikes (s : State) (k : Fin 8) (f : GraphState → GraphState) : (s.modGr k f).strikes = s.strikes := rfl
@[simp] theorem State.modGr_pll (s : State) (k : Fin 8) (f : GraphState → GraphState) : (s.modGr k f).pll = s.pll := rfl
@[simp] theorem State.modGr_nv (s : State) (k : Fin 8) (f : GraphState → GraphState) : (s.modGr k f).nv = s.nv := rfl
@[simp] theorem State.modGr_conv (s : State) (k : Fin 8) (f : GraphState → GraphState) : (s.modGr k f).conv = s.conv := rfl
@[simp] theorem State.modGr_plate (s : State) (k : Fin 8) (f : GraphState → GraphState) : (s.modGr k f).plate = s.plate := rfl
@[simp] theorem State.modGr_exp (s : State) (k : Fin 8) (f : GraphState → GraphState) : (s.modGr k f).exp = s.exp := rfl
@[simp] theorem State.modGr_evSeen (s : State) (k : Fin 8) (f : GraphState → GraphState) : (s.modGr k f).evSeen = s.evSeen := rfl
@[simp] theorem State.modGr_gate (s : State) (k : Fin 8) (f : GraphState → GraphState) : (s.modGr k f).gate = s.gate := rfl
@[simp] theorem State.modGr_jtag (s : State) (k : Fin 8) (f : GraphState → GraphState) : (s.modGr k f).jtag = s.jtag := rfl
@[simp] theorem State.modGr_port (s : State) (k : Fin 8) (f : GraphState → GraphState) : (s.modGr k f).port = s.port := rfl
@[simp] theorem State.modGr_host (s : State) (k : Fin 8) (f : GraphState → GraphState) : (s.modGr k f).host = s.host := rfl
@[simp] theorem State.modGr_masterWait (s : State) (k : Fin 8) (f : GraphState → GraphState) : (s.modGr k f).masterWait = s.masterWait := rfl
@[simp] theorem State.modGr_latches (s : State) (k : Fin 8) (f : GraphState → GraphState) : (s.modGr k f).latches = s.latches := rfl
@[simp] theorem State.modGr_np (s : State) (k : Fin 8) (f : GraphState → GraphState) : (s.modGr k f).np = s.np := rfl
@[simp] theorem State.modGr_pt (s : State) (k : Fin 8) (f : GraphState → GraphState) : (s.modGr k f).pt = s.pt := rfl
@[simp] theorem State.modGr_chk (s : State) (k : Fin 8) (f : GraphState → GraphState) : (s.modGr k f).chk = s.chk := rfl
@[simp] theorem State.modGr_vinff (s : State) (k : Fin 8) (f : GraphState → GraphState) : (s.modGr k f).vinff = s.vinff := rfl
@[simp] theorem State.modGr_vinffFailed (s : State) (k : Fin 8) (f : GraphState → GraphState) : (s.modGr k f).vinffFailed = s.vinffFailed := rfl
@[simp] theorem State.modGr_answer (s : State) (k : Fin 8) (f : GraphState → GraphState) : (s.modGr k f).answer = s.answer := rfl
@[simp] theorem State.modGr_free (s : State) (k : Fin 8) (f : GraphState → GraphState) : (s.modGr k f).free = s.free := rfl
@[simp] theorem State.modGr_pending (s : State) (k : Fin 8) (f : GraphState → GraphState) : (s.modGr k f).pending = s.pending := rfl
@[simp] theorem State.modGr_word (s : State) (k : Fin 8) (f : GraphState → GraphState) (x : Nat) : (s.modGr k f).word x = s.word x := rfl
@[simp] theorem State.modGr_g (s : State) (k : Fin 8) (f : GraphState → GraphState) (x : Fld) : (s.modGr k f).g x = s.g x := rfl

@[simp] theorem State.modOl_sup (s : State) (k : Fin 8) (f : OuterState → OuterState) : (s.modOl k f).sup = s.sup := rfl
@[simp] theorem State.modOl_dev (s : State) (k : Fin 8) (f : OuterState → OuterState) : (s.modOl k f).dev = s.dev := rfl
@[simp] theorem State.modOl_tb (s : State) (k : Fin 8) (f : OuterState → OuterState) : (s.modOl k f).tb = s.tb := rfl
@[simp] theorem State.modOl_fine (s : State) (k : Fin 8) (f : OuterState → OuterState) : (s.modOl k f).fine = s.fine := rfl
@[simp] theorem State.modOl_secMark (s : State) (k : Fin 8) (f : OuterState → OuterState) : (s.modOl k f).secMark = s.secMark := rfl
@[simp] theorem State.modOl_hi (s : State) (k : Fin 8) (f : OuterState → OuterState) : (s.modOl k f).hi = s.hi := rfl
@[simp] theorem State.modOl_capDisc (s : State) (k : Fin 8) (f : OuterState → OuterState) : (s.modOl k f).capDisc = s.capDisc := rfl
@[simp] theorem State.modOl_regs (s : State) (k : Fin 8) (f : OuterState → OuterState) : (s.modOl k f).regs = s.regs := rfl
@[simp] theorem State.modOl_img (s : State) (k : Fin 8) (f : OuterState → OuterState) : (s.modOl k f).img = s.img := rfl
@[simp] theorem State.modOl_phase (s : State) (k : Fin 8) (f : OuterState → OuterState) : (s.modOl k f).phase = s.phase := rfl
@[simp] theorem State.modOl_role (s : State) (k : Fin 8) (f : OuterState → OuterState) : (s.modOl k f).role = s.role := rfl
@[simp] theorem State.modOl_sync (s : State) (k : Fin 8) (f : OuterState → OuterState) : (s.modOl k f).sync = s.sync := rfl
@[simp] theorem State.modOl_genHist (s : State) (k : Fin 8) (f : OuterState → OuterState) : (s.modOl k f).genHist = s.genHist := rfl
@[simp] theorem State.modOl_queue (s : State) (k : Fin 8) (f : OuterState → OuterState) : (s.modOl k f).queue = s.queue := rfl
@[simp] theorem State.modOl_ephTab (s : State) (k : Fin 8) (f : OuterState → OuterState) : (s.modOl k f).ephTab = s.ephTab := rfl
@[simp] theorem State.modOl_strikes (s : State) (k : Fin 8) (f : OuterState → OuterState) : (s.modOl k f).strikes = s.strikes := rfl
@[simp] theorem State.modOl_pll (s : State) (k : Fin 8) (f : OuterState → OuterState) : (s.modOl k f).pll = s.pll := rfl
@[simp] theorem State.modOl_nv (s : State) (k : Fin 8) (f : OuterState → OuterState) : (s.modOl k f).nv = s.nv := rfl
@[simp] theorem State.modOl_conv (s : State) (k : Fin 8) (f : OuterState → OuterState) : (s.modOl k f).conv = s.conv := rfl
@[simp] theorem State.modOl_plate (s : State) (k : Fin 8) (f : OuterState → OuterState) : (s.modOl k f).plate = s.plate := rfl
@[simp] theorem State.modOl_exp (s : State) (k : Fin 8) (f : OuterState → OuterState) : (s.modOl k f).exp = s.exp := rfl
@[simp] theorem State.modOl_evSeen (s : State) (k : Fin 8) (f : OuterState → OuterState) : (s.modOl k f).evSeen = s.evSeen := rfl
@[simp] theorem State.modOl_gate (s : State) (k : Fin 8) (f : OuterState → OuterState) : (s.modOl k f).gate = s.gate := rfl
@[simp] theorem State.modOl_jtag (s : State) (k : Fin 8) (f : OuterState → OuterState) : (s.modOl k f).jtag = s.jtag := rfl
@[simp] theorem State.modOl_port (s : State) (k : Fin 8) (f : OuterState → OuterState) : (s.modOl k f).port = s.port := rfl
@[simp] theorem State.modOl_host (s : State) (k : Fin 8) (f : OuterState → OuterState) : (s.modOl k f).host = s.host := rfl
@[simp] theorem State.modOl_masterWait (s : State) (k : Fin 8) (f : OuterState → OuterState) : (s.modOl k f).masterWait = s.masterWait := rfl
@[simp] theorem State.modOl_latches (s : State) (k : Fin 8) (f : OuterState → OuterState) : (s.modOl k f).latches = s.latches := rfl
@[simp] theorem State.modOl_np (s : State) (k : Fin 8) (f : OuterState → OuterState) : (s.modOl k f).np = s.np := rfl
@[simp] theorem State.modOl_pt (s : State) (k : Fin 8) (f : OuterState → OuterState) : (s.modOl k f).pt = s.pt := rfl
@[simp] theorem State.modOl_chk (s : State) (k : Fin 8) (f : OuterState → OuterState) : (s.modOl k f).chk = s.chk := rfl
@[simp] theorem State.modOl_vinff (s : State) (k : Fin 8) (f : OuterState → OuterState) : (s.modOl k f).vinff = s.vinff := rfl
@[simp] theorem State.modOl_vinffFailed (s : State) (k : Fin 8) (f : OuterState → OuterState) : (s.modOl k f).vinffFailed = s.vinffFailed := rfl
@[simp] theorem State.modOl_answer (s : State) (k : Fin 8) (f : OuterState → OuterState) : (s.modOl k f).answer = s.answer := rfl
@[simp] theorem State.modOl_free (s : State) (k : Fin 8) (f : OuterState → OuterState) : (s.modOl k f).free = s.free := rfl
@[simp] theorem State.modOl_pending (s : State) (k : Fin 8) (f : OuterState → OuterState) : (s.modOl k f).pending = s.pending := rfl
@[simp] theorem State.modOl_word (s : State) (k : Fin 8) (f : OuterState → OuterState) (x : Nat) : (s.modOl k f).word x = s.word x := rfl
@[simp] theorem State.modOl_g (s : State) (k : Fin 8) (f : OuterState → OuterState) (x : Fld) : (s.modOl k f).g x = s.g x := rfl

@[simp] theorem State.modEp_sup (s : State) (k : Fin 8) (f : EphState → EphState) : (s.modEp k f).sup = s.sup := rfl
@[simp] theorem State.modEp_dev (s : State) (k : Fin 8) (f : EphState → EphState) : (s.modEp k f).dev = s.dev := rfl
@[simp] theorem State.modEp_tb (s : State) (k : Fin 8) (f : EphState → EphState) : (s.modEp k f).tb = s.tb := rfl
@[simp] theorem State.modEp_fine (s : State) (k : Fin 8) (f : EphState → EphState) : (s.modEp k f).fine = s.fine := rfl
@[simp] theorem State.modEp_secMark (s : State) (k : Fin 8) (f : EphState → EphState) : (s.modEp k f).secMark = s.secMark := rfl
@[simp] theorem State.modEp_hi (s : State) (k : Fin 8) (f : EphState → EphState) : (s.modEp k f).hi = s.hi := rfl
@[simp] theorem State.modEp_capDisc (s : State) (k : Fin 8) (f : EphState → EphState) : (s.modEp k f).capDisc = s.capDisc := rfl
@[simp] theorem State.modEp_regs (s : State) (k : Fin 8) (f : EphState → EphState) : (s.modEp k f).regs = s.regs := rfl
@[simp] theorem State.modEp_img (s : State) (k : Fin 8) (f : EphState → EphState) : (s.modEp k f).img = s.img := rfl
@[simp] theorem State.modEp_phase (s : State) (k : Fin 8) (f : EphState → EphState) : (s.modEp k f).phase = s.phase := rfl
@[simp] theorem State.modEp_role (s : State) (k : Fin 8) (f : EphState → EphState) : (s.modEp k f).role = s.role := rfl
@[simp] theorem State.modEp_sync (s : State) (k : Fin 8) (f : EphState → EphState) : (s.modEp k f).sync = s.sync := rfl
@[simp] theorem State.modEp_genHist (s : State) (k : Fin 8) (f : EphState → EphState) : (s.modEp k f).genHist = s.genHist := rfl
@[simp] theorem State.modEp_queue (s : State) (k : Fin 8) (f : EphState → EphState) : (s.modEp k f).queue = s.queue := rfl
@[simp] theorem State.modEp_ephTab (s : State) (k : Fin 8) (f : EphState → EphState) : (s.modEp k f).ephTab = s.ephTab := rfl
@[simp] theorem State.modEp_strikes (s : State) (k : Fin 8) (f : EphState → EphState) : (s.modEp k f).strikes = s.strikes := rfl
@[simp] theorem State.modEp_pll (s : State) (k : Fin 8) (f : EphState → EphState) : (s.modEp k f).pll = s.pll := rfl
@[simp] theorem State.modEp_nv (s : State) (k : Fin 8) (f : EphState → EphState) : (s.modEp k f).nv = s.nv := rfl
@[simp] theorem State.modEp_conv (s : State) (k : Fin 8) (f : EphState → EphState) : (s.modEp k f).conv = s.conv := rfl
@[simp] theorem State.modEp_plate (s : State) (k : Fin 8) (f : EphState → EphState) : (s.modEp k f).plate = s.plate := rfl
@[simp] theorem State.modEp_exp (s : State) (k : Fin 8) (f : EphState → EphState) : (s.modEp k f).exp = s.exp := rfl
@[simp] theorem State.modEp_evSeen (s : State) (k : Fin 8) (f : EphState → EphState) : (s.modEp k f).evSeen = s.evSeen := rfl
@[simp] theorem State.modEp_gate (s : State) (k : Fin 8) (f : EphState → EphState) : (s.modEp k f).gate = s.gate := rfl
@[simp] theorem State.modEp_jtag (s : State) (k : Fin 8) (f : EphState → EphState) : (s.modEp k f).jtag = s.jtag := rfl
@[simp] theorem State.modEp_port (s : State) (k : Fin 8) (f : EphState → EphState) : (s.modEp k f).port = s.port := rfl
@[simp] theorem State.modEp_host (s : State) (k : Fin 8) (f : EphState → EphState) : (s.modEp k f).host = s.host := rfl
@[simp] theorem State.modEp_masterWait (s : State) (k : Fin 8) (f : EphState → EphState) : (s.modEp k f).masterWait = s.masterWait := rfl
@[simp] theorem State.modEp_latches (s : State) (k : Fin 8) (f : EphState → EphState) : (s.modEp k f).latches = s.latches := rfl
@[simp] theorem State.modEp_np (s : State) (k : Fin 8) (f : EphState → EphState) : (s.modEp k f).np = s.np := rfl
@[simp] theorem State.modEp_pt (s : State) (k : Fin 8) (f : EphState → EphState) : (s.modEp k f).pt = s.pt := rfl
@[simp] theorem State.modEp_chk (s : State) (k : Fin 8) (f : EphState → EphState) : (s.modEp k f).chk = s.chk := rfl
@[simp] theorem State.modEp_vinff (s : State) (k : Fin 8) (f : EphState → EphState) : (s.modEp k f).vinff = s.vinff := rfl
@[simp] theorem State.modEp_vinffFailed (s : State) (k : Fin 8) (f : EphState → EphState) : (s.modEp k f).vinffFailed = s.vinffFailed := rfl
@[simp] theorem State.modEp_answer (s : State) (k : Fin 8) (f : EphState → EphState) : (s.modEp k f).answer = s.answer := rfl
@[simp] theorem State.modEp_free (s : State) (k : Fin 8) (f : EphState → EphState) : (s.modEp k f).free = s.free := rfl
@[simp] theorem State.modEp_pending (s : State) (k : Fin 8) (f : EphState → EphState) : (s.modEp k f).pending = s.pending := rfl
@[simp] theorem State.modEp_word (s : State) (k : Fin 8) (f : EphState → EphState) (x : Nat) : (s.modEp k f).word x = s.word x := rfl
@[simp] theorem State.modEp_g (s : State) (k : Fin 8) (f : EphState → EphState) (x : Fld) : (s.modEp k f).g x = s.g x := rfl

@[simp] theorem State.modPr_sup (s : State) (k : Fin 8) (f : ProtState → ProtState) : (s.modPr k f).sup = s.sup := rfl
@[simp] theorem State.modPr_dev (s : State) (k : Fin 8) (f : ProtState → ProtState) : (s.modPr k f).dev = s.dev := rfl
@[simp] theorem State.modPr_tb (s : State) (k : Fin 8) (f : ProtState → ProtState) : (s.modPr k f).tb = s.tb := rfl
@[simp] theorem State.modPr_fine (s : State) (k : Fin 8) (f : ProtState → ProtState) : (s.modPr k f).fine = s.fine := rfl
@[simp] theorem State.modPr_secMark (s : State) (k : Fin 8) (f : ProtState → ProtState) : (s.modPr k f).secMark = s.secMark := rfl
@[simp] theorem State.modPr_hi (s : State) (k : Fin 8) (f : ProtState → ProtState) : (s.modPr k f).hi = s.hi := rfl
@[simp] theorem State.modPr_capDisc (s : State) (k : Fin 8) (f : ProtState → ProtState) : (s.modPr k f).capDisc = s.capDisc := rfl
@[simp] theorem State.modPr_regs (s : State) (k : Fin 8) (f : ProtState → ProtState) : (s.modPr k f).regs = s.regs := rfl
@[simp] theorem State.modPr_img (s : State) (k : Fin 8) (f : ProtState → ProtState) : (s.modPr k f).img = s.img := rfl
@[simp] theorem State.modPr_phase (s : State) (k : Fin 8) (f : ProtState → ProtState) : (s.modPr k f).phase = s.phase := rfl
@[simp] theorem State.modPr_role (s : State) (k : Fin 8) (f : ProtState → ProtState) : (s.modPr k f).role = s.role := rfl
@[simp] theorem State.modPr_sync (s : State) (k : Fin 8) (f : ProtState → ProtState) : (s.modPr k f).sync = s.sync := rfl
@[simp] theorem State.modPr_genHist (s : State) (k : Fin 8) (f : ProtState → ProtState) : (s.modPr k f).genHist = s.genHist := rfl
@[simp] theorem State.modPr_queue (s : State) (k : Fin 8) (f : ProtState → ProtState) : (s.modPr k f).queue = s.queue := rfl
@[simp] theorem State.modPr_ephTab (s : State) (k : Fin 8) (f : ProtState → ProtState) : (s.modPr k f).ephTab = s.ephTab := rfl
@[simp] theorem State.modPr_strikes (s : State) (k : Fin 8) (f : ProtState → ProtState) : (s.modPr k f).strikes = s.strikes := rfl
@[simp] theorem State.modPr_pll (s : State) (k : Fin 8) (f : ProtState → ProtState) : (s.modPr k f).pll = s.pll := rfl
@[simp] theorem State.modPr_nv (s : State) (k : Fin 8) (f : ProtState → ProtState) : (s.modPr k f).nv = s.nv := rfl
@[simp] theorem State.modPr_conv (s : State) (k : Fin 8) (f : ProtState → ProtState) : (s.modPr k f).conv = s.conv := rfl
@[simp] theorem State.modPr_plate (s : State) (k : Fin 8) (f : ProtState → ProtState) : (s.modPr k f).plate = s.plate := rfl
@[simp] theorem State.modPr_exp (s : State) (k : Fin 8) (f : ProtState → ProtState) : (s.modPr k f).exp = s.exp := rfl
@[simp] theorem State.modPr_evSeen (s : State) (k : Fin 8) (f : ProtState → ProtState) : (s.modPr k f).evSeen = s.evSeen := rfl
@[simp] theorem State.modPr_gate (s : State) (k : Fin 8) (f : ProtState → ProtState) : (s.modPr k f).gate = s.gate := rfl
@[simp] theorem State.modPr_jtag (s : State) (k : Fin 8) (f : ProtState → ProtState) : (s.modPr k f).jtag = s.jtag := rfl
@[simp] theorem State.modPr_port (s : State) (k : Fin 8) (f : ProtState → ProtState) : (s.modPr k f).port = s.port := rfl
@[simp] theorem State.modPr_host (s : State) (k : Fin 8) (f : ProtState → ProtState) : (s.modPr k f).host = s.host := rfl
@[simp] theorem State.modPr_masterWait (s : State) (k : Fin 8) (f : ProtState → ProtState) : (s.modPr k f).masterWait = s.masterWait := rfl
@[simp] theorem State.modPr_latches (s : State) (k : Fin 8) (f : ProtState → ProtState) : (s.modPr k f).latches = s.latches := rfl
@[simp] theorem State.modPr_np (s : State) (k : Fin 8) (f : ProtState → ProtState) : (s.modPr k f).np = s.np := rfl
@[simp] theorem State.modPr_pt (s : State) (k : Fin 8) (f : ProtState → ProtState) : (s.modPr k f).pt = s.pt := rfl
@[simp] theorem State.modPr_chk (s : State) (k : Fin 8) (f : ProtState → ProtState) : (s.modPr k f).chk = s.chk := rfl
@[simp] theorem State.modPr_vinff (s : State) (k : Fin 8) (f : ProtState → ProtState) : (s.modPr k f).vinff = s.vinff := rfl
@[simp] theorem State.modPr_vinffFailed (s : State) (k : Fin 8) (f : ProtState → ProtState) : (s.modPr k f).vinffFailed = s.vinffFailed := rfl
@[simp] theorem State.modPr_answer (s : State) (k : Fin 8) (f : ProtState → ProtState) : (s.modPr k f).answer = s.answer := rfl
@[simp] theorem State.modPr_free (s : State) (k : Fin 8) (f : ProtState → ProtState) : (s.modPr k f).free = s.free := rfl
@[simp] theorem State.modPr_pending (s : State) (k : Fin 8) (f : ProtState → ProtState) : (s.modPr k f).pending = s.pending := rfl
@[simp] theorem State.modPr_word (s : State) (k : Fin 8) (f : ProtState → ProtState) (x : Nat) : (s.modPr k f).word x = s.word x := rfl
@[simp] theorem State.modPr_g (s : State) (k : Fin 8) (f : ProtState → ProtState) (x : Fld) : (s.modPr k f).g x = s.g x := rfl

@[simp] theorem State.modInk_sup (s : State) (k : Fin 8) (f : InnRail → InnRail) : (s.modInk k f).sup = s.sup := rfl
@[simp] theorem State.modInk_dev (s : State) (k : Fin 8) (f : InnRail → InnRail) : (s.modInk k f).dev = s.dev := rfl
@[simp] theorem State.modInk_tb (s : State) (k : Fin 8) (f : InnRail → InnRail) : (s.modInk k f).tb = s.tb := rfl
@[simp] theorem State.modInk_fine (s : State) (k : Fin 8) (f : InnRail → InnRail) : (s.modInk k f).fine = s.fine := rfl
@[simp] theorem State.modInk_secMark (s : State) (k : Fin 8) (f : InnRail → InnRail) : (s.modInk k f).secMark = s.secMark := rfl
@[simp] theorem State.modInk_hi (s : State) (k : Fin 8) (f : InnRail → InnRail) : (s.modInk k f).hi = s.hi := rfl
@[simp] theorem State.modInk_capDisc (s : State) (k : Fin 8) (f : InnRail → InnRail) : (s.modInk k f).capDisc = s.capDisc := rfl
@[simp] theorem State.modInk_regs (s : State) (k : Fin 8) (f : InnRail → InnRail) : (s.modInk k f).regs = s.regs := rfl
@[simp] theorem State.modInk_img (s : State) (k : Fin 8) (f : InnRail → InnRail) : (s.modInk k f).img = s.img := rfl
@[simp] theorem State.modInk_phase (s : State) (k : Fin 8) (f : InnRail → InnRail) : (s.modInk k f).phase = s.phase := rfl
@[simp] theorem State.modInk_role (s : State) (k : Fin 8) (f : InnRail → InnRail) : (s.modInk k f).role = s.role := rfl
@[simp] theorem State.modInk_sync (s : State) (k : Fin 8) (f : InnRail → InnRail) : (s.modInk k f).sync = s.sync := rfl
@[simp] theorem State.modInk_genHist (s : State) (k : Fin 8) (f : InnRail → InnRail) : (s.modInk k f).genHist = s.genHist := rfl
@[simp] theorem State.modInk_queue (s : State) (k : Fin 8) (f : InnRail → InnRail) : (s.modInk k f).queue = s.queue := rfl
@[simp] theorem State.modInk_ephTab (s : State) (k : Fin 8) (f : InnRail → InnRail) : (s.modInk k f).ephTab = s.ephTab := rfl
@[simp] theorem State.modInk_strikes (s : State) (k : Fin 8) (f : InnRail → InnRail) : (s.modInk k f).strikes = s.strikes := rfl
@[simp] theorem State.modInk_pll (s : State) (k : Fin 8) (f : InnRail → InnRail) : (s.modInk k f).pll = s.pll := rfl
@[simp] theorem State.modInk_nv (s : State) (k : Fin 8) (f : InnRail → InnRail) : (s.modInk k f).nv = s.nv := rfl
@[simp] theorem State.modInk_conv (s : State) (k : Fin 8) (f : InnRail → InnRail) : (s.modInk k f).conv = s.conv := rfl
@[simp] theorem State.modInk_plate (s : State) (k : Fin 8) (f : InnRail → InnRail) : (s.modInk k f).plate = s.plate := rfl
@[simp] theorem State.modInk_exp (s : State) (k : Fin 8) (f : InnRail → InnRail) : (s.modInk k f).exp = s.exp := rfl
@[simp] theorem State.modInk_evSeen (s : State) (k : Fin 8) (f : InnRail → InnRail) : (s.modInk k f).evSeen = s.evSeen := rfl
@[simp] theorem State.modInk_gate (s : State) (k : Fin 8) (f : InnRail → InnRail) : (s.modInk k f).gate = s.gate := rfl
@[simp] theorem State.modInk_jtag (s : State) (k : Fin 8) (f : InnRail → InnRail) : (s.modInk k f).jtag = s.jtag := rfl
@[simp] theorem State.modInk_port (s : State) (k : Fin 8) (f : InnRail → InnRail) : (s.modInk k f).port = s.port := rfl
@[simp] theorem State.modInk_host (s : State) (k : Fin 8) (f : InnRail → InnRail) : (s.modInk k f).host = s.host := rfl
@[simp] theorem State.modInk_masterWait (s : State) (k : Fin 8) (f : InnRail → InnRail) : (s.modInk k f).masterWait = s.masterWait := rfl
@[simp] theorem State.modInk_latches (s : State) (k : Fin 8) (f : InnRail → InnRail) : (s.modInk k f).latches = s.latches := rfl
@[simp] theorem State.modInk_np (s : State) (k : Fin 8) (f : InnRail → InnRail) : (s.modInk k f).np = s.np := rfl
@[simp] theorem State.modInk_pt (s : State) (k : Fin 8) (f : InnRail → InnRail) : (s.modInk k f).pt = s.pt := rfl
@[simp] theorem State.modInk_chk (s : State) (k : Fin 8) (f : InnRail → InnRail) : (s.modInk k f).chk = s.chk := rfl
@[simp] theorem State.modInk_vinff (s : State) (k : Fin 8) (f : InnRail → InnRail) : (s.modInk k f).vinff = s.vinff := rfl
@[simp] theorem State.modInk_vinffFailed (s : State) (k : Fin 8) (f : InnRail → InnRail) : (s.modInk k f).vinffFailed = s.vinffFailed := rfl
@[simp] theorem State.modInk_answer (s : State) (k : Fin 8) (f : InnRail → InnRail) : (s.modInk k f).answer = s.answer := rfl
@[simp] theorem State.modInk_free (s : State) (k : Fin 8) (f : InnRail → InnRail) : (s.modInk k f).free = s.free := rfl
@[simp] theorem State.modInk_pending (s : State) (k : Fin 8) (f : InnRail → InnRail) : (s.modInk k f).pending = s.pending := rfl
@[simp] theorem State.modInk_word (s : State) (k : Fin 8) (f : InnRail → InnRail) (x : Nat) : (s.modInk k f).word x = s.word x := rfl
@[simp] theorem State.modInk_g (s : State) (k : Fin 8) (f : InnRail → InnRail) (x : Fld) : (s.modInk k f).g x = s.g x := rfl

@[simp] theorem State.modPl_sup (s : State) (p : Fin 4) (f : PlateRun → PlateRun) : (s.modPl p f).sup = s.sup := rfl
@[simp] theorem State.modPl_dev (s : State) (p : Fin 4) (f : PlateRun → PlateRun) : (s.modPl p f).dev = s.dev := rfl
@[simp] theorem State.modPl_tb (s : State) (p : Fin 4) (f : PlateRun → PlateRun) : (s.modPl p f).tb = s.tb := rfl
@[simp] theorem State.modPl_fine (s : State) (p : Fin 4) (f : PlateRun → PlateRun) : (s.modPl p f).fine = s.fine := rfl
@[simp] theorem State.modPl_secMark (s : State) (p : Fin 4) (f : PlateRun → PlateRun) : (s.modPl p f).secMark = s.secMark := rfl
@[simp] theorem State.modPl_hi (s : State) (p : Fin 4) (f : PlateRun → PlateRun) : (s.modPl p f).hi = s.hi := rfl
@[simp] theorem State.modPl_capDisc (s : State) (p : Fin 4) (f : PlateRun → PlateRun) : (s.modPl p f).capDisc = s.capDisc := rfl
@[simp] theorem State.modPl_regs (s : State) (p : Fin 4) (f : PlateRun → PlateRun) : (s.modPl p f).regs = s.regs := rfl
@[simp] theorem State.modPl_img (s : State) (p : Fin 4) (f : PlateRun → PlateRun) : (s.modPl p f).img = s.img := rfl
@[simp] theorem State.modPl_phase (s : State) (p : Fin 4) (f : PlateRun → PlateRun) : (s.modPl p f).phase = s.phase := rfl
@[simp] theorem State.modPl_role (s : State) (p : Fin 4) (f : PlateRun → PlateRun) : (s.modPl p f).role = s.role := rfl
@[simp] theorem State.modPl_sync (s : State) (p : Fin 4) (f : PlateRun → PlateRun) : (s.modPl p f).sync = s.sync := rfl
@[simp] theorem State.modPl_genHist (s : State) (p : Fin 4) (f : PlateRun → PlateRun) : (s.modPl p f).genHist = s.genHist := rfl
@[simp] theorem State.modPl_rail (s : State) (p : Fin 4) (f : PlateRun → PlateRun) : (s.modPl p f).rail = s.rail := rfl
@[simp] theorem State.modPl_queue (s : State) (p : Fin 4) (f : PlateRun → PlateRun) : (s.modPl p f).queue = s.queue := rfl
@[simp] theorem State.modPl_ephTab (s : State) (p : Fin 4) (f : PlateRun → PlateRun) : (s.modPl p f).ephTab = s.ephTab := rfl
@[simp] theorem State.modPl_strikes (s : State) (p : Fin 4) (f : PlateRun → PlateRun) : (s.modPl p f).strikes = s.strikes := rfl
@[simp] theorem State.modPl_pll (s : State) (p : Fin 4) (f : PlateRun → PlateRun) : (s.modPl p f).pll = s.pll := rfl
@[simp] theorem State.modPl_nv (s : State) (p : Fin 4) (f : PlateRun → PlateRun) : (s.modPl p f).nv = s.nv := rfl
@[simp] theorem State.modPl_conv (s : State) (p : Fin 4) (f : PlateRun → PlateRun) : (s.modPl p f).conv = s.conv := rfl
@[simp] theorem State.modPl_exp (s : State) (p : Fin 4) (f : PlateRun → PlateRun) : (s.modPl p f).exp = s.exp := rfl
@[simp] theorem State.modPl_evSeen (s : State) (p : Fin 4) (f : PlateRun → PlateRun) : (s.modPl p f).evSeen = s.evSeen := rfl
@[simp] theorem State.modPl_gate (s : State) (p : Fin 4) (f : PlateRun → PlateRun) : (s.modPl p f).gate = s.gate := rfl
@[simp] theorem State.modPl_jtag (s : State) (p : Fin 4) (f : PlateRun → PlateRun) : (s.modPl p f).jtag = s.jtag := rfl
@[simp] theorem State.modPl_port (s : State) (p : Fin 4) (f : PlateRun → PlateRun) : (s.modPl p f).port = s.port := rfl
@[simp] theorem State.modPl_host (s : State) (p : Fin 4) (f : PlateRun → PlateRun) : (s.modPl p f).host = s.host := rfl
@[simp] theorem State.modPl_masterWait (s : State) (p : Fin 4) (f : PlateRun → PlateRun) : (s.modPl p f).masterWait = s.masterWait := rfl
@[simp] theorem State.modPl_latches (s : State) (p : Fin 4) (f : PlateRun → PlateRun) : (s.modPl p f).latches = s.latches := rfl
@[simp] theorem State.modPl_np (s : State) (p : Fin 4) (f : PlateRun → PlateRun) : (s.modPl p f).np = s.np := rfl
@[simp] theorem State.modPl_pt (s : State) (p : Fin 4) (f : PlateRun → PlateRun) : (s.modPl p f).pt = s.pt := rfl
@[simp] theorem State.modPl_chk (s : State) (p : Fin 4) (f : PlateRun → PlateRun) : (s.modPl p f).chk = s.chk := rfl
@[simp] theorem State.modPl_vinff (s : State) (p : Fin 4) (f : PlateRun → PlateRun) : (s.modPl p f).vinff = s.vinff := rfl
@[simp] theorem State.modPl_vinffFailed (s : State) (p : Fin 4) (f : PlateRun → PlateRun) : (s.modPl p f).vinffFailed = s.vinffFailed := rfl
@[simp] theorem State.modPl_answer (s : State) (p : Fin 4) (f : PlateRun → PlateRun) : (s.modPl p f).answer = s.answer := rfl
@[simp] theorem State.modPl_free (s : State) (p : Fin 4) (f : PlateRun → PlateRun) : (s.modPl p f).free = s.free := rfl
@[simp] theorem State.modPl_pending (s : State) (p : Fin 4) (f : PlateRun → PlateRun) : (s.modPl p f).pending = s.pending := rfl
@[simp] theorem State.modPl_word (s : State) (p : Fin 4) (f : PlateRun → PlateRun) (x : Nat) : (s.modPl p f).word x = s.word x := rfl
@[simp] theorem State.modPl_g (s : State) (p : Fin 4) (f : PlateRun → PlateRun) (x : Fld) : (s.modPl p f).g x = s.g x := rfl

@[simp] theorem State.setQ_sup (s : State) (q : Fin 16) (l : List QEntry) : (s.setQ q l).sup = s.sup := rfl
@[simp] theorem State.setQ_dev (s : State) (q : Fin 16) (l : List QEntry) : (s.setQ q l).dev = s.dev := rfl
@[simp] theorem State.setQ_tb (s : State) (q : Fin 16) (l : List QEntry) : (s.setQ q l).tb = s.tb := rfl
@[simp] theorem State.setQ_fine (s : State) (q : Fin 16) (l : List QEntry) : (s.setQ q l).fine = s.fine := rfl
@[simp] theorem State.setQ_secMark (s : State) (q : Fin 16) (l : List QEntry) : (s.setQ q l).secMark = s.secMark := rfl
@[simp] theorem State.setQ_hi (s : State) (q : Fin 16) (l : List QEntry) : (s.setQ q l).hi = s.hi := rfl
@[simp] theorem State.setQ_capDisc (s : State) (q : Fin 16) (l : List QEntry) : (s.setQ q l).capDisc = s.capDisc := rfl
@[simp] theorem State.setQ_regs (s : State) (q : Fin 16) (l : List QEntry) : (s.setQ q l).regs = s.regs := rfl
@[simp] theorem State.setQ_img (s : State) (q : Fin 16) (l : List QEntry) : (s.setQ q l).img = s.img := rfl
@[simp] theorem State.setQ_phase (s : State) (q : Fin 16) (l : List QEntry) : (s.setQ q l).phase = s.phase := rfl
@[simp] theorem State.setQ_role (s : State) (q : Fin 16) (l : List QEntry) : (s.setQ q l).role = s.role := rfl
@[simp] theorem State.setQ_sync (s : State) (q : Fin 16) (l : List QEntry) : (s.setQ q l).sync = s.sync := rfl
@[simp] theorem State.setQ_genHist (s : State) (q : Fin 16) (l : List QEntry) : (s.setQ q l).genHist = s.genHist := rfl
@[simp] theorem State.setQ_rail (s : State) (q : Fin 16) (l : List QEntry) : (s.setQ q l).rail = s.rail := rfl
@[simp] theorem State.setQ_ephTab (s : State) (q : Fin 16) (l : List QEntry) : (s.setQ q l).ephTab = s.ephTab := rfl
@[simp] theorem State.setQ_strikes (s : State) (q : Fin 16) (l : List QEntry) : (s.setQ q l).strikes = s.strikes := rfl
@[simp] theorem State.setQ_pll (s : State) (q : Fin 16) (l : List QEntry) : (s.setQ q l).pll = s.pll := rfl
@[simp] theorem State.setQ_nv (s : State) (q : Fin 16) (l : List QEntry) : (s.setQ q l).nv = s.nv := rfl
@[simp] theorem State.setQ_conv (s : State) (q : Fin 16) (l : List QEntry) : (s.setQ q l).conv = s.conv := rfl
@[simp] theorem State.setQ_plate (s : State) (q : Fin 16) (l : List QEntry) : (s.setQ q l).plate = s.plate := rfl
@[simp] theorem State.setQ_exp (s : State) (q : Fin 16) (l : List QEntry) : (s.setQ q l).exp = s.exp := rfl
@[simp] theorem State.setQ_evSeen (s : State) (q : Fin 16) (l : List QEntry) : (s.setQ q l).evSeen = s.evSeen := rfl
@[simp] theorem State.setQ_gate (s : State) (q : Fin 16) (l : List QEntry) : (s.setQ q l).gate = s.gate := rfl
@[simp] theorem State.setQ_jtag (s : State) (q : Fin 16) (l : List QEntry) : (s.setQ q l).jtag = s.jtag := rfl
@[simp] theorem State.setQ_port (s : State) (q : Fin 16) (l : List QEntry) : (s.setQ q l).port = s.port := rfl
@[simp] theorem State.setQ_host (s : State) (q : Fin 16) (l : List QEntry) : (s.setQ q l).host = s.host := rfl
@[simp] theorem State.setQ_masterWait (s : State) (q : Fin 16) (l : List QEntry) : (s.setQ q l).masterWait = s.masterWait := rfl
@[simp] theorem State.setQ_latches (s : State) (q : Fin 16) (l : List QEntry) : (s.setQ q l).latches = s.latches := rfl
@[simp] theorem State.setQ_np (s : State) (q : Fin 16) (l : List QEntry) : (s.setQ q l).np = s.np := rfl
@[simp] theorem State.setQ_pt (s : State) (q : Fin 16) (l : List QEntry) : (s.setQ q l).pt = s.pt := rfl
@[simp] theorem State.setQ_chk (s : State) (q : Fin 16) (l : List QEntry) : (s.setQ q l).chk = s.chk := rfl
@[simp] theorem State.setQ_vinff (s : State) (q : Fin 16) (l : List QEntry) : (s.setQ q l).vinff = s.vinff := rfl
@[simp] theorem State.setQ_vinffFailed (s : State) (q : Fin 16) (l : List QEntry) : (s.setQ q l).vinffFailed = s.vinffFailed := rfl
@[simp] theorem State.setQ_answer (s : State) (q : Fin 16) (l : List QEntry) : (s.setQ q l).answer = s.answer := rfl
@[simp] theorem State.setQ_free (s : State) (q : Fin 16) (l : List QEntry) : (s.setQ q l).free = s.free := rfl
@[simp] theorem State.setQ_pending (s : State) (q : Fin 16) (l : List QEntry) : (s.setQ q l).pending = s.pending := rfl
@[simp] theorem State.setQ_word (s : State) (q : Fin 16) (l : List QEntry) (x : Nat) : (s.setQ q l).word x = s.word x := rfl
@[simp] theorem State.setQ_g (s : State) (q : Fin 16) (l : List QEntry) (x : Fld) : (s.setQ q l).g x = s.g x := rfl

@[simp] theorem State.atTime_sup (s : State) (t : Time) : (s.atTime t).sup = s.sup := by unfold State.atTime; split <;> rfl
@[simp] theorem State.atTime_dev (s : State) (t : Time) : (s.atTime t).dev = s.dev := by unfold State.atTime; split <;> rfl
@[simp] theorem State.atTime_secMark (s : State) (t : Time) : (s.atTime t).secMark = s.secMark := by unfold State.atTime; split <;> rfl
@[simp] theorem State.atTime_hi (s : State) (t : Time) : (s.atTime t).hi = s.hi := by unfold State.atTime; split <;> rfl
@[simp] theorem State.atTime_capDisc (s : State) (t : Time) : (s.atTime t).capDisc = s.capDisc := by unfold State.atTime; split <;> rfl
@[simp] theorem State.atTime_regs (s : State) (t : Time) : (s.atTime t).regs = s.regs := by unfold State.atTime; split <;> rfl
@[simp] theorem State.atTime_img (s : State) (t : Time) : (s.atTime t).img = s.img := by unfold State.atTime; split <;> rfl
@[simp] theorem State.atTime_phase (s : State) (t : Time) : (s.atTime t).phase = s.phase := by unfold State.atTime; split <;> rfl
@[simp] theorem State.atTime_role (s : State) (t : Time) : (s.atTime t).role = s.role := by unfold State.atTime; split <;> rfl
@[simp] theorem State.atTime_sync (s : State) (t : Time) : (s.atTime t).sync = s.sync := by unfold State.atTime; split <;> rfl
@[simp] theorem State.atTime_genHist (s : State) (t : Time) : (s.atTime t).genHist = s.genHist := by unfold State.atTime; split <;> rfl
@[simp] theorem State.atTime_rail (s : State) (t : Time) : (s.atTime t).rail = s.rail := by unfold State.atTime; split <;> rfl
@[simp] theorem State.atTime_queue (s : State) (t : Time) : (s.atTime t).queue = s.queue := by unfold State.atTime; split <;> rfl
@[simp] theorem State.atTime_ephTab (s : State) (t : Time) : (s.atTime t).ephTab = s.ephTab := by unfold State.atTime; split <;> rfl
@[simp] theorem State.atTime_strikes (s : State) (t : Time) : (s.atTime t).strikes = s.strikes := by unfold State.atTime; split <;> rfl
@[simp] theorem State.atTime_pll (s : State) (t : Time) : (s.atTime t).pll = s.pll := by unfold State.atTime; split <;> rfl
@[simp] theorem State.atTime_nv (s : State) (t : Time) : (s.atTime t).nv = s.nv := by unfold State.atTime; split <;> rfl
@[simp] theorem State.atTime_conv (s : State) (t : Time) : (s.atTime t).conv = s.conv := by unfold State.atTime; split <;> rfl
@[simp] theorem State.atTime_plate (s : State) (t : Time) : (s.atTime t).plate = s.plate := by unfold State.atTime; split <;> rfl
@[simp] theorem State.atTime_exp (s : State) (t : Time) : (s.atTime t).exp = s.exp := by unfold State.atTime; split <;> rfl
@[simp] theorem State.atTime_evSeen (s : State) (t : Time) : (s.atTime t).evSeen = s.evSeen := by unfold State.atTime; split <;> rfl
@[simp] theorem State.atTime_gate (s : State) (t : Time) : (s.atTime t).gate = s.gate := by unfold State.atTime; split <;> rfl
@[simp] theorem State.atTime_jtag (s : State) (t : Time) : (s.atTime t).jtag = s.jtag := by unfold State.atTime; split <;> rfl
@[simp] theorem State.atTime_port (s : State) (t : Time) : (s.atTime t).port = s.port := by unfold State.atTime; split <;> rfl
@[simp] theorem State.atTime_host (s : State) (t : Time) : (s.atTime t).host = s.host := by unfold State.atTime; split <;> rfl
@[simp] theorem State.atTime_masterWait (s : State) (t : Time) : (s.atTime t).masterWait = s.masterWait := by unfold State.atTime; split <;> rfl
@[simp] theorem State.atTime_latches (s : State) (t : Time) : (s.atTime t).latches = s.latches := by unfold State.atTime; split <;> rfl
@[simp] theorem State.atTime_np (s : State) (t : Time) : (s.atTime t).np = s.np := by unfold State.atTime; split <;> rfl
@[simp] theorem State.atTime_pt (s : State) (t : Time) : (s.atTime t).pt = s.pt := by unfold State.atTime; split <;> rfl
@[simp] theorem State.atTime_chk (s : State) (t : Time) : (s.atTime t).chk = s.chk := by unfold State.atTime; split <;> rfl
@[simp] theorem State.atTime_vinff (s : State) (t : Time) : (s.atTime t).vinff = s.vinff := by unfold State.atTime; split <;> rfl
@[simp] theorem State.atTime_vinffFailed (s : State) (t : Time) : (s.atTime t).vinffFailed = s.vinffFailed := by unfold State.atTime; split <;> rfl
@[simp] theorem State.atTime_answer (s : State) (t : Time) : (s.atTime t).answer = s.answer := by unfold State.atTime; split <;> rfl
@[simp] theorem State.atTime_free (s : State) (t : Time) : (s.atTime t).free = s.free := by unfold State.atTime; split <;> rfl
@[simp] theorem State.atTime_pending (s : State) (t : Time) : (s.atTime t).pending = s.pending := by unfold State.atTime; split <;> rfl
@[simp] theorem State.atTime_word (s : State) (t : Time) (x : Nat) : (s.atTime t).word x = s.word x := by unfold State.atTime; split <;> rfl
@[simp] theorem State.atTime_g (s : State) (t : Time) (x : Fld) : (s.atTime t).g x = s.g x := by unfold State.atTime; split <;> rfl

@[simp] theorem State.setDev_sup (s : State) (d : DevState) : (s.setDev d).sup = s.sup := by unfold State.setDev; split <;> rfl
@[simp] theorem State.setDev_tb (s : State) (d : DevState) : (s.setDev d).tb = s.tb := by unfold State.setDev; split <;> rfl
@[simp] theorem State.setDev_fine (s : State) (d : DevState) : (s.setDev d).fine = s.fine := by unfold State.setDev; split <;> rfl
@[simp] theorem State.setDev_secMark (s : State) (d : DevState) : (s.setDev d).secMark = s.secMark := by unfold State.setDev; split <;> rfl
@[simp] theorem State.setDev_hi (s : State) (d : DevState) : (s.setDev d).hi = s.hi := by unfold State.setDev; split <;> rfl
@[simp] theorem State.setDev_capDisc (s : State) (d : DevState) : (s.setDev d).capDisc = s.capDisc := by unfold State.setDev; split <;> rfl
@[simp] theorem State.setDev_regs (s : State) (d : DevState) : (s.setDev d).regs = s.regs := by unfold State.setDev; split <;> rfl
@[simp] theorem State.setDev_img (s : State) (d : DevState) : (s.setDev d).img = s.img := by unfold State.setDev; split <;> rfl
@[simp] theorem State.setDev_phase (s : State) (d : DevState) : (s.setDev d).phase = s.phase := by unfold State.setDev; split <;> rfl
@[simp] theorem State.setDev_role (s : State) (d : DevState) : (s.setDev d).role = s.role := by unfold State.setDev; split <;> rfl
@[simp] theorem State.setDev_sync (s : State) (d : DevState) : (s.setDev d).sync = s.sync := by unfold State.setDev; split <;> rfl
@[simp] theorem State.setDev_genHist (s : State) (d : DevState) : (s.setDev d).genHist = s.genHist := by unfold State.setDev; split <;> rfl
@[simp] theorem State.setDev_rail (s : State) (d : DevState) : (s.setDev d).rail = s.rail := by unfold State.setDev; split <;> rfl
@[simp] theorem State.setDev_queue (s : State) (d : DevState) : (s.setDev d).queue = s.queue := by unfold State.setDev; split <;> rfl
@[simp] theorem State.setDev_ephTab (s : State) (d : DevState) : (s.setDev d).ephTab = s.ephTab := by unfold State.setDev; split <;> rfl
@[simp] theorem State.setDev_strikes (s : State) (d : DevState) : (s.setDev d).strikes = s.strikes := by unfold State.setDev; split <;> rfl
@[simp] theorem State.setDev_pll (s : State) (d : DevState) : (s.setDev d).pll = s.pll := by unfold State.setDev; split <;> rfl
@[simp] theorem State.setDev_nv (s : State) (d : DevState) : (s.setDev d).nv = s.nv := by unfold State.setDev; split <;> rfl
@[simp] theorem State.setDev_conv (s : State) (d : DevState) : (s.setDev d).conv = s.conv := by unfold State.setDev; split <;> rfl
@[simp] theorem State.setDev_plate (s : State) (d : DevState) : (s.setDev d).plate = s.plate := by unfold State.setDev; split <;> rfl
@[simp] theorem State.setDev_exp (s : State) (d : DevState) : (s.setDev d).exp = s.exp := by unfold State.setDev; split <;> rfl
@[simp] theorem State.setDev_evSeen (s : State) (d : DevState) : (s.setDev d).evSeen = s.evSeen := by unfold State.setDev; split <;> rfl
@[simp] theorem State.setDev_jtag (s : State) (d : DevState) : (s.setDev d).jtag = s.jtag := by unfold State.setDev; split <;> rfl
@[simp] theorem State.setDev_port (s : State) (d : DevState) : (s.setDev d).port = s.port := by unfold State.setDev; split <;> rfl
@[simp] theorem State.setDev_host (s : State) (d : DevState) : (s.setDev d).host = s.host := by unfold State.setDev; split <;> rfl
@[simp] theorem State.setDev_masterWait (s : State) (d : DevState) : (s.setDev d).masterWait = s.masterWait := by unfold State.setDev; split <;> rfl
@[simp] theorem State.setDev_latches (s : State) (d : DevState) : (s.setDev d).latches = s.latches := by unfold State.setDev; split <;> rfl
@[simp] theorem State.setDev_np (s : State) (d : DevState) : (s.setDev d).np = s.np := by unfold State.setDev; split <;> rfl
@[simp] theorem State.setDev_pt (s : State) (d : DevState) : (s.setDev d).pt = s.pt := by unfold State.setDev; split <;> rfl
@[simp] theorem State.setDev_chk (s : State) (d : DevState) : (s.setDev d).chk = s.chk := by unfold State.setDev; split <;> rfl
@[simp] theorem State.setDev_vinff (s : State) (d : DevState) : (s.setDev d).vinff = s.vinff := by unfold State.setDev; split <;> rfl
@[simp] theorem State.setDev_vinffFailed (s : State) (d : DevState) : (s.setDev d).vinffFailed = s.vinffFailed := by unfold State.setDev; split <;> rfl
@[simp] theorem State.setDev_answer (s : State) (d : DevState) : (s.setDev d).answer = s.answer := by unfold State.setDev; split <;> rfl
@[simp] theorem State.setDev_free (s : State) (d : DevState) : (s.setDev d).free = s.free := by unfold State.setDev; split <;> rfl
@[simp] theorem State.setDev_pending (s : State) (d : DevState) : (s.setDev d).pending = s.pending := by unfold State.setDev; split <;> rfl
@[simp] theorem State.setDev_word (s : State) (d : DevState) (x : Nat) : (s.setDev d).word x = s.word x := by unfold State.setDev; split <;> rfl
@[simp] theorem State.setDev_g (s : State) (d : DevState) (x : Fld) : (s.setDev d).g x = s.g x := by unfold State.setDev; split <;> rfl

/-! ### What an update changes -/

theorem State.modRa_same (s : State) (k : Fin 8) (f : RailState → RailState) : (s.modRa k f).ra k = f (s.ra k) := by
  simp [State.modRa, State.ra, vget, vset]

theorem State.modRa_ne (s : State) (k j : Fin 8) (f : RailState → RailState) (h : j ≠ k) :
    (s.modRa k f).ra j = s.ra j := by
  have : k.val ≠ j.val := fun e => h (Fin.ext e.symm)
  simp [State.modRa, State.ra, vget, vset, this]

theorem State.modPh_same (s : State) (n : Fin 48) (f : PhaseState → PhaseState) : (s.modPh n f).ph n = f (s.ph n) := by
  simp [State.modPh, State.ph, vget, vset]

theorem State.modPh_ne (s : State) (n j : Fin 48) (f : PhaseState → PhaseState) (h : j ≠ n) :
    (s.modPh n f).ph j = s.ph j := by
  have : n.val ≠ j.val := fun e => h (Fin.ext e.symm)
  simp [State.modPh, State.ph, vget, vset, this]

theorem State.setQ_same (s : State) (q : Fin 16) (l : List QEntry) : (s.setQ q l).q q = l := by
  simp [State.setQ, State.q, vget, vset]

theorem State.setQ_ne (s : State) (q j : Fin 16) (l : List QEntry) (h : j ≠ q) : (s.setQ q l).q j = s.q j := by
  have : q.val ≠ j.val := fun e => h (Fin.ext e.symm)
  simp [State.setQ, State.q, vget, vset, this]

end Sys2Proof.Machine
end

