-- ==== Sys2Proof/Laws/Finish.lean ====
section
/-!
SUPPORT. What the settling after a command can do (`finish`): it keeps every field of State but the registers, the image
manager's staging, the wake flags of the stage groups, the device state with its nonce, and the interrupt record; and it
leaves the device state and the interrupt record consistent.
-/

namespace Sys2Proof.Machine

/-! ### Folds -/

/-- A fold keeps what each of its steps keeps. -/
theorem forEach_keep {α β : Type} (π : State → β) (f : State → α → State) (h : ∀ s x, π (f s x) = π s) (l : List α)
    (s : State) : π (forEach f l s) = π s := by
  unfold forEach
  induction l generalizing s with
  | nil => rfl
  | cons x l ih => rw [List.foldl_cons, ih, h]

/-- A fold over all indices keeps what each of its steps keeps. -/
theorem forAll_keep {n : Nat} {β : Type} (π : State → β) (f : State → Fin n → State) (h : ∀ s x, π (f s x) = π s)
    (s : State) : π (forAll f s) = π s := forEach_keep π f h (allFin n) s

/-- A fold keeps an invariant that each of its steps keeps. -/
theorem forEach_inv {α : Type} (P : State → Prop) (f : State → α → State) (h : ∀ s x, P s → P (f s x)) (l : List α)
    (s : State) (hs : P s) : P (forEach f l s) := by
  unfold forEach
  induction l generalizing s with
  | nil => exact hs
  | cons x l ih => exact ih _ (h _ _ hs)

/-- A fold whose steps all leave the state alone leaves it alone. -/
theorem forEach_id {α : Type} (f : State → α → State) (l : List α) (s : State) (h : ∀ x ∈ l, f s x = s) :
    forEach f l s = s := by
  unfold forEach
  induction l with
  | nil => rfl
  | cons x l ih =>
    rw [List.foldl_cons, h x (List.mem_cons_self ..)]
    exact ih fun y hy => h y (List.mem_cons_of_mem _ hy)

/-! ### The parts of `finish` -/

theorem putStaging_keep {β : Type} (π : State → β) (hp : ∀ s f v, π (State.p s f v) = π s)
    (hi : ∀ (s : State) i, π { s with img := i } = π s) (g i : Nat) (s : State) : π (putStaging g i s) = π s := by
  unfold putStaging
  rw [hi]
  exact forEach_keep π _ (fun s x => hp s _ _) _ s

/-- An armed commit of a group other than a ring or a launch group keeps what its fields and the image manager do not hold. -/
theorem applyArmed_keep {β : Type} (π : State → β) (hp : ∀ s f v, π (State.p s f v) = π s)
    (hi : ∀ (s : State) i, π { s with img := i } = π s) (g i : Nat) (h2 : g ≠ 2) (h3 : g ≠ 3) (s : State) :
    π (applyArmed g i s) = π s := by
  unfold applyArmed
  split
  · simp only [applyGroup, groupResult]
    rw [if_neg h2, if_neg h3]
    split
    · rw [hp, putStaging_keep π hp hi]
    · rw [putStaging_keep π hp hi]
  · rfl

theorem stoppedArmed_keep {β : Type} (π : State → β) (hp : ∀ s f v, π (State.p s f v) = π s)
    (hi : ∀ (s : State) i, π { s with img := i } = π s) (s : State) : π (stoppedArmed s) = π s := by
  unfold stoppedArmed
  rw [forEach_keep π _ (fun s x => by
    split
    · exact applyArmed_keep π hp hi 1 _ (by decide) (by decide) s
    · rfl)]
  unfold porterStopped
  split
  · rfl
  · exact applyArmed_keep π hp hi 4 _ (by decide) (by decide) s

theorem updateSmods_keep {β : Type} (π : State → β) (hp : ∀ s f v, π (State.p s f v) = π s)
    (hs : ∀ (s : State) u, π { s with sup := u } = π s) (s : State) : π (updateSmods s) = π s := by
  refine forAll_keep π _ (fun s g => ?_) s
  unfold updateSmod
  dsimp only
  split
  · exact (hs _ _).trans (hp s _ _)
  · split
    · exact (hs _ _).trans (hp s _ _)
    · rfl

theorem updateDev_keep {β : Type} (π : State → β)
    (hd : ∀ (s : State) d g, π { s with dev := d, gate := g } = π s) (s : State) : π (updateDev s) = π s := by
  have h : ∀ d, π (s.setDev d) = π s := by
    intro d
    unfold State.setDev
    split
    · rfl
    · exact hd s _ _
  unfold updateDev
  split
  · split
    · exact h _
    · rfl
  · split
    · rfl
    · exact h _
  · rfl

theorem evalInterrupt_keep {β : Type} (π : State → β) (hp : ∀ s f v, π (State.p s f v) = π s)
    (he : ∀ (s : State) e, π { s with evSeen := e } = π s) (s : State) : π (evalInterrupt s) = π s := by
  unfold evalInterrupt
  rw [he]
  split
  · split
    · exact hp s _ _
    · rfl
  · exact (hp _ _ _).trans (hp s _ _)

/-- `finish` keeps every part of the state that does not involve what it writes. -/
theorem finish_keep {β : Type} (π : State → β) (hp : ∀ s f v, π (State.p s f v) = π s)
    (hi : ∀ (s : State) i, π { s with img := i } = π s) (hs : ∀ (s : State) u, π { s with sup := u } = π s)
    (hd : ∀ (s : State) d g, π { s with dev := d, gate := g } = π s)
    (he : ∀ (s : State) e, π { s with evSeen := e } = π s) (s : State) : π (finish s) = π s := by
  unfold finish
  rw [evalInterrupt_keep π hp he, updateDev_keep π hd, updateSmods_keep π hp hs, stoppedArmed_keep π hp hi]

@[simp] theorem finish_tb (s : State) : (finish s).tb = s.tb :=
  finish_keep (·.tb) (fun _ _ _ => rfl) (fun _ _ => rfl) (fun _ _ => rfl) (fun _ _ _ => rfl) (fun _ _ => rfl) s

@[simp] theorem finish_secMark (s : State) : (finish s).secMark = s.secMark :=
  finish_keep (·.secMark) (fun _ _ _ => rfl) (fun _ _ => rfl) (fun _ _ => rfl) (fun _ _ _ => rfl) (fun _ _ => rfl) s

@[simp] theorem finish_hi (s : State) : (finish s).hi = s.hi :=
  finish_keep (·.hi) (fun _ _ _ => rfl) (fun _ _ => rfl) (fun _ _ => rfl) (fun _ _ _ => rfl) (fun _ _ => rfl) s

@[simp] theorem finish_capDisc (s : State) : (finish s).capDisc = s.capDisc :=
  finish_keep (·.capDisc) (fun _ _ _ => rfl) (fun _ _ => rfl) (fun _ _ => rfl) (fun _ _ _ => rfl) (fun _ _ => rfl) s

@[simp] theorem finish_phase (s : State) : (finish s).phase = s.phase :=
  finish_keep (·.phase) (fun _ _ _ => rfl) (fun _ _ => rfl) (fun _ _ => rfl) (fun _ _ _ => rfl) (fun _ _ => rfl) s

@[simp] theorem finish_role (s : State) : (finish s).role = s.role :=
  finish_keep (·.role) (fun _ _ _ => rfl) (fun _ _ => rfl) (fun _ _ => rfl) (fun _ _ _ => rfl) (fun _ _ => rfl) s

@[simp] theorem finish_sync (s : State) : (finish s).sync = s.sync :=
  finish_keep (·.sync) (fun _ _ _ => rfl) (fun _ _ => rfl) (fun _ _ => rfl) (fun _ _ _ => rfl) (fun _ _ => rfl) s

@[simp] theorem finish_rail (s : State) : (finish s).rail = s.rail :=
  finish_keep (·.rail) (fun _ _ _ => rfl) (fun _ _ => rfl) (fun _ _ => rfl) (fun _ _ _ => rfl) (fun _ _ => rfl) s

@[simp] theorem finish_queue (s : State) : (finish s).queue = s.queue :=
  finish_keep (·.queue) (fun _ _ _ => rfl) (fun _ _ => rfl) (fun _ _ => rfl) (fun _ _ _ => rfl) (fun _ _ => rfl) s

@[simp] theorem finish_ephTab (s : State) : (finish s).ephTab = s.ephTab :=
  finish_keep (·.ephTab) (fun _ _ _ => rfl) (fun _ _ => rfl) (fun _ _ => rfl) (fun _ _ _ => rfl) (fun _ _ => rfl) s

@[simp] theorem finish_strikes (s : State) : (finish s).strikes = s.strikes :=
  finish_keep (·.strikes) (fun _ _ _ => rfl) (fun _ _ => rfl) (fun _ _ => rfl) (fun _ _ _ => rfl) (fun _ _ => rfl) s

@[simp] theorem finish_pll (s : State) : (finish s).pll = s.pll :=
  finish_keep (·.pll) (fun _ _ _ => rfl) (fun _ _ => rfl) (fun _ _ => rfl) (fun _ _ _ => rfl) (fun _ _ => rfl) s

@[simp] theorem finish_nv (s : State) : (finish s).nv = s.nv :=
  finish_keep (·.nv) (fun _ _ _ => rfl) (fun _ _ => rfl) (fun _ _ => rfl) (fun _ _ _ => rfl) (fun _ _ => rfl) s

@[simp] theorem finish_conv (s : State) : (finish s).conv = s.conv :=
  finish_keep (·.conv) (fun _ _ _ => rfl) (fun _ _ => rfl) (fun _ _ => rfl) (fun _ _ _ => rfl) (fun _ _ => rfl) s

@[simp] theorem finish_plate (s : State) : (finish s).plate = s.plate :=
  finish_keep (·.plate) (fun _ _ _ => rfl) (fun _ _ => rfl) (fun _ _ => rfl) (fun _ _ _ => rfl) (fun _ _ => rfl) s

@[simp] theorem finish_exp (s : State) : (finish s).exp = s.exp :=
  finish_keep (·.exp) (fun _ _ _ => rfl) (fun _ _ => rfl) (fun _ _ => rfl) (fun _ _ _ => rfl) (fun _ _ => rfl) s

@[simp] theorem finish_jtag (s : State) : (finish s).jtag = s.jtag :=
  finish_keep (·.jtag) (fun _ _ _ => rfl) (fun _ _ => rfl) (fun _ _ => rfl) (fun _ _ _ => rfl) (fun _ _ => rfl) s

@[simp] theorem finish_port (s : State) : (finish s).port = s.port :=
  finish_keep (·.port) (fun _ _ _ => rfl) (fun _ _ => rfl) (fun _ _ => rfl) (fun _ _ _ => rfl) (fun _ _ => rfl) s

@[simp] theorem finish_host (s : State) : (finish s).host = s.host :=
  finish_keep (·.host) (fun _ _ _ => rfl) (fun _ _ => rfl) (fun _ _ => rfl) (fun _ _ _ => rfl) (fun _ _ => rfl) s

@[simp] theorem finish_masterWait (s : State) : (finish s).masterWait = s.masterWait :=
  finish_keep (·.masterWait) (fun _ _ _ => rfl) (fun _ _ => rfl) (fun _ _ => rfl) (fun _ _ _ => rfl) (fun _ _ => rfl) s

@[simp] theorem finish_latches (s : State) : (finish s).latches = s.latches :=
  finish_keep (·.latches) (fun _ _ _ => rfl) (fun _ _ => rfl) (fun _ _ => rfl) (fun _ _ _ => rfl) (fun _ _ => rfl) s

@[simp] theorem finish_np (s : State) : (finish s).np = s.np :=
  finish_keep (·.np) (fun _ _ _ => rfl) (fun _ _ => rfl) (fun _ _ => rfl) (fun _ _ _ => rfl) (fun _ _ => rfl) s

@[simp] theorem finish_pt (s : State) : (finish s).pt = s.pt :=
  finish_keep (·.pt) (fun _ _ _ => rfl) (fun _ _ => rfl) (fun _ _ => rfl) (fun _ _ _ => rfl) (fun _ _ => rfl) s

@[simp] theorem finish_chk (s : State) : (finish s).chk = s.chk :=
  finish_keep (·.chk) (fun _ _ _ => rfl) (fun _ _ => rfl) (fun _ _ => rfl) (fun _ _ _ => rfl) (fun _ _ => rfl) s

@[simp] theorem finish_vinff (s : State) : (finish s).vinff = s.vinff :=
  finish_keep (·.vinff) (fun _ _ _ => rfl) (fun _ _ => rfl) (fun _ _ => rfl) (fun _ _ _ => rfl) (fun _ _ => rfl) s

@[simp] theorem finish_vinffFailed (s : State) : (finish s).vinffFailed = s.vinffFailed :=
  finish_keep (·.vinffFailed) (fun _ _ _ => rfl) (fun _ _ => rfl) (fun _ _ => rfl) (fun _ _ _ => rfl) (fun _ _ => rfl) s

@[simp] theorem finish_answer (s : State) : (finish s).answer = s.answer :=
  finish_keep (·.answer) (fun _ _ _ => rfl) (fun _ _ => rfl) (fun _ _ => rfl) (fun _ _ _ => rfl) (fun _ _ => rfl) s

@[simp] theorem finish_free (s : State) : (finish s).free = s.free :=
  finish_keep (·.free) (fun _ _ _ => rfl) (fun _ _ => rfl) (fun _ _ => rfl) (fun _ _ _ => rfl) (fun _ _ => rfl) s

@[simp] theorem finish_pending (s : State) : (finish s).pending = s.pending :=
  finish_keep (·.pending) (fun _ _ _ => rfl) (fun _ _ => rfl) (fun _ _ => rfl) (fun _ _ _ => rfl) (fun _ _ => rfl) s

/-! ### Registers -/

/-- No armed commit waits for a stopped block: neither one of group 04h for a stopped Porter nor one of group 01h for a
stopped phase (R81 rule 5). -/
def ArmedSettled (s : State) : Prop :=
  (s.porterRuns = true ∨ s.isArmed 4 0xFF = false)
    ∧ ∀ x ∈ s.img.armed, x.group = 1 → s.phRuns (Fin.ofNat 48 x.index) = true

theorem stoppedArmed_eq (s : State) (h : ArmedSettled s) : stoppedArmed s = s := by
  have hp : porterStopped s = s := by
    unfold porterStopped
    split
    · rfl
    · rename_i hr
      rcases h.1 with h | h
      · exact absurd h hr
      · simp [applyArmed, h]
  unfold stoppedArmed
  rw [hp]
  refine forEach_id _ _ _ fun x hx => ?_
  by_cases hg : x.group = 1
  · exact if_neg (by rw [h.2 x hx hg]; simp)
  · simp [hg]

/-- A register word that is neither a STAGEGRP[g].CFG nor HP_ALERT is as the command left it. -/
theorem finish_word (s : State) (a : Nat) (h : ArmedSettled s) (hg : ∀ g : Fin 6, a ≠ A.STAGEGRP_CFG g.val)
    (ha : a ≠ A.HP_ALERT) : (finish s).word a = s.word a := by
  have h1 : ∀ s, (evalInterrupt s).word a = s.word a := by
    intro s
    have e : ∀ x : State, ({ x with evSeen := s.evActive } : State).word a = x.word a := fun _ => rfl
    unfold evalInterrupt raiseAlert
    dsimp only
    rw [e]
    split
    · split
      · exact State.word_p_ne s _ _ a ha
      · rfl
    · exact (State.word_p_ne _ _ _ a ha).trans (State.word_p_ne s _ _ a ha)
  have h2 : ∀ s, (updateDev s).word a = s.word a := updateDev_keep (·.word a) fun _ _ _ => rfl
  have h3 : ∀ s, (updateSmods s).word a = s.word a := by
    refine forAll_keep (·.word a) _ fun s g => ?_
    unfold updateSmod
    dsimp only
    split
    · exact State.word_p_ne s _ _ a (hg g)
    · split
      · exact State.word_p_ne s _ _ a (hg g)
      · rfl
  unfold finish
  rw [h1, h2, h3, stoppedArmed_eq s h]

/-- A field of such a register. -/
theorem finish_g (s : State) (f : Fld) (h : ArmedSettled s) (hg : ∀ g : Fin 6, f.addr ≠ A.STAGEGRP_CFG g.val)
    (ha : f.addr ≠ A.HP_ALERT) : (finish s).g f = s.g f := by
  unfold State.g
  rw [finish_word s f.addr h hg ha]

/-! ### What `finish` leaves consistent -/

theorem evActive_alert (s : State) (f : Fld) (v : Nat) (h : f.addr = A.HP_ALERT) : (s.p f v).evActive = s.evActive := by
  have hg : ∀ e : Fld, e.addr ≠ A.HP_ALERT → (s.p f v).g e = s.g e := fun e he => State.g_p_addr s f e v (by rw [h]; exact he)
  have hq : ∀ q, (F.Q_STAT_OVF q).addr ≠ A.HP_ALERT := by
    intro q; simp only [F.Q_STAT_OVF, A.Q_STAT, A.HP_ALERT]; omega
  have ho : (s.p f v).anyOvf = s.anyOvf := by
    unfold State.anyOvf State.gb
    congr 1; funext q; rw [hg _ (hq q)]
  have h1 := hg (F.Q_STAT_WMARK 12) (by norm_num [F.Q_STAT_WMARK, A.Q_STAT, A.HP_ALERT])
  have h2 := hg F.CFGERR_VALID (by norm_num [F.CFGERR_VALID, A.CFGERR, A.HP_ALERT])
  have h3 := hg F.FM_STATUS_FPEND (by norm_num [F.FM_STATUS_FPEND, A.FM_STATUS, A.HP_ALERT])
  have h4 := hg F.GH_DENY_VALID (by norm_num [F.GH_DENY_VALID, A.GH_DENY, A.HP_ALERT])
  have h5 := hg F.GH_STAT_ALARMED (by norm_num [F.GH_STAT_ALARMED, A.GH_STAT, A.HP_ALERT])
  have h6 := hg F.PT_STATUS_PFWNOW (by norm_num [F.PT_STATUS_PFWNOW, A.PT_STATUS, A.HP_ALERT])
  have h7 := hg F.EV_PEND_STICKY (by norm_num [F.EV_PEND_STICKY, A.EV_PEND, A.HP_ALERT])
  have h8 := hg F.EV_MASK_MASK (by norm_num [F.EV_MASK_MASK, A.EV_MASK, A.HP_ALERT])
  have hl : (s.p f v).evLevel = s.evLevel := by
    unfold State.evLevel State.gb State.q
    rw [h1, h2, h3, h4, h5, h6, ho, State.p_queue]
  unfold State.evActive State.evPend
  rw [hl, h7, h8]

/-- The interrupt record is the enabled bits of EV_PEND after every command. -/
theorem evalInterrupt_seen (s : State) : (evalInterrupt s).evSeen = (evalInterrupt s).evActive := by
  have e : ∀ (x : State) v, ({ x with evSeen := v } : State).evActive = x.evActive := fun _ _ => rfl
  have hd : ∀ (x : State) b, (x.pb F.HP_ALERT_DRIVE b).evActive = x.evActive :=
    fun x b => evActive_alert x F.HP_ALERT_DRIVE (if b then 1 else 0) rfl
  have ha : ∀ (x : State) b, (x.pb F.HP_ALERT_ACKED b).evActive = x.evActive :=
    fun x b => evActive_alert x F.HP_ALERT_ACKED (if b then 1 else 0) rfl
  unfold evalInterrupt raiseAlert
  dsimp only
  split
  · split
    · exact ((e (s.pb F.HP_ALERT_DRIVE false) s.evActive).trans (hd s false)).symm
    · exact (e s s.evActive).symm
  · exact ((e ((s.pb F.HP_ALERT_DRIVE true).pb F.HP_ALERT_ACKED false) s.evActive).trans
      ((ha _ false).trans (hd s true))).symm

/-- The device state follows the rails after every command. -/
theorem updateDev_settled (s : State) : ((updateDev s).dev = .standby → (updateDev s).anyEnabled = false) ∧
    ((updateDev s).dev = .run → (updateDev s).anyEnabled = true) := by
  have h : ∀ d, (s.setDev d).anyEnabled = s.anyEnabled ∧ (s.setDev d).dev = d := by
    intro d
    unfold State.setDev
    split
    · rename_i hd; exact ⟨rfl, hd⟩
    · exact ⟨rfl, rfl⟩
  unfold updateDev
  split
  · split
    · rename_i he
      rw [(h _).1, (h _).2, he]
      exact ⟨fun x => (by cases x), fun _ => rfl⟩
    · rename_i hd he
      exact ⟨fun _ => (by simpa using he), fun x => by rw [hd] at x; cases x⟩
  · split
    · rename_i hd he
      exact ⟨fun x => (by rw [hd] at x; cases x), fun _ => he⟩
    · rename_i he
      rw [(h _).1, (h _).2]
      exact ⟨fun _ => (by simpa using he), fun x => by cases x⟩
  · rename_i h1 h2
    exact ⟨fun x => absurd x h1, fun x => absurd x h2⟩

end Sys2Proof.Machine
end

