-- ==== Sys2Proof/Laws/Ops.lean ====
section
/-!
SUPPORT. What the shared operations can do, one lemma each: refusals, router events, queue pushes and Ledger records.
-/

namespace Sys2Proof.Machine

/-! ### Refusals (R83, R381) -/

/-- A refusal touches CFGERR and its count alone. -/
theorem cfgRefuse_word (m : Master) (c : CfgCause) (a : Nat) (s : State) (b : Nat) (h1 : b ≠ A.CFGERR)
    (h2 : b ≠ A.CFGERR_COUNT) : (cfgRefuse m c a s).word b = s.word b := by
  unfold cfgRefuse
  dsimp only
  split
  · exact State.word_p_ne s _ _ b h2
  · exact (State.word_setWord_ne _ _ _ _ h1).trans (State.word_p_ne s _ _ b h2)

theorem cfgRefuse_keep {β : Type} (π : State → β) (hw : ∀ s a w, π (State.setWord s a w) = π s) (m : Master)
    (c : CfgCause) (a : Nat) (s : State) : π (cfgRefuse m c a s) = π s := by
  unfold cfgRefuse
  dsimp only
  split
  · exact hw _ _ _
  · exact (hw _ _ _).trans (hw _ _ _)

theorem ghRefuse_word (m : Master) (k a : Nat) (s : State) (b : Nat) (h1 : b ≠ A.GH_DENY)
    (h2 : b ≠ A.GH_DENYCNT) : (ghRefuse m k a s).word b = s.word b := by
  unfold ghRefuse
  dsimp only
  split
  · exact State.word_p_ne s _ _ b h2
  · exact (State.word_setWord_ne _ _ _ _ h1).trans (State.word_p_ne s _ _ b h2)

theorem ghRefuse_keep {β : Type} (π : State → β) (hw : ∀ s a w, π (State.setWord s a w) = π s) (m : Master)
    (k a : Nat) (s : State) : π (ghRefuse m k a s) = π s := by
  unfold ghRefuse
  dsimp only
  split
  · exact hw _ _ _
  · exact (hw _ _ _).trans (hw _ _ _)

/-! ### The event router (R340, R374, R378) -/

theorem plateTrigger_keep {β : Type} (π : State → β) (hw : ∀ s a w, π (State.setWord s a w) = π s)
    (hm : ∀ s p f, π (State.modPl s p f) = π s) (p : Fin 4) (s : State) : π (plateTrigger p s) = π s := by
  unfold plateTrigger
  dsimp only
  split
  · exact (hw _ _ _).trans ((hw _ _ _).trans ((hw _ _ _).trans ((hw _ _ _).trans ((hw _ _ _).trans (hm _ _ _)))))
  · rfl

theorem stickyEvent_keep {β : Type} (π : State → β) (hw : ∀ s a w, π (State.setWord s a w) = π s) (src : Nat)
    (r : Bool) (s : State) : π (stickyEvent src r s) = π s := by
  refine forAll_keep π _ (fun s i => ?_) s
  split
  · exact hw _ _ _
  · rfl

theorem plateEvent_keep {β : Type} (π : State → β) (hw : ∀ s a w, π (State.setWord s a w) = π s)
    (hm : ∀ s p f, π (State.modPl s p f) = π s) (src : Nat) (r : Bool) (s : State) : π (plateEvent src r s) = π s := by
  refine forAll_keep π _ (fun s p => ?_) s
  split
  · exact plateTrigger_keep π hw hm p s
  · rfl

/-- Base ticks owed to Plates change their run states alone. -/
theorem plateBase_keep {β : Type} (π : State → β) (hm : ∀ s p f, π (State.modPl s p f) = π s) (base idx : Nat)
    (s : State) : π (plateBase base idx s) = π s := by
  refine forAll_keep π _ (fun s p => ?_) s
  split
  · exact hm _ _ _
  · rfl

/-- An edge of a router source keeps all but registers and the Plates' run states. -/
theorem routerEdge_keep {β : Type} (π : State → β) (hw : ∀ s a w, π (State.setWord s a w) = π s)
    (hm : ∀ s p f, π (State.modPl s p f) = π s) (src : Nat) (r : Bool) (s : State) : π (routerEdge src r s) = π s := by
  have h := (plateEvent_keep π hw hm src r _).trans (stickyEvent_keep π hw src r s)
  unfold routerEdge
  dsimp only
  split
  · split
    · exact (plateBase_keep π hm 4 src _).trans h
    · exact h
  · rfl

theorem plateFault_keep {β : Type} (π : State → β) (hw : ∀ s a w, π (State.setWord s a w) = π s)
    (hm : ∀ s p f, π (State.modPl s p f) = π s) (c : Nat) (s : State) : π (plateFault c s) = π s := by
  refine forAll_keep π _ (fun s p => ?_) s
  split
  · exact plateTrigger_keep π hw hm p s
  · rfl

/-- Registers a router event can write: the sticky bits, and the stamps of a triggered Plate. -/
def RouterWord (a : Nat) : Prop := a = A.EV_PEND ∨ ∃ p : Fin 4, a = A.PL_TTSLO p.val ∨ a = A.PL_TTSHI p.val

theorem plateTrigger_word (p : Fin 4) (s : State) (a : Nat) (h : ¬ RouterWord a) :
    (plateTrigger p s).word a = s.word a := by
  have h1 : a ≠ A.PL_TTSLO p.val := fun e => h (Or.inr ⟨p, Or.inl e⟩)
  have h2 : a ≠ A.PL_TTSHI p.val := fun e => h (Or.inr ⟨p, Or.inr e⟩)
  unfold plateTrigger
  dsimp only
  split
  · rw [State.word_p_ne _ _ _ a h2, State.word_p_ne _ _ _ a h2, State.pb, State.word_p_ne _ _ _ a h2, State.pb,
      State.word_p_ne _ _ _ a h2, State.word_setWord_ne _ _ _ _ h1]
    rfl
  · rfl

theorem plateFault_word (c : Nat) (s : State) (a : Nat) (h : ¬ RouterWord a) : (plateFault c s).word a = s.word a := by
  refine forAll_keep (·.word a) _ (fun s p => ?_) s
  split
  · exact plateTrigger_word p s a h
  · rfl

theorem routerEdge_word (src : Nat) (r : Bool) (s : State) (a : Nat) (h : ¬ RouterWord a) :
    (routerEdge src r s).word a = s.word a := by
  have h0 : a ≠ A.EV_PEND := fun e => h (Or.inl e)
  have h1 : (stickyEvent src r s).word a = s.word a := by
    refine forAll_keep (·.word a) _ (fun s i => ?_) s
    split
    · exact State.word_p_ne s _ _ a h0
    · rfl
  have h2 : ∀ s, (plateEvent src r s).word a = s.word a := by
    refine forAll_keep (·.word a) _ (fun s p => ?_)
    split
    · exact plateTrigger_word p s a h
    · rfl
  unfold routerEdge
  dsimp only
  split
  · split
    · rw [plateBase_keep (·.word a) (fun _ _ _ => rfl), h2, h1]
    · rw [h2, h1]
  · rfl

/-! ### Queues (R370, R372) -/

theorem markPushed_queue (q : Fin 16) (s : State) : (markPushed q s).queue = s.queue := by
  unfold markPushed
  split <;> rfl

/-- A push into a queue with room puts the entry at its end. -/
theorem qPush_room (q : Fin 16) (e : QEntry) (s : State) (h : s.room q 1 = true) :
    (qPush q e s).q q = s.q q ++ [e] := by
  have hq : ∀ s, (routerEvent (0xB0 + q.val) s).queue = s.queue :=
    fun s => routerEdge_keep (·.queue) (fun _ _ _ => rfl) (fun _ _ _ => rfl) _ _ s
  unfold qPush
  rw [if_pos h]
  unfold qAppend State.q
  rw [hq, markPushed_queue]
  exact State.setQ_same s q _

/-- A push into a full queue is a drop: it counts in DROPS and sets OVF, and no entry changes. -/
theorem qPush_full (q : Fin 16) (e : QEntry) (s : State) (h : s.room q 1 = false) :
    qPush q e s = qDrop q s := by
  unfold qPush
  rw [if_neg (by simp [h])]

/-! ### Ledger records (R332, R335) -/

/-- A write put into Q15 touches the store, the sticky bits and the Plates alone. -/
theorem q15Put_keep {β : Type} (π : State → β) (hw : ∀ s a w, π (State.setWord s a w) = π s)
    (hm : ∀ s p f, π (State.modPl s p f) = π s) (hn : ∀ (s : State) n, π { s with nv := n } = π s)
    (w : NvWrite) (s : State) : π (q15Put w s) = π s := by
  unfold q15Put
  split
  · exact (routerEdge_keep π hw hm _ _ _).trans (hn _ _)
  · exact hn _ _

theorem q15Put_word (w : NvWrite) (s : State) (a : Nat) (h : ¬ RouterWord a) : (q15Put w s).word a = s.word a := by
  unfold q15Put
  split
  · exact routerEdge_word _ _ _ a h
  · rfl

/-- A queued record touches the store, the sticky bits, the Plates, LG_INFO and Q[15].STAT alone. -/
theorem queueRecord_keep {β : Type} (π : State → β) (hw : ∀ s a w, π (State.setWord s a w) = π s)
    (hm : ∀ s p f, π (State.modPl s p f) = π s) (hn : ∀ (s : State) n, π { s with nv := n } = π s)
    (r : LedgerRec) (pin res : Bool) (s : State) : π (queueRecord r pin res s) = π s := by
  unfold queueRecord
  split
  · exact hn _ _
  · split
    · exact (hw _ _ _).trans ((hw _ _ _).trans ((hw _ _ _).trans (hn _ _)))
    · exact (q15Put_keep π hw hm hn _ _).trans (hn _ _)

theorem queueRecord_word (r : LedgerRec) (pin res : Bool) (s : State) (a : Nat) (h : ¬ RouterWord a)
    (hl : a ≠ A.LG_INFO) (hq : a ≠ A.Q_STAT 15) : (queueRecord r pin res s).word a = s.word a := by
  unfold queueRecord
  split
  · rfl
  · split
    · exact (State.word_p_ne _ _ _ a hq).trans ((State.word_p_ne _ _ _ a hq).trans (State.word_p_ne _ _ _ a hl))
    · exact q15Put_word _ _ a h

end Sys2Proof.Machine
end

