-- ==== Sys2Proof/Laws/Fault.lean ====
section
/-!
SUPPORT. What a report of the fault manager leaves: FM_STATUS names the fault, and FPEND is set where its class reaches
FPMIN (R294, R295).
-/

namespace Sys2Proof.Machine

theorem latchScope_regs (k : Option (Fin 8)) (a b c d : Nat) (s : State) : (latchScope k a b c d s).regs = s.regs := by
  unfold latchScope
  split
  · rfl
  · exact forAll_keep (·.regs) (fun s k => latchRail k a b c d s) (fun _ _ => rfl) s

theorem latchFid_word (fid : Nat) (k : Option (Fin 8)) (s : State) (a : Nat) : (latchFid fid k s).word a = s.word a := by
  have h : (latchFid fid k s).regs = s.regs := by
    unfold latchFid
    split <;> first | exact latchScope_regs _ _ _ _ _ s | rfl
  unfold State.word
  rw [h]

theorem fmStatus_not_router : ¬ RouterWord A.FM_STATUS := by
  rintro (h | ⟨p, h | h⟩)
  · exact absurd h (by norm_num [A.FM_STATUS, A.EV_PEND])
  · simp only [A.FM_STATUS, A.PL_TTSLO] at h; omega
  · simp only [A.FM_STATUS, A.PL_TTSHI] at h; omega

/-- The word of FM_STATUS after a report, before the queues' own effects on it, which there are none. -/
theorem report_fmStatus (e : FmEvent) (c : Nat) (perm : Bool) (s : State) :
    (report e c perm s).word A.FM_STATUS =
      (let s2 := ((qPush 11 (s.reportEntry e c perm) s).p F.FM_STATUS_LASTFID e.fid).p F.FM_STATUS_LASTCLS c
       if s2.g F.FM_CTL_FPMIN ≤ c then s2.pb F.FM_STATUS_FPEND true else s2).word A.FM_STATUS := by
  unfold report
  dsimp only
  have hph : ∀ n : Fin 48, A.FM_STATUS ≠ (F.FM_PH_STAT_LASTFID n.val).addr := by
    intro n; simp only [F.FM_PH_STAT_LASTFID, A.FM_STATUS, A.FM_PH_STAT]; omega
  rw [plateFault_word _ _ _ fmStatus_not_router]
  unfold routerEvent
  rw [routerEdge_word _ _ _ _ fmStatus_not_router,
    queueRecord_word _ _ _ _ _ fmStatus_not_router (by norm_num [A.FM_STATUS, A.LG_INFO])
      (by norm_num [A.FM_STATUS, A.Q_STAT]), latchFid_word]
  split
  · rw [State.word_p_ne _ _ _ _ (hph _)]
  · rfl

/-- LASTFID of a report is the event's FID. -/
theorem report_lastfid (e : FmEvent) (c : Nat) (perm : Bool) (s : State) :
    (report e c perm s).g F.FM_STATUS_LASTFID = e.fid % 256 := by
  unfold State.g
  show getBits ((report e c perm s).word A.FM_STATUS) _ _ = _
  rw [report_fmStatus]
  dsimp only
  have h1 : ∀ x : State, (x.p F.FM_STATUS_LASTFID e.fid).g F.FM_STATUS_LASTFID = e.fid % 256 :=
    fun x => State.g_p x F.FM_STATUS_LASTFID e.fid (by decide)
  have h2 : ∀ x : State, (x.p F.FM_STATUS_LASTCLS c).g F.FM_STATUS_LASTFID = x.g F.FM_STATUS_LASTFID :=
    fun x => State.g_p_apart x F.FM_STATUS_LASTCLS F.FM_STATUS_LASTFID c (by decide) (by decide)
  have h3 : ∀ x : State, (x.pb F.FM_STATUS_FPEND true).g F.FM_STATUS_LASTFID = x.g F.FM_STATUS_LASTFID :=
    fun x => State.g_p_apart x F.FM_STATUS_FPEND F.FM_STATUS_LASTFID 1 (by decide) (by decide)
  split
  · exact (h3 _).trans ((h2 _).trans (h1 _))
  · exact (h2 _).trans (h1 _)

theorem updateDev_fmStatus (s : State) : (updateDev s).g F.FM_STATUS_LASTFID = s.g F.FM_STATUS_LASTFID :=
  updateDev_keep (·.g F.FM_STATUS_LASTFID) (fun _ _ _ => rfl) s

/-- After an event that names no channel, LASTFID is its FID. -/
theorem raise_lastfid (e : FmEvent) (s : State) (h : e.chan = none) :
    (raise e s).g F.FM_STATUS_LASTFID = e.fid % 256 := by
  unfold raise
  simp only [h, Bool.false_and, Bool.false_eq_true, if_false]
  rw [updateDev_fmStatus, report_lastfid]

theorem raiseRail_lastfid (fid : Nat) (k : Fin 8) (s : State) :
    (raiseRail fid k s).g F.FM_STATUS_LASTFID = fid % 256 := raise_lastfid _ s rfl

theorem raiseDev_lastfid (fid : Nat) (s : State) : (raiseDev fid s).g F.FM_STATUS_LASTFID = fid % 256 :=
  raise_lastfid _ s rfl

end Sys2Proof.Machine
end

