-- ==== Sys2Proof/Laws/Instants.lean ====
section
/-!
SUPPORT. The small facts of the operations that work with instants, of a read of the MRAM, and of Plate ticks (R27, R118, R329, R338).
-/

namespace Sys2Proof.Machine

/-- Noting a change of what a phase counts as touches that phase's record alone. -/
theorem noting_keep {β : Type} (π : State → β) (hp : ∀ s n f, π (State.modPh s n f) = π s) (n : Fin 48)
    (f : State → State) (s : State) : π (noting n f s) = π (f s) := by
  unfold noting
  dsimp only
  split
  · rfl
  · exact hp _ _ _

/-- A level that has not changed is the one a boundary acts on. -/
@[simp] theorem levelAt_nil (s : State) (now : Bool) : s.levelAt now [] = now := rfl

/-- Where every change kept came before the window, the present level is the one a boundary acts on. -/
theorem levelAt_settled (s : State) (now : Bool) (l : List (Nat × Bool)) (h : ∀ x ∈ l, s.beforeWindow x.1 = true) :
    s.levelAt now l = now := by
  have e : l.filter (fun x => !s.beforeWindow x.1) = [] := by
    simpa [List.filter_eq_nil_iff] using fun a b m => h (a, b) m
  unfold State.levelAt
  rw [e]
  rfl

/-- No change, nothing noted. -/
@[simp] theorem noteLevel_same (s : State) (b : Bool) (l : List (Nat × Bool)) : s.noteLevel b b l = l := by
  simp [State.noteLevel]

/-- A read that corrects nothing changes nothing. -/
@[simp] theorem correctWords_nil (b : Nat) (s : State) : correctWords b [] s = s := rfl

/-- A read of the MRAM that finds nothing changes nothing. -/
@[simp] theorem readArea_clean (b : Nat) (s : State) : readArea b ⟨[], []⟩ s = s := rfl

/-- A tick that no base owes is none of the Plate, whose base is not the frame. -/
theorem plateTick_unowed (p : Fin 4) (s : State) (h : s.g (F.PL_CTL_BASE p.val) ≠ 1) (o : (vget s.plate p).owed = 0) :
    plateTick p s = s := by
  unfold plateTick
  rw [if_neg h, if_pos o]

end Sys2Proof.Machine
end

