-- ==== Sys2Proof/WellFormed.lean ====
section
/-!
DEFINITION. Which commands are well formed: the conditions on their operands that the operand types do not carry.
-/

namespace Sys2Proof

/-- The channels of a bank of strike counters: phases, comparators, current converters, lanes, PLLs (R289). -/
def bankSize (t : Fin 5) : Nat :=
  match t with
  | 0 => 48 | 1 => 128 | 2 => 7 | 3 => 5 | _ => 2

/-- A result with which a transaction of HPB ends on the bus (HPM_STATUS.MRES); loss of arbitration has its own command. -/
def resultCode (r : Nat) : Bool := r == 1 || r == 2 || r == 3 || r == 5 || r == 6 || r == 7

/-- The command is well formed: a register address is aligned (R394), a channel stands in its bank, an
error-converter input is a number of volts the inputs can carry, an unsupported command code is none of F0h to F2h (R349), a
PMBus command that may be read or written takes a data byte only as a write (R361), and a master transaction ends with a
result of its own and at most eight bytes and a PEC (R364). -/
def Instr.wellFormed (i : Instr) : Bool :=
  match i with
  | .supplyGood .. => true
  | .supplyLoss .. => true
  | .resetAssert => true
  | .resetRelease .. => true
  | .vaonPowerOn .. => true
  | .vaonLoss => true
  | .viohLoss => true
  | .viohGood .. => true
  | .violLoss => true
  | .violGood => true
  | .hvinLoss => true
  | .boot .. => true
  | .sleep .. => true
  | .safeExit .. => true
  | .addressMatchWake .. => true
  | .referenceLoss => true
  | .pllLoss => true
  | .pllRelock => true
  | .pllRelockTimeout => true
  | .boundaryWindow _ w => w.convs.all fun x => decide (-32768 ≤ x) && decide (x < 32768)
  | .railov .. => true
  | .railuv .. => true
  | .followerr .. => true
  | .pgAssert .. => true
  | .pgDeassert .. => true
  | .laneSlot .. => true
  | .laneSelfTest .. => true
  | .laneMoveCopyDone .. => true
  | .graphStoreScrub .. => true
  | .coastExpiry .. => true
  | .vinffUpdate .. => true
  | .rippleStep .. => true
  | .launchDemand .. => true
  | .blankingEnd .. => true
  | .overlapRelease .. => true
  | .launch .. => true
  | .launchDelayEnd .. => true
  | .periodBoundary .. => true
  | .idleBoundary .. => true
  | .onTimeEnd .. => true
  | .deadTimeEnd .. => true
  | .zeroCurrentCrossing .. => true
  | .cycleCut .. => true
  | .tripLatch .. => true
  | .tripPin .. => true
  | .phaseLatchClear .. => true
  | .shlockTimeout .. => true
  | .synciEdge .. => true
  | .syncReferenceTick => true
  | .syncHoldover => true
  | .stageWakeDone .. => true
  | .sequenceBoundary .. => true
  | .forcedSequenceBoundary .. => true
  | .forecastWindowOpen .. => true
  | .forecastWindowClose .. => true
  | .startDelayExpiry .. => true
  | .wakeExpiry .. => true
  | .stopDelayExpiry .. => true
  | .startProgressCheck .. => true
  | .enPinChange .. => true
  | .railVsetWrite .. => true
  | .railOnWrite .. => true
  | .seqgrpGenWrite .. => true
  | .hiccupRetry .. => true
  | .hiccupCountClear .. => true
  | .safeStopTimeout .. => true
  | .phaseHoldoffEnd .. => true
  | .comparatorCrossing .. => true
  | .ochic .. => true
  | .phoc .. => true
  | .cmpArm .. => true
  | .cmpArmed .. => true
  | .cmpDisarm .. => true
  | .cmpLatchClear .. => true
  | .comparatorCheck .. => true
  | .comparatorSubstitution .. => true
  | .icCrosscheck .. => true
  | .converterSubstitution .. => true
  | .strikeDecay t i => decide (i.val < bankSize t)
  | .ots .. => true
  | .openPhase .. => true
  | .blindDeclared .. => true
  | .ringRewrite .. => true
  | .wearUpdate => true
  | .healthSave => true
  | .retire .. => true
  | .test .. => true
  | .endtest .. => true
  | .phaseTestEnd .. => true
  | .horizonTimeout .. => true
  | .ephemerisPeriodTimeout .. => true
  | .ephemerisPeriodEdge .. => true
  | .ephemerisClear .. => true
  | .ping .. => true
  | .negotiate .. => true
  | .clralert .. => true
  | .gett .. => true
  | .getstat .. => true
  | .getv .. => true
  | .geti .. => true
  | .setv .. => true
  | .setvSlew .. => true
  | .marginCommand .. => true
  | .marginReport .. => true
  | .forecast .. => true
  | .period .. => true
  | .powerstate .. => true
  | .unknownOp .. => true
  | .crcError .. => true
  | .linkFrameError .. => true
  | .linkClockTimeout .. => true
  | .porterModelStep => true
  | .feedPresent .. => true
  | .feedAbsent .. => true
  | .feedReverseOff .. => true
  | .feedGateOn .. => true
  | .insertionDebounceEnd => true
  | .inrushto => true
  | .fetshort => true
  | .retryWaitEnd => true
  | .retryCountClear => true
  | .hostoff .. => true
  | .clrlatch .. => true
  | .npGateFault .. => true
  | .pfwRelease => true
  | .converterFrame .. => true
  | .secsIncrement => true
  | .telemetryPeriod => true
  | .efficiencyWindow => true
  | .nvRecordWrite .. => true
  | .scrubPassStart => true
  | .scrubSector .. => true
  | .ledgerRead .. => true
  | .ledgerReadDone => true
  | .pinrel .. => true
  | .hnvDataAccess .. => true
  | .plateArm .. => true
  | .plateStop .. => true
  | .trignow .. => true
  | .plateTick .. => true
  | .plateExport .. => true
  | .plateExportResume => true
  | .extendedWrite .. => true
  | .extendedRead .. => true
  | .queuePush .. => true
  | .queuePop .. => true
  | .qflush .. => true
  | .unkcmd _ code => !(decide (0xF0 ≤ code.toNat) && decide (code.toNat ≤ 0xF2))
  | .page _ w e => w.isSome || e != .call
  | .operation _ w e => w.isSome || e != .call
  | .onOffConfig .. => true
  | .clearFaults .. => true
  | .capability .. => true
  | .voutMode .. => true
  | .voutCommand _ w e => w.isSome || e != .call
  | .voutMax _ w e => w.isSome || e != .call
  | .voutTransitionRate _ w e => w.isSome || e != .call
  | .voutDroop _ w e => w.isSome || e != .call
  | .statusByte .. => true
  | .statusWord .. => true
  | .statusVout .. => true
  | .statusIout .. => true
  | .statusInput .. => true
  | .statusTemperature .. => true
  | .statusCml .. => true
  | .readVin .. => true
  | .readIin .. => true
  | .readVout .. => true
  | .readIout .. => true
  | .readTemperature1 .. => true
  | .readTemperature2 .. => true
  | .readPout .. => true
  | .readPin .. => true
  | .pmbusRevision .. => true
  | .mfrId .. => true
  | .mfrModel .. => true
  | .mfrRevision .. => true
  | .stretchTimeout .. => true
  | .smbusTimeout .. => true
  | .busError .. => true
  | .alertResponse .. => true
  | .masterGo .. => true
  | .arbitrationLost => true
  | .masterRetry => true
  | .openCmd .. => true
  | .imgWdataWrite .. => true
  | .verify .. => true
  | .verifyDone => true
  | .commit .. => true
  | .accept .. => true
  | .abort .. => true
  | .groupQuery .. => true
  | .groupCommit .. => true
  | .groupAbort .. => true
  | .request .. => true
  | .submit .. => true
  | .endCmd .. => true
  | .nonceLapse => true
  | .sessionExpiry => true
  | .lockoutEnd => true
  | .ghLockWrite .. => true
  | .keyWrite .. => true
  | .bypass => true
  | .idcode => true
  | .samplePreload => true
  | .extest => true
  | .capture .. => true
  | .tbCountLoRead .. => true
  | .tbSecmarkLoRead .. => true
  | .energyLoRead .. => true
  | .capTshiRead .. => true
  | .registerWrite m a _ _ => a.toNat % 4 == 0 || m == .dbg
  | .hvinGood => true
  | .nightPorterInrushOn => true
  | .masterTransactionEnd res nackIdx rx => resultCode res.toNat && decide (rx.length ≤ 9) && decide (nackIdx.toNat ≤ 8)
  | .forecastDue .. => true
  | .readWithoutCommand .. => true
  | .dbgRead .. => true

end Sys2Proof
end

