-- ==== Sys2Proof/Tests/Slice0.lean ====
section
/-!
SUPPORT. The model's own tests: ill-formed commands refused by WellFormed, worked examples of the spec, and for every
statement with hypotheses states and operands that meet them together, one for each of its clauses.
-/

open Sys2Proof Sys2Proof.Machine

set_option Elab.async false

namespace Sys2Proof.Tests

/-- The state after reset, in another device state. -/
def dv (d : DevState) : State := { State.reset with dev := d }

/-- STANDBY. -/
def std : State := dv .standby

/-- OFF, every condition of BOOT met. -/
def off : State := dv .off

/-- Phase n active of rail 0, in launched mode. -/
def act (n : Fin 48) (s : State) : State :=
  (((s.modRl n fun r => { r with role := .active }).pb (F.PHASE_ASSIGN_ASGN n.val) true).p (F.PHASE_ASSIGN_RAIL n.val) 0).p
    (F.PHASE_CTL_MODE n.val) 1

/-- Rail 0 in a sequencing state. -/
def seq (st : SeqState) (s : State) : State := s.modTr 0 fun t => { t with st := st }

/-- RUN with rail 0 in ON, phases 0 and 1 in its ring and awake. -/
def run : State :=
  let s := act 1 (act 0 (seq .on (dv .run)))
  let s1 := (s.p (F.RAIL_SEQ_RINGLEN 0) 2).setWord (A.RAIL_RING 0 0) 0x0100
  ({ s1 with sup := { s1.sup with groupAwake := .replicate 6 true } }.p (F.RAIL_MSTAT_EFFMODE 0) 1).p (F.RAIL_SPACE_MAXOVL 0) 2

/-- Phase 0 of that state at an output level. -/
def ph (f : PhaseState → PhaseState) (s : State) : State := s.modPh 0 f

/-- Rail 0's modulator changed. -/
def md (f : ModState → ModState) (s : State) : State := s.modMd 0 f

/-- Feed A present. -/
def fed (s : State) : State := { s with np := { s.np with watch := vset s.np.watch 0 true } }

/-- Feed B present. -/
def fed2 (s : State) : State := { s with np := { s.np with watch := vset s.np.watch 1 true } }

/-- The Porter in charge. -/
def charge (s : State) : State := { s with pt := { s.pt with inCharge := true } }

/-- Link port 0 on, endpoint 0 bound with slot 0 to rail 0, version 2. -/
def link (s : State) : State :=
  let s1 := (s.pb (F.LNK_CTL_PEN 0) true).p (F.LNK_STATUS_VER 0) 2
  (s1.setWord (A.LNK_EP_BIND 0 0) 0x01000000).pb (F.LNK_EP_BIND_EPEN 0 0) true

/-- A frame to endpoint 0, slot 0. -/
def fr (arg : BitVec 8) (data : BitVec 16) : Frame := ⟨0, 0, 5, arg, data⟩

/-- Host port 0 on, without PEC, serving PMBus. -/
def hp (s : State) : State := ((s.pb (F.HP_CTL_EN 0) true).pb (F.HP_CTL_PECEN 0) false).pb (F.HP_CTL_PMBEN 0) true

/-- A queue entry. -/
def qe : QEntry := ⟨1, 2, 3⟩

/-- A Ledger record. -/
def lr (n : Nat) : LedgerRec := ⟨n, 1, false, false, 2, 0, 0, 0, 0, 0, [], []⟩

/-- Comparator c armed for its function. -/
def arm (c : Nat) (s : State) : State := (s.pb (F.CMP_CTL_ARM c) true).pb (F.CMP_STATUS_ARMED c) true

/-- Rail 0 with a graph of one OUT stage, placed on a lane, with one ring entry. -/
def graphed (s : State) : State :=
  let s1 := (s.p (F.RAIL_SEQ_RINGLEN 0) 1).p (F.GRAPH_HDR_OUTERCYC 0) 16
  (((s1.p (F.GRAPH_STG_DESC_TYPE 0 0) 0xA).p (F.GRAPH_STG_DESC_SRCA 0 0) 0x10).p (F.GRAPH_STG_DESC_SRCB 0 0) 0x19).modGr 0
    fun g => { g with place := some (0, false) }

/-- Rail 0 with a graph of a SUM stage and an OUT stage, its scale past the pair. -/
def graphed2 (s : State) : State :=
  let s1 := (s.p (F.GRAPH_HDR_NSTAGE 0) 1).setWord (A.GRAPH_STG_DESC 0 0) 0x12100000
  (s1.setWord (A.GRAPH_STG_DESC 0 1) 0xa0190000)

/-- Rail 0 coasting. -/
def coasting (s : State) : State := s.pb (F.GRAPH_STATUS_COASTING 0) true

/-- Port 0 with a write of a command code open. -/
def opened (code : Byte) (l : List Byte) (s : State) : State := s.modHp 0 fun h => { h with part := some ⟨code, l, false⟩ }

/-- An image of no records in slot A, preferred; BOOT entered. -/
def imaged : State :=
  let sl := { Slot.reset with preferred := true, bytes := [(0, 0x4F), (1, 0x4C), (2, 0x4A), (3, 0x4E), (4, 0x01), (6, 0x40),
    (8, 0xB0), (9, 0x25), (12, 0x70), (16, 0x01), (22, 0x01), (60, 0x10), (61, 0x44), (62, 0x92), (63, 0xB8), (64, 0x01),
    (68, 0x04), (76, 0xC0), (77, 0x09), (78, 0x54), (79, 0xF3)] }
  { dv .boot with img := { State.reset.img with slots := .replicate 2 sl } }

/-- The currents of a period without a conversion. -/
def noCurrents : CurrentIn :=
  ⟨[], [], .replicate 48 0, .replicate 48 false, .replicate 6 none, .replicate 48 0, .replicate 48 0, 0, 0, 0, 0, 0, 0, 0⟩

/-- A verdict that lets a write through is no refusal of the Gatehouse. -/
theorem not_gate {v : Verdict} (h : v = .ok) : ∀ k, v ≠ .gate k := by
  intro k e; rw [h] at e; cases e

/-- HPA may read every block after reset (R379). -/
theorem reads_granted : ∀ a, (hp std).gateRead (hostMaster 0) a = none := by
  intro a
  have h : ∀ t < 32, (hp std).granted (hostMaster 0) t false = true := by decide +kernel
  have g : (hp std).granted (hostMaster 0) (a / 65536) false = true := by
    by_cases c : a / 65536 < 32
    · exact h _ c
    · have d : 32 ≤ a / 65536 := by omega
      show (if 32 ≤ a / 65536 then true else _) = true
      simp [d]
  unfold State.gateRead
  simp [g]

/-! ### Ill-formed commands -/

/-- Every check of WellFormed refuses a command that fails it. -/
theorem test_ill_formed :
    Instr.wellFormed (.boundaryWindow 0 ⟨5, [32768], .replicate 48 [], false⟩) = false
    ∧ Instr.wellFormed (.page 0 none .call) = false
    ∧ Instr.wellFormed (.strikeDecay 4 2) = false
    ∧ Instr.wellFormed (.unkcmd 0 0xF1) = false
    ∧ Instr.wellFormed (.registerWrite .hpa 2 0 false) = false
    ∧ Instr.wellFormed (.masterTransactionEnd 4 0 []) = false
    ∧ Instr.wellFormed (.masterTransactionEnd 1 9 []) = false
    ∧ Instr.wellFormed (.masterTransactionEnd 1 0 (.replicate 10 0)) = false := by decide

/-- And passes one that does not. -/
theorem test_well_formed :
    Instr.wellFormed (.boundaryWindow 0 ⟨5, [-32768, 32767], .replicate 48 [], true⟩) = true
    ∧ Instr.wellFormed (.page 0 none (.early 1)) = true ∧ Instr.wellFormed (.strikeDecay 4 1) = true
    ∧ Instr.wellFormed (.unkcmd 0 0xF3) = true ∧ Instr.wellFormed (.registerWrite .hpa 4 0 true) = true
    ∧ Instr.wellFormed (.masterTransactionEnd 1 8 (.replicate 9 0)) = true := by decide

/-! ### Worked examples of the spec -/

/-- The four CRCs of the worked example of 09_fjovy_link.md: SETV and FORECAST, each with its response. -/
theorem test_link_crcs :
    frameCrc 0x10 ⟨1, 0, 5, 0x00, 0x1D4C⟩ = 0x8C ∧ (makeResponse 1 5 0x0100).crc = 0x56
    ∧ frameCrc 0x1C ⟨1, 0, 6, 0x14, 0x0258⟩ = 0xE1 ∧ (makeResponse 0 6 0x0000).crc = 0x4D := by decide +kernel

/-- The check value of R69: the nine bytes "123456789". -/
theorem test_crc32 : crc32 [0x31, 0x32, 0x33, 0x34, 0x35, 0x36, 0x37, 0x38, 0x39] = 0xCBF43926 := by decide +kernel

/-- The examples of R362: 1.0000 V, 1,200 A, and a transition rate of F828h. -/
theorem test_pmbus_formats :
    ulinearWord 10000 = 0x2000 ∧ linWord (1200 * 64) 64 = 0x0A58 ∧ linValue 0xF828 100 = 2000 := by decide +kernel

/-! ### Responses of an unlock (R384, R385): the part's serial number and nonce are open, so their bytes are never evaluated -/

theorem leBytes_length (n x : Nat) : (leBytes n x).length = n := by
  induction n generalizing x with
  | zero => rfl
  | succ n ih => simp [leBytes, ih]

theorem shaBlocks_length (n : Nat) (hs : List (BitVec 32)) (m : List Byte) (h : hs.length = 8) :
    (shaBlocks n hs m).length = 8 := by
  induction n generalizing hs m with
  | zero => exact h
  | succ n ih => exact ih _ _ (by simp [shaBlock])

theorem sha256_length (m : List Byte) : (sha256 m).length = 32 := by
  have h : ∀ l : List (BitVec 32), (l.flatMap fun w => beBytes 4 w.toNat).length = 4 * l.length := by
    intro l
    induction l with
    | nil => rfl
    | cons a l ih => rw [List.flatMap_cons, List.length_append, ih, beBytes, List.length_reverse, leBytes_length,
        List.length_cons]; omega
  have e := h (shaBlocks ((m ++ [0x80] ++ List.replicate ((119 - m.length % 64) % 64) 0 ++ beBytes 8 (8 * m.length)).length / 64)
    shaInit (m ++ [0x80] ++ List.replicate ((119 - m.length % 64) % 64) 0 ++ beBytes 8 (8 * m.length)))
  rw [shaBlocks_length _ _ _ rfl] at e
  exact e

theorem word_bytes (a b c d : Byte) :
    leBytes 4 (BitVec.ofNat 32 (a.toNat + 256 * b.toNat + 65536 * c.toNat + 16777216 * d.toNat)).toNat = [a, b, c, d] := by
  have ha := a.isLt; have hb := b.isLt; have hc := c.isLt; have hd := d.isLt
  simp only [leBytes, BitVec.toNat_ofNat, List.cons.injEq, and_true]
  refine ⟨?_, ?_, ?_, ?_⟩ <;> apply BitVec.eq_of_toNat_eq <;> simp only [BitVec.toNat_ofNat] <;> omega

/-- Four words spell any sixteen bytes. -/
theorem words_spell (l : List Byte) (h : l.length = 16) :
    ∃ v : Vector Word 4, (v.toList.flatMap fun w => leBytes 4 w.toNat) = l := by
  match l, h with
  | [a0, a1, a2, a3, b0, b1, b2, b3, c0, c1, c2, c3, d0, d1, d2, d3], _ =>
    refine ⟨#v[BitVec.ofNat 32 (a0.toNat + 256 * a1.toNat + 65536 * a2.toNat + 16777216 * a3.toNat),
      BitVec.ofNat 32 (b0.toNat + 256 * b1.toNat + 65536 * b2.toNat + 16777216 * b3.toNat),
      BitVec.ofNat 32 (c0.toNat + 256 * c1.toNat + 65536 * c2.toNat + 16777216 * c3.toNat),
      BitVec.ofNat 32 (d0.toNat + 256 * d1.toNat + 65536 * d2.toNat + 16777216 * d3.toNat)], ?_⟩
    have e := word_bytes
    simp only [Vector.toList_mk, List.flatMap_cons, List.flatMap_nil, word_bytes]
    rfl

/-- A nonce of SUP and an unlock key, with a response in GH_RESP. -/
def asked (v : Vector Word 4) : State :=
  { std with gate := { std.gate with
      nonce := some ⟨0, .sup, 4, 1⟩, resp := v,
      bank := { std.gate.bank with keys := vset (.replicate 5 none) 4 (some 1) } } }

/-- The response expected does not depend on the one written. -/
theorem expected_asked (v w : Vector Word 4) (n : Nonce) (k : BitVec 256) :
    expectedResponse (asked v) n k = expectedResponse (asked w) n k := by
  unfold expectedResponse; congr 1

/-- Some response matches. -/
theorem response_matches : ∃ v, (asked v).response = expectedResponse (asked v) ⟨0, .sup, 4, 1⟩ 1 := by
  obtain ⟨v, hv⟩ := words_spell (expectedResponse (asked (.replicate 4 0)) ⟨0, .sup, 4, 1⟩ 1) (by
    unfold expectedResponse hmacSha256; simp [sha256_length])
  exact ⟨v, hv.trans (expected_asked _ _ _ _)⟩

/-- And some response does not. -/
theorem response_differs : ∃ v, (asked v).response ≠ expectedResponse (asked v) ⟨0, .sup, 4, 1⟩ 1 := by
  by_cases h : (asked (.replicate 4 0)).response = expectedResponse (asked (.replicate 4 0)) ⟨0, .sup, 4, 1⟩ 1
  · refine ⟨.replicate 4 1, fun e => ?_⟩
    have d : (asked (.replicate 4 1)).response ≠ (asked (.replicate 4 0)).response := by decide +kernel
    exact d (e.trans ((expected_asked _ _ _ _).trans h.symm))
  · exact ⟨_, h⟩

/-- A write of SUBMIT is let through whatever the response. -/
theorem submit_judged (v : Vector Word 4) : judge .sup A.GH_CHAL ((asked v).withField F.GH_CHAL_CMD 2) (asked v) = .ok := by
  have h : judge .sup A.GH_CHAL ((asked (.replicate 4 0)).withField F.GH_CHAL_CMD 2) (asked (.replicate 4 0)) = .ok := by
    decide +kernel
  exact h

/-! ### What meets the hypotheses of each statement -/

theorem test_witness_StepRunsFrontCommand :
    (∃ (s : State) (c : Instr) (rest : List Instr), s.pending = c :: rest) :=
  ⟨{ std with pending := [.hvinLoss] }, .hvinLoss, [], by decide +kernel⟩

theorem test_witness_IdleStepTicks :
    (∃ (s : State), s.pending = []) :=
  ⟨std, by decide +kernel⟩

theorem test_witness_StepsKeepSettled :
    (∃ (s : State) (t : State), (s.pending = [] → Settled s) ∧ step s = .next t) :=
  ⟨std, { std with tb := 1 }, ⟨fun _ => by unfold Settled; decide +kernel, rfl⟩⟩

theorem test_witness_RefusalsAreCounted :
    (∃ (a : Nat), a < 2 ^ 24)
    ∧ (∃ (s : State), s.dev = .safe ∧ s.faultActive = true)
    ∧ (∃ (m : Master) (w : Word) (s : State), judge m A.CFGERR w s = .ok ∧ getBits w 31 1 = 1) :=
  ⟨⟨20, by decide +kernel⟩,
   ⟨dv .safe, by decide +kernel⟩,
   ⟨.sup, 0x80000000, std, by decide +kernel⟩⟩

theorem test_witness_LossesEnterOff :
    (∃ (s : State), s.dev ≠ .off)
    ∧ (∃ (s : State), s.dev ≠ .off)
    ∧ (∃ (s : State), s.dev ≠ .off)
    ∧ (∃ (s : State), s.dev = .off)
    ∧ (∃ (s : State), s.dev = .off)
    ∧ (∃ (s : State), s.dev = .off) :=
  ⟨⟨std, by decide +kernel⟩,
   ⟨run, by decide +kernel⟩,
   ⟨dv .safe, by decide +kernel⟩,
   ⟨off, by decide +kernel⟩,
   ⟨off, by decide +kernel⟩,
   ⟨off, by decide +kernel⟩⟩

theorem test_witness_OffIsLeftForBoot :
    (∃ (s : State), s.dev = .off ∧ s.sup.vaon = true ∧ s.sup.resetHigh = true ∧ s.sup.sleep = false ∧ s.sup.vdd33 = false)
    ∧ (∃ (s : State), s.dev = .off ∧ s.sup.resetHigh = false)
    ∧ (∃ (s : State), s.dev = .off ∧ s.sup.vaon = true ∧ s.sup.vcore = true ∧ s.sup.vdd33 = true ∧ s.sup.vioh = true ∧ s.sup.sleep = false)
    ∧ (∃ (s : State), s.dev = .off ∧ s.sup.vioh = false)
    ∧ (∃ (s : State), s.dev = .off ∧ s.sup.resetHigh = true ∧ s.sup.vcore = true ∧ s.sup.vdd33 = true)
    ∧ (∃ (s : State) (x : Fin 2), s.dev = .off ∧ s.sup.resetHigh = true ∧ s.sup.vcore = true ∧ s.sup.vdd33 = true ∧ s.sup.vaon = true ∧ s.sup.vioh = true ∧ s.gb (F.HP_CTL_EN x.val) = true ∧ s.sup.sleep = true ∧ s.sup.wake = none)
    ∧ (∃ (s : State) (x : Fin 2), (s.dev ≠ .off ∨ s.sup.vcore = false ∨ s.sup.vdd33 = false ∨ s.sup.vioh = false ∨ s.gb (F.HP_CTL_EN x.val) = false)) :=
  ⟨⟨{ off with sup := { off.sup with vcore := false, vdd33 := false } }, by decide +kernel⟩,
   ⟨{ off with sup := { off.sup with resetHigh := false } }, by decide +kernel⟩,
   ⟨{ off with sup := { off.sup with resetHigh := false } }, by decide +kernel⟩,
   ⟨{ off with sup := { off.sup with vioh := false, resetHigh := false } }, by decide +kernel⟩,
   ⟨{ off with sup := { off.sup with vaon := false } }, by decide +kernel⟩,
   ⟨{ off with sup := { off.sup with sleep := true } }, 1, by decide +kernel⟩,
   ⟨std, 0, by decide +kernel⟩⟩

theorem test_witness_PinSuppliesAct :
    (∃ (s : State), s.core = true ∧ s.sup.vioh = true)
    ∧ (∃ (s : State), s.core = true)
    ∧ (∃ (s : State), s.core = true ∧ s.sup.viol = true)
    ∧ (∃ (s : State), s.core = true ∧ s.sup.viol = false)
    ∧ (∃ (s : State), s.core = true)
    ∧ (∃ (s : State), s.core = true ∧ s.sup.vioh = true)
    ∧ (∃ (s : State), s.sup.vioh = false)
    ∧ (∃ (s : State) (k : Fin 8), s.dev = .off ∧ s.sup.vioh = true ∧ s.sup.sleep = true ∧ s.sup.wake = none ∧ vget s.sup.en k = false ∧ s.sup.vcore = true ∧ s.sup.vdd33 = true ∧ s.sup.vaon = true ∧ s.sup.resetHigh = true) :=
  ⟨⟨std, by decide +kernel⟩,
   ⟨{ std with sup := { std.sup with vioh := false, addrWait := true } }, by decide +kernel⟩,
   ⟨std, by decide +kernel⟩,
   ⟨{ std with sup := { std.sup with viol := false } }, by decide +kernel⟩,
   ⟨std, by decide +kernel⟩,
   ⟨std, by decide +kernel⟩,
   ⟨{ off with sup := { off.sup with vioh := false } }, by decide +kernel⟩,
   ⟨{ off with sup := { off.sup with sleep := true } }, 7, by decide +kernel⟩⟩

theorem test_witness_BootEndsInStandbyOrSafe :
    (∃ (s : State) (b : BootIn), s.dev = .boot ∧ s.nv.health.pllRetired.getLsbD 0 = false ∧ b.bootsel = true)
    ∧ (∃ (s : State) (b : BootIn), s.dev = .boot ∧ s.nv.health.pllRetired.getLsbD 0 = false ∧ b.bootsel = false ∧ (bootImage b (bootStart b s)).1.img.applied = false)
    ∧ (∃ (s : State) (b : BootIn), s.dev = .boot ∧ s.nv.health.pllRetired.getLsbD 0 = false ∧ b.calOk = false)
    ∧ (∃ (s : State) (b : BootIn), s.dev = .boot ∧ s.nv.health.pllRetired.getLsbD 0 = false ∧ b.calOk = true ∧ b.bootsel = false ∧ (bootImage b (bootStart b s)).1.img.applied = true)
    ∧ (∃ (s : State), s.dev ≠ .boot) :=
  ⟨⟨(dv .boot), ⟨.replicate 6 .paired, true, true, true, true, true, ⟨[], []⟩, ⟨[], []⟩, ⟨[], []⟩, ⟨[], []⟩, ⟨[], []⟩⟩, by decide +kernel⟩,
   ⟨(dv .boot), ⟨.replicate 6 .paired, false, true, true, true, true, ⟨[], []⟩, ⟨[], []⟩, ⟨[], []⟩, ⟨[], []⟩, ⟨[], []⟩⟩, by decide +kernel⟩,
   ⟨(dv .boot), ⟨.replicate 6 .paired, false, true, false, true, true, ⟨[], []⟩, ⟨[], []⟩, ⟨[], []⟩, ⟨[], []⟩, ⟨[], []⟩⟩, by decide +kernel⟩,
   ⟨imaged, ⟨.replicate 6 .paired, false, true, true, true, true, ⟨[], []⟩, ⟨[], []⟩, ⟨[], []⟩, ⟨[], []⟩, ⟨[], []⟩⟩, by decide +kernel⟩,
   ⟨std, by decide +kernel⟩⟩

theorem test_witness_SleepAndSafeExit :
    (∃ (s : State) (m : Master), judge m A.DEVICE_CTL 1 s = .ok ∧ s.dev = .standby)
    ∧ (∃ (s : State) (m : Master), judge m A.DEVICE_CTL 1 s = .ok ∧ s.dev ≠ .standby)
    ∧ (∃ (s : State) (m : Master), judge m A.DEVICE_CTL 2 s = .ok ∧ s.dev = .safe ∧ s.faultActive = false)
    ∧ (∃ (s : State) (m : Master), judge m A.DEVICE_CTL 2 s = .ok ∧ s.dev = .safe ∧ s.faultActive = true)
    ∧ (∃ (s : State) (m : Master), judge m A.DEVICE_CTL 2 s = .ok ∧ s.dev ≠ .safe)
    ∧ (∃ (s : State) (m : Master), s.dev ≠ .off ∧ s.dev ≠ .boot ∧ s.gateWrite m A.DEVICE_CTL false = none) :=
  ⟨⟨std, .sup, by decide +kernel⟩,
   ⟨run, .sup, by decide +kernel⟩,
   ⟨{ dv .safe with img := { State.reset.img with applied := true }, pll := ⟨.replicate 2 true, .replicate 2 false⟩ }, .sup, by decide +kernel⟩,
   ⟨dv .safe, .sup, by decide +kernel⟩,
   ⟨std, .sup, by decide +kernel⟩,
   ⟨std, .sup, by decide +kernel⟩⟩

theorem test_witness_PllChangeover :
    (∃ (s : State) (i : Fin 2), (s.dev = .standby ∨ s.dev = .run ∨ s.dev = .safe ∨ s.dev = .lockdown) ∧ s.gb F.FM_PLL_ACTIVE = (i == 1) ∧ s.pll.locked = .replicate 2 true ∧ vget s.strikes.pll i + 1 < s.g (F.FM_STRIKE_STH 4) ∧ s.chanRetired 5 i.val = false ∧ s.classOf 0x17 none < 4 ∧ (∀ k, (s.ra k).md.forcePend = false))
    ∧ (∃ (s : State) (i : Fin 2), (s.dev = .standby ∨ s.dev = .run) ∧ s.gb F.FM_PLL_ACTIVE = (i == 1) ∧ vget s.pll.locked i = true ∧ vget s.pll.locked (otherFeed i) = false ∧ s.classOf 0x17 none < 4 ∧ (∀ k, (s.ra k).md.forcePend = false))
    ∧ (∃ (s : State) (i : Fin 2), s.restarted = some i ∧ vget s.pll.locked (otherFeed i) = true)
    ∧ (∃ (s : State) (i : Fin 2), s.restarted = some i ∧ s.chanRetired 5 i.val = false)
    ∧ (∃ (s : State), s.restarted = none) :=
  ⟨⟨{ std with pll := ⟨.replicate 2 true, .replicate 2 false⟩ }, 0, by decide +kernel⟩,
   ⟨({ run with pll := ⟨#v[false, true], #v[true, false]⟩ }.pb F.FM_PLL_ACTIVE true), 1, by decide +kernel⟩,
   ⟨{ std with pll := ⟨#v[false, true], #v[true, false]⟩ }, 0, by decide +kernel⟩,
   ⟨{ std with pll := ⟨#v[true, false], #v[false, true]⟩ }, 1, by decide +kernel⟩,
   ⟨std, by decide +kernel⟩⟩

theorem test_witness_PulseEndsFollowTheGroup :
    (∃ (s : State) (n : Fin 48), s.phRuns n = true ∧ (s.ph n).out = .high ∧ (s.ph n).full = false ∧ s.paired (groupOf n.val) = false)
    ∧ (∃ (s : State) (n : Fin 48), s.phRuns n = true ∧ (s.ph n).out = .high ∧ (s.ph n).full = false ∧ s.paired (groupOf n.val) = true)
    ∧ (∃ (s : State) (n : Fin 48), s.phRuns n = false ∧ (s.ph n).out = .high)
    ∧ (∃ (s : State) (n : Fin 48), (s.ph n).out ≠ .high ∨ ((s.ph n).full = true ∧ s.phRuns n = true))
    ∧ (∃ (s : State) (n : Fin 48), s.phRuns n = true ∧ s.latched n.val = false ∧ (s.ph n).dead ≠ .none)
    ∧ (∃ (s : State) (n : Fin 48), (s.phRuns n = false ∨ s.latched n.val = true) ∧ (s.ph n).dead ≠ .none)
    ∧ (∃ (s : State) (n : Fin 48), (s.ph n).dead = .none)
    ∧ (∃ (s : State) (n : Fin 48), (s.ph n).out = .low ∧ (s.ph n).de = true ∨ (s.ph n).tail ≠ none ∧ s.servedBy (48 + n.val) < 128)
    ∧ (∃ (s : State) (n : Fin 48), 128 ≤ s.servedBy (48 + n.val)) :=
  ⟨⟨(ph (fun p => { p with out := .high }) run), 0, by decide +kernel⟩,
   ⟨(ph (fun p => { p with out := .high }) ({ run with sup := { run.sup with smod := .replicate 6 .paired } })), 0, by decide +kernel⟩,
   ⟨(ph (fun p => { p with out := .high }) std), 0, by decide +kernel⟩,
   ⟨run, 47, by decide +kernel⟩,
   ⟨(ph (fun p => { p with dead := .lh }) run), 0, by decide +kernel⟩,
   ⟨(ph (fun p => { p with dead := .hl }) std), 0, by decide +kernel⟩,
   ⟨run, 0, by decide +kernel⟩,
   ⟨(ph (fun p => { p with out := .low, de := true }) run), 0, by decide +kernel⟩,
   ⟨(run.p (F.CMP_STATUS_SERVEDBY 48) 0xFF), 0, by decide +kernel⟩⟩

theorem test_witness_BoundariesStartPulses :
    (∃ (s : State) (n : Fin 48) (t : Time), s.phRuns n = true ∧ s.mode n = 2 ∧ (s.atTime t).boundaryFalls n = true ∧ (s.ph n).boundary = [] ∧ s.isArmed 1 n.val = false ∧ (∀ x ∈ s.img.cancelled, x.commit.group = 1 → x.commit.index ≠ n.val) ∧ s.g (F.PHASE_TRIPCFG_LATCH n.val) = 0)
    ∧ (∃ (s : State) (n : Fin 48) (t : Time), s.phRuns n = true ∧ s.mode n = 2 ∧ (s.atTime t).boundaryFalls n = true ∧ (s.ph n).modeOver = none ∧ (s.ph n).boundary = [] ∧ s.isArmed 1 n.val = false ∧ (∀ x ∈ s.img.cancelled, x.commit.group = 1 → x.commit.index ≠ n.val) ∧ s.latched n.val = false ∧ s.g (F.PHASE_TRIPCFG_CUT n.val) = 0 ∧ s.g (F.PHASE_TRIPCFG_LATCH n.val) = 0 ∧ (s.ph n).tail = none ∧ s.paired (groupOf n.val) = false ∧ s.awake (groupOf n.val) = true ∧ ((s.ph n).full = true → (s.ph n).out = .high) ∧ (applyDuty s n (s.g (F.PHASE_PERIOD_PERIOD n.val)) (s.g (F.PHASE_DUTY_DUTY n.val))).1 ≠ 0)
    ∧ (∃ (s : State) (n : Fin 48) (t : Time), s.phRuns n = true ∧ s.mode n = 2 ∧ (s.atTime t).boundaryFalls n = true ∧ s.latched n.val = true ∧ s.gb (F.PHASE_CTL_AUTOCLR n.val) = false ∧ s.gb (F.PHASE_CTL_SHLOCK n.val) = true ∧ (s.ph n).shCount < 62 ∧ (s.ph n).clearPend = false ∧ (s.ph n).holdClear = false ∧ (s.ph n).tail = none ∧ (s.ph n).full = false)
    ∧ (∃ (s : State) (n : Fin 48) (t : Time), s.phRuns n = true ∧ s.mode n = 2 ∧ (s.atTime t).boundaryFalls n = true ∧ s.latched n.val = false ∧ s.gb (F.PHASE_CTL_SHLOCK n.val) = true ∧ (s.ph n).shCount < 62 ∧ s.latchTrips n ≠ 0 ∧ bitAt (s.latchTrips n) 0 = false ∧ s.classOf 6 (limRail s n <|> s.railOf n.val) ≤ 1)
    ∧ (∃ (s : State) (n : Fin 48), s.phRuns n = true ∧ s.mode n = 1 ∧ (s.ph n).started = true ∧ (s.ph n).tail = none ∧ (s.ph n).boundary = [] ∧ s.isArmed 1 n.val = false ∧ (∀ x ∈ s.img.cancelled, x.commit.group = 1 → x.commit.index ≠ n.val) ∧ s.g (F.PHASE_TRIPCFG_LATCH n.val) = 0)
    ∧ (∃ (s : State) (n : Fin 48) (t : Time), (s.phRuns n = false ∨ (s.atTime t).boundaryFalls n = false))
    ∧ (∃ (s : State) (n : Fin 48), (s.phRuns n = false ∨ (s.ph n).started = false)) :=
  ⟨⟨(run.p (F.PHASE_CTL_MODE 0) 2), 0, 5, by decide +kernel⟩,
   ⟨((((run.p (F.PHASE_TRIPCFG_CUT 0) 0).p (F.PHASE_CTL_MODE 0) 2).p (F.PHASE_PERIOD_PERIOD 0) 640).p (F.PHASE_DUTY_DUTY 0) 2048), 0, 0, by decide +kernel⟩,
   ⟨(((run.p (F.PHASE_CTL_MODE 0) 2).pb (F.PHASE_STATUS_LATCHED 0) true).pb (F.PHASE_CTL_SHLOCK 0) true), 0, 0, by decide +kernel⟩,
   ⟨(((({ run with sup := { run.sup with tripPin := .replicate 4 true } }).p (F.PHASE_TRIPCFG_LATCH 0) 8).p (F.PHASE_CTL_MODE 0) 2).pb (F.PHASE_CTL_SHLOCK 0) true), 0, 0, by decide +kernel⟩,
   ⟨(ph (fun p => { p with started := true }) run), 0, by decide +kernel⟩,
   ⟨std, 0, 7, by decide +kernel⟩,
   ⟨run, 0, by decide +kernel⟩⟩

theorem test_witness_LaunchesReachPhases :
    (∃ (s : State) (k : Fin 8) (l : Launch) (rest : List Launch), (s.ra k).md.inFlight = l :: rest ∧ (s.ra k).md.forcePend = false ∧ l.epoch ≠ (s.rl l.phase).epoch)
    ∧ (∃ (s : State) (k : Fin 8) (l : Launch) (rest : List Launch), (s.ra k).md.inFlight = l :: rest ∧ (s.ra k).md.forcePend = false ∧ l.epoch = (s.rl l.phase).epoch ∧ s.latched l.phase.val = true ∧ s.gb (F.PHASE_CTL_AUTOCLR l.phase.val) = false ∧ (s.ph l.phase).clearPend = false ∧ (s.ph l.phase).holdClear = false ∧ (s.ph l.phase).boundary = [] ∧ s.isArmed 1 l.phase.val = false ∧ (∀ x ∈ s.img.cancelled, x.commit.group = 1 → x.commit.index ≠ l.phase.val))
    ∧ (∃ (s : State) (k : Fin 8) (l : Launch) (rest : List Launch), (s.ra k).md.inFlight = l :: rest ∧ (s.ra k).md.forcePend = false ∧ l.epoch = (s.rl l.phase).epoch ∧ s.latched l.phase.val = false ∧ (s.ph l.phase).out ≠ .high ∧ (s.ph l.phase).dead ≠ .lh ∧ s.phRuns l.phase = true ∧ s.mode l.phase = 1 ∧ (s.ph l.phase).modeOver = none ∧ (s.ph l.phase).boundary = [] ∧ s.isArmed 1 l.phase.val = false ∧ (∀ x ∈ s.img.cancelled, x.commit.group = 1 → x.commit.index ≠ l.phase.val) ∧ s.g (F.PHASE_TRIPCFG_CUT l.phase.val) = 0 ∧ s.g (F.PHASE_TRIPCFG_LATCH l.phase.val) = 0 ∧ (s.ph l.phase).full = false ∧ s.paired (groupOf l.phase.val) = false ∧ (applyDuty s l.phase (s.g (F.PHASE_PERIOD_PERIOD l.phase.val)) l.onTime).1 ≠ 0)
    ∧ (∃ (s : State) (k : Fin 8), (s.ra k).md.inFlight = [])
    ∧ (∃ (s : State) (n : Fin 48) (d : Nat), (s.ph n).delayed = some d ∧ s.phRuns n = true ∧ s.latched n.val = false ∧ s.paired (groupOf n.val) = false ∧ (s.ph n).full = false ∧ (applyDuty s n (periodOf s n) d).1 ≠ 0)
    ∧ (∃ (s : State) (n : Fin 48), (s.ph n).delayed = none) :=
  ⟨⟨(((md (fun m => { m with inFlight := [⟨0, 1, 2048⟩] }) run).p (F.PHASE_PERIOD_PERIOD 0) 640)), 0, ⟨0, 1, 2048⟩, [], by decide +kernel⟩,
   ⟨(((md (fun m => { m with inFlight := [⟨0, 0, 2048⟩] }) run).p (F.PHASE_PERIOD_PERIOD 0) 640).pb (F.PHASE_STATUS_LATCHED 0) true), 0, ⟨0, 0, 2048⟩, [], by decide +kernel⟩,
   ⟨(((md (fun m => { m with inFlight := [⟨0, 0, 2048⟩] }) run).p (F.PHASE_PERIOD_PERIOD 0) 640).p (F.PHASE_TRIPCFG_CUT 0) 0), 0, ⟨0, 0, 2048⟩, [], by decide +kernel⟩,
   ⟨run, 0, by decide +kernel⟩,
   ⟨((ph (fun p => { p with delayed := some 2048 }) run).p (F.PHASE_PERIOD_PERIOD 0) 640), 0, 2048, by decide +kernel⟩,
   ⟨run, 5, by decide +kernel⟩⟩

theorem test_witness_TripsCutAndLatch :
    (∃ (s : State) (n : Fin 48) (src : Fin 8), s.phRuns n = true ∧ s.latched n.val = false ∧ bitAt (s.trips n) src.val = true ∧ bitAt (s.g (F.PHASE_TRIPCFG_CUT n.val)) src.val = true ∧ bitAt (s.g (F.PHASE_TRIPCFG_LATCH n.val)) src.val = false)
    ∧ (∃ (s : State) (n : Fin 48) (src : Fin 8), s.phRuns n = false ∧ (s.ph n).out = .high ∧ s.latched n.val = false ∧ bitAt (s.trips n) src.val = true ∧ bitAt (s.g (F.PHASE_TRIPCFG_CUT n.val)) src.val = true ∧ bitAt (s.g (F.PHASE_TRIPCFG_LATCH n.val)) src.val = false)
    ∧ (∃ (s : State) (n : Fin 48) (src : Fin 8), bitAt (s.trips n) src.val = false)
    ∧ (∃ (s : State) (n : Fin 48) (src : Fin 8), bitAt (s.trips n) src.val = true ∧ src ≠ 0 ∧ bitAt (s.g (F.PHASE_TRIPCFG_LATCH n.val)) src.val = true ∧ s.latched n.val = false ∧ s.classOf 6 (limRail s n <|> s.railOf n.val) ≤ 1)
    ∧ (∃ (s : State) (n : Fin 48) (src : Fin 8), bitAt (s.trips n) src.val = true ∧ bitAt (s.g (F.PHASE_TRIPCFG_LATCH n.val)) src.val = true ∧ s.latched n.val = true) :=
  ⟨⟨({ run with sup := { run.sup with tripPin := .replicate 4 true } }.p (F.PHASE_TRIPCFG_CUT 0) 8), 0, 3, by decide +kernel⟩,
   ⟨((ph (fun p => { p with out := .high }) ({ std with sup := { std.sup with tripPin := .replicate 4 true } })).p (F.PHASE_TRIPCFG_CUT 0) 8), 0, 3, by decide +kernel⟩,
   ⟨run, 0, 7, by decide +kernel⟩,
   ⟨((((({ run with sup := { run.sup with tripPin := .replicate 4 true } })).p (F.PHASE_TRIPCFG_LATCH 0) 8).setWord (A.FM_CLASS 0) 0)), 0, 3, by decide +kernel⟩,
   ⟨(({ run with sup := { run.sup with tripPin := .replicate 4 true } }.p (F.PHASE_TRIPCFG_LATCH 0) 8).pb (F.PHASE_STATUS_LATCHED 0) true), 0, 3, by decide +kernel⟩⟩

theorem test_witness_LatchesClearWhenInactive :
    (∃ (s : State) (m : Master) (n : Fin 48), judge m (A.PHASE_STATUS n.val) (BitVec.ofNat 32 (2 ^ (F.PHASE_STATUS_LATCHED n.val).lo)) s = .ok ∧ s.latched n.val = true)
    ∧ (∃ (s : State) (n : Fin 48), s.gb (F.FM_PH_STAT_PHOFFACT n.val) = true ∧ s.phRuns n = true)
    ∧ (∃ (s : State) (n : Fin 48), s.gb (F.FM_PH_STAT_PHOFFACT n.val) = true ∧ s.phRuns n = false ∧ s.latchTrips n = 0 ∧ (s.ph n).holdRetire = false)
    ∧ (∃ (s : State) (n : Fin 48), s.gb (F.FM_PH_STAT_PHOFFACT n.val) = false) :=
  ⟨⟨(run.pb (F.PHASE_STATUS_LATCHED 0) true), .sup, 0, by decide +kernel⟩,
   ⟨(run.pb (F.FM_PH_STAT_PHOFFACT 0) true), 0, by decide +kernel⟩,
   ⟨(std.pb (F.FM_PH_STAT_PHOFFACT 0) true), 0, by decide +kernel⟩,
   ⟨run, 0, by decide +kernel⟩⟩

theorem test_witness_SyncAndCapture :
    (∃ (s : State) (n : Fin 48), s.gb (F.PHASE_CTL_SHLOCK n.val) = true)
    ∧ (∃ (s : State) (g : Fin 6), s.gb (F.STAGEGRP_CFG_SMODOUT g.val) = true)
    ∧ (∃ (s : State) (r : Bool), s.core = true ∧ s.gb F.PE_SYNC_CTL_SYNCSRC = true ∧ s.gb F.PE_SYNC_CTL_SYNCIEDGE = !r ∧ s.sync.lastEdge = none)
    ∧ (∃ (s : State) (t : Time) (r : Bool) (p : Nat), s.core = true ∧ s.gb F.PE_SYNC_CTL_SYNCSRC = true ∧ s.gb F.PE_SYNC_CTL_SYNCIEDGE = !r ∧ s.sync.lastEdge = some p ∧ 16 * ((elapsed p t.toNat : Int) - s.syncFine).natAbs ≤ s.syncFine)
    ∧ (∃ (s : State) (t : Time) (r : Bool) (p : Nat), s.core = true ∧ s.gb F.PE_SYNC_CTL_SYNCSRC = true ∧ s.gb F.PE_SYNC_CTL_SYNCIEDGE = !r ∧ s.sync.lastEdge = some p ∧ s.syncFine < 16 * ((elapsed p t.toNat : Int) - s.syncFine).natAbs ∧ s.gb F.PE_SYNC_STATUS_SYNCLOST = false)
    ∧ (∃ (s : State), s.core = true)
    ∧ (∃ (s : State), s.core = true ∧ s.gb F.PE_SYNC_CTL_SYNCSRC = true ∧ s.sync.lastEdge ≠ none ∧ s.gb F.PE_SYNC_STATUS_SYNCLOST = false)
    ∧ (∃ (s : State) (c : Fin 32) (src : BitVec 8) (f : Bool), s.core = true ∧ s.gb (F.CAP_CTL_EN c.val) = true ∧ s.g (F.CAP_CTL_SRC c.val) = src.toNat ∧ edgeMatches (s.g (F.CAP_CTL_EDGE c.val)) (!f) = true ∧ s.gb (F.CAP_TSHI_VALID c.val) = false)
    ∧ (∃ (s : State) (c : Fin 32), s.gb (F.CAP_TSHI_VALID c.val) = true ∧ s.gb (F.CAP_CTL_CONT c.val) = false) :=
  ⟨⟨(run.pb (F.PHASE_CTL_SHLOCK 0) true), 0, by decide +kernel⟩,
   ⟨(std.pb (F.STAGEGRP_CFG_SMODOUT 5) true), 5, by decide +kernel⟩,
   ⟨(std.pb F.PE_SYNC_CTL_SYNCSRC true), true, by decide +kernel⟩,
   ⟨({ (std.pb F.PE_SYNC_CTL_SYNCSRC true) with sync := { tref := 0, lastEdge := some 5, good := 0, synco := [] } }.p F.PE_SYNC_CTL_SYNCPER 160), 2565, true, 5, by decide +kernel⟩,
   ⟨({ (std.pb F.PE_SYNC_CTL_SYNCSRC true) with sync := { tref := 0, lastEdge := some 5, good := 0, synco := [] } }.p F.PE_SYNC_CTL_SYNCPER 160), 7, true, 5, by decide +kernel⟩,
   ⟨std, by decide +kernel⟩,
   ⟨({ (std.pb F.PE_SYNC_CTL_SYNCSRC true) with sync := { tref := 0, lastEdge := some 5, good := 0, synco := [] } }.p F.PE_SYNC_CTL_SYNCPER 160), by decide +kernel⟩,
   ⟨((std.pb (F.CAP_CTL_EN 31) true).p (F.CAP_CTL_SRC 31) 0xC0), 31, 0xC0, false, by decide +kernel⟩,
   ⟨(std.pb (F.CAP_TSHI_VALID 0) true), 0, by decide +kernel⟩⟩

theorem test_witness_DemandIssuesLaunches :
    (∃ (s : State) (k : Fin 8) (n : Fin 48), s.launches k = true ∧ (s.ra k).md.blanking = false ∧ (s.ra k).md.waiting = false ∧ NextLaunch s k n)
    ∧ (∃ (s : State) (k : Fin 8), s.launches k = true ∧ (s.ra k).md.blanking = false ∧ (s.ra k).md.waiting = false ∧ s.ovlLimit k ≤ s.ovl k)
    ∧ (∃ (s : State) (k : Fin 8) (n : Fin 48), s.launches k = true ∧ (s.ra k).md.blanking = true ∧ NextLaunch s k n)
    ∧ (∃ (s : State) (k : Fin 8), s.launches k = true ∧ (s.ra k).md.blanking = true ∧ s.onset k = false ∧ s.ovl k < s.ovlLimit k ∧ (∀ n ∈ s.ring k, s.eligible false n = false))
    ∧ (∃ (s : State) (k : Fin 8), s.launches k = true ∧ (s.ra k).md.blanking = true ∧ s.windowOpen k = false)
    ∧ (∃ (s : State) (k : Fin 8) (n : Fin 48), s.launches k = true ∧ (s.ra k).md.waiting = true ∧ NextLaunch s k n)
    ∧ (∃ (s : State) (k : Fin 8), s.launches k = true ∧ (s.ra k).md.waiting = true ∧ s.ovl k < s.ovlLimit k)
    ∧ (∃ (s : State) (k : Fin 8), s.launches k = false) :=
  ⟨⟨run, 0, 0, by unfold NextLaunch; decide +kernel⟩,
   ⟨(run.p (F.RAIL_SPACE_MAXOVL 0) 0), 0, by decide +kernel⟩,
   ⟨(md (fun m => { m with blanking := true }) run), 0, 0, by unfold NextLaunch; decide +kernel⟩,
   ⟨(md (fun m => { m with blanking := true }) { run with sup := { run.sup with groupAwake := .replicate 6 false } }), 0, by decide +kernel⟩,
   ⟨(md (fun m => { m with blanking := true }) run), 0, by decide +kernel⟩,
   ⟨(md (fun m => { m with waiting := true, pos := 1 }) run), 0, 1, by unfold NextLaunch; decide +kernel⟩,
   ⟨(md (fun m => { m with waiting := true }) run), 0, by decide +kernel⟩,
   ⟨std, 7, by decide +kernel⟩⟩

theorem test_witness_FeedForwardAndRipple :
    (∃ (s : State), s.core = true ∧ s.gb F.VINFF_CFG_SRC = false ∧ s.vinffFailed = false)
    ∧ (∃ (s : State), s.core = true ∧ s.gb F.VINFF_CFG_SRC = false)
    ∧ (∃ (s : State), s.core = true ∧ s.gb F.VINFF_CFG_SRC = true)
    ∧ (∃ (s : State) (k : Fin 8) (t : Time), s.enabled k = true ∧ (∀ n ∈ s.ringTail k, (s.ph n).out ≠ .off) ∧ (∀ n ∈ s.ringTail k, ∀ x ∈ (s.ph n).hist, 64 ≤ elapsed x.1 (s.atTime t).clock))
    ∧ (∃ (s : State) (k : Fin 8), s.enabled k = true)
    ∧ (∃ (s : State) (n : Fin 48) (x : Nat × Nat) (rest : List (Nat × Nat)), (s.ph n).hist = x :: rest ∧ elapsed x.1 s.clock < 64 ∧ (∀ y ∈ rest, 64 ≤ elapsed y.1 s.clock))
    ∧ (∃ (s : State) (k : Fin 8) (t : Time), s.enabled k = true ∧ (∀ n ∈ s.ringTail k, (s.ph n).out = .off ∧ (s.ph n).dead = .none ∧ s.gb (F.PHASE_STATUS_CUT n.val) = false) ∧ (∀ n ∈ s.ringTail k, ∀ x ∈ (s.ph n).hist, 64 ≤ elapsed x.1 (s.atTime t).clock))
    ∧ (∃ (s : State) (k : Fin 8), s.enabled k = true)
    ∧ (∃ (s : State) (k : Fin 8), s.enabled k = false) :=
  ⟨⟨std, by decide +kernel⟩,
   ⟨std, by decide +kernel⟩,
   ⟨(std.pb F.VINFF_CFG_SRC true), by decide +kernel⟩,
   ⟨(((md (fun m => { m with acc := -65536 }) run).modPh 0 fun p => { p with out := .high }).modPh 1 fun p => { p with out := .low }), 0, 100, by decide +kernel⟩,
   ⟨run, 0, by decide +kernel⟩,
   ⟨(ph (fun p => { p with hist := [(0, 2)] }) std), 0, (0, 2), [], by decide +kernel⟩,
   ⟨(md (fun m => { m with acc := 2147483647 }) ((run.modPh 0 fun p => { p with out := .off }).modPh 1 fun p => { p with out := .off })), 0, 100, by decide +kernel⟩,
   ⟨(md (fun m => { m with acc := 2147483647 }) run), 0, by decide +kernel⟩,
   ⟨std, 0, by decide +kernel⟩⟩

theorem test_witness_SequenceAndForecastWindows :
    (∃ (s : State) (k : Fin 8), s.enabled k = true ∧ (s.effMode k = 2 ∨ (s.ra k).md.pos = 0) ∧ s.isArmed 2 k.val = false ∧ (∀ x ∈ s.img.cancelled, x.commit.group = 2 → x.commit.index ≠ k.val) ∧ (s.ra k).ink.rewrite = none)
    ∧ (∃ (s : State) (k : Fin 8), s.enabled k = true ∧ (s.ra k).md.seqPend = true ∧ (s.ra k).md.inFlight = [] ∧ s.isArmed 2 k.val = false ∧ (∀ x ∈ s.img.cancelled, x.commit.group = 2 → x.commit.index ≠ k.val) ∧ (s.ra k).ink.rewrite = none)
    ∧ (∃ (s : State) (k : Fin 8) (l : List (Fin 48)) (t : Time), s.enabled k = true ∧ (s.ra k).md.seqPend = true ∧ (s.ra k).md.inFlight = [] ∧ s.isArmed 2 k.val = false ∧ (∀ x ∈ s.img.cancelled, x.commit.group = 2 → x.commit.index ≠ k.val) ∧ (s.ra k).ink.rewrite = some l ∧ (s.atTime t).rewriteDue k = true)
    ∧ (∃ (s : State) (k : Fin 8), s.enabled k = true ∧ (s.ra k).md.seqPend = true ∧ (s.ra k).md.inFlight ≠ [])
    ∧ (∃ (s : State) (k : Fin 8) (l : Launch), s.enabled k = true ∧ (s.ra k).md.seqPend = true ∧ (s.ra k).md.inFlight = [l] ∧ l.epoch ≠ (s.rl l.phase).epoch ∧ (s.ra k).md.forcePend = true ∧ s.isArmed 2 k.val = false ∧ (∀ x ∈ s.img.cancelled, x.commit.group = 2 → x.commit.index ≠ k.val) ∧ (s.ra k).ink.rewrite = none)
    ∧ (∃ (s : State) (k : Fin 8), s.enabled k = false)
    ∧ (∃ (s : State) (k : Fin 8) (f : Forecast), (s.ra k).md.fc = some f ∧ 0 < f.deltaI ∧ f.windowOpen = false ∧ f.closed = false ∧ s.effMode k = 1)
    ∧ (∃ (s : State) (k : Fin 8) (f : Forecast), (s.ra k).md.fc = some f ∧ f.windowOpen = true)
    ∧ (∃ (s : State) (k : Fin 8), (s.ra k).md.fc = none) :=
  ⟨⟨run, 0, by decide +kernel⟩,
   ⟨(md (fun m => { m with seqPend := true }) run), 0, by decide +kernel⟩,
   ⟨((md (fun m => { m with seqPend := true }) run).modInk 0 fun i => { i with rewrite := some [0] }), 0, [0], 0x100000, by decide +kernel⟩,
   ⟨(md (fun m => { m with seqPend := true, inFlight := [⟨0, 0, 2048⟩] }) run), 0, by decide +kernel⟩,
   ⟨(md (fun m => { m with seqPend := true, inFlight := [⟨0, 1, 2048⟩], forcePend := true }) run), 0, ⟨0, 1, 2048⟩, by decide +kernel⟩,
   ⟨std, 0, by decide +kernel⟩,
   ⟨((md (fun m => { m with fc := some ⟨10, 0, 0, false, false, true, none, false⟩ }) run).p (F.RAIL_ONSET_ONWIN 0) 4), 0, ⟨10, 0, 0, false, false, true, none, false⟩, by decide +kernel⟩,
   ⟨(md (fun m => { m with fc := some ⟨10, 0, 0, true, false, true, none, false⟩ }) run), 0, ⟨10, 0, 0, true, false, true, none, false⟩, by decide +kernel⟩,
   ⟨run, 0, by decide +kernel⟩⟩

theorem test_witness_SetPointWritesPush :
    (∃ (s : State) (m : Master) (k : Fin 8) (v : Word), judge m (A.RAIL_VSET k.val) v s = .ok ∧ s.room (Fin.ofNat 16 k.val) 1 = true)
    ∧ (∃ (s : State) (m : Master) (k : Fin 8) (v : Word), judge m (A.RAIL_VSET k.val) v s = .ok ∧ s.room (Fin.ofNat 16 k.val) 1 = false)
    ∧ (∃ (s : State) (m : Master) (k : Fin 8) (v : Word), judge m (A.RAIL_ON k.val) v s = .ok ∧ s.room (Fin.ofNat 16 k.val) 1 = false)
    ∧ (∃ (s : State) (m : Master) (k : Fin 8) (v : Word), judge m (A.RAIL_ON k.val) v s = .ok ∧ s.room (Fin.ofNat 16 k.val) 1 = true)
    ∧ (∃ (s : State) (m : Master) (g : Fin 4) (v : Word), judge m (A.SEQGRP_CTL g.val) v s = .ok) :=
  ⟨⟨(std.p (F.RAIL_VLIM_VMAX 0) 20000), .sup, 0, 10000, by decide +kernel⟩,
   ⟨((std.setQ 0 (.replicate 16 qe)).p (F.RAIL_VLIM_VMAX 0) 20000), .sup, 0, 10000, by decide +kernel⟩,
   ⟨(std.setQ 7 (.replicate 16 qe)), .sup, 7, 1, by decide +kernel⟩,
   ⟨std, .sup, 7, 1, by decide +kernel⟩,
   ⟨std, .sup, 3, 1, by decide +kernel⟩⟩

theorem test_witness_SequencerTimersAct :
    (∃ (s : State) (k : Fin 8), s.st k = .delay ∧ s.request k = true ∧ s.turn k = true ∧ s.canEnable k = true)
    ∧ (∃ (s : State) (k : Fin 8), s.st k = .delay ∧ s.request k = true ∧ s.turn k = true ∧ s.canEnable k = false)
    ∧ (∃ (s : State) (k : Fin 8), s.st k = .delay ∧ s.turn k = false)
    ∧ (∃ (s : State) (k : Fin 8), s.st k = .wake ∧ s.request k = true)
    ∧ (∃ (s : State) (k : Fin 8), s.st k = .stopdly ∧ s.request k = false)
    ∧ (∃ (s : State) (k : Fin 8), s.st k = .on ∧ (s.ra k).tr.grace ≠ none ∧ -(s.g (F.OL_FE_FELIM k.val) : Int) ≤ (s.ra k).gr.x ∧ (s.ra k).gr.winNeg = false)
    ∧ (∃ (s : State) (k : Fin 8), s.st k = .on ∧ (s.ra k).tr.grace ≠ none ∧ (s.ra k).gr.x < -(s.g (F.OL_FE_FELIM k.val) : Int))
    ∧ (∃ (s : State) (k : Fin 8), s.st k = .ramp ∧ (s.ra k).gr.x < -(s.g (F.OL_FE_FELIM k.val) : Int))
    ∧ (∃ (s : State) (k : Fin 8), s.st k = .hiccup ∧ s.request k = true ∧ (s.ra k).tr.needOff = false ∧ s.running = true ∧ s.canEnable k = true)
    ∧ (∃ (s : State) (k : Fin 8), s.gb (F.RAIL_TSTAT_PG k.val) = true)
    ∧ (∃ (s : State) (k : Fin 8), s.enabled k = true ∧ (s.ra k).pr.safeStop = true)
    ∧ (∃ (s : State) (k : Fin 8), (s.st k ≠ .delay ∨ s.request k = false))
    ∧ (∃ (s : State) (k : Fin 8), (s.st k ≠ .wake ∨ s.request k = false))
    ∧ (∃ (s : State) (k : Fin 8), (s.st k ≠ .stopdly ∨ s.request k = true))
    ∧ (∃ (s : State) (k : Fin 8), (s.st k ≠ .on ∨ (s.ra k).tr.grace = none) ∧ s.st k ≠ .ramp)
    ∧ (∃ (s : State) (k : Fin 8), (s.st k ≠ .hiccup ∨ s.request k = false ∨ (s.ra k).tr.needOff = true ∨ s.running = false))
    ∧ (∃ (s : State) (k : Fin 8), s.gb (F.RAIL_TSTAT_PG k.val) = false)
    ∧ (∃ (s : State) (k : Fin 8), (s.enabled k = false ∨ (s.ra k).pr.safeStop = false)) :=
  ⟨⟨((graphed (seq .delay std)).pb (F.RAIL_TSTAT_REQON 0) true), 0, by decide +kernel⟩,
   ⟨((seq .delay std).pb (F.RAIL_TSTAT_REQON 0) true), 0, by decide +kernel⟩,
   ⟨(((seq .delay std).pb (F.RAIL_SEQCTL_INGRP 0) true).p (F.RAIL_SEQCTL_SEQORD 0) 1).pb (F.RAIL_SEQCTL_INGRP 1) true, 0, by decide +kernel⟩,
   ⟨((seq .wake run).pb (F.RAIL_TSTAT_REQON 0) true), 0, by decide +kernel⟩,
   ⟨(seq .stopdly run), 0, by decide +kernel⟩,
   ⟨(run.modTr 0 fun t => { t with grace := some 3 }), 0, by decide +kernel⟩,
   ⟨((run.modTr 0 fun t => { t with grace := some 3 }).modGr 0 fun g => { g with x := -100000 }), 0, by decide +kernel⟩,
   ⟨((seq .ramp run).modGr 0 fun g => { g with x := -100000 }), 0, by decide +kernel⟩,
   ⟨((graphed (seq .hiccup std)).pb (F.RAIL_TSTAT_REQON 0) true), 0, by decide +kernel⟩,
   ⟨(run.pb (F.RAIL_TSTAT_PG 0) true), 0, by decide +kernel⟩,
   ⟨(run.modPr 0 fun p => { p with safeStop := true }), 0, by decide +kernel⟩,
   ⟨std, 7, by decide +kernel⟩,
   ⟨std, 7, by decide +kernel⟩,
   ⟨std, 7, by decide +kernel⟩,
   ⟨std, 7, by decide +kernel⟩,
   ⟨std, 7, by decide +kernel⟩,
   ⟨std, 7, by decide +kernel⟩,
   ⟨std, 7, by decide +kernel⟩⟩

theorem test_witness_BoundaryWindowTakesEntry :
    (∃ (s : State) (k : Fin 8) (w : WindowIn) (e : QEntry) (rest : List QEntry), s.dev ≠ .off ∧ s.dev ≠ .boot ∧ s.st k = .off ∧ s.request k = false ∧ s.moving k = false ∧ (s.ra k).sample = [] ∧ s.isArmed 3 k.val = false ∧ s.fnArmed (96 + k.val) = false ∧ (s.ra k).tr.grace = none ∧ (∀ n, vget w.icode n = []) ∧ s.q (Fin.ofNat 16 k.val) = e :: rest ∧ e.met.toNat / 4096 = 1 ∧ s.inLimits k.val (e.data.toNat / 65536 : Nat) = true ∧ s.inLimits k.val ((e.data.toNat / 65536 : Nat) + s.gi (F.RAIL_CMARGNOW_CMARG k.val)) = true)
    ∧ (∃ (s : State) (k : Fin 8), s.dev ≠ .off ∧ s.dev ≠ .boot ∧ s.moving k = false)
    ∧ (∃ (s : State) (k : Fin 8), s.enabled k = true)
    ∧ (∃ (s : State) (k : Fin 8), s.fnArmed (96 + k.val) = true ∧ (s.ra k).pr.ovDone = false)
    ∧ (∃ (s : State) (k : Fin 8), s.gb (F.GRAPH_CTL_COAST k.val) = true)
    ∧ (∃ (s : State) (k : Fin 8), s.gb (F.GRAPH_CTL_COAST k.val) = false)
    ∧ (∃ (i : Int), -2147483648 ≤ i ∧ i ≤ 2147483647)
    ∧ (∃ (vl : Int), 1 ≤ vl)
    ∧ (∃ (s : State), (s.dev = .off ∨ s.dev = .boot)) :=
  ⟨⟨((std.setQ 0 [⟨0x27100000, 2, 0x1000⟩]).p (F.RAIL_VLIM_VMAX 0) 20000), 0, ⟨0x100000, [0], .replicate 48 [], false⟩, ⟨0x27100000, 2, 0x1000⟩, [], by decide +kernel⟩,
   ⟨run, 0, by decide +kernel⟩,
   ⟨run, 0, by decide +kernel⟩,
   ⟨(arm 96 std), 0, by decide +kernel⟩,
   ⟨(run.pb (F.GRAPH_CTL_COAST 0) true), 0, by decide +kernel⟩,
   ⟨run, 0, by decide +kernel⟩,
   ⟨-2147483648, by decide +kernel⟩,
   ⟨1, by decide +kernel⟩,
   ⟨off, by decide +kernel⟩⟩

theorem test_witness_MonitorsDeclare :
    (∃ (s : State) (k : Fin 8), s.core = true ∧ s.fnArmed (96 + k.val) = true ∧ s.fnOut (96 + k.val) = true ∧ (s.ra k).pr.ovDone = false)
    ∧ (∃ (s : State) (k : Fin 8), (s.ra k).pr.ovDone = true)
    ∧ (∃ (s : State) (k : Fin 8), s.uvArm k = true ∧ s.fnArmed (104 + k.val) = true ∧ s.fnOut (104 + k.val) = true ∧ (s.ra k).pr.uvDone = false)
    ∧ (∃ (s : State) (k : Fin 8), (s.ra k).pr.uvDone = true)
    ∧ (∃ (s : State) (k : Fin 8), s.uvArm k = false)
    ∧ (∃ (s : State) (k : Fin 8), s.enabled k = true ∧ s.exceeds k = true)
    ∧ (∃ (s : State) (k : Fin 8), s.exceeds k = false)
    ∧ (∃ (s : State) (k : Fin 8), s.st k = .on ∧ s.timers k = false ∧ s.inWindow k = true)
    ∧ (∃ (s : State) (k : Fin 8), s.timers k = false ∧ s.inWindow k = false)
    ∧ (∃ (s : State) (k : Fin 8), s.timers k = true) :=
  ⟨⟨((arm 96 std).pb (F.CMP_STATUS_OUT 96) true), 0, by decide +kernel⟩,
   ⟨(std.modPr 0 fun p => { p with ovDone := true }), 0, by decide +kernel⟩,
   ⟨(((arm 104 run).pb (F.CMP_STATUS_OUT 104) true).modTr 0 fun t => { t with pgSeen := true }), 0, by decide +kernel⟩,
   ⟨(std.modPr 0 fun p => { p with uvDone := true }), 0, by decide +kernel⟩,
   ⟨std, 0, by decide +kernel⟩,
   ⟨(run.modGr 0 fun g => { g with x := 100000 }), 0, by decide +kernel⟩,
   ⟨std, 7, by decide +kernel⟩,
   ⟨run, 0, by decide +kernel⟩,
   ⟨(run.modGr 0 fun g => { g with win := true }), 0, by decide +kernel⟩,
   ⟨(std.modPr 0 fun p => { p with ov := 1 }), 0, by decide +kernel⟩⟩

theorem test_witness_OvercurrentDeclares :
    (∃ (s : State) (k : Fin 8), s.enabled k = true ∧ s.g (F.FM_RAIL_HIC_HICN k.val) ≤ s.g (F.FM_RAIL_STAT_RCONS k.val))
    ∧ (∃ (s : State) (k : Fin 8), s.enabled k = false)
    ∧ (∃ (s : State) (k : Fin 8), s.g (F.FM_RAIL_STAT_RCONS k.val) < s.g (F.FM_RAIL_HIC_HICN k.val))
    ∧ (∃ (s : State) (n : Fin 48), (s.ph n).neighbour = true ∧ s.g (F.FM_PH_CFG_PHN n.val) ≤ s.g (F.PHASE_LIMCNT_CONSEC n.val) ∧ vget s.strikes.phase n + 1 < s.g (F.FM_STRIKE_STH 0) ∧ s.classOf 3 none < 2)
    ∧ (∃ (s : State) (n : Fin 48), (s.ph n).neighbour = false)
    ∧ (∃ (s : State) (n : Fin 48), s.g (F.PHASE_LIMCNT_CONSEC n.val) < s.g (F.FM_PH_CFG_PHN n.val)) :=
  ⟨⟨((run.p (F.FM_RAIL_STAT_RCONS 0) 1).p (F.FM_RAIL_HIC_HICN 0) 1), 0, by decide +kernel⟩,
   ⟨std, 7, by decide +kernel⟩,
   ⟨(run.p (F.FM_RAIL_HIC_HICN 0) 1), 0, by decide +kernel⟩,
   ⟨((((ph (fun p => { p with neighbour := true }) run).p (F.PHASE_LIMCNT_CONSEC 0) 255).setWord (A.FM_CLASS 0) 0).p (F.FM_STRIKE_STH 0) 4), 0, by decide +kernel⟩,
   ⟨std, 47, by decide +kernel⟩,
   ⟨run, 0, by decide +kernel⟩⟩

theorem test_witness_ResponsesByClass :
    (∃ (fid : Nat) (k : Fin 8) (s : State), fid < 0x20 ∧ s.enabled k = true) :=
  ⟨0x1F, 0, run, by decide +kernel⟩

theorem test_witness_LaneSlotsCompute :
    (∃ (s : State) (k : Fin 8) (m : Fin 5) (c : Nat) (d : Nat), s.computes k = some m ∧ s.nstage k.val = 1 ∧ s.stage k.val 0 = (0xA, 0, c, d) ∧ 16 ≤ c ∧ s.gb (F.GRAPH_STATUS_SELNOW k.val) = false)
    ∧ (∃ (s : State) (k : Fin 8) (m : Fin 5) (typ : Nat) (c : Nat) (d : Nat) (e : Nat), s.computes k = some m ∧ s.nstage k.val = 2 ∧ s.stage k.val 0 = (typ, 0, c, d) ∧ 16 ≤ c ∧ 16 ≤ d ∧ s.stage k.val 1 = (0xA, 0, 0, e) ∧ 16 ≤ e ∧ s.gb (F.GRAPH_STATUS_SELNOW k.val) = false ∧ (s.ra k).gr.mark = false)
    ∧ (∃ (s : State) (k : Fin 8) (m : Fin 5), s.computes k = some m ∧ s.classOf 0x16 none < 4 ∧ vget s.strikes.lane m + 2 < s.g (F.FM_STRIKE_STH 3))
    ∧ (∃ (s : State) (k : Fin 8) (m : Fin 5), s.computes k = some m ∧ s.classOf 0x16 none < 4 ∧ vget s.strikes.lane m + 1 < s.g (F.FM_STRIKE_STH 3))
    ∧ (∃ (s : State) (k : Fin 8) (m : Fin 5), s.computes k = some m ∧ s.classOf 0x16 none < 4 ∧ s.laneRet m.val = false ∧ vget s.strikes.lane m + 1 < s.g (F.FM_STRIKE_STH 3))
    ∧ (∃ (s : State) (k : Fin 8) (m : Fin 5) (sp : Fin 5) (h : Bool), s.computes k = some m ∧ (s.ra k).gr.place = some (m, h) ∧ (s.ra k).gr.moveTo = none ∧ s.laneRet m.val = false ∧ s.spareLane = some sp ∧ s.classOf 0x16 none < 4)
    ∧ (∃ (s : State) (k : Fin 8) (m : Fin 5), s.coastLane k = some m)
    ∧ (∃ (s : State) (k : Fin 8) (m : Fin 5), s.coastLane k = some m ∧ s.classOf 0x16 none < 4 ∧ vget s.strikes.lane m + 2 < s.g (F.FM_STRIKE_STH 3))
    ∧ (∃ (s : State) (k : Fin 8) (m : Fin 5) (sp : Fin 5) (h : Bool), s.coastLane k = some m ∧ (s.ra k).gr.place = some (m, h) ∧ (s.ra k).gr.moveTo = none ∧ s.laneRet m.val = false ∧ s.spareLane = some sp ∧ s.classOf 0x16 none < 4)
    ∧ (∃ (s : State) (k : Fin 8), s.computes k = none ∧ s.coastLane k = none) :=
  ⟨⟨(graphed (seq .on (dv .run))), 0, 0, 0x10, 0x19, by decide +kernel⟩,
   ⟨(graphed2 (graphed (seq .on (dv .run)))), 0, 0, 1, 0x10, 0x10, 0x19, by decide +kernel⟩,
   ⟨(graphed (seq .on (dv .run))), 0, 0, by decide +kernel⟩,
   ⟨(graphed (seq .on (dv .run))), 0, 0, by decide +kernel⟩,
   ⟨(graphed (seq .on (dv .run))), 0, 0, by decide +kernel⟩,
   ⟨(graphed (seq .on (dv .run))), 0, 0, 1, false, by decide +kernel⟩,
   ⟨(coasting (graphed (seq .on (dv .run)))), 0, 0, by decide +kernel⟩,
   ⟨(coasting (graphed (seq .on (dv .run)))), 0, 0, by decide +kernel⟩,
   ⟨(coasting (graphed (seq .on (dv .run)))), 0, 0, 1, false, by decide +kernel⟩,
   ⟨std, 0, by decide +kernel⟩⟩

theorem test_witness_LaneTestsAndMoves :
    (∃ (s : State) (m : Fin 5), s.core = true ∧ s.laneRet m.val = false ∧ s.laneBusy m = false)
    ∧ (∃ (s : State) (m : Fin 5), s.core = true ∧ s.laneRet m.val = false ∧ s.laneBusy m = false ∧ s.classOf 0x16 none < 4)
    ∧ (∃ (s : State) (m : Fin 5), s.laneRet m.val = true)
    ∧ (∃ (s : State), s.core = true)
    ∧ (∃ (s : State) (l : Nat), s.core = true ∧ l ≠ 0)
    ∧ (∃ (s : State) (k : Fin 8), s.enabled k = true ∧ s.gb (F.GRAPH_STATUS_COASTING k.val) = true)
    ∧ (∃ (s : State) (k : Fin 8), s.gb (F.GRAPH_STATUS_COASTING k.val) = false) :=
  ⟨⟨std, 4, by decide +kernel⟩,
   ⟨std, 4, by decide +kernel⟩,
   ⟨(std.p F.LE_STATUS_RETIRED 16), 4, by decide +kernel⟩,
   ⟨std, by decide +kernel⟩,
   ⟨std, 3, by decide +kernel⟩,
   ⟨((run.pb (F.GRAPH_STATUS_COASTING 0) true).pb (F.GRAPH_CTL_COAST 0) true), 0, by decide +kernel⟩,
   ⟨std, 7, by decide +kernel⟩⟩

theorem test_witness_HorizonAndEphemeris :
    (∃ (s : State) (k : Fin 8), s.enabled k = true ∧ s.gb (F.OL_HZCTL_HZEN k.val) = true ∧ (s.ra k).ol.reported ≠ 0)
    ∧ (∃ (s : State) (k : Fin 8), (s.ra k).ol.reported = 0)
    ∧ (∃ (s : State) (k : Fin 8), s.core = true ∧ s.g (F.EPH_CTL_PSRC k.val) ≠ 1 ∧ s.g (F.EPH_PER_EPTO k.val) ≠ 0)
    ∧ (∃ (s : State) (k : Fin 8), s.g (F.EPH_PER_EPTO k.val) = 0)
    ∧ (∃ (s : State) (k : Fin 8), s.core = true ∧ s.g (F.EPH_CTL_PSRC k.val) = 2 ∧ (s.ra k).ep.edge = none)
    ∧ (∃ (s : State) (k : Fin 8) (t : BitVec 52) (o : Nat), s.core = true ∧ s.g (F.EPH_CTL_PSRC k.val) = 2 ∧ (s.ra k).ep.edge = some o ∧ o ≤ t.toNat ∧ 16 * s.ts k.val ≤ ((t.toNat - o) * 5 + 32) / 64 ∧ ((t.toNat - o) * 5 + 32) / 64 ≤ 16777215)
    ∧ (∃ (s : State) (k : Fin 8), s.g (F.EPH_CTL_PSRC k.val) ≠ 2)
    ∧ (∃ (s : State) (m : Master) (k : Fin 8), judge m (A.EPH_CTL k.val) (s.withField (F.EPH_CTL_ECLR k.val) 1) s = .ok) :=
  ⟨⟨((run.pb (F.OL_HZCTL_HZEN 0) true).modOl 0 fun o => { o with reported := 1 }), 0, by decide +kernel⟩,
   ⟨std, 0, by decide +kernel⟩,
   ⟨((std.p (F.EPH_CTL_PSRC 0) 0).p (F.EPH_PER_EPTO 0) 1), 0, by decide +kernel⟩,
   ⟨(std.p (F.EPH_PER_EPTO 0) 0), 0, by decide +kernel⟩,
   ⟨(std.p (F.EPH_CTL_PSRC 0) 2), 0, by decide +kernel⟩,
   ⟨((std.p (F.EPH_CTL_PSRC 0) 2).modEp 0 fun e => { e with edge := some 0 }), 0, 12800000, 0, by decide +kernel⟩,
   ⟨std, 0, by decide +kernel⟩,
   ⟨std, .sup, 7, by decide +kernel⟩⟩

theorem test_witness_ComparatorsCrossArmAndLatch :
    (∃ (s : State) (c : Fin 128) (o : Bool) (late : Bool), s.core = true ∧ s.gb (F.CMP_STATUS_ARMED c.val) = true ∧ s.gb (F.CMP_STATUS_OUT c.val) = !o ∧ (s.g (F.CMP_CTL_FUNC c.val) < 96 ∧ late = false ∨ 104 ≤ s.g (F.CMP_CTL_FUNC c.val) ∧ s.g (F.CMP_CTL_FUNC c.val) < 112 ∨ s.g (F.CMP_CTL_FUNC c.val) = 119 ∨ 96 ≤ s.g (F.CMP_CTL_FUNC c.val) ∧ s.g (F.CMP_CTL_FUNC c.val) < 104 ∧ o = true ∨ 112 ≤ s.g (F.CMP_CTL_FUNC c.val) ∧ s.g (F.CMP_CTL_FUNC c.val) < 117 ∧ o = false))
    ∧ (∃ (s : State) (n : Fin 48), s.core = true ∧ s.gb (F.CMP_STATUS_ARMED n.val) = true ∧ s.gb (F.CMP_STATUS_OUT n.val) = false ∧ s.g (F.CMP_CTL_FUNC n.val) = n.val ∧ s.servedBy n.val = n.val ∧ (s.ph n).out ≠ .high ∧ s.onModel n.val = false)
    ∧ (∃ (s : State) (c : Fin 128) (k : Fin 8), s.core = true ∧ s.gb (F.CMP_STATUS_ARMED c.val) = true ∧ s.gb (F.CMP_STATUS_OUT c.val) = true ∧ s.g (F.CMP_CTL_FUNC c.val) = 96 + k.val ∧ s.servedBy (96 + k.val) = c.val ∧ (s.ra k).pr.ovLow = true ∧ s.enabled k = false)
    ∧ (∃ (s : State) (c : Fin 128), s.core = true ∧ s.dev ≠ .boot ∧ s.gb (F.CMP_STATUS_ARMED c.val) = true ∧ s.gb (F.CMP_STATUS_OUT c.val) = false ∧ s.g (F.CMP_CTL_FUNC c.val) = 112 ∧ s.servedBy 112 = c.val ∧ s.pfw = false ∧ bitAt (s.g F.PT_PFW_PFWSRC) 1 = true)
    ∧ (∃ (s : State) (c : Fin 128), s.core = true ∧ s.gb (F.CMP_STATUS_ARMED c.val) = true ∧ s.gb (F.CMP_STATUS_OUT c.val) = false ∧ s.g (F.CMP_CTL_FUNC c.val) = 113 ∧ s.servedBy 113 = c.val)
    ∧ (∃ (s : State) (c : Fin 128), s.core = true ∧ s.gb (F.CMP_STATUS_ARMED c.val) = true ∧ s.gb (F.CMP_STATUS_OUT c.val) = false ∧ s.g (F.CMP_CTL_FUNC c.val) = 114 ∧ s.servedBy 114 = c.val ∧ s.np.hs = true ∧ s.pt.inCharge = true)
    ∧ (∃ (s : State) (c : Fin 128) (b : Fin 2), s.core = true ∧ s.gb (F.CMP_STATUS_ARMED c.val) = true ∧ s.gb (F.CMP_STATUS_OUT c.val) = false ∧ s.g (F.CMP_CTL_FUNC c.val) = 115 + b.val ∧ s.servedBy (115 + b.val) = c.val ∧ vget s.np.gate b = true)
    ∧ (∃ (s : State) (c : Fin 128) (b : Fin 2), s.core = true ∧ s.dev ≠ .boot ∧ s.gb (F.CMP_STATUS_ARMED c.val) = true ∧ s.gb (F.CMP_STATUS_OUT c.val) = false ∧ s.g (F.CMP_CTL_FUNC c.val) = 117 + b.val ∧ s.servedBy (117 + b.val) = c.val ∧ s.pfw = false ∧ bitAt (s.g F.PT_PFW_PFWSRC) 0 = true ∧ s.feed b = true ∧ s.feed (otherFeed b) = false)
    ∧ (∃ (s : State) (c : Fin 128), s.gb (F.CMP_STATUS_ARMED c.val) = false)
    ∧ (∃ (s : State) (m : Master) (c : Fin 128), judge m (A.CMP_CTL c.val) (s.withField (F.CMP_CTL_ARM c.val) 1) s = .ok)
    ∧ (∃ (s : State) (c : Fin 128), s.core = true ∧ s.gb (F.CMP_CTL_ARM c.val) = true ∧ s.gb (F.CMP_STATUS_ARMED c.val) = false ∧ s.gb (F.CMP_STATUS_RETIRED c.val) = false)
    ∧ (∃ (s : State) (c : Fin 128), s.gb (F.CMP_CTL_ARM c.val) = false)
    ∧ (∃ (s : State) (m : Master) (c : Fin 128), judge m (A.CMP_CTL c.val) (s.withField (F.CMP_CTL_ARM c.val) 0) s = .ok ∧ s.gb (F.CMP_CTL_ARM c.val) = true)
    ∧ (∃ (s : State) (m : Master) (c : Fin 128), judge m (A.CMP_STATUS c.val) (BitVec.ofNat 32 (2 ^ (F.CMP_STATUS_LATCHED c.val).lo)) s = .ok) :=
  ⟨⟨(arm 0 std), 0, true, false, by decide +kernel⟩,
   ⟨(arm 47 std), 47, by decide +kernel⟩,
   ⟨(((arm 96 std).pb (F.CMP_STATUS_OUT 96) true).modPr 0 fun p => { p with ovLow := true }), 96, 0, by decide +kernel⟩,
   ⟨((arm 112 std).p F.PT_PFW_PFWSRC 2), 112, by decide +kernel⟩,
   ⟨(arm 113 std), 113, by decide +kernel⟩,
   ⟨(arm 114 (charge ({ std with np := { std.np with hs := true } }))), 114, by decide +kernel⟩,
   ⟨(arm 115 ({ std with np := { std.np with gate := .replicate 2 true } })), 115, 0, by decide +kernel⟩,
   ⟨((arm 118 (fed2 std)).p F.PT_PFW_PFWSRC 1), 118, 1, by decide +kernel⟩,
   ⟨std, 127, by decide +kernel⟩,
   ⟨std, .sup, 47, by decide +kernel⟩,
   ⟨(std.pb (F.CMP_CTL_ARM 96) true), 96, by decide +kernel⟩,
   ⟨std, 0, by decide +kernel⟩,
   ⟨(arm 0 std), .sup, 0, by decide +kernel⟩,
   ⟨((arm 0 std).pb (F.CMP_STATUS_OUT 0) true), .sup, 0, by decide +kernel⟩⟩

theorem test_witness_ChannelsAreCheckedAndReplaced :
    (∃ (s : State) (c : Fin 128) (d : BitVec 12), s.core = true ∧ s.gb (F.CMP_STATUS_RETIRED c.val) = false ∧ s.g (F.CMP_CTL_FUNC c.val) < 96 ∧ ((d.toNat : Int) - 4 * s.g (F.CMP_DAC_DACNOW c.val)).natAbs ≤ 16)
    ∧ (∃ (s : State) (c : Fin 128) (d : BitVec 12), s.core = true ∧ s.gb (F.CMP_STATUS_RETIRED c.val) = false ∧ s.gb (F.CMP_STATUS_ARMED c.val) = true ∧ s.g (F.CMP_CTL_FUNC c.val) < 96 ∧ 16 < ((d.toNat : Int) - 4 * s.g (F.CMP_DAC_DACNOW c.val)).natAbs ∧ ((d.toNat : Int) - 4 * s.g (F.CMP_DAC_DACNOW c.val)).natAbs ≤ 64 ∧ vget s.strikes.cmp c + 1 < s.g (F.FM_STRIKE_STH 1) ∧ s.classOf 0x14 none < 4)
    ∧ (∃ (s : State) (c : Fin 128) (d : BitVec 12), s.core = true ∧ s.gb (F.CMP_STATUS_RETIRED c.val) = false ∧ s.gb (F.CMP_STATUS_ARMED c.val) = true ∧ s.g (F.CMP_CTL_FUNC c.val) < 96 ∧ 64 < ((d.toNat : Int) - 4 * s.g (F.CMP_DAC_DACNOW c.val)).natAbs ∧ s.classOf 0x14 none < 4 ∧ (∀ f : Fin 120, s.servedBy f.val = c.val → f.val < 96))
    ∧ (∃ (s : State) (c : Fin 128), s.core = true ∧ s.gb (F.CMP_STATUS_RETIRED c.val) = false ∧ 120 ≤ c.val ∧ s.g (F.CMP_CTL_FUNC c.val) = 0x7F ∧ s.gb (F.CMP_STATUS_ARMED c.val) = false ∧ s.classOf 0x14 none < 4 ∧ (∀ f : Fin 120, s.servedBy f.val ≠ c.val))
    ∧ (∃ (s : State) (f : Fin 120) (c : Nat), s.core = true ∧ s.servedBy f.val = 0xFF ∧ s.spareCmp = some c)
    ∧ (∃ (s : State) (f : Fin 120), s.servedBy f.val ≠ 0xFF)
    ∧ (∃ (s : State) (i : Fin 7) (a : BitVec 12) (b : BitVec 12), s.core = true ∧ bitAt (s.g F.FM_IC_ICRET) i.val = false ∧ ((a.toNat : Int) - b.toNat).natAbs ≤ 32)
    ∧ (∃ (s : State) (i : Fin 7), s.core = true ∧ bitAt (s.g F.FM_IC_ICRET) i.val = false ∧ s.g F.FM_IC_ICSPARE ≠ i.val ∧ s.g F.FM_IC_ICSPARE ≠ 7 ∧ s.classOf 0x15 none < 4)
    ∧ (∃ (s : State) (g : Fin 6), s.core = true ∧ s.noConverter g.val = true ∧ s.g F.FM_IC_ICSPARE ≠ 7)
    ∧ (∃ (s : State), s.g F.FM_IC_ICSPARE = 7) :=
  ⟨⟨std, 0, 16, by decide +kernel⟩,
   ⟨(arm 0 std), 0, 64, by decide +kernel⟩,
   ⟨(arm 0 std), 0, 65, by decide +kernel⟩,
   ⟨std, 127, by decide +kernel⟩,
   ⟨(std.p (F.CMP_STATUS_SERVEDBY 0) 0xFF), 0, 120, by decide +kernel⟩,
   ⟨std, 119, by decide +kernel⟩,
   ⟨std, 6, 32, 0, by decide +kernel⟩,
   ⟨std, 5, by decide +kernel⟩,
   ⟨(std.p F.FM_IC_ICRET 1), 0, by decide +kernel⟩,
   ⟨(std.p F.FM_IC_ICSPARE 7), by decide +kernel⟩⟩

theorem test_witness_StrikesDecayAndHeatDeclares :
    (∃ (s : State) (n : Fin 48), vget s.strikes.phase n ≤ 15)
    ∧ (∃ (s : State) (c : Fin 128), vget s.strikes.cmp c ≤ 15)
    ∧ (∃ (i : Fin 128), 48 ≤ i.val)
    ∧ (∃ (s : State), s.core = true ∧ (vget s.conv.sensor 8).seen = true ∧ (vget s.conv.sensor 8).valid = true ∧ (vget s.conv.sensor 8).hot = true ∧ (vget s.conv.sensor 8).done = false)
    ∧ (∃ (s : State) (i : Fin 9) (k : Fin 8), i ≠ 8 ∧ s.core = true ∧ (vget s.conv.sensor i).seen = true ∧ (vget s.conv.sensor i).valid = true ∧ (vget s.conv.sensor i).hot = true ∧ (vget s.conv.sensor i).done = false ∧ s.affects i.val k = true)
    ∧ (∃ (s : State) (i : Fin 9), (vget s.conv.sensor i).done = true) :=
  ⟨⟨{ std with strikes := { std.strikes with phase := .replicate 48 15 } }, 47, by decide +kernel⟩,
   ⟨std, 127, by decide +kernel⟩,
   ⟨48, by decide +kernel⟩,
   ⟨{ std with conv := { std.conv with sensor := .replicate 9 ⟨true, false, true, true, true, none⟩ } }, by decide +kernel⟩,
   ⟨(act 0 ({ std with conv := { std.conv with sensor := .replicate 9 ⟨true, false, true, true, true, none⟩ } })), 0, 0, by decide +kernel⟩,
   ⟨{ std with conv := { std.conv with sensor := .replicate 9 ⟨true, true, true, true, true, none⟩ } }, 8, by decide +kernel⟩⟩

theorem test_witness_SensorsAreDeclared :
    (∃ (s : State) (n : Fin 48) (k : Fin 8), s.railOf n.val = some k ∧ s.enabled k = true ∧ (s.rl n).role = .active ∧ s.g (F.INK_OPEN_OPENLOAD k.val) ≠ 0 ∧ 8 ≤ (s.rl n).near ∧ s.g (F.PHASE_ROLE_RCAUSE n.val) = 0 ∧ s.classOf 5 none < 2)
    ∧ (∃ (s : State) (n : Fin 48), s.railOf n.val = none)
    ∧ (∃ (s : State) (n : Fin 48), (s.rl n).near < 8)
    ∧ (∃ (s : State) (n : Fin 48) (m : Fin 48) (k : Fin 8), s.railOf n.val = some k ∧ (s.rl n).role = .active ∧ s.blind n.val = false ∧ 64 ≤ (s.rl n).stuckN ∧ m ∈ s.ring k ∧ m ≠ n ∧ s.sighted m = true ∧ (s.rl m).role = .active)
    ∧ (∃ (s : State) (n : Fin 48) (k : Fin 8), s.railOf n.val = some k ∧ (s.rl n).role = .active ∧ s.blind n.val = false ∧ 64 ≤ (s.rl n).stuckN ∧ (∀ m ∈ s.ring k, m = n ∨ s.sighted m = false ∨ (s.rl m).role ≠ .active))
    ∧ (∃ (s : State) (n : Fin 48), (s.rl n).role = .test ∧ 64 ≤ (s.rl n).stuckN)
    ∧ (∃ (s : State) (n : Fin 48), (s.rl n).stuckN < 64)
    ∧ (∃ (s : State) (n : Fin 48) (m : Fin 48) (k : Fin 8) (g : Fin 6) (a : Nat), s.railOf n.val = some k ∧ (s.rl n).role = .active ∧ s.blind n.val = false ∧ g.val = groupOf n.val ∧ s.tooWarm g.val = true ∧ vget s.chk.warm g = some a ∧ s.g F.INK_HCFG_TDWELL * 1280000000 ≤ elapsed a s.clock ∧ s.suspect (fun m => s.inRing m && groupOf m.val == groupOf n.val) = some n ∧ m ∈ s.ring k ∧ m ≠ n ∧ s.sighted m = true ∧ (s.rl m).role = .active)
    ∧ (∃ (s : State) (n : Fin 48), s.tooWarm (groupOf n.val) = false)
    ∧ (∃ (s : State) (n : Fin 48) (m : Fin 48) (k : Fin 8), s.railOf n.val = some k ∧ (s.rl n).role = .active ∧ s.blind n.val = false ∧ s.gb (F.INK_XSENSE_XEN k.val) = true ∧ s.st k = .on ∧ 8 ≤ (s.ra k).ink.sumBad ∧ s.suspect (s.ring k).contains = some n ∧ m ∈ s.ring k ∧ m ≠ n ∧ s.sighted m = true ∧ (s.rl m).role = .active)
    ∧ (∃ (s : State), (∀ k : Fin 8, (s.ra k).ink.sumBad < 8)) :=
  ⟨⟨((((run.modRl 0 fun r => { r with near := 8 }).p (F.INK_OPEN_OPENLOAD 0) 1)).setWord (A.FM_CLASS 0) 0), 0, 0, by decide +kernel⟩,
   ⟨std, 0, by decide +kernel⟩,
   ⟨std, 47, by decide +kernel⟩,
   ⟨(run.modRl 0 fun r => { r with stuckN := 64 }), 0, 1, 0, by decide +kernel⟩,
   ⟨((run.modRl 0 fun r => { r with stuckN := 64 }).pb (F.PHASE_ROLE_BLIND 1) true), 0, 0, by decide +kernel⟩,
   ⟨(run.modRl 0 fun r => { r with role := .test, stuckN := 64 }), 0, by decide +kernel⟩,
   ⟨run, 0, by decide +kernel⟩,
   ⟨(((({ run with conv := { run.conv with sensor := .replicate 9 ⟨true, false, true, true, true, none⟩ }, chk := { run.chk with warm := .replicate 6 (some 0) } }.p F.INK_TMODEL_KT1 1).p (F.MC_CH_DATA_VALUE 62) 4000).p F.INK_HCFG_TDEV 1).p F.INK_HCFG_TDWELL 0), 0, 1, 0, 0, 0, by decide +kernel⟩,
   ⟨std, 47, by decide +kernel⟩,
   ⟨((run.modInk 0 fun i => { i with sumBad := 8 }).pb (F.INK_XSENSE_XEN 0) true), 0, 1, 0, by decide +kernel⟩,
   ⟨std, by decide +kernel⟩⟩

theorem test_witness_InnkeeperActs :
    (∃ (s : State) (k : Fin 8), (s.ra k).ink.want = none ∧ (s.ra k).ink.rewrite = none ∧ s.retiring k = [])
    ∧ (∃ (s : State) (k : Fin 8) (l : List (Fin 48)), (s.ra k).ink.want = some l ∧ s.retiring k = [] ∧ s.enabled k = true)
    ∧ (∃ (s : State) (k : Fin 8), (s.ra k).md.fc = none)
    ∧ (∃ (s : State) (k : Fin 8) (f : Forecast), (s.ra k).md.fc = some f)
    ∧ (∃ (s : State), s.running = true)
    ∧ (∃ (s : State), s.running = false)
    ∧ (∃ (s : State), s.core = true)
    ∧ (∃ (s : State), s.core = false) :=
  ⟨⟨std, 0, by decide +kernel⟩,
   ⟨(run.modInk 0 fun i => { i with want := some [1, 0], base := [0, 1] }), 0, [1, 0], by decide +kernel⟩,
   ⟨std, 0, by decide +kernel⟩,
   ⟨(md (fun m => { m with fc := some ⟨10, 0, 0, true, false, false, none, false⟩ }) run), 0, ⟨10, 0, 0, true, false, false, none, false⟩, by decide +kernel⟩,
   ⟨std, by decide +kernel⟩,
   ⟨dv .safe, by decide +kernel⟩,
   ⟨std, by decide +kernel⟩,
   ⟨off, by decide +kernel⟩⟩

theorem test_witness_PhaseRequestsAndTests :
    (∃ (s : State) (m : Master) (n : Fin 48) (e : BitVec 8), judge m A.INK_REQ (inkWord 1 n e) s = .ok ∧ e ≠ (s.rl n).epoch)
    ∧ (∃ (s : State) (m : Master) (n : Fin 48), judge m A.INK_REQ (inkWord 1 n (s.rl n).epoch) s = .ok ∧ (s.rl n).role ≠ .retired ∧ (s.rl n).role ≠ .unavailable ∧ s.g (F.PHASE_ROLE_RCAUSE n.val) = 0)
    ∧ (∃ (s : State) (m : Master) (n : Fin 48), judge m A.INK_REQ (inkWord 1 n (s.rl n).epoch) s = .ok ∧ (s.rl n).role = .retired)
    ∧ (∃ (s : State) (m : Master) (n : Fin 48), judge m A.INK_REQ (inkWord 2 n (s.rl n).epoch) s = .ok ∧ s.mayTest n = true)
    ∧ (∃ (s : State) (m : Master) (n : Fin 48), judge m A.INK_REQ (inkWord 2 n (s.rl n).epoch) s = .ok ∧ s.mayTest n = false)
    ∧ (∃ (s : State) (m : Master) (n : Fin 48), judge m A.INK_REQ (inkWord 3 n (s.rl n).epoch) s = .ok ∧ (s.rl n).role = .test ∧ (s.rl n).before ≠ .test)
    ∧ (∃ (s : State) (m : Master) (n : Fin 48), judge m A.INK_REQ (inkWord 3 n (s.rl n).epoch) s = .ok ∧ (s.rl n).role ≠ .test)
    ∧ (∃ (s : State) (n : Fin 48), (s.rl n).role = .test ∧ (s.rl n).before ≠ .test ∧ s.g F.INK_TEST_TESTLEN ≤ (s.rl n).testRun ∧ s.q15Len < 32 ∧ s.nv.waiting = [])
    ∧ (∃ (s : State) (n : Fin 48), (s.rl n).testRun < s.g F.INK_TEST_TESTLEN)
    ∧ (∃ (s : State) (n : Fin 48), (s.rl n).role ≠ .test)
    ∧ (∃ (s : State) (n : Fin 48) (e : BitVec 8), e ≠ (s.rl n).epoch) :=
  ⟨⟨std, .sup, 47, 1, by decide +kernel⟩,
   ⟨std, .sup, 0, by decide +kernel⟩,
   ⟨(std.modRl 0 fun r => { r with role := .retired }), .sup, 0, by decide +kernel⟩,
   ⟨((std.p (F.PHASE_CTL_MODE 0) 2).modRl 0 fun r => { r with role := .unassigned, before := .spare, epoch := 7 }), .sup, 0, by decide +kernel⟩,
   ⟨std, .sup, 0, by decide +kernel⟩,
   ⟨(std.modRl 0 fun r => { r with role := .test, before := .spare, epoch := 7, testCnt := 1 }), .sup, 0, by decide +kernel⟩,
   ⟨std, .sup, 0, by decide +kernel⟩,
   ⟨((std.p F.INK_TEST_TESTLEN 2).modRl 0 fun r => { r with role := .test, before := .spare, epoch := 7, testCnt := 1, testRun := 2 }), 0, by decide +kernel⟩,
   ⟨(std.p F.INK_TEST_TESTLEN 2), 0, by decide +kernel⟩,
   ⟨std, 0, by decide +kernel⟩,
   ⟨std, 0, 1, by decide +kernel⟩⟩

theorem test_witness_ModelStepAndFeeds :
    (∃ (s : State), s.core = true ∧ s.pt.inCharge = false ∧ s.isArmed 4 0xFF = false)
    ∧ (∃ (s : State), s.core = true ∧ s.img.armed = [] ∧ (breaker (latchReadings (s.atTime s.porterTime))).2 = true)
    ∧ (∃ (s : State), s.core = false)
    ∧ (∃ (s : State) (b : Bool), s.core = true ∧ s.img.armed = [] ∧ s.sup.vaon = true ∧ s.pt.inCharge = false ∧ s.ptSt = 0 ∧ s.fnOut 112 = false ∧ bitAt s.np.feeden (feedIx b).val = true)
    ∧ (∃ (s : State), s.core = true ∧ s.img.armed = [] ∧ s.sup.vaon = true ∧ s.pt.inCharge = true)
    ∧ (∃ (s : State) (b : Bool), s.dev = .off ∧ s.sup.vaon = true ∧ s.sup.vcore = true ∧ s.sup.vdd33 = true ∧ s.sup.resetHigh = true ∧ s.sup.sleep = true ∧ s.sup.wake = none ∧ vget s.np.watch (feedIx b) = false ∧ bitAt (if s.pt.inCharge then s.g F.PT_CTL_FEEDEN else s.np.feeden) (feedIx b).val = true)
    ∧ (∃ (s : State) (b : Bool), s.sup.vaon = true ∧ s.img.armed = [] ∧ s.pt.inCharge = false ∧ vget s.np.watch (otherFeed (feedIx b)) = false ∧ 1 ≤ s.ptSt ∧ s.ptSt ≤ 3)
    ∧ (∃ (s : State), s.sup.vaon = false)
    ∧ (∃ (s : State) (b : Bool), s.core = true ∧ s.img.armed = [] ∧ vget s.np.gate (feedIx b) = true ∧ vget s.pt.raised (feedIx b) ≠ some (s.g F.NP_SECS_SECS))
    ∧ (∃ (s : State) (b : Bool), vget s.np.gate (feedIx b) = false) :=
  ⟨⟨std, by decide +kernel⟩,
   ⟨(((({ std with pt := { std.pt with inCharge := true, brk := 2 ^ 24 } }.p F.NP_RSTATE_NPSTATE 3).p (F.MC_CH_DATA_VALUE 75) 1000).p F.PT_SENSE_RSNS 1).p (F.PT_BRK_ICUR 0) 1), by decide +kernel⟩,
   ⟨off, by decide +kernel⟩,
   ⟨std, false, by decide +kernel⟩,
   ⟨(charge std), by decide +kernel⟩,
   ⟨({ off with sup := { off.sup with sleep := true } }), true, by decide +kernel⟩,
   ⟨((fed std).p F.NP_RSTATE_NPSTATE 3), false, by decide +kernel⟩,
   ⟨{ off with sup := { off.sup with vaon := false } }, by decide +kernel⟩,
   ⟨{ std with np := { std.np with gate := .replicate 2 true } }, true, by decide +kernel⟩,
   ⟨std, false, by decide +kernel⟩⟩

theorem test_witness_ModelStepMovesState :
    (∃ (s : State) (f : Nat) (l : List Nat), s.core = true ∧ s.pt.inCharge = true ∧ s.img.armed = [] ∧ gateFids (breaker (latchReadings (s.atTime s.porterTime))).2 (fetHotIdle s.fetHot (fetWarn (fetModel (breaker (latchReadings (s.atTime s.porterTime))).1))) = f :: l ∧ s.pt.short = false ∧ s.pt.inov = false ∧ s.pt.warnArmed = false)
    ∧ (∃ (s : State), s.core = true ∧ s.pt.inCharge = true ∧ s.img.armed = [] ∧ gateFids (breaker (latchReadings (s.atTime s.porterTime))).2 (fetHotIdle s.fetHot (fetWarn (fetModel (breaker (latchReadings (s.atTime s.porterTime))).1))) = [] ∧ s.pt.short = false ∧ s.pt.inov = false ∧ s.pt.warnArmed = false) :=
  ⟨⟨(({ std with pt := { std.pt with inCharge := true, warnArmed := false, late := true } }.p F.NP_RSTATE_NPSTATE 2).p (F.PT_BRK_ICUR 0) 255), 0x1B, [], by decide +kernel⟩,
   ⟨(({ (fed std) with pt := { std.pt with inCharge := true, warnArmed := false, debounced := true } }.p F.NP_RSTATE_NPSTATE 1).p F.PT_FETT_TFMAX 100), by decide +kernel⟩⟩

theorem test_witness_HotSwapStates :
    (∃ (s : State), s.sup.vaon = true ∧ s.pt.inCharge = false ∧ s.ptSt = 1 ∧ s.inputPresent = true ∧ s.g F.NP_RSTATE_REMWAIT = 0)
    ∧ (∃ (s : State), s.sup.vaon = true ∧ s.ptSt = 1 ∧ s.inputPresent = true ∧ (s.pt.inCharge = true ∨ s.g F.NP_RSTATE_REMWAIT ≠ 0))
    ∧ (∃ (s : State), s.ptSt ≠ 1)
    ∧ (∃ (s : State), s.pt.inCharge = true ∧ s.ptSt = 2)
    ∧ (∃ (s : State), s.ptSt ≠ 2)
    ∧ (∃ (s : State), s.fetShorted = true ∧ s.img.armed = [])
    ∧ (∃ (s : State), s.fetShorted = false)
    ∧ (∃ (s : State), s.sup.vaon = true ∧ s.g F.NP_RSTATE_REMWAIT ≠ 0 ∧ s.ptSt = 4)
    ∧ (∃ (s : State), s.sup.vaon = true)
    ∧ (∃ (s : State) (m : Master) (b : Bool), judge m A.PT_CTL (s.withField F.PT_CTL_HOSTOFF b.toNat) s = .ok ∧ s.pt.inCharge = true ∧ s.img.armed = [])
    ∧ (∃ (s : State) (m : Master), judge m A.PT_CTL (s.withField F.PT_CTL_CLRLATCH 1) s = .ok ∧ s.pt.inCharge = true ∧ s.img.armed = [])
    ∧ (∃ (s : State), s.sup.vaon = true ∧ s.pt.inCharge = false ∧ s.ptSt = 2)
    ∧ (∃ (s : State), s.sup.vaon = true ∧ s.pt.inCharge = false ∧ s.ptSt = 2)
    ∧ (∃ (s : State), s.pt.inCharge = true)
    ∧ (∃ (s : State), s.core = true ∧ s.pfw = true ∧ s.ptSt = 3 ∧ s.pfwHolds = false)
    ∧ (∃ (s : State), s.pfwHolds = true) :=
  ⟨⟨((fed std).p F.NP_RSTATE_NPSTATE 1), by decide +kernel⟩,
   ⟨(((fed std).p F.NP_RSTATE_NPSTATE 1).p F.NP_RSTATE_REMWAIT 1), by decide +kernel⟩,
   ⟨std, by decide +kernel⟩,
   ⟨((charge std).p F.NP_RSTATE_NPSTATE 2), by decide +kernel⟩,
   ⟨std, by decide +kernel⟩,
   ⟨(fed (charge std)), by decide +kernel⟩,
   ⟨std, by decide +kernel⟩,
   ⟨((std.p F.NP_RSTATE_NPSTATE 4).p F.NP_RSTATE_REMWAIT 1), by decide +kernel⟩,
   ⟨std, by decide +kernel⟩,
   ⟨(charge std), .sup, true, by decide +kernel⟩,
   ⟨((charge std).p F.NP_RSTATE_NPSTATE 5), .sup, by decide +kernel⟩,
   ⟨(std.p F.NP_RSTATE_NPSTATE 2), by decide +kernel⟩,
   ⟨(std.p F.NP_RSTATE_NPSTATE 2), by decide +kernel⟩,
   ⟨(charge std), by decide +kernel⟩,
   ⟨(((std.p F.NP_RSTATE_NPSTATE 3).pb F.PT_STATUS_PFWNOW true).p F.PT_PFW_PFWSRC 0), by decide +kernel⟩,
   ⟨(std.p F.PT_PFW_PFWSRC 7), by decide +kernel⟩⟩

theorem test_witness_LinkFramesAnswer :
    (∃ (s : State) (p : Fin 2) (f : Frame), Heard s p 0 f)
    ∧ (∃ (s : State) (p : Fin 2) (f : Frame), Heard s p 3 f ∧ f.arg.toNat ≤ 8)
    ∧ (∃ (s : State) (p : Fin 2) (f : Frame), Heard s p (4 + f.slot.val) f ∧ f.arg = 1)
    ∧ (∃ (s : State) (p : Fin 2) (f : Frame) (k : Fin 8), HeardFor s p 4 f k ∧ f.arg = 0)
    ∧ (∃ (s : State) (p : Fin 2) (f : Frame) (k : Fin 8), HeardFor s p 8 f k ∧ s.g (F.LNK_STATUS_VER p.val) = 2)
    ∧ (∃ (s : State) (p : Fin 2) (f : Frame) (k : Fin 8), HeardFor s p 0xC f k)
    ∧ (∃ (s : State) (p : Fin 2) (f : Frame), Heard s p 2 f ∧ s.dev ≠ .safe ∧ f.arg = 1)
    ∧ (∃ (s : State) (p : Fin 2) (f : Frame), Heard s p 1 f ∧ s.dev ≠ .safe ∧ f.arg ≠ 0 ∧ f.data = 0)
    ∧ (∃ (s : State) (p : Fin 2) (f : Frame), Heard s p (8 + f.slot.val) f ∧ s.dev = .safe ∧ s.slotRail p.val f.ep.val f.slot.val ≠ none)
    ∧ (∃ (s : State) (p : Fin 2) (f : Frame), s.linkOn p = true ∧ s.epOn p.val f.ep.val = false)
    ∧ (∃ (s : State) (p : Fin 2) (f : Frame), s.linkOn p = true ∧ s.slotRail p.val f.ep.val f.slot.val = none)
    ∧ (∃ (s : State) (p : Fin 2) (op : BitVec 6), s.linkOn p = true ∧ 0x28 ≤ op.toNat)
    ∧ (∃ (s : State) (p : Fin 2), s.linkOn p = true)
    ∧ (∃ (s : State) (p : Fin 2), s.linkOn p = true)
    ∧ (∃ (s : State) (p : Fin 2), s.linkOn p = true)
    ∧ (∃ (s : State) (p : Fin 2), s.linkOn p = false)
    ∧ (∃ (s : State) (p : Fin 2) (f : Frame) (a : Nat) (d : BitVec 16), s.linkOn p = true ∧ s.duplicate p (0x10 + f.slot.val) f = some (a, d)) :=
  ⟨⟨(link std), 0, fr 0 7, by unfold Heard; decide +kernel⟩,
   ⟨(link std), 0, fr 8 0, by unfold Heard; decide +kernel⟩,
   ⟨(link std), 0, fr 1 0, by unfold Heard; decide +kernel⟩,
   ⟨(link std), 0, fr 0 0, 0, by unfold HeardFor Heard; decide +kernel⟩,
   ⟨(link std), 0, fr 6 0, 0, by unfold HeardFor Heard; decide +kernel⟩,
   ⟨(link std), 0, fr 3 0, 0, by unfold HeardFor Heard; decide +kernel⟩,
   ⟨(link std), 0, fr 1 0xFFFF, by unfold Heard; decide +kernel⟩,
   ⟨(link std), 0, fr 2 0, by unfold Heard; decide +kernel⟩,
   ⟨(link (dv .safe)), 0, fr 0 0, by unfold Heard; decide +kernel⟩,
   ⟨((link std).pb (F.LNK_EP_BIND_EPEN 0 0) false), 0, fr 0 0, by decide +kernel⟩,
   ⟨((link std).setWord (A.LNK_EP_BIND 0 0) 0), 0, fr 0 0, by decide +kernel⟩,
   ⟨(link std), 0, 0x28, by decide +kernel⟩,
   ⟨(link std), 0, by decide +kernel⟩,
   ⟨(link std), 0, by decide +kernel⟩,
   ⟨(link std), 0, by decide +kernel⟩,
   ⟨std, 1, by decide +kernel⟩,
   ⟨(((({ link std with port := vset std.port 0 ⟨vset (.replicate 4 none) 0 (some ⟨0, 7, 9⟩), none⟩ }).p (F.LNK_EP_LAST_OP 0 0) 0x10).p (F.LNK_EP_LAST_TAG 0 0) 5).p (F.LNK_EP_LAST_ACK 0 0) 1), 0, fr 0 7, 1, 9, by decide +kernel⟩⟩

theorem test_witness_LinkFramesCommand :
    (∃ (s : State) (p : Fin 2) (f : Frame) (k : Fin 8), HeardFor s p 0x10 f k ∧ f.arg = 0 ∧ s.gateWrite (linkMaster p) (A.RAIL_VSET k.val) false = none ∧ s.g (F.LNK_STATUS_VER p.val) = 2 ∧ s.inLimits k.val f.data.toNat = true ∧ s.room ⟨k.val, by omega⟩ 1 = true)
    ∧ (∃ (s : State) (p : Fin 2) (f : Frame) (k : Fin 8), HeardFor s p 0x10 f k ∧ f.arg = 0 ∧ s.gateWrite (linkMaster p) (A.RAIL_VSET k.val) false = none ∧ s.g (F.LNK_STATUS_VER p.val) = 2 ∧ s.inLimits k.val f.data.toNat = true ∧ s.room ⟨k.val, by omega⟩ 1 = false)
    ∧ (∃ (s : State) (p : Fin 2) (f : Frame) (k : Fin 8), HeardFor s p 0x10 f k ∧ f.arg = 0 ∧ s.gateWrite (linkMaster p) (A.RAIL_VSET k.val) false = none ∧ s.g (F.LNK_STATUS_VER p.val) = 2 ∧ s.inLimits k.val f.data.toNat = false)
    ∧ (∃ (s : State) (p : Fin 2) (f : Frame) (k : Fin 8) (kind : Nat), HeardFor s p 0x10 f k ∧ s.gateWrite (linkMaster p) (A.RAIL_VSET k.val) false = some kind)
    ∧ (∃ (s : State) (p : Fin 2) (f : Frame) (k : Fin 8) (w : Nat), HeardFor s p 0x14 f k ∧ slewOverride f.arg.toNat = some w ∧ s.gateWrite (linkMaster p) (A.RAIL_VSET k.val) false = none ∧ s.g (F.LNK_STATUS_VER p.val) = 2 ∧ s.inLimits k.val f.data.toNat = true ∧ s.room ⟨k.val, by omega⟩ 1 = true)
    ∧ (∃ (s : State) (p : Fin 2) (f : Frame) (k : Fin 8), HeardFor s p 0x18 f k ∧ f.arg = 0 ∧ s.gateWrite (linkMaster p) (A.RAIL_VSET k.val) false = none ∧ s.room ⟨k.val, by omega⟩ 1 = true)
    ∧ (∃ (s : State) (p : Fin 2) (f : Frame) (k : Fin 8), HeardFor s p 0x24 f k ∧ (f.arg = 0 ∨ f.arg = 1) ∧ f.data = 0 ∧ s.gateWrite (linkMaster p) (A.RAIL_VSET k.val) false = none ∧ s.g (F.RAIL_SEQCTL_ENMODE k.val) = 0 ∧ s.room ⟨k.val, by omega⟩ 1 = true)
    ∧ (∃ (s : State) (p : Fin 2) (f : Frame) (k : Fin 8), HeardFor s p 0x24 f k ∧ s.gateWrite (linkMaster p) (A.RAIL_VSET k.val) false = none ∧ s.g (F.RAIL_SEQCTL_ENMODE k.val) = 3)
    ∧ (∃ (s : State) (p : Fin 2) (f : Frame) (k : Fin 8), HeardFor s p 0x18 f k ∧ f.arg = 0x80)
    ∧ (∃ (s : State) (p : Fin 2) (f : Frame) (k : Fin 8), HeardFor s p 0x1C f k ∧ s.gateWrite (linkMaster p) (A.RAIL_VSET k.val) false = none ∧ (s.st k = .wake ∨ s.st k = .ramp ∨ s.st k = .on))
    ∧ (∃ (s : State) (p : Fin 2) (f : Frame) (k : Fin 8), HeardFor s p 0x20 f k ∧ s.gateWrite (linkMaster p) (A.RAIL_VSET k.val) false = none ∧ (s.st k = .wake ∨ s.st k = .ramp ∨ s.st k = .on) ∧ s.g (F.EPH_CTL_PSRC k.val) = 0 ∧ 16 * s.ts k.val ≤ f.data.toNat + f.arg.toNat % 128 * 2 ^ 16)
    ∧ (∃ (s : State) (p : Fin 2) (f : Frame) (k : Fin 8), HeardFor s p 0x20 f k ∧ s.gateWrite (linkMaster p) (A.RAIL_VSET k.val) false = none ∧ (s.st k = .wake ∨ s.st k = .ramp ∨ s.st k = .on) ∧ s.g (F.EPH_CTL_PSRC k.val) = 0 ∧ f.data.toNat + f.arg.toNat % 128 * 2 ^ 16 < 16 * s.ts k.val)
    ∧ (∃ (s : State) (p : Fin 2) (f : Frame) (k : Fin 8), HeardFor s p 0x1C f k ∧ s.st k = .off ∧ s.gateWrite (linkMaster p) (A.RAIL_VSET k.val) false = none) :=
  ⟨⟨((link std).p (F.RAIL_VLIM_VMAX 0) 20000), 0, fr 0 20000, 0, by unfold HeardFor Heard; decide +kernel⟩,
   ⟨((link (std.setQ 0 (.replicate 16 qe))).p (F.RAIL_VLIM_VMAX 0) 20000), 0, fr 0 20000, 0, by unfold HeardFor Heard; decide +kernel⟩,
   ⟨((link std).p (F.RAIL_VLIM_VMAX 0) 20000), 0, fr 0 20001, 0, by unfold HeardFor Heard; decide +kernel⟩,
   ⟨(link (dv .lockdown)), 0, fr 0 0, 0, 5, by unfold HeardFor Heard; decide +kernel⟩,
   ⟨((link std).p (F.RAIL_VLIM_VMAX 0) 20000), 0, fr 0xD0 20000, 0, 8000, by unfold HeardFor Heard; decide +kernel⟩,
   ⟨((link std).p (F.RAIL_VLIM_VMAX 0) 20000), 0, fr 0 10, 0, by unfold HeardFor Heard; decide +kernel⟩,
   ⟨((link std).p (F.RAIL_VLIM_VMAX 0) 20000), 0, fr 1 0, 0, by unfold HeardFor Heard; decide +kernel⟩,
   ⟨(((link std).p (F.RAIL_VLIM_VMAX 0) 20000).p (F.RAIL_SEQCTL_ENMODE 0) 3), 0, fr 0 0, 0, by unfold HeardFor Heard; decide +kernel⟩,
   ⟨((link std).p (F.RAIL_VLIM_VMAX 0) 20000), 0, fr 0x80 0xFFFF, 0, by unfold HeardFor Heard; decide +kernel⟩,
   ⟨(link run), 0, fr 0 10, 0, by unfold HeardFor Heard; decide +kernel⟩,
   ⟨((link run).p (F.EPH_CTL_PSRC 0) 0), 0, fr 0x7F 0, 0, by unfold HeardFor Heard; decide +kernel⟩,
   ⟨((link run).p (F.EPH_CTL_PSRC 0) 0), 0, fr 0 0, 0, by unfold HeardFor Heard; decide +kernel⟩,
   ⟨((link std).p (F.RAIL_VLIM_VMAX 0) 20000), 0, fr 0 10, 0, by unfold HeardFor Heard; decide +kernel⟩⟩

theorem test_witness_TelemetryActs :
    (∃ (s : State), s.core = true ∧ s.img.armed = [])
    ∧ (∃ (s : State), s.core = false)
    ∧ (∃ (s : State), s.sup.vaon = true ∧ s.core = true)
    ∧ (∃ (s : State), s.sup.vaon = true ∧ s.dev = .off ∧ s.sup.sleep = true ∧ s.sup.vcore = true ∧ s.sup.vdd33 = true ∧ s.sup.resetHigh = true ∧ s.sup.wake = none ∧ s.g F.NP_ALARM_ALARM ≠ 0 ∧ s.g F.NP_ALARM_ALARM = (s.g F.NP_SECS_SECS + 1) % 2 ^ 32)
    ∧ (∃ (s : State), s.sup.vaon = false)
    ∧ (∃ (s : State), s.core = true ∧ s.gb F.TM_CTL_EN = true ∧ s.room 12 s.items.length = true)
    ∧ (∃ (s : State), s.core = true ∧ s.gb F.TM_CTL_EN = true ∧ s.room 12 s.items.length = false)
    ∧ (∃ (s : State), s.gb F.TM_CTL_EN = false)
    ∧ (∃ (s : State), s.core = true) :=
  ⟨⟨std, by decide +kernel⟩,
   ⟨off, by decide +kernel⟩,
   ⟨std, by decide +kernel⟩,
   ⟨{ (off.p F.NP_ALARM_ALARM 2) with sup := { off.sup with sleep := true } }, by decide +kernel⟩,
   ⟨{ off with sup := { off.sup with vaon := false } }, by decide +kernel⟩,
   ⟨((std.pb F.TM_CTL_EN true).p (F.TM_ITEM_ITEM 0) 5), by decide +kernel⟩,
   ⟨(((std.setQ 12 (.replicate 64 qe)).pb F.TM_CTL_EN true).p (F.TM_ITEM_ITEM 0) 5), by decide +kernel⟩,
   ⟨std, by decide +kernel⟩,
   ⟨std, by decide +kernel⟩⟩

theorem test_witness_NonVolatileStore :
    (∃ (s : State) (r : LedgerRec) (pin : Bool) (l : List NvWrite), s.dev ≠ .off ∧ s.nv.q15 = .record r pin :: l ∧ s.nv.waiting = [] ∧ SMap.get (fun _ => (0 : Nat)) s.nv.writes (192 + ringSlot r.seq / 4) + 1 < writeLimit)
    ∧ (∃ (s : State) (i : Nat) (v : Word) (l : List NvWrite), s.dev ≠ .off ∧ s.nv.q15 = .hostWord i v :: l ∧ s.nv.waiting = [] ∧ SMap.get (fun _ => (0 : Nat)) s.nv.writes (288 + i / 256) + 1 < writeLimit)
    ∧ (∃ (s : State) (l : List NvWrite), s.dev ≠ .off ∧ s.nv.q15 = .health :: l)
    ∧ (∃ (s : State) (w : NvWrite) (v : NvWrite) (l : List NvWrite) (ws : List NvWrite), s.dev ≠ .off ∧ s.nv.q15 = w :: l ∧ s.nv.waiting = v :: ws)
    ∧ (∃ (s : State) (w : NvWrite) (l : List NvWrite), s.dev ≠ .off ∧ s.nv.q15 = w :: l ∧ s.nv.spare ≠ 0)
    ∧ (∃ (s : State) (r : LedgerRec) (pin : Bool) (l : List NvWrite), s.dev ≠ .off ∧ s.nv.q15 = .record r pin :: l ∧ s.nv.spare ≠ 0 ∧ writeLimit ≤ SMap.get (fun _ => (0 : Nat)) s.nv.writes (192 + ringSlot r.seq / 4) + 1)
    ∧ (∃ (s : State), s.nv.q15 = [])
    ∧ (∃ (s : State), (s.running = true ∨ s.dev = .safe) ∧ s.nv.scrub = none ∧ s.nv.lastScrub + 2592000 ≤ s.g F.NP_SECS_SECS ∧ (s.nv.ready < s.nv.lastScrub + 2592000 ∨ s.nv.ready + 10 ≤ s.g F.NP_SECS_SECS))
    ∧ (∃ (s : State), (s.g F.NP_SECS_SECS < s.nv.lastScrub + 2592000 ∨ s.nv.lastScrub + 2592000 ≤ s.nv.ready ∧ s.g F.NP_SECS_SECS < s.nv.ready + 10))
    ∧ (∃ (s : State) (i : Nat), s.nv.scrub = some i)
    ∧ (∃ (s : State) (i : Nat), s.nv.scrub = some i ∧ i < 511)
    ∧ (∃ (s : State), s.nv.scrub = some 511)
    ∧ (∃ (s : State) (i : Nat) (c : List (Fin 256)), s.nv.scrub = some i ∧ i < 308 ∧ c ≠ [] ∧ SMap.get (fun _ => (0 : Nat)) s.nv.writes i + c.length < writeLimit)
    ∧ (∃ (s : State) (i : Nat), s.nv.scrub = some i ∧ i < 192)
    ∧ (∃ (s : State) (i : Nat), s.nv.scrub = some i ∧ 288 ≤ i ∧ i < 304)
    ∧ (∃ (s : State) (i : Nat), s.nv.scrub = some i ∧ 304 ≤ i ∧ i < 308)
    ∧ (∃ (s : State), s.nv.scrub = none)
    ∧ (∃ (s : State) (m : Master) (q : Word), judge m A.LG_RDSEQ q s = .ok)
    ∧ (∃ (s : State) (q : Nat), s.nv.reading = some q ∧ q ≠ 0 ∧ s.nv.found = ⟨[], []⟩)
    ∧ (∃ (s : State) (r : LedgerRec) (w : Nat), s.nv.reading = some 0 ∧ s.nv.pinned = some r ∧ s.nv.pinBad = false ∧ w < 64 ∧ s.nv.found = ⟨[w], []⟩)
    ∧ (∃ (s : State) (r : LedgerRec) (w : Nat), s.nv.reading = some 0 ∧ s.nv.pinned = some r ∧ w < 64 ∧ s.nv.found = ⟨[], [⟨w, false⟩]⟩)
    ∧ (∃ (s : State), s.nv.reading = none)
    ∧ (∃ (s : State) (m : Master), judge m A.LG_CTL (s.withField F.LG_CTL_PINREL 1) s = .ok)
    ∧ (∃ (s : State) (m : Master) (v : Word), judge m A.HNV_DATA v s = .ok ∧ s.nv.waiting = [])
    ∧ (∃ (s : State) (m : Master), judgeRead m A.HNV_DATA s = .ok ∧ s.dev ≠ .boot ∧ s.nv.hnvBad.contains (s.g F.HNV_ADDR_WADDR) = false)
    ∧ (∃ (s : State) (m : Master), judgeRead m A.HNV_DATA s = .ok ∧ s.dev ≠ .boot ∧ s.nv.hnvBad.contains (s.g F.HNV_ADDR_WADDR) = false)
    ∧ (∃ (s : State) (m : Master) (b : WordFind), judgeRead m A.HNV_DATA s = .ok ∧ s.dev ≠ .boot ∧ (b = .uncorrectable ∨ s.nv.hnvBad.contains (s.g F.HNV_ADDR_WADDR) = true)) :=
  ⟨⟨{ std with nv := { std.nv with q15 := [.record (lr 1) true] } }, lr 1, true, [], by decide +kernel⟩,
   ⟨{ std with nv := { std.nv with q15 := [.hostWord 4095 7] } }, 4095, 7, [], by decide +kernel⟩,
   ⟨{ std with nv := { std.nv with q15 := [.health] } }, [], by decide +kernel⟩,
   ⟨{ std with nv := { std.nv with q15 := .replicate 32 .health, waiting := [.hostWord 1 2] } }, .health, .hostWord 1 2, .replicate 31 .health, [], by decide +kernel⟩,
   ⟨{ std with nv := { std.nv with q15 := [.health] } }, .health, [], by decide +kernel⟩,
   ⟨{ std with nv := { std.nv with q15 := [.record (lr 1) false], writes := [(192, writeLimit)] } }, lr 1, false, [], by decide +kernel⟩,
   ⟨std, by decide +kernel⟩,
   ⟨(dv .safe).p F.NP_SECS_SECS 2592000, by decide +kernel⟩,
   ⟨std, by decide +kernel⟩,
   ⟨{ std with nv := { std.nv with scrub := some 0 } }, 0, by decide +kernel⟩,
   ⟨{ std with nv := { std.nv with scrub := some 510 } }, 510, by decide +kernel⟩,
   ⟨{ std with nv := { std.nv with scrub := some 511 } }, by decide +kernel⟩,
   ⟨{ std with nv := { std.nv with scrub := some 307, corrPrev := [307] } }, 307, [255], by decide +kernel⟩,
   ⟨{ std with nv := { std.nv with scrub := some 191 } }, 191, by decide +kernel⟩,
   ⟨{ std with nv := { std.nv with scrub := some 303 } }, 303, by decide +kernel⟩,
   ⟨{ std with nv := { std.nv with scrub := some 304 } }, 304, by decide +kernel⟩,
   ⟨std, by decide +kernel⟩,
   ⟨std, .sup, 1, by decide +kernel⟩,
   ⟨{ std with nv := { std.nv with reading := some 1, ring := [lr 1] } }, 1, by decide +kernel⟩,
   ⟨{ std with nv := { std.nv with reading := some 0, pinned := some (lr 1), found := ⟨[63], []⟩ } }, lr 1, 63, by decide +kernel⟩,
   ⟨{ std with nv := { std.nv with reading := some 0, pinned := some (lr 1), found := ⟨[], [⟨63, false⟩]⟩ } }, lr 1, 63, by decide +kernel⟩,
   ⟨std, by decide +kernel⟩,
   ⟨std, .sup, by decide +kernel⟩,
   ⟨std, .sup, 7, by decide +kernel⟩,
   ⟨std, .sup, by decide +kernel⟩,
   ⟨std, .sup, by decide +kernel⟩,
   ⟨std, .sup, .uncorrectable, by decide +kernel⟩⟩

theorem test_witness_PlatesCaptureAndExport :
    (∃ (s : State) (m : Master) (p : Fin 4), judge m (A.PL_CTL p.val) (s.withField (F.PL_CTL_RUN p.val) 1) s = .ok ∧ s.gb (F.PL_CTL_RUN p.val) = false ∧ s.gb (F.PL_CTL_TRIGNOW p.val) = false)
    ∧ (∃ (s : State) (m : Master) (p : Fin 4), judge m (A.PL_CTL p.val) (s.withField (F.PL_CTL_RUN p.val) 0) s = .ok ∧ s.gb (F.PL_CTL_RUN p.val) = true)
    ∧ (∃ (s : State) (m : Master) (p : Fin 4), judge m (A.PL_CTL p.val) (s.withField (F.PL_CTL_TRIGNOW p.val) 1) s = .ok ∧ (vget s.plate p).st = .armed ∧ (vget s.plate p).trig = false)
    ∧ (∃ (s : State) (p : Fin 4) (t : Time), s.core = true ∧ (s.g (F.PL_CTL_BASE p.val) = 1 ∨ (vget s.plate p).owed ≠ 0) ∧ (vget s.plate p).st = .armed ∧ (vget s.plate p).trig = false ∧ ns35 ≤ elapsed (vget s.plate p).at_ (s.atTime t).clock ∧ s.g (F.PL_TRIG_TSRC p.val) ≠ 2 ∧ s.g (F.PL_DEC_DEC p.val) = 0 ∧ s.gb (F.PL_CTL_DECMODE p.val) = false)
    ∧ (∃ (s : State) (p : Fin 4) (t : Time), s.core = true ∧ (s.g (F.PL_CTL_BASE p.val) = 1 ∨ (vget s.plate p).owed ≠ 0) ∧ (vget s.plate p).st = .armed ∧ (vget s.plate p).trig = true ∧ ns35 ≤ elapsed (vget s.plate p).at_ (s.atTime t).clock ∧ s.g (F.PL_DEC_DEC p.val) = 0 ∧ s.gb (F.PL_CTL_DECMODE p.val) = false ∧ s.g (F.PL_PRE_PRE p.val) + 1 < plateDepth (s.g (F.PL_CTL_NCHC p.val)))
    ∧ (∃ (s : State) (p : Fin 4), s.core = true ∧ (s.g (F.PL_CTL_BASE p.val) = 1 ∨ (vget s.plate p).owed ≠ 0) ∧ (vget s.plate p).st = .capturing ∧ (vget s.plate p).left = 1 ∧ s.g (F.PL_DEC_DEC p.val) = 0 ∧ s.gb (F.PL_CTL_DECMODE p.val) = false)
    ∧ (∃ (s : State) (p : Fin 4), s.g (F.PL_CTL_BASE p.val) ≠ 1 ∧ (vget s.plate p).owed = 0)
    ∧ (∃ (s : State) (p : Fin 4) (t : Time), s.g (F.PL_CTL_BASE p.val) = 1 ∧ (vget s.plate p).st = .idle ∨ (vget s.plate p).st = .done ∨ (vget s.plate p).st = .armed ∧ elapsed (vget s.plate p).at_ (s.atTime t).clock < ns35)
    ∧ (∃ (s : State) (m : Master) (p : Fin 4), judge m A.PL_EXP (setBits (setBits 0 31 1 1) 0 2 p.val) s = .ok ∧ (vget s.plate p).st = .done ∧ s.room 13 1 = false)
    ∧ (∃ (s : State) (m : Master) (p : Fin 4), judge m A.PL_EXP (setBits (setBits 0 31 1 1) 0 2 p.val) s = .ok ∧ (vget s.plate p).st = .done ∧ s.q 13 = [] ∧ 32 < s.exportLen p)
    ∧ (∃ (s : State) (p : Fin 4) (i : Nat), s.exp = some (p, i) ∧ i + 1 < s.exportLen p ∧ (s.q 13).length = 31)
    ∧ (∃ (s : State), s.exp = none) :=
  ⟨⟨std, .sup, 3, by decide +kernel⟩,
   ⟨(std.pb (F.PL_CTL_RUN 3) true), .sup, 3, by decide +kernel⟩,
   ⟨((std.modPl 3 fun r => { r with st := .armed }).pb (F.PL_CTL_RUN 3) true), .sup, 3, by decide +kernel⟩,
   ⟨(std.modPl 3 fun r => { r with st := .armed, owed := 1 }), 3, 0x100000, by decide +kernel⟩,
   ⟨(std.modPl 3 fun r => { r with st := .armed, trig := true, owed := 1 }), 3, 0x100000, by decide +kernel⟩,
   ⟨(std.modPl 3 fun r => { r with st := .capturing, left := 1, owed := 1 }), 3, by decide +kernel⟩,
   ⟨std, 3, by decide +kernel⟩,
   ⟨((std.modPl 3 fun r => { r with st := .armed }).p (F.PL_CTL_BASE 3) 1), 3, 100, by decide +kernel⟩,
   ⟨((std.modPl 3 fun r => { r with st := .done }).setQ 13 (.replicate 32 qe)), .sup, 3, by decide +kernel⟩,
   ⟨(std.modPl 3 fun r => { r with st := .done, buf := .replicate 31 [0] }), .sup, 3, by decide +kernel⟩,
   ⟨((std.modPl 3 fun r => { r with st := .done, buf := .replicate 31 [0] }).setQ 13 (.replicate 31 qe) |> fun s => { s with exp := some (3, 0) }), 3, 0, by decide +kernel⟩,
   ⟨std, by decide +kernel⟩⟩

theorem test_witness_RegisterAccessOverAPort :
    (∃ (s : State) (x : Fin 2) (a : BitVec 24) (w : Word), Serves s x ∧ a.toNat % 4 = 0 ∧ s.gateWrite (hostMaster x) a.toNat false = none ∧ (∀ k, judge (hostMaster x) a.toNat w (hpStart x s) ≠ .gate k))
    ∧ (∃ (s : State) (x : Fin 2) (a : BitVec 24), Serves s x ∧ a.toNat % 4 = 0 ∧ s.gateWrite (hostMaster x) a.toNat false = none)
    ∧ (∃ (s : State) (x : Fin 2) (a : BitVec 24) (w : Word), Opened s x 0xF0 (7 :: addrBytes a) ∧ a.toNat % 4 = 0 ∧ (∀ k, judge (hostMaster x) a.toNat w (hpClear x s) ≠ .gate k))
    ∧ (∃ (s : State) (x : Fin 2) (a : BitVec 24) (w : Word) (k : Nat), Opened s x 0xF0 (7 :: addrBytes a) ∧ a.toNat % 4 = 0 ∧ judge (hostMaster x) a.toNat w (hpClear x s) = .gate k)
    ∧ (∃ (s : State) (x : Fin 2), (vget s.host x).part = none)
    ∧ (∃ (s : State) (x : Fin 2) (c : Nat) (l : List Byte), Opened s x c l)
    ∧ (∃ (s : State) (x : Fin 2) (a : BitVec 24) (k : Nat), s.hostOn x = true ∧ s.dev ≠ .boot ∧ a.toNat % 4 = 0 ∧ s.gateWrite (hostMaster x) a.toNat false = some k)
    ∧ (∃ (s : State) (x : Fin 2) (a : BitVec 24), s.hostOn x = true ∧ s.dev ≠ .boot ∧ s.gb (F.HP_CTL_PECEN x.val) = true ∧ a.toNat % 4 = 0 ∧ s.gateWrite (hostMaster x) a.toNat false = none)
    ∧ (∃ (s : State) (x : Fin 2) (n : Byte), s.hostOn x = true ∧ s.dev ≠ .boot ∧ (n.toNat < 7 ∨ 67 < n.toNat ∨ n.toNat % 4 ≠ 3))
    ∧ (∃ (s : State) (x : Fin 2) (a : BitVec 24), Serves s x ∧ a.toNat % 4 = 0 ∧ judgeRead (hostMaster x) a.toNat (hpStart x s) = .ok)
    ∧ (∃ (s : State) (x : Fin 2) (a : BitVec 24) (n : Nat), Serves s x ∧ a.toNat % 4 = 0 ∧ judgeRead (hostMaster x) a.toNat (hpStart x s) = .ok ∧ 0 < n ∧ n < 6)
    ∧ (∃ (s : State) (x : Fin 2) (a : BitVec 24) (k : Nat), Serves s x ∧ a.toNat % 4 = 0 ∧ judgeRead (hostMaster x) a.toNat (hpStart x s) = .gate k)
    ∧ (∃ (s : State) (x : Fin 2) (c : Byte), s.hostOn x = true ∧ s.dev ≠ .boot ∧ 0xF3 ≤ c.toNat)
    ∧ (∃ (s : State) (x : Fin 2), s.hostOn x = true ∧ s.dev ≠ .boot ∧ (vget s.host x).part = none)
    ∧ (∃ (s : State) (x : Fin 2), s.hostOn x = false) :=
  ⟨⟨(hp std), 0, (BitVec.ofNat 24 (A.HPM_TX 0)), 7, ⟨by unfold Serves; decide +kernel, by decide +kernel, by decide +kernel, not_gate (by decide +kernel)⟩⟩,
   ⟨(hp std), 0, (BitVec.ofNat 24 (A.HPM_TX 0)), by unfold Serves; decide +kernel⟩,
   ⟨(opened 0xF0 (7 :: addrBytes (BitVec.ofNat 24 (A.HPM_TX 0))) (hp std)), 0, (BitVec.ofNat 24 (A.HPM_TX 0)), 7, ⟨by unfold Opened; decide +kernel, by decide +kernel, not_gate (by decide +kernel)⟩⟩,
   ⟨(opened 0xF0 (7 :: addrBytes 0x100000) (hp (dv .lockdown))), 0, 0x100000, 7, 5, by unfold Opened; decide +kernel⟩,
   ⟨(hp std), 0, by decide +kernel⟩,
   ⟨(opened 0xF0 [7] (hp std)), 0, 0xF0, [7], by unfold Opened; decide +kernel⟩,
   ⟨(hp (dv .lockdown)), 0, 0x100000, 5, by decide +kernel⟩,
   ⟨((hp std).pb (F.HP_CTL_PECEN 0) true), 0, (BitVec.ofNat 24 (A.HPM_TX 0)), by decide +kernel⟩,
   ⟨(hp std), 0, 68, by decide +kernel⟩,
   ⟨(hp std), 0, 0, by unfold Serves; decide +kernel⟩,
   ⟨(hp std), 0, 0, 5, by unfold Serves; decide +kernel⟩,
   ⟨((hp std).setWord (A.GH_ACC 0x10) 0), 0, 0x100000, 1, by unfold Serves; decide +kernel⟩,
   ⟨(hp std), 0, 0xFF, by decide +kernel⟩,
   ⟨(hp std), 0, by decide +kernel⟩,
   ⟨(std.pb (F.HP_CTL_EN 1) false), 1, by decide +kernel⟩⟩

theorem test_witness_QueuesOverAPort :
    (∃ (s : State) (x : Fin 2) (k : Fin 8), Serves s x ∧ s.dev ≠ .safe ∧ s.gateWrite (hostMaster x) (A.RAIL_VSET k.val) false = none ∧ s.room ⟨k.val, by omega⟩ 1 = true)
    ∧ (∃ (s : State) (x : Fin 2) (k : Fin 8), Serves s x ∧ s.gateWrite (hostMaster x) (A.RAIL_VSET k.val) false = none ∧ s.room ⟨k.val, by omega⟩ 1 = false)
    ∧ (∃ (s : State) (x : Fin 2) (k : Fin 8), Opened s x 0xF1 [9, byte k.val] ∧ s.dev ≠ .safe ∧ s.gateWrite (hostMaster x) (A.RAIL_VSET k.val) false = none ∧ s.room ⟨k.val, by omega⟩ 1 = false)
    ∧ (∃ (s : State) (x : Fin 2) (q : Fin 16) (e : QEntry) (l : List QEntry) (n : Nat), Serves s x ∧ 11 ≤ q.val ∧ q.val ≤ 14 ∧ s.gateRead (hostMaster x) (A.Q_STAT q.val) = none ∧ s.heldByOther x q = false ∧ s.q q = e :: l ∧ 0 < n ∧ n < 10)
    ∧ (∃ (s : State) (x : Fin 2) (q : Fin 16) (e : QEntry) (l : List QEntry), Serves s x ∧ 11 ≤ q.val ∧ q.val ≤ 14 ∧ s.gateRead (hostMaster x) (A.Q_STAT q.val) = none ∧ s.heldByOther x q = false ∧ s.q q = e :: l)
    ∧ (∃ (s : State) (x : Fin 2) (q : Fin 16) (e : QEntry) (l : List QEntry), Serves s x ∧ 11 ≤ q.val ∧ q.val ≤ 14 ∧ s.gateRead (hostMaster x) (A.Q_STAT q.val) = none ∧ s.heldByOther x q = false ∧ s.q q = e :: l)
    ∧ (∃ (s : State) (x : Fin 2) (q : Fin 16) (e : QEntry), Serves s x ∧ 11 ≤ q.val ∧ q.val ≤ 14 ∧ s.gateRead (hostMaster x) (A.Q_STAT q.val) = none ∧ vget (vget s.host x).copies (Fin.ofNat 4 (q.val - 11)) = some e)
    ∧ (∃ (s : State) (x : Fin 2) (q : Fin 16), Serves s x ∧ 11 ≤ q.val ∧ q.val ≤ 14 ∧ s.gateRead (hostMaster x) (A.Q_STAT q.val) = none ∧ s.heldByOther x q = false ∧ s.q q = [])
    ∧ (∃ (s : State) (x : Fin 2) (q : Byte), Serves s x ∧ (q.toNat % 128 < 11 ∨ 14 < q.toNat % 128))
    ∧ (∃ (s : State) (m : Master) (x : Fin 2), judge m (A.HP_CTL x.val) (s.withField (F.HP_CTL_QFLUSH x.val) 1) s = .ok) :=
  ⟨⟨(hp std), 0, 0, by unfold Serves; decide +kernel⟩,
   ⟨(hp (std.setQ 7 (.replicate 16 qe))), 0, 7, by unfold Serves; decide +kernel⟩,
   ⟨(opened 0xF1 [9, byte 7] (hp (std.setQ 7 (.replicate 16 qe)))), 0, 7, by unfold Opened; decide +kernel⟩,
   ⟨(hp (std.setQ 11 [qe])), 0, 11, qe, [], 9, by unfold Serves; decide +kernel⟩,
   ⟨(hp (std.setQ 14 [qe])), 0, 14, qe, [], by unfold Serves; decide +kernel⟩,
   ⟨(hp (std.setQ 14 [qe])), 0, 14, qe, [], by unfold Serves; decide +kernel⟩,
   ⟨((hp std).modHp 0 fun h => { h with copies := .replicate 4 (some qe) }), 0, 13, qe, by unfold Serves; decide +kernel⟩,
   ⟨(hp std), 0, 12, by unfold Serves; decide +kernel⟩,
   ⟨(hp std), 0, 15, by unfold Serves; decide +kernel⟩,
   ⟨std, .sup, 1, by decide +kernel⟩⟩

theorem test_witness_PortErrorsAlertAndMaster :
    (∃ (s : State) (x : Fin 2), s.hostOn x = true ∧ s.dev ≠ .boot)
    ∧ (∃ (s : State) (x : Fin 2), s.hostOn x = true ∧ s.dev ≠ .boot ∧ s.gb (F.HP_CTL_SMBTO x.val) = true ∧ s.mastering = false)
    ∧ (∃ (s : State) (x : Fin 2), s.gb (F.HP_CTL_SMBTO x.val) = false)
    ∧ (∃ (s : State) (x : Fin 2), s.hostOn x = true ∧ s.dev ≠ .boot)
    ∧ (∃ (s : State) (x : Fin 2), Serves s x ∧ s.gb (F.HP_CTL_ARAEN x.val) = true ∧ s.gb F.HP_ALERT_DRIVE = true)
    ∧ (∃ (s : State) (x : Fin 2), s.hostOn x = true ∧ s.dev ≠ .boot ∧ s.gb (F.HP_CTL_ARAEN x.val) = true ∧ s.gb F.HP_ALERT_DRIVE = true)
    ∧ (∃ (s : State) (x : Fin 2), s.hostOn x = true ∧ (s.gb F.HP_ALERT_DRIVE = false ∨ s.gb (F.HP_CTL_ARAEN x.val) = false ∨ s.dev = .boot))
    ∧ (∃ (s : State) (m : Master) (w : Word), judge m A.HPM_CTL (setBits w 31 1 1) s = .ok)
    ∧ (∃ (s : State), s.gb F.HPM_STATUS_MBUSY = true)
    ∧ (∃ (s : State), s.mastering = true ∧ s.g F.HPM_STATUS_ATTEMPTS ≤ s.g F.HPM_CTL_MRETRY)
    ∧ (∃ (s : State), s.mastering = true ∧ s.g F.HPM_CTL_MRETRY < s.g F.HPM_STATUS_ATTEMPTS)
    ∧ (∃ (s : State), s.core = true ∧ s.sup.vioh = true ∧ s.gb F.HPM_STATUS_MBUSY = true ∧ s.masterWait = true)
    ∧ (∃ (s : State) (l : List Byte), s.mastering = true ∧ l.length = s.g F.HPM_CTL_NRD ∧ l.length ≤ 8 ∧ (s.gb F.HPM_CTL_MPEC = false ∨ l = []))
    ∧ (∃ (s : State) (r : BitVec 4) (l : List Byte), s.mastering = true ∧ l.length = s.g F.HPM_CTL_NRD ∧ l.length ≤ 8 ∧ s.gb F.HPM_CTL_MPEC = true ∧ l ≠ [] ∧ (r = 1 ∨ r = 6))
    ∧ (∃ (s : State), s.mastering = true)
    ∧ (∃ (s : State), s.mastering = false) :=
  ⟨⟨(hp std), 0, by decide +kernel⟩,
   ⟨((hp std).pb (F.HP_CTL_SMBTO 0) true), 0, by decide +kernel⟩,
   ⟨(std.pb (F.HP_CTL_SMBTO 1) false), 1, by decide +kernel⟩,
   ⟨(hp std), 0, by decide +kernel⟩,
   ⟨(((hp std).pb (F.HP_CTL_ARAEN 0) true).pb F.HP_ALERT_DRIVE true), 0, by unfold Serves; decide +kernel⟩,
   ⟨(((hp std).pb (F.HP_CTL_ARAEN 0) true).pb F.HP_ALERT_DRIVE true), 0, by decide +kernel⟩,
   ⟨(hp std), 0, by decide +kernel⟩,
   ⟨(std.setWord A.HPM_CTL 0x12100006), .sup, 0x12100006, by decide +kernel⟩,
   ⟨(std.pb F.HPM_STATUS_MBUSY true), by decide +kernel⟩,
   ⟨(std.pb F.HPM_STATUS_MBUSY true), by decide +kernel⟩,
   ⟨((std.pb F.HPM_STATUS_MBUSY true).p F.HPM_STATUS_ATTEMPTS 15), by decide +kernel⟩,
   ⟨{ (std.pb F.HPM_STATUS_MBUSY true) with masterWait := true }, by decide +kernel⟩,
   ⟨(std.pb F.HPM_STATUS_MBUSY true), [], by decide +kernel⟩,
   ⟨(((std.pb F.HPM_STATUS_MBUSY true).p F.HPM_CTL_NRD 2).pb F.HPM_CTL_MPEC true), 6, [1, 2], by decide +kernel⟩,
   ⟨(std.pb F.HPM_STATUS_MBUSY true), by decide +kernel⟩,
   ⟨std, by decide +kernel⟩⟩

theorem test_witness_PmbusReadsAnswer :
    (∃ (s : State) (x : Fin 2) (k : Fin 8), ServesPmbus s x ∧ s.pageOf x = k.val ∧ (∀ a, s.gateRead (hostMaster x) a = none))
    ∧ (∃ (s : State) (x : Fin 2), ServesPmbus s x ∧ (∀ a, s.gateRead (hostMaster x) a = none))
    ∧ (∃ (s : State) (x : Fin 2) (k : Nat), ServesPmbus s x ∧ s.gateRead (hostMaster x) A.PT_VIN = some k)
    ∧ (∃ (s : State) (x : Fin 2), ServesPmbus s x ∧ s.pageOf x = 0xFF)
    ∧ (∃ (s : State) (x : Fin 2), ServesPmbus s x ∧ s.gateRead (hostMaster x) A.PT_VIN = none)
    ∧ (∃ (s : State) (x : Fin 2), ServesPmbus s x)
    ∧ (∃ (s : State) (x : Fin 2), s.hostOn x = true ∧ s.dev = .boot) :=
  ⟨⟨(hp std), 0, 0, ⟨by unfold ServesPmbus Serves; decide +kernel, by decide +kernel, reads_granted⟩⟩,
   ⟨(hp std), 0, ⟨by unfold ServesPmbus Serves; decide +kernel, reads_granted⟩⟩,
   ⟨((hp std).setWord (A.GH_ACC (A.PT_VIN / 65536)) 0), 0, 1, by unfold ServesPmbus Serves; decide +kernel⟩,
   ⟨((hp std).p (F.HP_STATUS_PAGE 0) 0xFF), 0, by unfold ServesPmbus Serves; decide +kernel⟩,
   ⟨(hp std), 0, by unfold ServesPmbus Serves; decide +kernel⟩,
   ⟨(hp std), 0, by unfold ServesPmbus Serves; decide +kernel⟩,
   ⟨(hp (dv .boot)), 0, by decide +kernel⟩⟩

theorem test_witness_PmbusWritesAct :
    (∃ (s : State) (x : Fin 2), ServesPmbus s x ∧ s.dev ≠ .safe ∧ s.dev ≠ .lockdown)
    ∧ (∃ (s : State) (x : Fin 2) (b : Byte), ServesPmbus s x ∧ s.dev ≠ .safe ∧ s.dev ≠ .lockdown ∧ b.toNat < 8)
    ∧ (∃ (s : State) (x : Fin 2) (k : Fin 8), ServesPmbus s x ∧ s.pageOf x = k.val ∧ s.gateWrite (hostMaster x) (A.RAIL_VSET k.val) false = none)
    ∧ (∃ (s : State) (x : Fin 2) (k : Fin 8) (b : Byte), ServesPmbus s x ∧ (s.dev = .standby ∨ s.dev = .run) ∧ s.pageOf x = k.val ∧ (b = 0 ∨ b = 0x40 ∨ b = 0x80) ∧ s.g (F.RAIL_SEQCTL_ENMODE k.val) ≠ 3 ∧ s.room ⟨k.val, by omega⟩ 1 = true ∧ s.gateWrite (hostMaster x) (A.RAIL_ON k.val) false = none ∧ judge (hostMaster x) (A.RAIL_ON k.val) (if b = 0x80 then 1 else 0) (taken x s) = .ok)
    ∧ (∃ (s : State) (x : Fin 2) (k : Fin 8) (b : Byte), ServesPmbus s x ∧ (s.dev = .standby ∨ s.dev = .run) ∧ s.pageOf x = k.val ∧ (b = 0 ∨ b = 0x40 ∨ b = 0x80) ∧ s.g (F.RAIL_SEQCTL_ENMODE k.val) = 3 ∧ s.gateWrite (hostMaster x) (A.RAIL_ON k.val) false = none)
    ∧ (∃ (s : State) (x : Fin 2) (k : Fin 8) (v : BitVec 16), ServesPmbus s x ∧ (s.dev = .standby ∨ s.dev = .run) ∧ s.pageOf x = k.val ∧ s.room ⟨k.val, by omega⟩ 1 = true ∧ s.gateWrite (hostMaster x) (A.RAIL_VSET k.val) false = none ∧ ulinearCode v.toNat < 65536 ∧ judge (hostMaster x) (A.RAIL_VSET k.val) (BitVec.ofNat 32 (ulinearCode v.toNat)) (taken x s) = .ok)
    ∧ (∃ (s : State) (x : Fin 2) (k : Fin 8) (v : BitVec 16) (n : Nat), ServesPmbus s x ∧ (s.dev = .standby ∨ s.dev = .run) ∧ s.pageOf x = k.val ∧ s.enabled k = false ∧ inField 16 (ulinearCode v.toNat) = some n ∧ s.gateWrite (hostMaster x) (A.RAIL_VLIM k.val) false = none ∧ judge (hostMaster x) (A.RAIL_VLIM k.val) ((taken x s).withField (F.RAIL_VLIM_VMAX k.val) n) (taken x s) = .ok)
    ∧ (∃ (s : State) (x : Fin 2) (k : Fin 8) (v : BitVec 16) (n : Nat), ServesPmbus s x ∧ (s.dev = .standby ∨ s.dev = .run) ∧ s.pageOf x = k.val ∧ s.enabled k = false ∧ inField 16 (linValue v.toNat 100) = some n ∧ s.gateWrite (hostMaster x) (A.RAIL_SLEW k.val) false = none ∧ judge (hostMaster x) (A.RAIL_SLEW k.val) ((taken x s).withField (F.RAIL_SLEW_VSLEW k.val) n) (taken x s) = .ok)
    ∧ (∃ (s : State) (x : Fin 2) (k : Fin 8) (v : BitVec 16) (n : Nat), ServesPmbus s x ∧ (s.dev = .standby ∨ s.dev = .run) ∧ s.pageOf x = k.val ∧ s.enabled k = false ∧ inField 11 (linValue v.toNat 1000) = some n ∧ s.gateWrite (hostMaster x) (A.OL_LL k.val) false = none ∧ judge (hostMaster x) (A.OL_LL k.val) ((taken x s).withField (F.OL_LL_LLR k.val) n) (taken x s) = .ok)
    ∧ (∃ (s : State) (x : Fin 2) (k : Fin 8), ServesPmbus s x ∧ s.dev ≠ .safe ∧ s.dev ≠ .lockdown ∧ s.pageOf x = k.val) :=
  ⟨⟨(hp std), 0, by unfold ServesPmbus Serves; decide +kernel⟩,
   ⟨(hp std), 0, 7, by unfold ServesPmbus Serves; decide +kernel⟩,
   ⟨(hp std), 0, 0, by unfold ServesPmbus Serves; decide +kernel⟩,
   ⟨(hp std), 0, 0, 0x80, by unfold ServesPmbus Serves; decide +kernel⟩,
   ⟨((hp std).p (F.RAIL_SEQCTL_ENMODE 0) 3), 0, 0, 0x40, by unfold ServesPmbus Serves; decide +kernel⟩,
   ⟨((hp std).p (F.RAIL_VLIM_VMAX 0) 20000), 0, 0, 10000, by unfold ServesPmbus Serves; decide +kernel⟩,
   ⟨(hp std), 0, 0, 16384, 20000, by unfold ServesPmbus Serves; decide +kernel⟩,
   ⟨(hp std), 0, 0, 0xF828, 2000, by unfold ServesPmbus Serves; decide +kernel⟩,
   ⟨(hp std), 0, 0, 0, 0, by unfold ServesPmbus Serves; decide +kernel⟩,
   ⟨(hp std), 0, 0, by unfold ServesPmbus Serves; decide +kernel⟩⟩

theorem test_witness_ImageCommandsAct :
    (∃ (s : State) (m : Master) (b : Bool), judge m A.IMG_CTL (imgWord 1 b) s = .ok ∧ s.img.verifying = none ∧ s.img.running ≠ some (Fin.ofNat 2 (bit b)) ∧ s.img.openSlot = none)
    ∧ (∃ (s : State) (m : Master) (b : Bool), judge m A.IMG_CTL (imgWord 1 b) s = .ok ∧ s.img.verifying = none ∧ s.img.running = some (Fin.ofNat 2 (bit b)) ∧ s.dev ≠ .safe)
    ∧ (∃ (s : State) (m : Master) (w : Word) (i : Fin 2), judge m A.IMG_WDATA w s = .ok ∧ s.img.openSlot = some i ∧ s.g F.IMG_WPTR_WPTR < 0x18000)
    ∧ (∃ (s : State) (m : Master) (w : Word) (i : Fin 2), judge m A.IMG_WDATA w s = .ok ∧ s.img.openSlot = some i ∧ s.g F.IMG_WPTR_WPTR < 0x18000 ∧ s.nv.spare ≠ 0 ∧ SMap.get (fun _ => 0) s.nv.writes (96 * i.val + s.g F.IMG_WPTR_WPTR / 1024) + 1 < writeLimit)
    ∧ (∃ (s : State) (m : Master) (w : Word), judge m A.IMG_WDATA w s = .ok ∧ s.img.openSlot = none)
    ∧ (∃ (s : State) (m : Master) (b : Bool), judge m A.IMG_CTL (imgWord 2 b) s = .ok ∧ s.img.verifying = none ∧ (s.img.openSlot = some (Fin.ofNat 2 (bit b)) ∨ (vget s.img.slots (Fin.ofNat 2 (bit b))).holdsImage = true))
    ∧ (∃ (s : State) (i : Fin 2), s.img.verifying = some i ∧ s.img.found = ⟨[], []⟩)
    ∧ (∃ (s : State) (i : Fin 2) (w : Nat), s.img.verifying = some i ∧ s.img.found = ⟨[w], []⟩)
    ∧ (∃ (s : State) (i : Fin 2) (w : Nat), s.img.verifying = some i ∧ s.img.found = ⟨[], [⟨w, false⟩]⟩ ∧ w < 24576)
    ∧ (∃ (s : State), s.img.verifying = none)
    ∧ (∃ (s : State) (m : Master) (b : Bool), judge m A.IMG_CTL (imgWord 3 b) s = .ok ∧ s.img.verifying = none ∧ (vget s.img.slots (Fin.ofNat 2 (bit b))).verified = true)
    ∧ (∃ (s : State) (m : Master) (r : Fin 2), judge m A.IMG_CTL (s.withField F.IMG_CTL_CMD 4) s = .ok ∧ s.img.verifying = none ∧ s.img.running = some r ∧ (s.dev = .standby ∨ s.dev = .run) ∧ (vget s.img.slots r).trial = true)
    ∧ (∃ (s : State) (m : Master) (b : Bool), judge m A.IMG_CTL (imgWord 5 b) s = .ok ∧ s.img.verifying = none ∧ s.img.openSlot = some (Fin.ofNat 2 (bit b))) :=
  ⟨⟨std, .sup, true, by decide +kernel⟩,
   ⟨{ std with img := { std.img with running := some 0 } }, .sup, false, by decide +kernel⟩,
   ⟨({ std with img := { std.img with openSlot := some 1 } }.p F.IMG_WPTR_WPTR 0x17FFC), .sup, 0x01020304, 1, by decide +kernel⟩,
   ⟨({ std with img := { std.img with openSlot := some 1 } }.p F.IMG_WPTR_WPTR 0x17FFC), .sup, 0x01020304, 1, by decide +kernel⟩,
   ⟨std, .sup, 7, by decide +kernel⟩,
   ⟨{ std with img := { std.img with slots := .replicate 2 { Slot.reset with bytes := [(0, 0x4F), (1, 0x4C), (2, 0x4A), (3, 0x4E)] } } }, .sup, true, by decide +kernel⟩,
   ⟨{ std with img := { std.img with verifying := some 1 } }, 1, by decide +kernel⟩,
   ⟨{ std with img := { std.img with verifying := some 1, found := ⟨[7], []⟩ } }, 1, 7, by decide +kernel⟩,
   ⟨{ std with img := { std.img with verifying := some 0, found := ⟨[], [⟨24575, false⟩]⟩ } }, 0, 24575, by decide +kernel⟩,
   ⟨std, by decide +kernel⟩,
   ⟨{ std with img := { std.img with slots := .replicate 2 { Slot.reset with verified := true } } }, .sup, true, by decide +kernel⟩,
   ⟨{ std with img := { std.img with running := some 0, slots := .replicate 2 { Slot.reset with trial := true } } }, .sup, 0, by decide +kernel⟩,
   ⟨{ std with img := { std.img with openSlot := some 0 } }, .sup, false, by decide +kernel⟩⟩

theorem test_witness_GroupCommandsAct :
    (∃ (s : State) (m : Master) (g : BitVec 8) (i : BitVec 8), judge m A.GROUP_COMMIT (groupWord 0 g i) s = .ok)
    ∧ (∃ (s : State) (m : Master) (g : BitVec 8) (i : BitVec 8), judge m A.GROUP_COMMIT (groupWord 1 g i) s = .ok ∧ groupExists g.toNat i.toNat = true ∧ s.isArmed g.toNat i.toNat = false ∧ s.stagedOf g.toNat i.toNat = [])
    ∧ (∃ (s : State) (m : Master) (n : Fin 48), judge m A.GROUP_COMMIT (groupWord 1 1 (BitVec.ofNat 8 n.val)) s = .ok ∧ s.isArmed 1 n.val = false ∧ s.stagedOf 1 n.val ≠ [] ∧ 16 * s.sg 1 n.val (F.PHASE_PERIOD_PERIOD n.val) < s.sg 1 n.val (F.PHASE_DUTY_DUTY n.val))
    ∧ (∃ (s : State) (m : Master) (n : Fin 48) (v : Nat), judge m A.GROUP_COMMIT (groupWord 1 1 (BitVec.ofNat 8 n.val)) s = .ok ∧ s.isArmed 1 n.val = false ∧ s.phRuns n = false ∧ v < 2 ^ (F.PHASE_DUTY_DUTY n.val).w ∧ (∃ m', s.stagedOf 1 n.val = [⟨1, n.val, A.PHASE_DUTY n.val, (F.PHASE_DUTY_DUTY n.val).lo, (F.PHASE_DUTY_DUTY n.val).w, v, m'⟩]) ∧ v ≤ 16 * s.g (F.PHASE_PERIOD_PERIOD n.val))
    ∧ (∃ (s : State) (m : Master) (n : Fin 48), judge m A.GROUP_COMMIT (groupWord 1 1 (BitVec.ofNat 8 n.val)) s = .ok ∧ s.isArmed 1 n.val = false ∧ s.phRuns n = true ∧ s.stagedOf 1 n.val ≠ [] ∧ s.sg 1 n.val (F.PHASE_DUTY_DUTY n.val) ≤ 16 * s.sg 1 n.val (F.PHASE_PERIOD_PERIOD n.val))
    ∧ (∃ (s : State) (m : Master) (n : Fin 48) (t : Time), judge m A.GROUP_COMMIT (groupWord 2 1 (BitVec.ofNat 8 n.val)) (s.atTime t) = .ok ∧ s.stagedOf 1 n.val ≠ [])
    ∧ (∃ (s : State) (m : Master) (n : Fin 48) (t : Time) (c : Armed), judge m A.GROUP_COMMIT (groupWord 2 1 (BitVec.ofNat 8 n.val)) (s.atTime t) = .ok ∧ (s.img.armed.filter fun y => y.group == 1 && y.index == n.val) = [c])
    ∧ (∃ (s : State) (m : Master) (g : BitVec 8) (i : BitVec 8) (t : Time), judge m A.GROUP_COMMIT (groupWord 2 g i) (s.atTime t) = .ok ∧ groupExists g.toNat i.toNat = true ∧ s.stagedOf g.toNat i.toNat = [] ∧ s.isArmed g.toNat i.toNat = false)
    ∧ (∃ (s : State) (n : Fin 48) (x : Cancelled) (v : Nat), s.img.armed = [] ∧ s.stagedOf 1 n.val = [] ∧ s.img.cancelled = [x] ∧ x.commit.group = 1 ∧ x.commit.index = n.val ∧ v < 2 ^ (F.PHASE_DUTY_DUTY n.val).w ∧ (∃ m', x.values = [⟨1, n.val, A.PHASE_DUTY n.val, (F.PHASE_DUTY_DUTY n.val).lo, (F.PHASE_DUTY_DUTY n.val).w, v, m'⟩]) ∧ s.atLeast ns35 x.commit.at_ = true) :=
  ⟨⟨std, .sup, 4, 0xFF, by decide +kernel⟩,
   ⟨std, .sup, 3, 7, by decide +kernel⟩,
   ⟨({ std with img := { std.img with staging := [⟨1, 47, A.PHASE_DUTY 47, (F.PHASE_DUTY_DUTY 47).lo, (F.PHASE_DUTY_DUTY 47).w, 10241, .hpa⟩] } }.p (F.PHASE_PERIOD_PERIOD 47) 640), .sup, 47, by decide +kernel⟩,
   ⟨({ std with img := { std.img with staging := [⟨1, 47, A.PHASE_DUTY 47, (F.PHASE_DUTY_DUTY 47).lo, (F.PHASE_DUTY_DUTY 47).w, 10240, .hpa⟩] } }.p (F.PHASE_PERIOD_PERIOD 47) 640), .sup, 47, 10240, ⟨by decide +kernel, by decide +kernel, by decide +kernel, by decide +kernel, ⟨.hpa, by decide +kernel⟩, by decide +kernel⟩⟩,
   ⟨({ run with img := { run.img with staging := [⟨1, 0, A.PHASE_DUTY 0, (F.PHASE_DUTY_DUTY 0).lo, (F.PHASE_DUTY_DUTY 0).w, 10240, .hpa⟩] } }.p (F.PHASE_PERIOD_PERIOD 0) 640), .sup, 0, by decide +kernel⟩,
   ⟨({ run with img := { run.img with staging := [⟨1, 0, A.PHASE_DUTY 0, (F.PHASE_DUTY_DUTY 0).lo, (F.PHASE_DUTY_DUTY 0).w, 1, .hpa⟩] } }.p (F.PHASE_PERIOD_PERIOD 0) 640), .sup, 0, 99, by decide +kernel⟩,
   ⟨{ run with img := { run.img with armed := [⟨1, 47, .hpa, 0⟩] } }, .sup, 47, 99, ⟨1, 47, .hpa, 0⟩, by decide +kernel⟩,
   ⟨std, .sup, 3, 7, 99, by decide +kernel⟩,
   ⟨{ run with tb := 100, img := { run.img with cancelled := [⟨⟨1, 0, .hpa, 0⟩, [⟨1, 0, A.PHASE_DUTY 0, (F.PHASE_DUTY_DUTY 0).lo, (F.PHASE_DUTY_DUTY 0).w, 5, .hpa⟩], 1599⟩] } }, 0, ⟨⟨1, 0, .hpa, 0⟩, [⟨1, 0, A.PHASE_DUTY 0, (F.PHASE_DUTY_DUTY 0).lo, (F.PHASE_DUTY_DUTY 0).w, 5, .hpa⟩], 1599⟩, 5, ⟨by decide +kernel, by decide +kernel, by decide +kernel, by decide +kernel, by decide +kernel, by decide +kernel, ⟨.hpa, by decide +kernel⟩, by decide +kernel⟩⟩⟩

theorem test_witness_SessionsAndKeys :
    (∃ (s : State) (m : Master) (sc : BitVec 8) (se : BitVec 8), judge m A.GH_CHAL (chalWord 1 sc se) s = .ok ∧ s.gate.session = none ∧ s.gate.bank.lockEnd ≤ s.g F.NP_SECS_SECS ∧ vget s.gate.bank.keys 4 ≠ none ∧ s.dev ≠ .lockdown)
    ∧ (∃ (s : State) (m : Master) (sc : BitVec 8) (se : BitVec 8), judge m A.GH_CHAL (chalWord 1 sc se) s = .ok ∧ s.g F.NP_SECS_SECS < s.gate.bank.lockEnd)
    ∧ (∃ (s : State) (m : Master) (n : Nonce) (key : BitVec 256), judge m A.GH_CHAL (s.withField F.GH_CHAL_CMD 2) s = .ok ∧ s.dev ≠ .lockdown ∧ s.gate.nonce = some n ∧ n.by_ = m ∧ vget s.gate.bank.keys 4 = some key ∧ s.response = expectedResponse s n key)
    ∧ (∃ (s : State) (m : Master) (n : Nonce) (key : BitVec 256), judge m A.GH_CHAL (s.withField F.GH_CHAL_CMD 2) s = .ok ∧ s.dev ≠ .lockdown ∧ s.gate.nonce = some n ∧ n.by_ = m ∧ vget s.gate.bank.keys 4 = some key ∧ s.response ≠ expectedResponse s n key ∧ min 15 (s.gate.bank.failcnt + 1) ≠ s.g F.GH_ALARM_ALARMTH)
    ∧ (∃ (s : State) (m : Master), judge m A.GH_CHAL (s.withField F.GH_CHAL_CMD 2) s = .ok ∧ s.gate.nonce = none)
    ∧ (∃ (s : State) (m : Master) (x : Session), judge m A.GH_CHAL (s.withField F.GH_CHAL_CMD 3) s = .ok ∧ s.gate.session = some x)
    ∧ (∃ (s : State) (m : Master) (v : Word), judge m A.GH_LOCK v s = .ok)
    ∧ (∃ (s : State) (m : Master) (i : Fin 5), judge m A.GH_KEYCTL (setBits (setBits 0 28 4 1) 0 3 i.val) s = .ok ∧ s.mayKey i = true)
    ∧ (∃ (s : State) (m : Master) (i : Fin 5), judge m A.GH_KEYCTL (setBits (setBits 0 28 4 1) 0 3 i.val) s = .ok ∧ s.mayKey i = false) :=
  ⟨⟨{ std with gate := { std.gate with  bank := { std.gate.bank with keys := vset (.replicate 5 none) 4 (some 1) } } }, .sup, 4, 1, by decide +kernel⟩,
   ⟨{ std with gate := { std.gate with  bank := { std.gate.bank with lockEnd := 2 } } }, .sup, 4, 1, by decide +kernel⟩,
   (let ⟨v, hv⟩ := response_matches; ⟨asked v, .sup, ⟨0, .sup, 4, 1⟩, 1, submit_judged v, nofun, rfl, rfl, (by decide +kernel : vget (vset (.replicate 5 none) 4 (some (1 : BitVec 256))) 4 = some 1), hv⟩),
   (let ⟨v, hv⟩ := response_differs; ⟨asked v, .sup, ⟨0, .sup, 4, 1⟩, 1, submit_judged v, nofun, rfl, rfl, (by decide +kernel : vget (vset (.replicate 5 none) 4 (some (1 : BitVec 256))) 4 = some 1), hv, (by decide +kernel : min 15 (std.gate.bank.failcnt + 1) ≠ std.g F.GH_ALARM_ALARMTH)⟩),
   ⟨std, .sup, by decide +kernel⟩,
   ⟨{ std with gate := { std.gate with session := some ⟨.sup, 4, 1⟩, bank := { std.gate.bank with failcnt := 0 } } }, .sup, ⟨.sup, 4, 1⟩, by decide +kernel⟩,
   ⟨std, .sup, 31, by decide +kernel⟩,
   ⟨std, .sup, 4, by decide +kernel⟩,
   ⟨{ std with gate := { std.gate with  bank := { std.gate.bank with keys := .replicate 5 (some 1) } } }, .sup, 0, by decide +kernel⟩⟩

theorem test_witness_JtagAndRefusedAccesses :
    (∃ (s : State), s.core = true ∧ s.dev ≠ .boot ∧ s.sup.vioh = true)
    ∧ (∃ (s : State), (s.core = false ∨ s.dev = .boot ∨ s.sup.vioh = false))
    ∧ (∃ (s : State) (m : Master) (a : BitVec 24) (w : Word) (k : Nat), judge m (wordAddr m a) w s = .gate k)
    ∧ (∃ (s : State) (m : Master) (a : BitVec 24) (w : Word) (c : CfgCause), judge m (wordAddr m a) w s = .refused c ∧ c ≠ .grpBusy)
    ∧ (∃ (s : State), (s.dev = .off ∨ s.dev = .boot))
    ∧ (∃ (s : State) (m : Master) (a : BitVec 24) (w : Word) (k : Fin 8), judge m (wordAddr m a) w s = .ok ∧ wordAddr m a / 65536 = 0x10 ∧ wordAddr m a % 65536 / 4096 = k.val)
    ∧ (∃ (s : State) (m : Master), s.dev = .lockdown ∧ m ≠ .sup)
    ∧ (∃ (s : State), (s.dev = .standby ∨ s.dev = .run ∨ s.dev = .safe) ∧ s.holds .dbg 4 = false)
    ∧ (∃ (s : State) (a : BitVec 24), judgeRead .dbg (wordAddr .dbg a) s = .ok)
    ∧ (∃ (s : State) (a : BitVec 24) (k : Nat), judgeRead .dbg (wordAddr .dbg a) s = .gate k)
    ∧ (∃ (s : State) (a : BitVec 24), judgeRead .dbg (wordAddr .dbg a) s = .notReady) :=
  ⟨⟨std, by decide +kernel⟩,
   ⟨off, by decide +kernel⟩,
   ⟨dv .lockdown, .hpa, 0, 0, 5, by decide +kernel⟩,
   ⟨std, .sup, 0xFFFFFC, 0, .range, by decide +kernel⟩,
   ⟨off, by decide +kernel⟩,
   ⟨std, .sup, 0x107008, 0x4000, 7, by decide +kernel⟩,
   ⟨dv .lockdown, .dbg, by decide +kernel⟩,
   ⟨std, by decide +kernel⟩,
   ⟨std, 3, by decide +kernel⟩,
   ⟨(std.setWord (A.GH_ACC 0) 0), 3, 1, by decide +kernel⟩,
   ⟨off, 3, by decide +kernel⟩⟩

theorem test_witness_ReadsLatchUpperHalves :
    (∃ (s : State) (m : Master), judgeRead m A.TB_COUNT_LO s = .ok)
    ∧ (∃ (s : State) (m : Master), judgeRead m A.TB_SECMARK_LO s = .ok)
    ∧ (∃ (s : State) (m : Master), judgeRead m A.PT_EIN_LO s = .ok)
    ∧ (∃ (s : State) (m : Master) (k : Fin 8), judgeRead m (A.PT_ERAIL_LO k.val) s = .ok)
    ∧ (∃ (s : State) (m : Master) (n : Fin 32), judgeRead m (A.CAP_TSHI n.val) s = .ok)
    ∧ (∃ (s : State) (m : Master) (v : Word), judge m (A.HPM_TX 0) v s = .ok)
    ∧ (∃ (s : State) (m : Master) (n : Fin 48) (v : Word), judge m (A.PHASE_DUTY n.val) v s = .ok ∧ s.phRuns n = true)
    ∧ (∃ (s : State) (m : Master) (n : Fin 48) (v : Word), judge m (A.PHASE_DUTY n.val) v s = .ok ∧ s.phRuns n = false ∧ (∀ z ∈ s.img.staging, z.addr ≠ A.PHASE_DUTY n.val))
    ∧ (∃ (s : State) (m : Master) (k : Fin 8) (v : Word), judge m (A.RAIL_TONMAX k.val) v s = .ok ∧ s.enabled k = true)
    ∧ (∃ (s : State) (m : Master) (k : Fin 8) (v : Word), judge m (A.RAIL_TONMAX k.val) v s = .ok ∧ s.enabled k = false)
    ∧ (∃ (s : State) (m : Master) (n : Fin 48) (v : Word), judge m (A.PHASE_DT n.val) v s = .ok ∧ s.phRuns n = true)
    ∧ (∃ (s : State) (m : Master) (n : Fin 48) (v : Word), judge m (A.PHASE_DT n.val) v s = .ok ∧ s.phRuns n = false) :=
  ⟨⟨std, .sup, by decide +kernel⟩,
   ⟨std, .sup, by decide +kernel⟩,
   ⟨std, .sup, by decide +kernel⟩,
   ⟨std, .sup, 7, by decide +kernel⟩,
   ⟨std, .sup, 31, by decide +kernel⟩,
   ⟨std, .sup, 0xFFFFFFFF, by decide +kernel⟩,
   ⟨run, .sup, 0, 77, by decide +kernel⟩,
   ⟨std, .sup, 47, 77, by decide +kernel⟩,
   ⟨run, .sup, 0, 0x3E800, by decide +kernel⟩,
   ⟨std, .sup, 7, 0x3E800, by decide +kernel⟩,
   ⟨run, .sup, 0, 0x00800080, by decide +kernel⟩,
   ⟨std, .sup, 47, 0x00800080, by decide +kernel⟩⟩

theorem test_witness_PmbusFormatsAreExact :
    (∃ (c : Nat), c < 65536)
    ∧ (∃ (n : Nat), n < 65536)
    ∧ (∃ (w : Nat), w < 65536)
    ∧ (∃ (num : Int) (den : Nat) (e : Nat), 0 < den ∧ e < 32 ∧ (-1024 ≤ linScale num den (e - 16) ∧ linScale num den (e - 16) ≤ 1023) ∧ (∀ f : Nat, f < e → linScale num den (f - 16) < -1024 ∨ 1023 < linScale num den (f - 16)))
    ∧ (∃ (num : Int) (den : Nat), 0 < den ∧ (∀ f : Nat, f < 32 → linScale num den (f - 16) < -1024 ∨ 1023 < linScale num den (f - 16)))
    ∧ (∃ (den : Nat) (e : Nat), 0 < den ∧ e < 32)
    ∧ (∃ (e : Int) (m : Int), -16 ≤ e ∧ e ≤ 15 ∧ -1024 ≤ m ∧ m ≤ 1023) :=
  ⟨⟨65535, by decide +kernel⟩,
   ⟨65535, by decide +kernel⟩,
   ⟨65535, by decide +kernel⟩,
   ⟨76800, 64, 17, by decide +kernel⟩,
   ⟨-1000000000000, 1, by decide +kernel⟩,
   ⟨3, 31, by decide +kernel⟩,
   ⟨-16, 1023, by decide +kernel⟩⟩

theorem test_witness_PushesAppendOrDrop :
    (∃ (q : Fin 16) (s : State), (s.q q).length < qDepth q.val)
    ∧ (∃ (q : Fin 16) (s : State), q.val ≠ 10 ∧ q.val ≠ 13 ∧ q.val ≠ 15 ∧ qDepth q.val ≤ (s.q q).length)
    ∧ (∃ (s : State) (p : Fin 4) (i : Nat), s.exp = some (p, i) ∧ i < s.exportLen p ∧ s.room 13 1 = false) :=
  ⟨⟨13, std, by decide +kernel⟩,
   ⟨7, (std.setQ 7 (.replicate 16 qe)), by decide +kernel⟩,
   ⟨({ std with exp := some (3, 0) }.setQ 13 (.replicate 32 qe)), 3, 0, by decide +kernel⟩⟩

theorem test_witness_PlateSettingsStandWhileItRuns :
    (∃ (s : State) (m : Master) (p : Fin 4), judge m (A.PL_CTL p.val) (s.withField (F.PL_CTL_RUN p.val) 0) s = .ok ∧ s.gb (F.PL_CTL_RUN p.val) = true)
    ∧ (∃ (s : State) (m : Master) (p : Fin 4) (w : Word), (s.dev = .standby ∨ s.dev = .run ∨ s.dev = .lockdown ∨ m = .sup) ∧ s.dev ≠ .off ∧ s.dev ≠ .boot ∧ s.gateWrite m (A.PL_CTL p.val) false = none ∧ (vget s.plate p).st = .armed ∨ (vget s.plate p).st = .capturing ∧ (getBits w (F.PL_CTL_NCHC p.val).lo 2 ≠ s.g (F.PL_CTL_NCHC p.val) ∨ getBits w (F.PL_CTL_DECMODE p.val).lo 1 ≠ s.g (F.PL_CTL_DECMODE p.val) ∨ getBits w (F.PL_CTL_BASE p.val).lo 4 ≠ s.g (F.PL_CTL_BASE p.val) ∨ getBits w (F.PL_CTL_BIDX p.val).lo 8 ≠ s.g (F.PL_CTL_BIDX p.val))) :=
  ⟨⟨(std.pb (F.PL_CTL_RUN 3) true), .sup, 3, by decide +kernel⟩,
   ⟨((std.modPl 0 fun r => { r with st := .armed }).pb (F.PL_CTL_RUN 0) true), .sup, 0, 0x84000000, by decide +kernel⟩⟩

end Sys2Proof.Tests
end

section
/-!
PROOFS. The statements of 01_architecture.md (R15-R28): the step, what every step keeps, the entries to OFF and the ways out of
it, and the boundary window.
-/

open Sys2Proof Sys2Proof.Machine

namespace Sys2Proof.Machine

/-! ### The step and the settling after it (R17, R28, R378) -/

theorem step_pending (s : State) (c : Instr) (rest : List Instr) (h : s.pending = c :: rest) :
    step s = exec c { s with pending := rest } := by
  unfold step
  rw [h]

theorem step_idle (s : State) (h : s.pending = []) :
    step s = .next { s with tb := if s.dev = .off then s.tb else s.tb + 1 } := by
  unfold step
  rw [h]

/-- Whatever the command and the state, `exec` ends in the settling `finish`. -/
theorem exec_done (c : Instr) (s : State) : ∃ u, exec c s = done u := by
  cases c with
  | energyLoRead m k => cases k <;> exact ⟨_, rfl⟩
  | hnvDataAccess m w found => cases w <;> exact ⟨_, rfl⟩
  | registerWrite m a v bad =>
    show ∃ u, execRegisterWrite m a v bad s = done u
    unfold execRegisterWrite
    split <;> exact ⟨_, rfl⟩
  | _ => exact ⟨_, rfl⟩

/-- The settling settles every state: the device state follows the rails before the interrupt record is taken, and the
evaluation of the interrupt touches neither. -/
theorem finish_settled (u : State) : Settled (finish u) := by
  obtain ⟨hs, hr⟩ := updateDev_settled (updateSmods (stoppedArmed u))
  have hd : (finish u).dev = (updateDev (updateSmods (stoppedArmed u))).dev :=
    evalInterrupt_keep (·.dev) (fun _ _ _ => rfl) (fun _ _ => rfl) _
  have ha : (finish u).anyEnabled = (updateDev (updateSmods (stoppedArmed u))).anyEnabled :=
    evalInterrupt_keep (·.anyEnabled) (fun _ _ _ => rfl) (fun _ _ => rfl) _
  refine ⟨?_, ?_, evalInterrupt_seen _⟩
  · rw [hd, ha]; exact hs
  · rw [hd, ha]; exact hr

/-- Settles O1, by the equation of `step` on a queue that holds a command. -/
theorem stepRunsFrontCommand : Obligations.StepRunsFrontCommand := step_pending

/-- Settles O5: BOOT asks nothing of the rails, and with EV_MASK 0 no interrupt bit is enabled. -/
theorem resetIsSettled : Obligations.ResetIsSettled := by
  have hm : State.reset.g F.EV_MASK_MASK = 0 := by decide +kernel
  unfold Obligations.ResetIsSettled Settled
  refine ⟨(nomatch ·), (nomatch ·), ?_⟩
  unfold State.evActive
  rw [if_pos hm]
  rfl

/-- Settles O6: a command ends in `finish`, which settles any state; an idle step moves TBCOUNT, of which a settled state says
nothing. -/
theorem stepsKeepSettled : Obligations.StepsKeepSettled := by
  unfold Obligations.StepsKeepSettled
  intro s t hs h
  cases hp : s.pending with
  | nil =>
    rw [step_idle s hp] at h
    cases h
    exact hs hp
  | cons c rest =>
    obtain ⟨u, hu⟩ := exec_done c { s with pending := rest }
    rw [step_pending s c rest hp, hu] at h
    cases h
    exact finish_settled u

/-! ### Entry to OFF (R19, R59) -/

/-- The parts of the state that an entry to OFF stops or keeps: the device state, phases, rails, queues, the open session and
the image slots. -/
def State.offParts (s : State) :
    DevState × Vector PhaseState 48 × Vector RailState 8 × Vector (List QEntry) 16 × Option Session × Vector Slot 2 :=
  (s.dev, s.phase, s.rail, s.queue, s.gate.session, s.img.slots)

/-- In OFF nothing is running: the parts of an entry to OFF from s stand as R19 and R59 leave them. -/
def State.StoppedFrom (s u : State) : Prop :=
  u.offParts = (.off, State.reset.phase, State.reset.rail, State.reset.queue, none, s.img.slots)

theorem allOff_of_stoppedFrom {s u : State} (h : s.StoppedFrom u) :
    u.dev = .off ∧ (∀ n, (u.ph n).out = .off) ∧ (∀ k, u.st k = .off) ∧ (∀ q, u.q q = []) ∧ u.gate.session = none
      ∧ u.img.slots = s.img.slots := by
  simp only [State.StoppedFrom, State.offParts, Prod.mk.injEq] at h
  obtain ⟨hd, hp, hr, hq, hs, hi⟩ := h
  refine ⟨hd, fun n => ?_, fun k => ?_, fun q => ?_, hs, hi⟩
  · simp [State.ph, hp, State.reset, PhaseState.reset]
  · simp [State.st, State.ra, hr, State.reset, RailState.reset, TransitState.reset]
  · simp [State.q, hq, State.reset]

/-- What an end of the session keeps: all but the registers, the Plates, the store, the staging and the session itself. -/
theorem endSession_keep {β : Type} (π : State → β) (hw : ∀ s a w, π (State.setWord s a w) = π s)
    (hm : ∀ s p f, π (State.modPl s p f) = π s) (hn : ∀ (s : State) n, π { s with nv := n } = π s)
    (hs : ∀ (s : State) l, π { s with gate := { s.gate with session := none }, img := { s.img with staging := l } } = π s)
    (s : State) : π (endSession s) = π s := by
  unfold endSession
  split
  · rfl
  · refine (queueRecord_keep π hw hm hn _ _ _ _).trans ?_
    split
    · exact hs s _
    · exact (hw _ _ _).trans (hs s _)

/-- The write under way at an entry to OFF touches the store alone. -/
theorem storeAtOff_keep {β : Type} (π : State → β) (hn : ∀ (s : State) n, π { s with nv := n } = π s) (c : OffCause)
    (s : State) : π (storeAtOff c s) = π s := by
  have hw : ∀ w s, π (nvPerform w s) = π s := by
    intro w s
    cases w <;> exact hn _ _
  unfold storeAtOff
  split
  · rfl
  · exact hn _ _
  · rfl
  · exact hw _ _

theorem coreReset_offParts (off : Bool) (s : State) : (coreReset off s).offParts
    = (s.dev, State.reset.phase, State.reset.rail, State.reset.queue, none, s.img.slots) := rfl

theorem coreReset_sup (off : Bool) (s : State) : (coreReset off s).sup
    = { s.sup with groupAwake := .replicate 6 false, enHist := .replicate 8 [] } := rfl

theorem setDev_dev (s : State) (d : DevState) : (s.setDev d).dev = d := by
  unfold State.setDev
  split
  · assumption
  · rfl

/-! ### The hot-swap FET in OFF (R315) -/

/-- In OFF there is no early warning (R317). -/
theorem pfwAssert_off (c : Nat) (s : State) (h : s.dev = .off) : pfwAssert c s = s := by
  simp [pfwAssert, h]

theorem hsOff_keep {β : Type} (π : State → β) (hn : ∀ (s : State) n, π { s with np := n } = π s) (s : State)
    (h : s.dev = .off) : π (hsOff s) = π s := by
  unfold hsOff
  dsimp only
  split
  · split
    · exact (congrArg π (pfwAssert_off 3 { s with np := { s.np with hs := false } } h)).trans (hn _ _)
    · exact hn _ _
  · rfl

theorem setPt_keep {β : Type} (π : State → β) (hp : ∀ s f v, π (State.p s f v) = π s)
    (hn : ∀ (s : State) n, π { s with np := n } = π s) (st : Nat) (s : State) (h : s.dev = .off) :
    π (setPt st s) = π s := by
  unfold setPt
  extract_lets s0 s1
  have h0 : s0 = s := if_neg (by simp [h])
  have h1 : π s1 = π s := (hp s0 _ _).trans (congrArg π h0)
  have h2 : s1.dev = .off := (State.p_dev s0 _ _).trans ((congrArg State.dev h0).trans h)
  clear_value s1
  split
  · exact (hn s1 _).trans h1
  · exact (hsOff_keep π hn s1 h2).trans h1

/-- In OFF the Night Porter's following of the input touches registers, its own record and the Porter's alone. -/
theorem npFollow_keep {β : Type} (π : State → β) (hp : ∀ s f v, π (State.p s f v) = π s)
    (hn : ∀ (s : State) n, π { s with np := n } = π s) (ht : ∀ (s : State) x, π { s with pt := x } = π s) (s : State)
    (h : s.dev = .off) : π (npFollow s) = π s := by
  have hto : ∀ st, π (toPt st s) = π s := fun st =>
    (setPt_keep π hp hn st { s with pt := { s.pt with debounced := false } } h).trans (ht _ _)
  unfold npFollow
  split
  · rfl
  · split
    · exact hto 1
    · split
      · exact hto 0
      · rfl

/-! ### What an entry to OFF leaves -/

theorem endSession_off (c : OffCause) (s : State) :
    (endSession ((storeAtOff c s).setDev .off)).dev = .off
      ∧ (endSession ((storeAtOff c s).setDev .off)).sup = s.sup
      ∧ (endSession ((storeAtOff c s).setDev .off)).img.slots = s.img.slots := by
  refine ⟨?_, ?_, ?_⟩
  · rw [endSession_keep (·.dev) (fun _ _ _ => rfl) (fun _ _ _ => rfl) (fun _ _ => rfl) (fun _ _ => rfl), setDev_dev]
  · rw [endSession_keep (·.sup) (fun _ _ _ => rfl) (fun _ _ _ => rfl) (fun _ _ => rfl) (fun _ _ => rfl), State.setDev_sup,
      storeAtOff_keep (·.sup) fun _ _ => rfl]
  · rw [endSession_keep (·.img.slots) (fun _ _ _ => rfl) (fun _ _ _ => rfl) (fun _ _ => rfl) (fun _ _ => rfl),
      State.setDev_img, storeAtOff_keep (·.img.slots) fun _ _ => rfl]

/-- The core's reset at an entry to OFF, before the flags of its cause. -/
def coreAtOff (c : OffCause) (s : State) : State :=
  let s1 := coreReset true (endSession ((storeAtOff c s).setDev .off))
  npFollow (if s1.ptSt = 6 then setPt 0 s1 else s1)

theorem enterOff_eq (c : OffCause) (s : State) (h : s.dev ≠ .off) : enterOff c s
    = { (coreAtOff c s).pb F.SUPPLY_STATUS_RSTPIN (c == .reset) with
        sup := { (coreAtOff c s).sup with wake := none, sleep := c == .sleep } } := by
  unfold enterOff
  rw [if_neg h]
  rfl

theorem coreAtOff_keep {β : Type} (π : State → β) (hp : ∀ s f v, π (State.p s f v) = π s)
    (hn : ∀ (s : State) n, π { s with np := n } = π s) (ht : ∀ (s : State) x, π { s with pt := x } = π s) (c : OffCause)
    (s : State) : π (coreAtOff c s) = π (coreReset true (endSession ((storeAtOff c s).setDev .off))) := by
  have hd : (coreReset true (endSession ((storeAtOff c s).setDev .off))).dev = .off := (endSession_off c s).1
  unfold coreAtOff
  dsimp only
  split
  · exact (npFollow_keep π hp hn ht _ ((setPt_keep (·.dev) (fun _ _ _ => rfl) (fun _ _ => rfl) 0 _ hd).trans hd)).trans
      (setPt_keep π hp hn 0 _ hd)
  · exact npFollow_keep π hp hn ht _ hd

theorem enterOff_stopped (c : OffCause) (s : State) (h : s.dev ≠ .off) : s.StoppedFrom (enterOff c s) := by
  obtain ⟨hd, -, hi⟩ := endSession_off c s
  unfold State.StoppedFrom
  rw [enterOff_eq c s h]
  refine (coreAtOff_keep State.offParts (fun _ _ _ => rfl) (fun _ _ => rfl) (fun _ _ => rfl) c s).trans ?_
  rw [coreReset_offParts, hd, hi]

/-- An entry to OFF keeps the supplies, pins and straps; it clears the wake event, and latches a sleep where it is one. -/
theorem enterOff_sup (c : OffCause) (s : State) (h : s.dev ≠ .off) : (enterOff c s).sup
    = { s.sup with groupAwake := .replicate 6 false, enHist := .replicate 8 [], wake := none, sleep := c == .sleep } := by
  have hs : (coreAtOff c s).sup = { s.sup with groupAwake := .replicate 6 false, enHist := .replicate 8 [] } := by
    rw [coreAtOff_keep (·.sup) (fun _ _ _ => rfl) (fun _ _ => rfl) (fun _ _ => rfl) c s, coreReset_sup,
      (endSession_off c s).2.1]
  rw [enterOff_eq c s h, hs]

/-- A one-bit field reads back as written. -/
theorem State.gb_pb (s : State) (f : Fld) (b : Bool) (hw : f.w = 1) (hf : f.lo + f.w ≤ 32) : (s.pb f b).gb f = b := by
  unfold State.gb State.pb
  rw [State.g_p s f _ hf, hw]
  cases b <;> rfl

theorem enterOff_rstpin (c : OffCause) (s : State) (h : s.dev ≠ .off) :
    (enterOff c s).gb F.SUPPLY_STATUS_RSTPIN = (c == .reset) := by
  rw [enterOff_eq c s h]
  exact State.gb_pb (coreAtOff c s) F.SUPPLY_STATUS_RSTPIN _ rfl (by decide)

theorem enterOff_of_off (c : OffCause) (s : State) (h : s.dev = .off) : enterOff c s = s := if_pos h

/-- A field does not depend on the supplies. -/
theorem State.gb_withSup (s : State) (x : Supplies) (f : Fld) : ({ s with sup := x } : State).gb f = s.gb f := rfl

theorem stoppedFrom_pb {s u : State} (h : s.StoppedFrom u) (f : Fld) (b : Bool) : s.StoppedFrom (u.pb f b) := h

theorem stoppedFrom_withSup {s u : State} (h : s.StoppedFrom u) (x : Supplies) :
    s.StoppedFrom { u with sup := x } := h

theorem stoppedFrom_withNp {s u : State} (h : s.StoppedFrom u) (n : NightPorter) : s.StoppedFrom { u with np := n } := h

theorem stoppedFrom_aonPowerOn {s u : State} (h : s.StoppedFrom u) : s.StoppedFrom (aonPowerOn u) := by
  refine Eq.trans ?_ h
  unfold aonPowerOn State.offParts
  simp only [State.p_dev, State.p_phase, State.p_rail, State.p_queue, State.p_gate, State.p_img, State.pb_dev,
    State.pb_phase, State.pb_rail, State.pb_queue, State.pb_gate, State.pb_img]

/-- A write of a field, and of supplies and pins beside it, changes one register word. -/
theorem onlyWords_pb (s : State) (f : Fld) (b : Bool) (x : Supplies) :
    OnlyWords { ({ s.pb f b with sup := x } : State) with sup := s.sup } s [f.addr] :=
  ⟨rfl, fun a ha => State.word_p_ne s f _ a (by simpa using ha)⟩

/-- In OFF no output of the core is driven (R38, R40, R43, R52-R55). -/
theorem pins_off (s : State) (h : s.dev = .off) : (∀ g, s.pinSmod g = .floating) ∧ (∀ k, s.pinPgood k = .floating)
    ∧ (∀ i, s.pinCmpo i = .floating) ∧ (∀ p, s.pinFlalert p = .floating) ∧ s.pinFault = .floating
    ∧ s.pinPfw = .floating ∧ s.pinHalert = .floating ∧ s.pinSynco = .floating
    ∧ ∀ m, s.pinPwm m = (if s.sup.vdd33 then .weak (s.offLevel m) else .unpowered) := by
  have hc : s.core = false := by simp [State.core, h]
  have hv : s.viohOut = false := by simp [State.viohOut, hc]
  refine ⟨fun g => by simp [State.pinSmod, hc], fun k => by simp [State.pinPgood, hv, Drive.openDrain],
    fun i => by simp [State.pinCmpo, hv], fun p => by simp [State.pinFlalert, hc, Drive.openDrain],
    by simp [State.pinFault, hv, Drive.openDrain], by simp [State.pinPfw, hv, Drive.openDrain],
    by simp [State.pinHalert, hv, Drive.openDrain], by simp [State.pinSynco, hv], fun m => ?_⟩
  cases h3 : s.sup.vdd33 <;> simp [State.pinPwm, hc, h3]

/-! ### The always-on domain's power-on (R57) -/

theorem SMap.find_filter {α : Type} (m : SMap α) (p : Nat → Bool) (j : Nat) :
    SMap.find (m.filter fun x => p x.1) j = if p j then SMap.find m j else none := by
  induction m with
  | nil => simp [SMap.find]
  | cons x m ih =>
    obtain ⟨a, v⟩ := x
    by_cases hj : a = j
    · subst hj
      by_cases hp : p a <;> simp [SMap.find, hp, ih]
    · by_cases hp : p a <;> simp [SMap.find, hp, hj, ih]

/-- A power-on of the always-on domain writes its own block, SUPPLY_STATUS and DEVICE_STATUS; a register of its block other than
NP_SECS returns to its reset word. -/
theorem aonPowerOn_word (s : State) (a : Nat) (hb : a / 65536 = 2) (hs : a ≠ A.NP_SECS) :
    (aonPowerOn s).word a = resetWord a := by
  have h1 : a ≠ A.SUPPLY_STATUS := by rintro rfl; exact absurd hb (by decide)
  have h2 : a ≠ A.DEVICE_STATUS := by rintro rfl; exact absurd hb (by decide)
  unfold aonPowerOn
  dsimp only [State.pb]
  rw [State.word_p_ne _ _ _ a hs, State.word_p_ne _ _ _ a h2, State.word_p_ne _ _ _ a h1, State.word_p_ne _ _ _ a h1]
  show SMap.get resetWord (s.regs.filter fun x => x.1 / 65536 != 2) a = resetWord a
  unfold SMap.get
  rw [SMap.find_filter s.regs (fun a => a / 65536 != 2) a]
  simp [hb]

theorem aonPowerOn_sup (s : State) : (aonPowerOn s).sup = s.sup := by simp [aonPowerOn]

theorem aonPowerOn_dev (s : State) : (aonPowerOn s).dev = s.dev := by simp [aonPowerOn]

theorem aonPowerOn_rcnt (s : State) : (aonPowerOn s).g F.NP_RSTATE_RCNT = 0 := by
  unfold State.g
  rw [aonPowerOn_word s _ (by decide) (by decide)]
  decide +kernel

theorem aonPowerOn_aoncold (s : State) : (aonPowerOn s).gb F.SUPPLY_STATUS_AONCOLD = true := by
  unfold aonPowerOn State.gb
  dsimp only
  rw [State.g_p_addr _ F.NP_SECS_SECS _ _ (by decide), State.g_p_addr _ F.DEVICE_STATUS_WAKESRC _ _ (by decide), State.pb,
    State.g_p_apart _ F.SUPPLY_STATUS_RSTPIN F.SUPPLY_STATUS_AONCOLD _ (by decide) (by decide)]
  exact State.gb_pb _ F.SUPPLY_STATUS_AONCOLD true rfl (by decide)

/-! ### OFF is left for BOOT (R19, R53) -/

/-- The conditions of R19 and R53 for leaving OFF. -/
def State.bootReady (s : State) : Bool :=
  s.dev == .off && s.sup.vcore && s.sup.vdd33 && s.sup.vaon && s.sup.resetHigh && (!s.sup.sleep || s.sup.wake.isSome)

/-- WAKESRC as an entry to BOOT from OFF sets it (R19). -/
def State.wakeSource (s : State) : Nat :=
  if s.sup.sleep then (match s.sup.wake with | some c => c.val | none => 0) else 0

/-- The state a boot from OFF begins with, before WAKESRC. -/
def State.bootStarted (s : State) : State :=
  let s1 := { s.setDev .boot with tb := 0 }
  { s1 with sup := { s1.sup with sleep := false, wake := none, enHist := .replicate 8 [] }
            np := { s1.np with remAt := none } }

theorem tryBoot_ready (s : State) (h : s.bootReady = true) :
    tryBoot s = s.bootStarted.p F.DEVICE_STATUS_WAKESRC s.wakeSource := by
  have h' : (s.dev = .off && s.sup.vcore && s.sup.vdd33 && s.sup.vaon && s.sup.resetHigh
      && (!s.sup.sleep || s.sup.wake.isSome)) = true := h
  unfold tryBoot
  rw [if_pos h']
  rfl

theorem tryBoot_not_ready (s : State) (h : s.bootReady = false) : tryBoot s = s := by
  have h' : ¬ (s.dev = .off && s.sup.vcore && s.sup.vdd33 && s.sup.vaon && s.sup.resetHigh
      && (!s.sup.sleep || s.sup.wake.isSome)) = true := by rw [Bool.not_eq_true]; exact h
  unfold tryBoot
  rw [if_neg h']

theorem bootStarted_sup (s : State) :
    s.bootStarted.sup = { s.sup with sleep := false, wake := none, enHist := .replicate 8 [] } := by
  simp [State.bootStarted]

theorem bootStarted_dev (s : State) : s.bootStarted.dev = .boot := setDev_dev s .boot

theorem bootStarted_g (s : State) (f : Fld) : s.bootStarted.g f = s.g f := State.setDev_g s .boot f

/-- With every condition met the device is in BOOT with the time base at 0; supplies, pins and straps stay. -/
theorem tryBoot_boots (s : State) (h : s.bootReady = true) : (tryBoot s).dev = .boot ∧ (tryBoot s).tb = 0
    ∧ (tryBoot s).sup = { s.sup with sleep := false, wake := none, enHist := .replicate 8 [] } := by
  rw [tryBoot_ready s h]
  exact ⟨bootStarted_dev s, rfl, bootStarted_sup s⟩

theorem tryBoot_wakesrc (s : State) (h : s.bootReady = true) :
    (tryBoot s).g F.DEVICE_STATUS_WAKESRC = s.wakeSource % 16 := by
  rw [tryBoot_ready s h]
  exact State.g_p _ F.DEVICE_STATUS_WAKESRC _ (by decide)

theorem tryBoot_g (s : State) (f : Fld) (hf : f.addr ≠ A.DEVICE_STATUS) : (tryBoot s).g f = s.g f := by
  by_cases h : s.bootReady = true
  · rw [tryBoot_ready s h, State.g_p_addr _ F.DEVICE_STATUS_WAKESRC f _ hf, bootStarted_g]
  · rw [tryBoot_not_ready s (by simpa using h)]

/-- Whether or not OFF is left, the address straps stand as sampled. -/
theorem tryBoot_straps (s : State) : (tryBoot s).sup.addr0 = s.sup.addr0 ∧ (tryBoot s).sup.addr1 = s.sup.addr1
    ∧ (tryBoot s).sup.addrWait = s.sup.addrWait := by
  by_cases h : s.bootReady = true
  · rw [(tryBoot_boots s h).2.2]
    exact ⟨rfl, rfl, rfl⟩
  · rw [tryBoot_not_ready s (by simpa using h)]
    exact ⟨rfl, rfl, rfl⟩

theorem sampleAddr_keep {β : Type} (π : State → β)
    (hs : ∀ (s : State) x y w, π { s with sup := { s.sup with addr0 := x, addr1 := y, addrWait := w } } = π s)
    (a b : Option (Fin 4)) (s : State) : π (sampleAddr a b s) = π s := by
  unfold sampleAddr
  split
  · exact hs s a b false
  · exact hs s s.sup.addr0 s.sup.addr1 true

theorem sampleAddr_vioh (a b : Option (Fin 4)) (s : State) (h : s.sup.vioh = true) :
    sampleAddr a b s = { s with sup := { s.sup with addr0 := a, addr1 := b, addrWait := false } } := if_pos h

theorem sampleAddr_waits (a b : Option (Fin 4)) (s : State) (h : s.sup.vioh = false) :
    sampleAddr a b s = { s with sup := { s.sup with addrWait := true } } := if_neg (by simp [h])

/-- The first wake event of a latched sleep is latched and acted on. -/
theorem wakeEvent_asleep (src : Fin 6) (s : State) (hd : s.dev = .off) (hs : s.sup.sleep = true)
    (hw : s.sup.wake = none) : wakeEvent src s = tryBoot { s with sup := { s.sup with wake := some src } } := by
  simp [wakeEvent, hd, hs, hw]

theorem wakeEvent_running (src : Fin 6) (s : State) (hd : s.dev ≠ .off) : wakeEvent src s = s := by
  simp [wakeEvent, hd]

/-- A boot from OFF keeps AONCOLD, and VAON is good. -/
theorem tryBoot_cold (s : State) (h : s.bootReady = true) (hc : s.gb F.SUPPLY_STATUS_AONCOLD = true) :
    (tryBoot s).dev = .boot ∧ (tryBoot s).tb = 0 ∧ (tryBoot s).sup.vaon = true
      ∧ (tryBoot s).gb F.SUPPLY_STATUS_AONCOLD = true := by
  have hv : s.sup.vaon = true := by
    simp only [State.bootReady, Bool.and_eq_true] at h
    obtain ⟨⟨⟨-, hvaon⟩, -⟩, -⟩ := h
    exact hvaon
  obtain ⟨hb, ht, hu⟩ := tryBoot_boots s h
  refine ⟨hb, ht, by rw [hu, hv], ?_⟩
  unfold State.gb
  rw [tryBoot_g s F.SUPPLY_STATUS_AONCOLD (by decide)]
  exact hc

/-- Settles O10: each entry to OFF is `enterOff` with updates of supplies, pins and the always-on domain after it, which touch
nothing of what the entry stopped. -/
theorem lossesEnterOff : Obligations.LossesEnterOff := by
  unfold Obligations.LossesEnterOff
  refine ⟨fun s w hs => ?_, fun s hs => ?_, fun s hs => ?_, fun s hs => ?_, fun s hs => ?_, fun s hs => ?_⟩
  · refine ⟨_, rfl, ?_⟩
    obtain ⟨hd, hp, hr, hq, hg, hi⟩ := allOff_of_stoppedFrom (enterOff_stopped .supply s hs)
    have hsup := enterOff_sup .supply s hs
    refine ⟨hd, hp, hr, hq, hg, hi, enterOff_rstpin .supply s hs, ?_, ?_⟩ <;> rintro rfl <;> simp [hsup]
  · have hsup := enterOff_sup .reset s hs
    have hst := enterOff_stopped .reset s hs
    refine ⟨_, rfl, ?_⟩
    generalize enterOff .reset s = x at hsup hst ⊢
    obtain ⟨hd, hp, hr, hq, hg, hi⟩ := allOff_of_stoppedFrom (stoppedFrom_withSup
      (stoppedFrom_pb hst F.SUPPLY_STATUS_RSTPIN true)
      { (x.pb F.SUPPLY_STATUS_RSTPIN true).sup with resetHigh := false, sleep := false, wake := none })
    refine ⟨hd, hp, hr, hq, hg, hi, ?_, rfl, ?_⟩
    · rw [State.gb_withSup]
      exact State.gb_pb x F.SUPPLY_STATUS_RSTPIN true rfl (by decide)
    · simp [hsup]
  · have hst := enterOff_stopped .reset s hs
    refine ⟨_, rfl, ?_⟩
    generalize enterOff .reset s = x at hst ⊢
    have hnp := stoppedFrom_withNp hst { x.np with watch := .replicate 2 false }
    generalize ({ x with np := { x.np with watch := .replicate 2 false } } : State) = z at hnp ⊢
    have haon := stoppedFrom_aonPowerOn hnp
    have hcold := aonPowerOn_aoncold z
    have hrcnt := aonPowerOn_rcnt z
    generalize aonPowerOn z = y at haon hcold hrcnt ⊢
    obtain ⟨hd, hp, hr, hq, hg, hi⟩ := allOff_of_stoppedFrom haon
    exact ⟨hd, hp, hr, hq, hg, hi, rfl, hcold, hrcnt⟩
  · show exec _ s = _
    simp only [exec, execSupplyLoss, enterOff_of_off .supply s hs]
    simp [done, show (CoreSupply.vcore != CoreSupply.vdd33) = true by decide]
  · refine ⟨_, rfl, ?_⟩
    rw [enterOff_of_off .reset s hs]
    refine ⟨?_, onlyWords_pb s F.SUPPLY_STATUS_RSTPIN true _, by simp⟩
    rw [State.gb_withSup]
    exact State.gb_pb s F.SUPPLY_STATUS_RSTPIN true rfl (by decide)
  · exact pins_off s hs

/-- Settles O11: each way out of OFF ends in `tryBoot`, which acts where every condition of R19 and R53 is met and
otherwise leaves the state. -/
theorem offIsLeftForBoot : Obligations.OffIsLeftForBoot := by
  unfold Obligations.OffIsLeftForBoot
  refine ⟨fun s l hd ha hr hs h3 => ?_, fun s l hd hr => ?_, fun s a b hd ha hc h3 hv hs => ?_, fun s a b hd hv => ?_,
    fun s a b hd hr hc h3 => ?_, fun s x hd hr hc h3 ha hv he hs hw => ?_, fun s x h => ?_⟩
  · refine ⟨_, rfl, ?_⟩
    obtain ⟨hb, ht, hu⟩ := tryBoot_boots
      { s with sup := { s.sup with vcore := true, vdd33 := true, smod := if s.sup.vdd33 then s.sup.smod else l } }
      (by simp [State.bootReady, hd, ha, hr, hs])
    rw [hu]
    exact ⟨hb, ht, rfl, rfl, by simp [h3]⟩
  · refine ⟨_, rfl, ?_⟩
    rw [tryBoot_not_ready _ (by simp [State.bootReady, hr])]
    exact ⟨hd, rfl, rfl⟩
  · refine ⟨_, rfl, ?_⟩
    rw [sampleAddr_vioh a b s hv]
    obtain ⟨hb, ht, hu⟩ := tryBoot_boots
      { s with sup := { s.sup with addr0 := a, addr1 := b, addrWait := false, resetHigh := true } }
      (by simp [State.bootReady, hd, ha, hc, h3, hs])
    rw [hu]
    exact ⟨hb, ht, rfl, rfl, rfl⟩
  · refine ⟨_, rfl, ?_⟩
    rw [sampleAddr_waits a b s hv]
    exact tryBoot_straps _
  · refine ⟨_, rfl, ?_⟩
    generalize hz : ({ s with np := { s.np with watch := .replicate 2 false } } : State) = z
    have hsup : (aonPowerOn z).sup = s.sup := by rw [aonPowerOn_sup, ← hz]
    have hdev : (aonPowerOn z).dev = s.dev := by rw [aonPowerOn_dev, ← hz]
    have hcold := aonPowerOn_aoncold z
    generalize aonPowerOn z = y at hsup hdev hcold ⊢
    refine tryBoot_cold _ ?_ ?_
    · rw [sampleAddr_keep (·.bootReady) fun _ _ _ _ => rfl]
      simp [State.bootReady, hdev, hsup, hd, hr, hc, h3]
    · rw [sampleAddr_keep (·.gb F.SUPPLY_STATUS_AONCOLD) fun _ _ _ _ => rfl]
      exact hcold
  · have hk : (if s.sup.vcore && s.sup.vdd33 && s.sup.vioh && s.gb (F.HP_CTL_EN x.val) then
        wakeEvent (if x.val = 0 then 1 else 2) s else s)
        = tryBoot { s with sup := { s.sup with wake := some (if x.val = 0 then 1 else 2) } } := by
      rw [if_pos (by simp [hc, h3, hv, he]), wakeEvent_asleep _ s hd hs hw]
    have hready : ({ s with sup := { s.sup with wake := some (if x.val = 0 then 1 else 2) } } : State).bootReady
        = true := by
      simp [State.bootReady, hd, hr, hc, h3, ha]
    obtain ⟨hb, ht, hu⟩ := tryBoot_boots _ hready
    have hsrc := tryBoot_wakesrc _ hready
    refine ⟨_, rfl, ?_⟩
    rw [hk]
    refine ⟨hb, ht, congrArg (·.sleep) hu, hsrc.trans ?_⟩
    simp only [State.wakeSource, hs, if_true]
    split <;> rfl
  · have hk : (if s.sup.vcore && s.sup.vdd33 && s.sup.vioh && s.gb (F.HP_CTL_EN x.val) then
        wakeEvent (if x.val = 0 then 1 else 2) s else s) = s := by
      rcases h with h | h | h | h | h
      · rw [wakeEvent_running _ s h, ite_self]
      all_goals simp [h]
    exact congrArg done hk

/-! ### The boundary window (R27, R28, R202) -/

/-- Of a command that completes, the rails of the state its effect leaves are those of the state it settles. -/
theorem completes_rail {c : Instr} {s v : State} {P : State → Prop} (hv : exec c s = done v) (h : Completes c s P) :
    ∃ u, P u ∧ u.rail = v.rail := by
  obtain ⟨u, hu, hP⟩ := h
  rw [hv] at hu
  injection hu with hf
  exact ⟨u, hP, by rw [← finish_rail u, ← hf, finish_rail]⟩

theorem execBoundaryWindow_eq (k : Fin 8) (w : WindowIn) (s : State) :
    exec (.boundaryWindow k w) s = done (boundaryWindow k w (s.atTime w.t)) := rfl

/-- The sequencing state of a rail is its record's. -/
theorem st_of_rail {u v : State} (h : u.rail = v.rail) (k : Fin 8) : u.st k = v.st k := by
  unfold State.st State.ra
  rw [h]

/-- A SET entry of 1 V. -/
def setOneVolt : QEntry := ⟨0x27100000, 2, 0x1000⟩

/-- STANDBY with rail 0 in OFF: EN0 alone is its request, its graph is one OUT stage on lane 0, its ring holds phase 0, its
TONDLY is 1000, and a SET entry waits in its queue. -/
def railReady : State :=
  let s := { State.reset with dev := .standby }
  let s1 := (((s.p (F.RAIL_SEQCTL_ENMODE 0) 1).p (F.RAIL_TDLY_TONDLY 0) 1000).p (F.RAIL_VLIM_VMAX 0) 20000).p
    (F.RAIL_SEQ_RINGLEN 0) 1
  let s2 := (((s1.p (F.GRAPH_HDR_OUTERCYC 0) 16).p (F.GRAPH_STG_DESC_TYPE 0 0) 0xA).p (F.GRAPH_STG_DESC_SRCA 0 0) 0x10).p
    (F.GRAPH_STG_DESC_SRCB 0 0) 0x19
  (s2.modGr 0 fun g => { g with place := some (0, false) }).setQ 0 [setOneVolt]

/-- That rail with EN0 risen at the present instant, too late for a window of this instant (R27, R202). -/
def enRisen : State := enLevel 0 true railReady

/-- A boundary window of 65,536 base ticks later, without a current conversion. -/
def laterWindow : WindowIn := ⟨0x100000, [0], .replicate 48 [], false⟩

/-- At the present instant EN0 is not yet a request. -/
theorem enRisen_request : enRisen.request 0 = false := by decide +kernel

/-- At the later window it is, and the start delay begins. -/
theorem enRisen_starts : (boundaryWindow 0 laterWindow (enRisen.atTime laterWindow.t)).st 0 = .delay := by
  decide +kernel

/-- The other conditions of the first clause of O27. -/
theorem enRisen_meets : enRisen.dev ≠ .off ∧ enRisen.dev ≠ .boot ∧ enRisen.st 0 = .off ∧ enRisen.moving 0 = false
    ∧ (enRisen.ra 0).sample = [] ∧ enRisen.isArmed 3 (0 : Fin 8).val = false
    ∧ enRisen.fnArmed (96 + (0 : Fin 8).val) = false ∧ (enRisen.ra 0).tr.grace = none
    ∧ (∀ n, vget laterWindow.icode n = []) ∧ enRisen.q (Fin.ofNat 16 (0 : Fin 8).val) = [setOneVolt]
    ∧ setOneVolt.met.toNat / 4096 = 1
    ∧ enRisen.inLimits (0 : Fin 8).val (setOneVolt.data.toNat / 65536 : Nat) = true
    ∧ enRisen.inLimits (0 : Fin 8).val
        ((setOneVolt.data.toNat / 65536 : Nat) + enRisen.gi (F.RAIL_CMARGNOW_CMARG (0 : Fin 8).val)) = true := by
  decide +kernel

/-- Refutes O27: its first clause asks for no request in the state before the window, at the instant of the last command, while
the window acts on the request of its own instant (R27, R202). With ENMODE 1 and EN0 risen just before, the request is not in
force before the window but is at it, and the rail leaves OFF for DELAY. -/
theorem not_boundaryWindowTakesEntry : ¬ Obligations.BoundaryWindowTakesEntry := by
  unfold Obligations.BoundaryWindowTakesEntry
  rintro ⟨h, -⟩
  obtain ⟨hoff, hboot, hst, hmove, hsample, harmed, hov, hgrace, hcodes, hq, hkind, hlim, hmarg⟩ := enRisen_meets
  have hc := h enRisen 0 laterWindow setOneVolt [] hoff hboot hst enRisen_request hmove hsample harmed hov hgrace hcodes hq
    hkind hlim hmarg
  obtain ⟨u, ⟨-, -, -, hstay⟩, hrail⟩ := completes_rail (execBoundaryWindow_eq 0 laterWindow enRisen) hc
  have hu := (st_of_rail hrail 0).trans enRisen_starts
  rw [hstay] at hu
  cases hu

end Sys2Proof.Machine
end

section
/-!
SUPPORT. What the responses of the fault manager leave alone: registers, phases, roles, rails, queues, Plates, the store, the
staging of coupled groups, the device state and the stage groups' wake flags are all they touch, and so is what the settling
after a command touches.
-/

open Sys2Proof Sys2Proof.Machine

namespace Sys2Proof.Machine

/-- A projection that sees nothing of what a fault response or the settling after a command can change. -/
structure FaultFrame {β : Type} (π : State → β) : Prop where
  setWord : ∀ s a w, π (State.setWord s a w) = π s
  modPh : ∀ s n f, π (State.modPh s n f) = π s
  modRl : ∀ s n f, π (State.modRl s n f) = π s
  modRa : ∀ s k f, π (State.modRa s k f) = π s
  modPl : ∀ s p f, π (State.modPl s p f) = π s
  setQ : ∀ s q l, π (State.setQ s q l) = π s
  nv : ∀ (s : State) n, π { s with nv := n } = π s
  groups : ∀ (s : State) x y z, π { s with img := { s.img with staging := x, armed := y, cancelled := z } } = π s
  genHist : ∀ (s : State) l, π { s with genHist := l } = π s
  latches : ∀ (s : State) l, π { s with latches := l } = π s
  dev : ∀ (s : State) d g, π { s with dev := d, gate := g } = π s
  awake : ∀ (s : State) w, π { s with sup := { s.sup with groupAwake := w } } = π s
  evSeen : ∀ (s : State) e, π { s with evSeen := e } = π s

/-- Supplies, pins and straps beside the stage groups' wake flags. -/
def State.pins (s : State) : Supplies := { s.sup with groupAwake := State.reset.sup.groupAwake }

theorem faultFrame_pins : FaultFrame State.pins := by
  constructor <;> intros <;> rfl

theorem faultFrame_slots : FaultFrame (·.img.slots) := by
  constructor <;> intros <;> rfl

variable {β : Type} {π : State → β} (h : FaultFrame π)
include h

/-! ### Updates -/

theorem FaultFrame.p_eq (s : State) (f : Fld) (v : Nat) : π (s.p f v) = π s := h.setWord s _ _
theorem FaultFrame.pb_eq (s : State) (f : Fld) (b : Bool) : π (s.pb f b) = π s := h.setWord s _ _
theorem FaultFrame.pi_eq (s : State) (f : Fld) (v : Int) : π (s.pi f v) = π s := h.setWord s _ _
theorem FaultFrame.inc_eq (s : State) (f : Fld) : π (s.inc f) = π s := h.setWord s _ _
theorem FaultFrame.modTr_eq (s : State) (k : Fin 8) (f : TransitState → TransitState) : π (s.modTr k f) = π s :=
  h.modRa s k _
theorem FaultFrame.modMd_eq (s : State) (k : Fin 8) (f : ModState → ModState) : π (s.modMd k f) = π s := h.modRa s k _
theorem FaultFrame.modGr_eq (s : State) (k : Fin 8) (f : GraphState → GraphState) : π (s.modGr k f) = π s :=
  h.modRa s k _
theorem FaultFrame.modOl_eq (s : State) (k : Fin 8) (f : OuterState → OuterState) : π (s.modOl k f) = π s :=
  h.modRa s k _
theorem FaultFrame.modEp_eq (s : State) (k : Fin 8) (f : EphState → EphState) : π (s.modEp k f) = π s := h.modRa s k _
theorem FaultFrame.modPr_eq (s : State) (k : Fin 8) (f : ProtState → ProtState) : π (s.modPr k f) = π s :=
  h.modRa s k _
theorem FaultFrame.modInk_eq (s : State) (k : Fin 8) (f : InnRail → InnRail) : π (s.modInk k f) = π s := h.modRa s k _

theorem FaultFrame.setDev_eq (s : State) (d : DevState) : π (s.setDev d) = π s := by
  unfold State.setDev
  split
  · rfl
  · exact h.dev s _ _

/-! ### Router, queues and records -/

theorem FaultFrame.routerEdge_eq (src : Nat) (r : Bool) (s : State) : π (routerEdge src r s) = π s :=
  routerEdge_keep π h.setWord h.modPl src r s

theorem FaultFrame.routerEvent_eq (src : Nat) (s : State) : π (routerEvent src s) = π s := h.routerEdge_eq src true s

theorem FaultFrame.phaseEvent_eq (n : Fin 48) (kind : Nat) (s : State) : π (phaseEvent n kind s) = π s := by
  have hb : π (if kind = 2 then plateBase 3 n.val s else s) = π s := by
    split
    · exact plateBase_keep π h.modPl _ _ s
    · rfl
  unfold phaseEvent
  extract_lets s1
  change π s1 = π s at hb
  clear_value s1
  split
  · exact (h.routerEvent_eq _ s1).trans hb
  · exact hb

theorem FaultFrame.qAppend_eq (q : Fin 16) (e : QEntry) (s : State) : π (qAppend q e s) = π s := by
  have hm : ∀ s, π (markPushed q s) = π s := by
    intro s
    unfold markPushed
    split
    · exact h.modRa s _ _
    · rfl
  exact (h.routerEvent_eq _ _).trans ((hm _).trans (h.setQ s q _))

theorem FaultFrame.qDrop_eq (q : Fin 16) (s : State) : π (qDrop q s) = π s := (h.pb_eq _ _ _).trans (h.inc_eq s _)

theorem FaultFrame.qPush_eq (q : Fin 16) (e : QEntry) (s : State) : π (qPush q e s) = π s := by
  unfold qPush
  split
  · exact h.qAppend_eq q e s
  · exact h.qDrop_eq q s

theorem FaultFrame.supPush_eq (a : Nat) (w : Word) (s : State) : π (supPush a w s) = π s :=
  (h.setQ _ _ _).trans (h.qAppend_eq _ _ s)

theorem FaultFrame.queueRecord_eq (r : LedgerRec) (pin res : Bool) (s : State) : π (queueRecord r pin res s) = π s :=
  queueRecord_keep π h.setWord h.modPl h.nv r pin res s

theorem FaultFrame.record_eq (t : Nat) (ev : List Byte) (s : State) : π (record t ev s) = π s :=
  h.queueRecord_eq _ _ _ s

/-! ### Phases -/

theorem FaultFrame.noting_eq (n : Fin 48) (f : State → State) (s : State) (hf : ∀ s, π (f s) = π s) :
    π (noting n f s) = π s := (noting_keep π h.modPh n f s).trans (hf s)

theorem FaultFrame.turnOff_eq (n : Fin 48) (s : State) : π (turnOff n s) = π s := by
  unfold turnOff
  split
  · exact (h.phaseEvent_eq _ _ _).trans (h.modPh s _ _)
  · rfl

theorem FaultFrame.phOff_eq (n : Fin 48) (s : State) : π (phOff n s) = π s :=
  h.noting_eq n _ s fun s => (h.modPh _ _ _).trans (h.turnOff_eq n s)

theorem FaultFrame.phLow_eq (n : Fin 48) (s : State) : π (phLow n s) = π s :=
  h.noting_eq n _ s fun s => (h.modPh _ _ _).trans (h.turnOff_eq n s)

theorem FaultFrame.unlatchPhase_eq (n : Fin 48) (s : State) : π (unlatchPhase n s) = π s :=
  h.noting_eq n _ s fun s => (h.modPh _ _ _).trans (h.pb_eq s _ _)

theorem FaultFrame.releaseSameCycle_eq (n : Fin 48) (s : State) : π (releaseSameCycle n s) = π s := by
  unfold releaseSameCycle
  split
  · split
    · exact (h.unlatchPhase_eq _ _).trans (h.pb_eq s _ _)
    · rfl
  · rfl

theorem FaultFrame.startPhase_eq (n : Fin 48) (s : State) : π (startPhase n s) = π s :=
  (h.modPh _ _ _).trans ((h.phOff_eq _ _).trans (h.pb_eq s _ _))

theorem FaultFrame.stopPhase_eq (hard : Bool) (n : Fin 48) (s : State) : π (stopPhase hard n s) = π s := by
  unfold stopPhase
  dsimp only
  split
  · exact (h.phOff_eq _ _).trans (h.modPh s _ _)
  · exact h.modPh s _ _

theorem FaultFrame.updateSmods_eq (s : State) : π (updateSmods s) = π s := by
  refine forAll_keep π _ (fun s g => ?_) s
  unfold updateSmod
  dsimp only
  split
  · exact (h.awake _ _).trans (h.pb_eq s _ _)
  · split
    · exact (h.awake _ _).trans (h.pb_eq s _ _)
    · rfl

/-! ### Shadowed and staged writes -/

theorem FaultFrame.commitFields_eq (c : Com) (a : Nat) (w : Word) (s : State) : π (commitFields c a w s) = π s := by
  unfold commitFields
  split
  · exact forEach_keep π _ (fun s f => h.p_eq s _ _) _ s
  · rfl

theorem FaultFrame.transferOwn_eq (n : Fin 48) (s : State) : π (transferOwn n s) = π s := by
  have hput : ∀ (l : List (Nat × Word)) s, π (l.foldl (fun s aw => commitFields .boundary aw.1 aw.2 s) s) = π s :=
    forEach_keep π _ fun s aw => h.commitFields_eq .boundary aw.1 aw.2 s
  unfold transferOwn transferSome
  rw [h.modPh, hput]

theorem FaultFrame.applySamples_eq (k : Fin 8) (s : State) : π (applySamples k s) = π s :=
  (h.modRa _ _ _).trans
    (forEach_keep π _ (fun s (x : Nat × Nat × Word) => h.commitFields_eq .sample x.2.1 x.2.2 s) _ s)

theorem FaultFrame.putStaging_eq (g i : Nat) (s : State) : π (putStaging g i s) = π s := by
  unfold putStaging
  extract_lets l s1
  have h1 : π s1 = π s := forEach_keep π _ (fun s x => h.p_eq s _ _) l s
  clear_value s1
  exact (h.groups s1 _ _ s1.img.cancelled).trans h1

theorem FaultFrame.groupResult_eq (g i r : Nat) (s : State) : π (groupResult g i r s) = π s := by
  unfold groupResult
  split
  · exact h.p_eq s _ _
  · rfl

theorem FaultFrame.discardStaging_eq (keep : Bool) (s : State) : π (discardStaging keep s) = π s := by
  unfold discardStaging
  dsimp only
  split
  · exact h.groups s _ _ _
  · exact (h.p_eq _ _ _).trans (h.groups s _ _ _)

/-! ### Link causes and the outcomes of queue entries -/

theorem FaultFrame.railCause_eq (lo : Nat) (k : Fin 8) (s : State) : π (railCause lo k s) = π s := by
  refine forEach_keep π _ (fun s pe => ?_) _ s
  split
  · exact forEach_keep π _ (fun s sl => h.setWord s _ _) _ s
  · rfl

theorem FaultFrame.deviceCause_eq (bit : Nat) (s : State) : π (deviceCause bit s) = π s := by
  refine forEach_keep π _ (fun s pe => ?_) _ s
  split
  · exact h.setWord s _ _
  · rfl

theorem FaultFrame.entryArrived_eq (tag : BitVec 16) (k : Fin 8) (s : State) : π (entryArrived tag k s) = π s := by
  unfold entryArrived
  split
  · rfl
  · split
    · split
      · rfl
      · exact (h.setWord _ _ _).trans (h.setWord s _ _)
    · rfl

theorem FaultFrame.entryRevoked_eq (tag : BitVec 16) (k : Fin 8) (s : State) : π (entryRevoked tag k s) = π s := by
  unfold entryRevoked
  split
  · rfl
  · split
    · split
      · rfl
      · exact h.setWord s _ _
    · rfl

theorem FaultFrame.transArrives_eq (k : Fin 8) (s : State) : π (transArrives k s) = π s := by
  unfold transArrives
  split
  · rfl
  · dsimp only
    rw [h.routerEvent_eq, h.entryArrived_eq, h.pb_eq, h.pb_eq, h.modEp_eq, h.modOl_eq, h.modTr_eq]

theorem FaultFrame.onOffArrive_eq (k : Fin 8) (kind : Nat) (s : State) : π (onOffArrive k kind s) = π s :=
  (forEach_keep π _ (fun s (t : Trans) => h.entryArrived_eq t.tag k s) _ _).trans (h.modTr_eq s _ _)

theorem FaultFrame.pendingLost_eq (k : Fin 8) (s : State) : π (pendingLost k s) = π s :=
  (forEach_keep π _ (fun s (t : Trans) => h.entryRevoked_eq t.tag k s) _ _).trans ((h.pb_eq _ _ _).trans (h.modTr_eq s _ _))

theorem FaultFrame.setPG_eq (k : Fin 8) (b : Bool) (s : State) : π (setPG k b s) = π s := by
  unfold setPG
  split
  · rfl
  · exact (h.routerEdge_eq _ _ _).trans ((h.modTr_eq _ _ _).trans (h.pb_eq s _ _))

theorem FaultFrame.dropForecast_eq (k : Fin 8) (s : State) : π (dropForecast k s) = π s := by
  unfold dropForecast
  rw [h.pb_eq, h.pb_eq, h.modTr_eq, h.modInk_eq, h.modMd_eq]

theorem FaultFrame.enterState_eq (k : Fin 8) (st : SeqState) (s : State) : π (enterState k st s) = π s := by
  unfold enterState
  cases st <;> simp only [reduceCtorEq, if_true, if_false, h.modTr_eq, h.setPG_eq, h.dropForecast_eq, h.onOffArrive_eq,
    h.transArrives_eq, h.railCause_eq, h.pendingLost_eq]

/-! ### Roles and rings -/

theorem FaultFrame.inkMessage_eq (kind : Nat) (n : Option (Fin 48)) (rail before after val : Nat) (s : State) :
    π (inkMessage kind n rail before after val s) = π s := by
  unfold inkMessage
  extract_lets ep ph e s1
  have h1 : π s1 = π s := by
    unfold s1
    split
    · exact h.qAppend_eq _ _ s
    · exact (h.inc_eq _ _).trans (h.qDrop_eq _ s)
  split
  · exact (h.record_eq _ _ _).trans h1
  · exact h1

theorem FaultFrame.changeRole_eq (n : Fin 48) (r : Role) (val : Nat) (s : State) : π (changeRole n r val s) = π s := by
  unfold changeRole
  dsimp only
  split
  · rfl
  · exact (h.inkMessage_eq _ _ _ _ _ _ _).trans (h.modRl s _ _)

theorem FaultFrame.updateRateLim_eq (k : Fin 8) (s : State) : π (updateRateLim k s) = π s := h.pb_eq s _ _

theorem FaultFrame.updateTail_eq (k : Fin 8) (s : State) : π (updateTail k s) = π s := h.pb_eq s _ _

theorem FaultFrame.writeRing_eq (k : Fin 8) (l : List (Fin 48)) (s : State) : π (writeRing k l s) = π s :=
  (h.updateRateLim_eq _ _).trans ((h.p_eq _ _ _).trans (forEach_keep π _ (fun s _ => h.setWord s _ _) _ s))

theorem FaultFrame.dropTrim_eq (k : Fin 8) (n : Fin 48) (s : State) : π (dropTrim k n s) = π s :=
  (h.modOl_eq _ _ _).trans (h.pi_eq s _ _)

theorem FaultFrame.leaveRing_eq (k : Fin 8) (n : Fin 48) (s : State) : π (leaveRing k n s) = π s := by
  unfold leaveRing
  dsimp only
  split
  · exact (h.phOff_eq _ _).trans (h.dropTrim_eq k n s)
  · exact (h.modPh _ _ _).trans (h.dropTrim_eq k n s)

theorem FaultFrame.ffRing_eq (k : Fin 8) (s : State) : π (ffRing k s) = π s := by
  refine forEach_keep π (fun s (x : Fin 48 × Nat) => ffPhase k x.2 x.1 s) (fun s x => ?_) _ s
  unfold ffPhase
  split
  · exact h.modPh s _ _
  · split
    · rfl
    · exact h.modPh s _ _

theorem FaultFrame.changeRing_eq (k : Fin 8) (l : List (Fin 48)) (s : State) : π (changeRing k l s) = π s := by
  have hff : ∀ s : State, π (if s.g (F.RAIL_MSTAT_EFFMODE k.val) = 2 then ffRing k s else s) = π s := by
    intro s
    split
    · exact h.ffRing_eq k s
    · rfl
  have hout : ∀ (l : List (Fin 48)) s, π (forEach (fun s n => leaveRing k n s) l s) = π s :=
    forEach_keep π _ fun s n => h.leaveRing_eq k n s
  have hin : ∀ (l : List (Fin 48)) s, π (forEach (fun s n => startPhase n (dropTrim k n s)) l s) = π s :=
    forEach_keep π _ fun s n => (h.startPhase_eq _ _).trans (h.dropTrim_eq k n s)
  have htrim : ∀ (l : List (Fin 48)) s, π (forEach (fun s n => dropTrim k n s) l s) = π s :=
    forEach_keep π _ fun s n => h.dropTrim_eq k n s
  unfold changeRing
  dsimp only
  split
  · rw [h.updateSmods_eq, h.updateTail_eq, h.modEp_eq, hff, hin, hout, h.modMd_eq, h.writeRing_eq]
  · rw [htrim, h.modMd_eq, h.writeRing_eq]

theorem FaultFrame.capacityCheck_eq (k : Fin 8) (s : State) : π (capacityCheck k s) = π s := by
  unfold capacityCheck
  extract_lets c fell s1
  split
  · rw [h.inkMessage_eq, h.railCause_eq, h.modOl_eq]
    exact h.modInk_eq s _ _
  · exact h.modInk_eq s _ _

theorem FaultFrame.abandonTest_eq (n : Fin 48) (r : Role) (s : State) : π (abandonTest n r s) = π s :=
  (h.changeRole_eq _ _ _ _).trans ((h.modRl _ _ _).trans (h.phOff_eq n s))

theorem FaultFrame.assignRoles_eq (k : Fin 8) (old : List (Fin 48)) (s : State) : π (assignRoles k old s) = π s := by
  refine forEach_keep π _ (fun s n => ?_) _ s
  extract_lets want
  split
  · rfl
  · rfl
  · rfl
  · split
    · rfl
    · exact h.abandonTest_eq _ _ s
  · exact h.changeRole_eq _ _ _ s

theorem FaultFrame.ringCommitted_eq (k : Fin 8) (old : List (Fin 48)) (s : State) : π (ringCommitted k old s) = π s := by
  unfold ringCommitted
  dsimp only
  rw [h.capacityCheck_eq, h.changeRing_eq, h.writeRing_eq, h.assignRoles_eq, h.modInk_eq]

theorem FaultFrame.applyArmed_eq (g i : Nat) (s : State) : π (applyArmed g i s) = π s := by
  have h1 : ∀ s, π (groupResult g i 1 (putStaging g i s)) = π s :=
    fun s => (h.groupResult_eq _ _ _ _).trans (h.putStaging_eq g i s)
  unfold applyArmed
  split
  · unfold applyGroup
    dsimp only
    split
    · exact (h.ringCommitted_eq _ _ _).trans (h1 s)
    · split
      · exact (h.updateRateLim_eq _ _).trans (h1 s)
      · exact h1 s
  · rfl

theorem FaultFrame.formRewrite_eq (k : Fin 8) (s : State) : π (formRewrite k s) = π s := by
  have hpush : ∀ (l : List (Nat × Word)) s, π (forEach (fun s x => supPush x.1 x.2 s) l s) = π s :=
    forEach_keep π _ fun s x => h.supPush_eq x.1 x.2 s
  unfold formRewrite
  extract_lets
  split
  · rfl
  · rw [h.modInk_eq, hpush]

theorem FaultFrame.releaseHold_eq (n : Fin 48) (s : State) : π (releaseHold n s) = π s := by
  unfold releaseHold
  split
  · exact (h.unlatchPhase_eq _ _).trans ((h.modPh _ _ _).trans (h.pb_eq s _ _))
  · rfl

theorem FaultFrame.promote_eq (k : Fin 8) (n m : Fin 48) (r : Role) (s : State) : π (promote k n m r s) = π s :=
  (h.inc_eq _ _).trans ((h.p_eq _ _ _).trans (h.changeRole_eq m r n.val s))

theorem FaultFrame.rewriteOne_eq (k : Fin 8) (act ret : List (Fin 48)) (promo : List (Fin 48 × Fin 48)) (s : State)
    (n : Fin 48) : π (rewriteOne k act ret promo s n) = π s := by
  unfold rewriteOne
  split
  · dsimp only
    split
    · exact (h.promote_eq _ _ _ _ _).trans ((h.releaseHold_eq _ _).trans (h.changeRole_eq n _ _ s))
    · exact (h.releaseHold_eq _ _).trans (h.changeRole_eq n _ _ s)
  · split
    · exact (h.inc_eq _ _).trans (h.changeRole_eq n _ _ s)
    · exact (h.inc_eq _ _).trans (h.changeRole_eq n _ _ s)
    · split
      · exact h.promote_eq _ _ _ _ s
      · rfl
    · rfl

theorem FaultFrame.applyRewrite_eq (k : Fin 8) (s : State) : π (applyRewrite k s) = π s := by
  unfold applyRewrite
  dsimp only
  split
  · rfl
  · rw [h.capacityCheck_eq, h.changeRing_eq, h.modInk_eq]
    exact forEach_keep π _ (fun s n => h.rewriteOne_eq k _ _ _ s n) _ s

/-! ### Disabling a rail -/

theorem FaultFrame.recordMove_eq (src : Option (Fin 5 × Bool)) (spread : Bool) (dest : Nat) (s : State) :
    π (recordMove src spread dest s) = π s := by
  unfold recordMove
  split
  · rfl
  · split
    · rfl
    · exact (h.inc_eq _ _).trans ((h.p_eq _ _ _).trans (h.p_eq s _ _))

theorem FaultFrame.leaveMove_eq (k : Fin 8) (s : State) : π (leaveMove k s) = π s := by
  unfold leaveMove
  dsimp only
  split
  · rfl
  · exact (h.recordMove_eq _ _ _ _).trans ((h.pb_eq _ _ _).trans (h.modGr_eq s _ _))

theorem FaultFrame.stopBlocks_eq (k : Fin 8) (s : State) : π (stopBlocks k s) = π s := by
  have hown : ∀ (l : List (Fin 48)) s, π (forEach (fun s n => applyArmed 1 n.val (transferOwn n s)) l s) = π s :=
    forEach_keep π _ fun s n => (h.applyArmed_eq _ _ _).trans (h.transferOwn_eq n s)
  unfold stopBlocks
  dsimp only
  rw [h.modInk_eq, h.leaveMove_eq, h.modPr_eq, h.modTr_eq, h.modMd_eq, h.pb_eq, h.pb_eq, h.pb_eq, h.pb_eq, h.pb_eq, h.pb_eq,
    h.p_eq, h.p_eq, h.p_eq, h.applyRewrite_eq, h.formRewrite_eq, h.applyArmed_eq, h.applyArmed_eq, hown, h.applySamples_eq]

theorem FaultFrame.stopRail_eq (hard : Bool) (st : SeqState) (k : Fin 8) (s : State) : π (stopRail hard st k s) = π s := by
  unfold stopRail
  dsimp only
  split
  · exact (h.updateTail_eq _ _).trans ((forEach_keep π _ (fun s n => h.stopPhase_eq hard n s) _ _).trans
      ((h.enterState_eq _ _ _).trans (h.stopBlocks_eq k s)))
  · exact h.enterState_eq k st s

/-! ### Responses and reports -/

theorem FaultFrame.groupLatched_eq (k : Fin 8) (s : State) : π (groupLatched k s) = π s := by
  unfold groupLatched
  split
  · dsimp only
    split
    · exact (h.genHist _ _).trans (h.pb_eq s _ _)
    · split
      · exact h.pb_eq s _ _
      · rfl
  · rfl

theorem FaultFrame.respondDisable_eq (fid : Nat) (st : SeqState) (k : Fin 8) (s : State) :
    π (respondDisable fid st k s) = π s := by
  have hstop : ∀ l : List (Fin 48), π (forEach (fun s n => releaseSameCycle n s) l (stopRail true st k s)) = π s :=
    fun l => (forEach_keep π _ (fun s n => h.releaseSameCycle_eq n s) l _).trans (h.stopRail_eq true st k s)
  unfold respondDisable
  dsimp only
  rw [h.updateSmods_eq]
  split
  · refine (forEach_keep π _ (fun s n => ?_) _ _).trans ((h.modPr_eq _ _ _).trans (hstop _))
    split
    · rfl
    · exact h.phLow_eq n s
  · exact hstop _

theorem FaultFrame.safeRail_eq (fid : Nat) (own : Option (Fin 8)) (s : State) (k : Fin 8) :
    π (safeRail fid own s k) = π s := by
  unfold safeRail
  split
  · rfl
  · rfl
  · exact h.enterState_eq k _ s
  · exact h.enterState_eq k _ s
  · split
    · exact h.respondDisable_eq fid _ k s
    · dsimp only
      rw [h.modTr_eq, h.modPr_eq]
      split
      · rfl
      · exact h.enterState_eq k _ s

theorem FaultFrame.enterSafe_eq (fid : Nat) (own : Option (Fin 8)) (s : State) : π (enterSafe fid own s) = π s := by
  have hall : π (forAll (safeRail fid own) s) = π s := forAll_keep π _ (h.safeRail_eq fid own) s
  have hsafe : π (deviceCause 29 ((discardStaging false ((forAll (safeRail fid own) s).setDev .safe)).p
      F.FM_STATUS_SAFEFID fid)) = π s := by
    rw [h.deviceCause_eq, h.p_eq, h.discardStaging_eq, h.setDev_eq, hall]
  unfold enterSafe
  cases s.dev with
  | lockdown => exact (h.pb_eq _ _ _).trans hall
  | standby | run | boot => exact (h.queueRecord_eq _ _ _ _).trans hsafe
  | safe => exact hall
  | off => rfl

/-- Rail k is disabled by a response that keeps the FID in LATFID. -/
theorem FaultFrame.disabledFor_eq (fid : Nat) (st : SeqState) (k : Fin 8) (s : State) :
    π ((respondDisable fid st k s).p (F.FM_RAIL_STAT_LATFID k.val) fid) = π s :=
  (h.p_eq _ _ _).trans (h.respondDisable_eq fid st k s)

theorem FaultFrame.railRespond_eq (fid c : Nat) (k : Fin 8) (s : State) : π (railRespond fid c k s).1 = π s := by
  unfold railRespond
  extract_lets s0 s1
  have h0 : π s0 = π s := (h.modTr_eq _ _ _).trans (h.setPG_eq k false s)
  have hlat : π (groupLatched k ((respondDisable fid .latched k s0).p (F.FM_RAIL_STAT_LATFID k.val) fid)) = π s :=
    (h.groupLatched_eq _ _).trans ((h.disabledFor_eq fid _ k s0).trans h0)
  split
  · split
    iterate 4 exact h0
    split
    · exact hlat
    · exact (h.disabledFor_eq fid _ k s0).trans h0
  · split
    · split
      · exact h0
      · exact hlat
    · split
      · refine (h.enterSafe_eq _ _ _).trans ?_
        unfold s1
        split
        · exact hlat
        · exact h0
      · exact h0

/-- A response to a source of the device. -/
theorem FaultFrame.respondDev_eq (e : FmEvent) (c : Nat) (s : State) (hp : isPhaseFid e.fid = false)
    (hr : isRailFid e.fid = false) : π (respond e c s).1 = π s := by
  have hpg : π (forAll (fun s k => if s.enabled k then setPG k false s else s) s) = π s := by
    refine forAll_keep π _ (fun s k => ?_) s
    split
    · exact h.setPG_eq k false s
    · rfl
  have hlat : π (forAll (fun s k => if s.enabled k then (railRespond e.fid 4 k s).1 else s) s) = π s := by
    refine forAll_keep π _ (fun s k => ?_) s
    split
    · exact h.railRespond_eq _ 4 k s
    · rfl
  unfold respond
  rw [if_neg (by simp [hp]), if_neg (by simp [hr])]
  split
  · dsimp only
    exact (h.enterSafe_eq _ _ _).trans hpg
  · split
    · dsimp only
      exact hlat
    · rfl

theorem FaultFrame.latchScope_eq (k : Option (Fin 8)) (vo io inp tmp : Nat) (s : State) :
    π (latchScope k vo io inp tmp s) = π s := by
  unfold latchScope
  split
  · exact h.latches s _
  · exact forAll_keep π _ (fun s k => h.latches s _) s

theorem FaultFrame.latchFid_eq (fid : Nat) (k : Option (Fin 8)) (s : State) : π (latchFid fid k s) = π s := by
  unfold latchFid
  split
  case h_17 => rfl
  all_goals exact h.latchScope_eq _ _ _ _ _ s

theorem FaultFrame.report_eq (e : FmEvent) (c : Nat) (perm : Bool) (s : State) : π (report e c perm s) = π s := by
  unfold report
  dsimp only
  rw [plateFault_keep π h.setWord h.modPl, h.routerEvent_eq, h.queueRecord_eq, h.latchFid_eq]
  have hpend : ∀ x : State, π (if x.g F.FM_CTL_FPMIN ≤ c then x.pb F.FM_STATUS_FPEND true else x) = π x := by
    intro x
    split
    · exact h.pb_eq x _ _
    · rfl
  split
  · rw [h.p_eq, hpend, h.p_eq, h.p_eq, h.qPush_eq]
  · rw [hpend, h.p_eq, h.p_eq, h.qPush_eq]

theorem FaultFrame.updateDev_eq (s : State) : π (updateDev s) = π s := updateDev_keep π h.dev s

/-- A fault event of the device with its FID in FM_CLASS. -/
theorem FaultFrame.raiseDev_eq (fid : Nat) (s : State) (hp : isPhaseFid fid = false) (hr : isRailFid fid = false) :
    π (raiseDev fid s) = π s :=
  (h.updateDev_eq _).trans ((h.report_eq _ _ _ _).trans (h.respondDev_eq _ _ s hp hr))

/-! ### The settling after a command -/

theorem FaultFrame.evalInterrupt_eq (s : State) : π (evalInterrupt s) = π s := evalInterrupt_keep π h.p_eq h.evSeen s

theorem FaultFrame.stoppedArmed_eq (s : State) : π (stoppedArmed s) = π s := by
  have hpt : π (porterStopped s) = π s := by
    unfold porterStopped
    split
    · rfl
    · exact h.applyArmed_eq 4 _ s
  refine (forEach_keep π _ (fun s x => ?_) _ _).trans hpt
  split
  · exact h.applyArmed_eq 1 _ s
  · rfl

theorem FaultFrame.finish_eq (s : State) : π (finish s) = π s := by
  unfold finish
  rw [h.evalInterrupt_eq, h.updateDev_eq, h.updateSmods_eq, h.stoppedArmed_eq]

end Sys2Proof.Machine
end

section
/-!
PROOFS. The statements of 02_balls_supplies.md (R40-R59): what the settling after a command leaves, and the supplies of the pins.
-/

open Sys2Proof Sys2Proof.Machine

namespace Sys2Proof.Machine

/-! ### The settling after a command (R17, R47, R81, R368) -/

/-- The device state comes of the rails alone, after the other steps of the settling, which leave it. -/
theorem finish_dev (u : State) : (finish u).dev = (updateDev (updateSmods (stoppedArmed u))).dev
    ∧ (updateSmods (stoppedArmed u)).dev = u.dev :=
  ⟨evalInterrupt_keep (·.dev) (fun _ _ _ => rfl) (fun _ _ => rfl) _,
    (updateSmods_keep (·.dev) (fun _ _ _ => rfl) (fun _ _ => rfl) _).trans
      (stoppedArmed_keep (·.dev) (fun _ _ _ => rfl) (fun _ _ => rfl) u)⟩

/-- Outside STANDBY and RUN the rails decide nothing. -/
theorem updateDev_of_other (s : State) (hs : s.dev ≠ .standby) (hr : s.dev ≠ .run) : updateDev s = s := by
  unfold updateDev
  split
  · exact absurd ‹_› hs
  · exact absurd ‹_› hr
  · rfl

theorem updateDev_standbyRun (s : State) (h : s.dev = .standby ∨ s.dev = .run) :
    (updateDev s).dev = .standby ∨ (updateDev s).dev = .run := by
  rcases h with h | h <;> unfold updateDev <;> rw [h] <;> dsimp only <;> split
  · exact .inr (setDev_dev s .run)
  · exact .inl h
  · exact .inr h
  · exact .inl (setDev_dev s .standby)

/-- States with the same pins have the same supplies but for the wake flags. -/
theorem sup_of_pins {u v : State} (h : v.pins = u.pins) :
    v.sup = { u.sup with groupAwake := v.sup.groupAwake } := by
  have hput : ∀ s : State, s.sup = { s.pins with groupAwake := s.sup.groupAwake } := fun _ => rfl
  rw [hput v, h]
  rfl

/-- Settles O8: of the four steps of the settling, each touches what `finish_keep` and `FaultFrame` name; with no armed commit
waiting the first does nothing, and the device state follows the rails in STANDBY and RUN alone. -/
theorem settlingFrame : Obligations.SettlingFrame := by
  unfold Obligations.SettlingFrame
  intro u
  obtain ⟨hd, hu⟩ := finish_dev u
  refine ⟨fun hp ha a hg hal => finish_word u a ⟨hp, ha⟩ hg hal, fun hs hr => ?_, fun h => ?_,
    sup_of_pins (faultFrame_pins.finish_eq u), finish_phase u, finish_role u, finish_rail u, finish_queue u, finish_port u,
    finish_host u, finish_nv u, finish_plate u, faultFrame_slots.finish_eq u, finish_tb u, finish_pending u⟩
  · rw [hd, updateDev_of_other _ (by rwa [hu]) (by rwa [hu]), hu]
  · rw [hd]
    exact updateDev_standbyRun _ (by rwa [hu])

/-! ### Reports of the device -/

/-- A count in a field that holds at its maximum. -/
theorem State.g_inc (s : State) (f : Fld) (h : f.lo + f.w ≤ 32) : (s.inc f).g f = incHold f.w (s.g f) := by
  have hw : 0 < 2 ^ f.w := Nat.two_pow_pos f.w
  exact (State.g_p s f _ h).trans (Nat.mod_eq_of_lt (by unfold incHold; omega))

/-- Registers a report of the device can write. -/
def ReportWord (a : Nat) : Prop := RouterWord a ∨ a = A.FM_STATUS ∨ a = A.LG_INFO ∨ ∃ q, a = A.Q_STAT q

theorem qPush_word (q : Fin 16) (e : QEntry) (s : State) (a : Nat) (hr : ¬ RouterWord a) (hq : a ≠ A.Q_STAT q.val) :
    (qPush q e s).word a = s.word a := by
  have hm : ∀ s, (markPushed q s).word a = s.word a := by
    intro s
    unfold markPushed
    split <;> rfl
  unfold qPush
  split
  · exact (routerEdge_word _ _ _ a hr).trans (hm _)
  · exact (State.word_p_ne _ _ _ a hq).trans (State.word_p_ne s _ _ a hq)

theorem report_word (e : FmEvent) (c : Nat) (perm : Bool) (s : State) (a : Nat) (he : e.phase = none)
    (h : ¬ ReportWord a) : (report e c perm s).word a = s.word a := by
  have hr : ¬ RouterWord a := fun x => h (.inl x)
  have hf : a ≠ A.FM_STATUS := fun x => h (.inr (.inl x))
  have hl : a ≠ A.LG_INFO := fun x => h (.inr (.inr (.inl x)))
  have hq : ∀ q, a ≠ A.Q_STAT q := fun q x => h (.inr (.inr (.inr ⟨q, x⟩)))
  have hpend : ∀ x : State, (if x.g F.FM_CTL_FPMIN ≤ c then x.pb F.FM_STATUS_FPEND true else x).word a = x.word a := by
    intro x
    split
    · exact State.word_p_ne x _ _ a hf
    · rfl
  unfold report
  rw [he]
  dsimp only
  rw [plateFault_word _ _ _ hr, routerEvent, routerEdge_word _ _ _ _ hr, queueRecord_word _ _ _ _ _ hr hl (hq 15),
    latchFid_word, hpend, State.word_p_ne _ _ _ _ hf, State.word_p_ne _ _ _ _ hf, qPush_word _ _ _ _ hr (hq _)]

/-- A source of the device whose class is below 4 is reported alone (R277). -/
theorem respond_reportOnly (e : FmEvent) (c : Nat) (s : State) (hp : isPhaseFid e.fid = false)
    (hr : isRailFid e.fid = false) (hc : c < 4) : (respond e c s).1 = s := by
  unfold respond
  rw [if_neg (by simp [hp]), if_neg (by simp [hr]), if_neg (by omega), if_neg (by omega)]

theorem raiseDev_word (fid : Nat) (s : State) (a : Nat) (hp : isPhaseFid fid = false) (hr : isRailFid fid = false)
    (hc : s.classOf fid none < 4) (h : ¬ ReportWord a) : (raiseDev fid s).word a = s.word a :=
  (updateDev_keep (·.word a) (fun _ _ _ => rfl) _).trans ((report_word _ _ _ _ a rfl h).trans
    (congrArg (·.word a) (respond_reportOnly _ (s.classOf fid none) s hp hr hc)))

/-! ### VIOH (R50, R54) -/

theorem tripEdges_keep {β : Type} (π : State → β) (hw : ∀ s a w, π (State.setWord s a w) = π s)
    (hm : ∀ s p f, π (State.modPl s p f) = π s) (was s : State) : π (tripEdges was s) = π s := by
  refine forAll_keep π _ (fun s i => ?_) s
  split
  · rfl
  · exact routerEdge_keep π hw hm _ _ s

/-- An end of HPB's own transaction changes HPM_STATUS, beside what its event does. -/
theorem masterEnd_word (res : Nat) (s : State) (a : Nat) (hr : ¬ RouterWord a) (hm : a ≠ A.HPM_STATUS) :
    (masterEnd res s).word a = s.word a := by
  have hwait : ∀ x : State, ({ x with masterWait := false } : State).word a = x.word a := fun _ => rfl
  unfold masterEnd routerEvent
  rw [routerEdge_word _ _ _ _ hr, hwait, State.word_p_ne _ _ _ a hm, State.pb, State.word_p_ne s _ _ a hm]

/-- What a loss of VIOH stops before its flag and its event: TRIP inputs, transactions of the host ports, and HPB's own. -/
def viohStopped (s : State) : State :=
  let s1 := tripEdges s { s with sup := { s.sup with vioh := false } }
  let s2 := forAll (n := 2) (fun s x => if s.gb (F.HP_STATUS_BUSY x.val) then portAbort x s else s) s1
  if s.mastering then masterStop s2 else s2

theorem viohLoss_core (s : State) (h : s.dev ≠ .off) :
    viohLoss s = raiseDev 0x10 ((viohStopped s).pb F.SUPPLY_STATUS_VIOHLOST true) := by
  have hd : (tripEdges s { s with sup := { s.sup with vioh := false } }).dev = s.dev :=
    tripEdges_keep (·.dev) (fun _ _ _ => rfl) (fun _ _ _ => rfl) s _
  exact if_neg (by rwa [hd])

/-- The stop keeps all but registers, Plates, host ports and what HPB's end of a transaction takes. -/
theorem viohStopped_keep {β : Type} (π : State → β) (hw : ∀ s a w, π (State.setWord s a w) = π s)
    (hm : ∀ s p f, π (State.modPl s p f) = π s) (hh : ∀ (s : State) x, π { s with host := x } = π s)
    (hf : ∀ (s : State) x, π { s with free := x } = π s) (hb : ∀ (s : State) b, π { s with masterWait := b } = π s)
    (s : State) : π (viohStopped s) = π { s with sup := { s.sup with vioh := false } } := by
  have habort : ∀ x s, π (portAbort x s) = π s := by
    intro x s
    unfold portAbort
    dsimp only
    split
    · exact (hw _ _ _).trans (hh s _)
    · exact (hw _ _ _).trans ((hw _ _ _).trans ((hw _ _ _).trans (hh s _)))
  have hstop : ∀ s, π (masterStop s) = π s := fun s =>
    (routerEdge_keep π hw hm _ _ _).trans ((hb _ _).trans ((hw _ _ _).trans ((hw _ _ _).trans (hf s _))))
  have hports : ∀ s, π (forAll (n := 2)
      (fun s x => if s.gb (F.HP_STATUS_BUSY x.val) then portAbort x s else s) s) = π s := by
    refine forAll_keep π _ fun s x => ?_
    split
    · exact habort x s
    · rfl
  unfold viohStopped
  dsimp only
  split
  · rw [hstop, hports, tripEdges_keep π hw hm]
  · rw [hports, tripEdges_keep π hw hm]

theorem viohStopped_sup (s : State) : (viohStopped s).sup = { s.sup with vioh := false } :=
  viohStopped_keep (·.sup) (fun _ _ _ => rfl) (fun _ _ _ => rfl) (fun _ _ => rfl) (fun _ _ => rfl) (fun _ _ => rfl) s

theorem viohStopped_word (s : State) (a : Nat) (hr : ¬ RouterWord a) (hp : ∀ x : Fin 2, a ≠ A.HP_STATUS x.val)
    (hc : ∀ x : Fin 2, a ≠ A.HP_CNT x.val) (hm : a ≠ A.HPM_STATUS) : (viohStopped s).word a = s.word a := by
  have htrip : ∀ was s, (tripEdges was s).word a = s.word a := by
    intro was
    refine forAll_keep (·.word a) _ fun s i => ?_
    split
    · rfl
    · exact routerEdge_word _ _ s a hr
  have habort : ∀ x s, (portAbort x s).word a = s.word a := by
    intro x s
    unfold portAbort
    dsimp only
    split
    · exact State.word_p_ne _ _ _ a (hp x)
    · exact (State.word_p_ne _ _ _ a (hp x)).trans ((State.word_p_ne _ _ _ a (hc x)).trans
        (State.word_p_ne _ _ _ a (hp x)))
  have hstop : ∀ s, (masterStop s).word a = s.word a := fun s => masterEnd_word _ s.draw.2 a hr hm
  have hports : ∀ s, (forAll (n := 2)
      (fun s x => if s.gb (F.HP_STATUS_BUSY x.val) then portAbort x s else s) s).word a = s.word a := by
    refine forAll_keep (·.word a) _ fun s x => ?_
    split
    · exact habort x s
    · rfl
  unfold viohStopped
  dsimp only
  split
  · rw [hstop, hports, htrip]
    rfl
  · rw [hports, htrip]
    rfl

/-- The class of VIOHLOSS is that of FM_CLASS alone, which the stop leaves. -/
theorem viohStopped_class (s : State) (v : Bool) :
    ((viohStopped s).pb F.SUPPLY_STATUS_VIOHLOST v).classOf 0x10 none = s.classOf 0x10 none := by
  have hw : (viohStopped s).word (A.FM_CLASS 2) = s.word (A.FM_CLASS 2) := by
    refine viohStopped_word s _ ?_ (fun x => ?_) (fun x => ?_) (by decide)
    · rintro (h | ⟨p, h | h⟩)
      · exact absurd h (by decide)
      all_goals simp only [A.FM_CLASS, A.PL_TTSLO, A.PL_TTSHI] at h; omega
    all_goals simp only [A.FM_CLASS, A.HP_STATUS, A.HP_CNT]; omega
  have hp : ((viohStopped s).pb F.SUPPLY_STATUS_VIOHLOST v).word (A.FM_CLASS 2) = s.word (A.FM_CLASS 2) :=
    (State.word_p_ne _ _ _ _ (by decide)).trans hw
  exact congrArg (fun w => getBits w 0 4) hp

theorem supplyStatus_not_report : ¬ ReportWord A.SUPPLY_STATUS := by
  rintro ((h | ⟨p, h | h⟩) | h | h | ⟨q, h⟩)
  · exact absurd h (by decide)
  · simp only [A.SUPPLY_STATUS, A.PL_TTSLO] at h; omega
  · simp only [A.SUPPLY_STATUS, A.PL_TTSHI] at h; omega
  · exact absurd h (by decide)
  · exact absurd h (by decide)
  · simp only [A.SUPPLY_STATUS, A.Q_STAT] at h; omega

/-- A loss of VIOH outside OFF: the event, the pins, and the flag where no response of class 4 or 5 comes with it. -/
theorem viohLoss_effect (s : State) (h : s.dev ≠ .off) :
    (viohLoss s).g F.FM_STATUS_LASTFID = 0x10 ∧ (viohLoss s).sup.vioh = false ∧ (viohLoss s).sup.en = s.sup.en
      ∧ (s.classOf 0x10 none < 4 → (viohLoss s).gb F.SUPPLY_STATUS_VIOHLOST = true) := by
  rw [viohLoss_core s h]
  generalize hx : (viohStopped s).pb F.SUPPLY_STATUS_VIOHLOST true = x
  have hpins : (raiseDev 0x10 x).pins = x.pins := faultFrame_pins.raiseDev_eq 0x10 x (by decide) (by decide)
  have hsup : x.sup = { s.sup with vioh := false } := by rw [← hx]; exact viohStopped_sup s
  have hclass : x.classOf 0x10 none = s.classOf 0x10 none := by rw [← hx]; exact viohStopped_class s true
  have hflag : x.gb F.SUPPLY_STATUS_VIOHLOST = true := by rw [← hx]; exact State.gb_pb _ _ _ rfl (by decide)
  refine ⟨raiseDev_lastfid 0x10 x, ?_, ?_, fun hc => ?_⟩
  · rw [sup_of_pins hpins, hsup]
  · rw [sup_of_pins hpins, hsup]
  · have hw : (raiseDev 0x10 x).word A.SUPPLY_STATUS = x.word A.SUPPLY_STATUS :=
      raiseDev_word 0x10 x _ (by decide) (by decide) (by rwa [hclass]) supplyStatus_not_report
    exact (congrArg (fun w => getBits w 8 1 != 0) hw).trans hflag

/-! ### EN pins (R19, R54, R202) -/

/-- A wake event changes of the supplies and pins the sleep latch, the event itself and the history of the EN pins alone. -/
theorem wakeEvent_supKeep {β : Type} (ρ : Supplies → β)
    (hρ : ∀ x sl w e, ρ { x with sleep := sl, wake := w, enHist := e } = ρ x) (src : Fin 6) (s : State) :
    ρ (wakeEvent src s).sup = ρ s.sup := by
  have hb : ∀ s, ρ (tryBoot s).sup = ρ s.sup := by
    intro s
    by_cases h : s.bootReady = true
    · rw [(tryBoot_boots s h).2.2]
      exact hρ _ _ _ _
    · rw [tryBoot_not_ready s (by simpa using h)]
  unfold wakeEvent
  split
  · exact (hb _).trans (hρ s.sup s.sup.sleep _ s.sup.enHist)
  · rfl

theorem enLevel_en (k : Fin 8) (l : Bool) (s : State) : (enLevel k l s).sup.en = vset s.sup.en k l := by
  unfold enLevel
  dsimp only
  split
  · exact wakeEvent_supKeep (·.en) (fun _ _ _ _ => rfl) 3 _
  · rfl

/-- A level of an EN pin touches of the supplies and pins what a wake event does, and the EN pins. -/
theorem enLevel_supKeep {β : Type} (ρ : Supplies → β)
    (hρ : ∀ x en sl w e, ρ { x with en := en, sleep := sl, wake := w, enHist := e } = ρ x) (k : Fin 8) (l : Bool)
    (s : State) : ρ (enLevel k l s).sup = ρ s.sup := by
  have hlevel : ∀ en e, ρ { s.sup with en := en, enHist := e } = ρ s.sup :=
    fun en e => hρ s.sup en s.sup.sleep s.sup.wake e
  unfold enLevel
  dsimp only
  split
  · exact (wakeEvent_supKeep ρ (fun x sl w e => hρ x x.en sl w e) 3 _).trans (hlevel _ _)
  · exact hlevel _ _

/-- While the core runs a level of an EN pin is noted and nothing else. -/
theorem enLevel_core (k : Fin 8) (l : Bool) (s : State) (h : s.dev ≠ .off) : enLevel k l s = { s with sup := { s.sup with
    en := vset s.sup.en k l, enHist := vset s.sup.enHist k (s.noteLevel (vget s.sup.en k) l (vget s.sup.enHist k)) } } := by
  unfold enLevel
  dsimp only
  split
  · exact wakeEvent_running 3 _ h
  · rfl

/-- The EN pins take new levels one after the other. -/
theorem forEach_enLevel_en (en : Vector Bool 8) (k : Fin 8) (l : List (Fin 8)) (s : State) :
    vget (forEach (fun s j => enLevel j (vget en j) s) l s).sup.en k
      = if k ∈ l then vget en k else vget s.sup.en k := by
  unfold forEach
  induction l generalizing s with
  | nil => rfl
  | cons j l ih =>
    rw [List.foldl_cons, ih, enLevel_en]
    by_cases hl : k ∈ l
    · simp [hl]
    · by_cases hj : k = j
      · simp [hj]
      · have : j.val ≠ k.val := fun e => hj (Fin.ext e.symm)
        simp [hl, hj, this]

/-- All EN pins resampled. -/
theorem resample_en (en : Vector Bool 8) (s : State) :
    (forAll (n := 8) (fun s k => enLevel k (vget en k) s) s).sup.en = en := by
  refine Vector.ext fun i hi => ?_
  have hk := forEach_enLevel_en en ⟨i, hi⟩ (allFin 8) s
  exact hk.trans (if_pos (List.mem_finRange _))

/-- The state of VIOH_GOOD before the EN pins are resampled: VIOH is good, and a waiting sample of the straps is taken. -/
def viohBack (a0 a1 : Option (Fin 4)) (s : State) : State :=
  let s1 := tripEdges s { s with sup := { s.sup with vioh := true } }
  if s1.sup.addrWait then sampleAddr a0 a1 s1 else s1

theorem viohBack_sup (a0 a1 : Option (Fin 4)) (s : State) : (viohBack a0 a1 s).sup
    = if s.sup.addrWait then { s.sup with vioh := true, addr0 := a0, addr1 := a1, addrWait := false }
      else { s.sup with vioh := true } := by
  have ht : (tripEdges s { s with sup := { s.sup with vioh := true } }).sup = { s.sup with vioh := true } :=
    tripEdges_keep (·.sup) (fun _ _ _ => rfl) (fun _ _ _ => rfl) s _
  unfold viohBack
  dsimp only
  generalize tripEdges s { s with sup := { s.sup with vioh := true } } = x at ht
  rw [sampleAddr_vioh a0 a1 x (by rw [ht]), ht]
  split
  · rfl
  · exact ht

/-- VIOH_GOOD's effect: the EN pins are resampled once VIOH is back. -/
def viohResampled (en : Vector Bool 8) (a0 a1 : Option (Fin 4)) (s : State) : State :=
  forAll (n := 8) (fun s k => enLevel k (vget en k) s) (viohBack a0 a1 s)

theorem exec_viohGood (en : Vector Bool 8) (a0 a1 : Option (Fin 4)) (s : State) :
    exec (.viohGood en a0 a1) s = done (viohResampled en a0 a1 s) := rfl

/-- The resampling touches of the supplies and pins what levels of the EN pins do. -/
theorem viohResampled_supKeep {β : Type} (ρ : Supplies → β)
    (hρ : ∀ x en sl w e, ρ { x with en := en, sleep := sl, wake := w, enHist := e } = ρ x) (en : Vector Bool 8)
    (a0 a1 : Option (Fin 4)) (s : State) : ρ (viohResampled en a0 a1 s).sup = ρ (viohBack a0 a1 s).sup :=
  forAll_keep (fun s => ρ s.sup) _ (fun s k => enLevel_supKeep ρ hρ k _ s) _

/-- The return of VIOH: the EN pins take their levels, and the straps the sample that waited for it. -/
theorem viohResampled_effect (en : Vector Bool 8) (a0 a1 : Option (Fin 4)) (s : State) :
    let u := viohResampled en a0 a1 s
    u.sup.vioh = true ∧ u.sup.en = en
      ∧ (s.sup.addrWait = true → u.sup.addr0 = a0 ∧ u.sup.addr1 = a1 ∧ u.sup.addrWait = false)
      ∧ (s.sup.addrWait = false → u.sup.addr0 = s.sup.addr0 ∧ u.sup.addr1 = s.sup.addr1) := by
  intro u
  have hv := viohResampled_supKeep (·.vioh) (fun _ _ _ _ _ => rfl) en a0 a1 s
  have h0 := viohResampled_supKeep (·.addr0) (fun _ _ _ _ _ => rfl) en a0 a1 s
  have h1 := viohResampled_supKeep (·.addr1) (fun _ _ _ _ _ => rfl) en a0 a1 s
  have hw := viohResampled_supKeep (·.addrWait) (fun _ _ _ _ _ => rfl) en a0 a1 s
  rw [viohBack_sup] at hv h0 h1 hw
  have hen : u.sup.en = en := resample_en en _
  cases hwait : s.sup.addrWait with
  | true =>
    rw [hwait] at hv h0 h1 hw
    exact ⟨hv, hen, fun _ => ⟨h0, h1, hw⟩, nofun⟩
  | false =>
    rw [hwait] at hv h0 h1 hw
    exact ⟨hv, hen, nofun, fun _ => ⟨h0, h1⟩⟩

/-- In OFF with a sleep latched, the rise of an EN pin boots the device with WAKESRC 3 (R19). -/
theorem enLevel_wakes (k : Fin 8) (s : State) (hd : s.dev = .off) (hs : s.sup.sleep = true) (hw : s.sup.wake = none)
    (hk : vget s.sup.en k = false) (hc : s.sup.vcore = true) (h3 : s.sup.vdd33 = true) (ha : s.sup.vaon = true)
    (hr : s.sup.resetHigh = true) :
    (enLevel k true s).dev = .boot ∧ (enLevel k true s).g F.DEVICE_STATUS_WAKESRC = 3 := by
  let s1 : State := { s with sup := { s.sup with
    en := vset s.sup.en k true, enHist := vset s.sup.enHist k (s.noteLevel (vget s.sup.en k) true (vget s.sup.enHist k)) } }
  have he : enLevel k true s = tryBoot { s1 with sup := { s1.sup with wake := some 3 } } :=
    (if_pos (by simp [hk])).trans (wakeEvent_asleep 3 s1 hd hs hw)
  have hready : ({ s1 with sup := { s1.sup with wake := some 3 } } : State).bootReady = true := by
    simp [s1, State.bootReady, hd, hc, h3, ha, hr]
  rw [he]
  refine ⟨(tryBoot_boots _ hready).1, (tryBoot_wakesrc _ hready).trans ?_⟩
  simp [s1, State.wakeSource, hs]

/-! ### VIOL (R55, R238, R240) -/

/-- A transaction under way at port p is abandoned and counted, where the port takes frames. -/
def abandonFrame (busy : Vector Bool 2) (s : State) (p : Fin 2) : State :=
  if vget busy p && s.linkOn p then noResponse p (s.inc (F.LNK_CNT_TIMEOUT p.val)) else s

/-- Each enabled port stops being usable. -/
def linksUnusable (s : State) : State :=
  let s1 := if s.gb (F.LNK_CTL_PEN 0) then linkUnusable 0 s else s
  if s1.gb (F.LNK_CTL_PEN 1) then linkUnusable 1 s1 else s1

theorem abandonFrame_keep {β : Type} (π : State → β) (hw : ∀ s a w, π (State.setWord s a w) = π s)
    (hp : ∀ (s : State) x, π { s with port := x } = π s) (busy : Vector Bool 2) (s : State) (p : Fin 2) :
    π (abandonFrame busy s p) = π s := by
  unfold abandonFrame
  split
  · exact (hp _ _).trans (hw s _ _)
  · rfl

theorem abandonFrame_word (busy : Vector Bool 2) (s : State) (p : Fin 2) (a : Nat) (h : a ≠ A.LNK_CNT p.val) :
    (abandonFrame busy s p).word a = s.word a := by
  unfold abandonFrame
  split
  · exact State.word_p_ne s _ _ a h
  · rfl

theorem abandonFrame_timeout (busy : Vector Bool 2) (s : State) (p : Fin 2) :
    (abandonFrame busy s p).g (F.LNK_CNT_TIMEOUT p.val) = s.g (F.LNK_CNT_TIMEOUT p.val)
      ∨ s.linkOn p = true ∧ (abandonFrame busy s p).g (F.LNK_CNT_TIMEOUT p.val)
        = incHold (F.LNK_CNT_TIMEOUT p.val).w (s.g (F.LNK_CNT_TIMEOUT p.val)) := by
  unfold abandonFrame
  split
  · rename_i h
    rw [Bool.and_eq_true] at h
    exact .inr ⟨h.2, State.g_inc s (F.LNK_CNT_TIMEOUT p.val) (by simp [F.LNK_CNT_TIMEOUT])⟩
  · exact .inl rfl

/-- The abandoned transactions of both ports: a port's count moves by its own transaction alone. -/
theorem abandonBoth_timeout (busy : Vector Bool 2) (s : State) (p : Fin 2) :
    (forAll (abandonFrame busy) s).g (F.LNK_CNT_TIMEOUT p.val) = s.g (F.LNK_CNT_TIMEOUT p.val)
      ∨ s.linkOn p = true ∧ (forAll (abandonFrame busy) s).g (F.LNK_CNT_TIMEOUT p.val)
        = incHold (F.LNK_CNT_TIMEOUT p.val).w (s.g (F.LNK_CNT_TIMEOUT p.val)) := by
  have hg : ∀ (s : State) (q : Fin 2) (f : Fld), f.addr ≠ A.LNK_CNT q.val → (abandonFrame busy s q).g f = s.g f :=
    fun s q f h => congrArg (getBits · f.lo f.w) (abandonFrame_word busy s q f.addr h)
  show (abandonFrame busy (abandonFrame busy s 0) 1).g _ = _ ∨ _ ∧ (abandonFrame busy (abandonFrame busy s 0) 1).g _ = _
  match p with
  | 0 =>
    rw [hg _ 1 _ (by decide)]
    exact abandonFrame_timeout busy s 0
  | 1 =>
    have hon : (abandonFrame busy s 0).linkOn 1 = s.linkOn 1 := by
      have hpen : (abandonFrame busy s 0).g (F.LNK_CTL_PEN 1) = s.g (F.LNK_CTL_PEN 1) := hg s 0 _ (by decide)
      have hsup := abandonFrame_keep (·.sup) (fun _ _ _ => rfl) (fun _ _ => rfl) busy s 0
      have hdev := abandonFrame_keep (·.dev) (fun _ _ _ => rfl) (fun _ _ => rfl) busy s 0
      show ((abandonFrame busy s 0).g (F.LNK_CTL_PEN 1) != 0 && _ && ((abandonFrame busy s 0).dev != .off) && _) = _
      rw [hpen, hsup, hdev]
      rfl
    have hcount : (abandonFrame busy s 0).g (F.LNK_CNT_TIMEOUT 1) = s.g (F.LNK_CNT_TIMEOUT 1) := hg s 0 _ (by decide)
    have := abandonFrame_timeout busy (abandonFrame busy s 0) 1
    rwa [hon, show ((1 : Fin 2).val) = 1 from rfl, hcount] at this

theorem linksUnusable_keep {β : Type} (π : State → β) (hb : ∀ s k, π (State.pb s (F.OL_STATUS_HZTOUT k) true) = π s)
    (hr : ∀ s k f, π (State.modRa s k f) = π s) (s : State) : π (linksUnusable s) = π s := by
  have hone : ∀ p s, π (linkUnusable p s) = π s := by
    intro p
    refine forAll_keep π _ fun s k => ?_
    split
    · unfold marginEvent State.modOl
      rw [hr, hb]
    · rfl
  unfold linksUnusable
  extract_lets s1
  have h1 : π s1 = π s := by
    unfold s1
    split
    · exact hone 0 s
    · rfl
  clear_value s1
  split
  · exact (hone 1 s1).trans h1
  · exact h1

theorem linksUnusable_g (s : State) (f : Fld) (h : ∀ k, f.addr ≠ A.OL_STATUS k) : (linksUnusable s).g f = s.g f :=
  linksUnusable_keep (·.g f) (fun s k => State.g_p_addr s _ f _ (h k)) (fun _ _ _ => rfl) s

theorem violLoss_core (busy : Vector Bool 2) (s : State) (h : s.core = true) : violLoss busy s
    = linksUnusable (({ forAll (abandonFrame busy) s with sup :=
        { (forAll (abandonFrame busy) s).sup with viol := false } } : State).pb F.SUPPLY_STATUS_VIOLLOST true) := by
  have hc : (forAll (abandonFrame busy) s).core = s.core :=
    forAll_keep (·.core) _ (abandonFrame_keep (·.core) (fun _ _ _ => rfl) (fun _ _ => rfl) busy) s
  exact if_pos (hc.trans h)

/-- A loss of VIOL outside OFF: the flag, and a count of a port's own abandoned transaction. -/
theorem violLoss_effect (busy : Vector Bool 2) (s : State) (h : s.core = true) :
    (violLoss busy s).sup = { s.sup with viol := false } ∧ (violLoss busy s).gb F.SUPPLY_STATUS_VIOLLOST = true
      ∧ (violLoss busy s).phase = s.phase ∧ (violLoss busy s).queue = s.queue
      ∧ ∀ p : Fin 2, (violLoss busy s).g (F.LNK_CNT_TIMEOUT p.val) = s.g (F.LNK_CNT_TIMEOUT p.val)
          ∨ s.linkOn p = true ∧ (violLoss busy s).g (F.LNK_CNT_TIMEOUT p.val)
            = incHold (F.LNK_CNT_TIMEOUT p.val).w (s.g (F.LNK_CNT_TIMEOUT p.val)) := by
  have hkeep : ∀ {β : Type} (π : State → β), (∀ s a w, π (State.setWord s a w) = π s) →
      (∀ (s : State) x, π { s with port := x } = π s) → π (forAll (abandonFrame busy) s) = π s :=
    fun π hw hp => forAll_keep π _ (abandonFrame_keep π hw hp busy) s
  have hsup := hkeep (·.sup) (fun _ _ _ => rfl) (fun _ _ => rfl)
  have hphase := hkeep (·.phase) (fun _ _ _ => rfl) (fun _ _ => rfl)
  have hqueue := hkeep (·.queue) (fun _ _ _ => rfl) (fun _ _ => rfl)
  have hcount := abandonBoth_timeout busy s
  rw [violLoss_core busy s h]
  generalize forAll (abandonFrame busy) s = x at hsup hphase hqueue hcount
  refine ⟨?_, ?_, ?_, ?_, fun p => ?_⟩
  · rw [linksUnusable_keep (·.sup) (fun _ _ => rfl) (fun _ _ _ => rfl), ← hsup]
    rfl
  · unfold State.gb
    rw [linksUnusable_g _ _ fun k => by simp only [F.SUPPLY_STATUS_VIOLLOST, A.SUPPLY_STATUS, A.OL_STATUS]; omega]
    exact State.gb_pb _ F.SUPPLY_STATUS_VIOLLOST true rfl (by decide)
  · exact (linksUnusable_keep (·.phase) (fun _ _ => rfl) (fun _ _ _ => rfl) _).trans hphase
  · exact (linksUnusable_keep (·.queue) (fun _ _ => rfl) (fun _ _ _ => rfl) _).trans hqueue
  · have hg := (linksUnusable_g (({ x with sup := { x.sup with viol := false } } : State).pb F.SUPPLY_STATUS_VIOLLOST true)
      (F.LNK_CNT_TIMEOUT p.val) fun k => by simp only [F.LNK_CNT_TIMEOUT, A.LNK_CNT, A.OL_STATUS]; omega).trans
      (State.g_p_addr _ F.SUPPLY_STATUS_VIOLLOST _ _ (by
        simp only [F.LNK_CNT_TIMEOUT, A.LNK_CNT, F.SUPPLY_STATUS_VIOLLOST, A.SUPPLY_STATUS]; omega))
    rw [hg]
    exact hcount p

/-! ### The link's version (R223, R238) -/

theorem setVersion_keep {β : Type} (π : State → β) (hw : ∀ s a w, π (State.setWord s a w) = π s)
    (hp : ∀ (s : State) x, π { s with port := x } = π s) (p : Fin 2) (v : Nat) (s : State) :
    π (setVersion p v s) = π s := by
  unfold setVersion
  split
  · rfl
  · exact (forEach_keep π _ (fun s e => hw s (A.LNK_EP_LAST p.val e) 0) _ _).trans ((hp _ _).trans (hw s _ _))

/-- The duplicate memories hold no LNK_STATUS. -/
theorem clearDup_ver (p q : Fin 2) (s : State) :
    (clearDup p s).g (F.LNK_STATUS_VER q.val) = s.g (F.LNK_STATUS_VER q.val) :=
  forEach_keep (·.g (F.LNK_STATUS_VER q.val)) (fun s e => s.setWord (A.LNK_EP_LAST p.val e) 0)
    (fun s e => congrArg (getBits · 16 2) (State.word_setWord_ne s _ _ _ (by
      simp only [A.LNK_EP_LAST, F.LNK_STATUS_VER, A.LNK_STATUS]; omega))) _ _

theorem setVersion_same (p : Fin 2) (v : Nat) (s : State) (hv : v < 4) :
    (setVersion p v s).g (F.LNK_STATUS_VER p.val) = v := by
  unfold setVersion
  split
  · assumption
  · rw [clearDup_ver]
    exact (State.g_p s (F.LNK_STATUS_VER p.val) v (by simp [F.LNK_STATUS_VER])).trans (Nat.mod_eq_of_lt hv)

theorem setVersion_other (p q : Fin 2) (v : Nat) (s : State) (h : q ≠ p) :
    (setVersion p v s).g (F.LNK_STATUS_VER q.val) = s.g (F.LNK_STATUS_VER q.val) := by
  have hne : q.val ≠ p.val := fun e => h (Fin.ext e)
  unfold setVersion
  split
  · rfl
  · rw [clearDup_ver]
    exact State.g_p_addr s _ _ _ (by simp only [F.LNK_STATUS_VER, A.LNK_STATUS]; omega)

/-- Both ports return to version 1. -/
theorem bothVersion1 (p : Fin 2) (s : State) : (setVersion 1 1 (setVersion 0 1 s)).g (F.LNK_STATUS_VER p.val) = 1 := by
  match p with
  | 0 => exact (setVersion_other 1 0 1 _ (by decide)).trans (setVersion_same 0 1 s (by decide))
  | 1 => exact setVersion_same 1 1 _ (by decide)

/-! ### The rows of supplies and pins -/

theorem core_iff (s : State) : s.core = true ↔ s.dev ≠ .off := by simp [State.core]

/-- Settles O12: VIOHLOSS, the EN pins, the two link ports and the reference each by the lemma that says what its row leaves. -/
theorem pinSuppliesAct : Obligations.PinSuppliesAct := by
  unfold Obligations.PinSuppliesAct
  refine ⟨fun s => rfl, fun s => rfl, fun s hc hv => ?_,
    fun s en a b _ => ⟨_, exec_viohGood en a b s, viohResampled_effect en a b s⟩,
    fun s hc hv => ?_, fun s _ hv => ?_, fun s => ⟨_, rfl, ?_, ?_, fun p => bothVersion1 p _⟩, fun s hc => ?_,
    fun s k l hc hv => ?_, fun s k l hv => ?_, fun s k hd hv hs hw hk hcore h33 ha hr => ?_⟩
  · exact ⟨_, congrArg done (if_pos hv), viohLoss_effect s ((core_iff s).mp hc)⟩
  · exact ⟨_, congrArg done (if_pos hv), violLoss_effect _ s.draw.2 hc⟩
  · exact congrArg done (if_neg (by simp [hv]))
  · have hkeep : ∀ p s, (setVersion p 1 s).sup = s.sup :=
      fun p => setVersion_keep (·.sup) (fun _ _ _ => rfl) (fun _ _ => rfl) p 1
    rw [hkeep, hkeep]
  · have hkeep : ∀ p s, (setVersion p 1 s).rail = s.rail :=
      fun p => setVersion_keep (·.rail) (fun _ _ _ => rfl) (fun _ _ => rfl) p 1
    rw [hkeep, hkeep]
  · refine ⟨s.pb F.DEVICE_STATUS_REFLOST true, congrArg done (if_pos hc), ?_, onlyWords_pb s _ true s.sup⟩
    exact State.gb_pb s F.DEVICE_STATUS_REFLOST true rfl (by decide)
  · exact congrArg done ((if_pos hv).trans (enLevel_core k l s ((core_iff s).mp hc)))
  · exact congrArg done (if_neg (by simp [hv]))
  · exact ⟨_, congrArg done (if_pos hv), enLevel_wakes k s hd hs hw hk hcore h33 ha hr⟩

end Sys2Proof.Machine
end

section
/-!
SUPPORT. What a write the checks let through does (R78, R371, R381): the state in which it takes effect, `accepted`, differs from
the one before in what a router event touches and in the grant of DBG; and for the registers of the image manager the one operation
each write comes to.
-/

open Sys2Proof Sys2Proof.Machine

namespace Sys2Proof.Machine

/-! ### The state in which a granted write takes effect -/

theorem supPush_keep {β : Type} (π : State → β) (hw : ∀ s a w, π (State.setWord s a w) = π s)
    (hm : ∀ s p f, π (State.modPl s p f) = π s) (hq : ∀ (s : State) l, π { s with queue := l } = π s) (a : Nat) (w : Word)
    (s : State) : π (supPush a w s) = π s :=
  (hq _ _).trans ((routerEdge_keep π hw hm _ _ _).trans (hq _ _))

/-- Where the write is let through, only registers of router events, Plates, Q10 and the grant of DBG may differ. -/
theorem accepted_keep {β : Type} (π : State → β) (hw : ∀ s a w, π (State.setWord s a w) = π s)
    (hm : ∀ s p f, π (State.modPl s p f) = π s) (hq : ∀ (s : State) l, π { s with queue := l } = π s)
    (hg : ∀ (s : State) b, π { s with gate := { s.gate with grant := b } } = π s) (m : Master) (a : Nat) (w : Word)
    (s : State) : π (accepted m a w s) = π s := by
  have hd : π (dbgStatus m .ok s) = π s := by
    unfold dbgStatus
    split
    · exact hg s true
    · rfl
  unfold accepted viaQ10
  split
  · exact (supPush_keep π hw hm hq a w _).trans hd
  · exact hd

@[simp] theorem accepted_sup (m : Master) (a : Nat) (w : Word) (s : State) : (accepted m a w s).sup = s.sup :=
  accepted_keep (·.sup) (fun _ _ _ => rfl) (fun _ _ _ => rfl) (fun _ _ => rfl) (fun _ _ => rfl) m a w s

@[simp] theorem accepted_dev (m : Master) (a : Nat) (w : Word) (s : State) : (accepted m a w s).dev = s.dev :=
  accepted_keep (·.dev) (fun _ _ _ => rfl) (fun _ _ _ => rfl) (fun _ _ => rfl) (fun _ _ => rfl) m a w s

@[simp] theorem accepted_img (m : Master) (a : Nat) (w : Word) (s : State) : (accepted m a w s).img = s.img :=
  accepted_keep (·.img) (fun _ _ _ => rfl) (fun _ _ _ => rfl) (fun _ _ => rfl) (fun _ _ => rfl) m a w s

@[simp] theorem accepted_phase (m : Master) (a : Nat) (w : Word) (s : State) : (accepted m a w s).phase = s.phase :=
  accepted_keep (·.phase) (fun _ _ _ => rfl) (fun _ _ _ => rfl) (fun _ _ => rfl) (fun _ _ => rfl) m a w s

@[simp] theorem accepted_rail (m : Master) (a : Nat) (w : Word) (s : State) : (accepted m a w s).rail = s.rail :=
  accepted_keep (·.rail) (fun _ _ _ => rfl) (fun _ _ _ => rfl) (fun _ _ => rfl) (fun _ _ => rfl) m a w s

@[simp] theorem accepted_role (m : Master) (a : Nat) (w : Word) (s : State) : (accepted m a w s).role = s.role :=
  accepted_keep (·.role) (fun _ _ _ => rfl) (fun _ _ _ => rfl) (fun _ _ => rfl) (fun _ _ => rfl) m a w s

@[simp] theorem accepted_nv (m : Master) (a : Nat) (w : Word) (s : State) : (accepted m a w s).nv = s.nv :=
  accepted_keep (·.nv) (fun _ _ _ => rfl) (fun _ _ _ => rfl) (fun _ _ => rfl) (fun _ _ => rfl) m a w s

@[simp] theorem accepted_bank (m : Master) (a : Nat) (w : Word) (s : State) : (accepted m a w s).gate.bank = s.gate.bank :=
  accepted_keep (·.gate.bank) (fun _ _ _ => rfl) (fun _ _ _ => rfl) (fun _ _ => rfl) (fun _ _ => rfl) m a w s

@[simp] theorem accepted_clock (m : Master) (a : Nat) (w : Word) (s : State) : (accepted m a w s).clock = s.clock :=
  accepted_keep (·.clock) (fun _ _ _ => rfl) (fun _ _ _ => rfl) (fun _ _ => rfl) (fun _ _ => rfl) m a w s

/-- Q10 is empty of the write again once it is performed (R371). -/
@[simp] theorem accepted_queue (m : Master) (a : Nat) (w : Word) (s : State) : (accepted m a w s).queue = s.queue := by
  have hd : (dbgStatus m .ok s).queue = s.queue := by
    unfold dbgStatus
    split <;> rfl
  have hp : ∀ t : State, (supPush a w t).queue = t.queue := by
    intro t
    have hr : (qAppend 10 (regEntry a w) t).queue = vset t.queue 10 (t.q 10 ++ [regEntry a w]) :=
      routerEdge_keep (·.queue) (fun _ _ _ => rfl) (fun _ _ _ => rfl) _ _ _
    show vset (qAppend 10 (regEntry a w) t).queue 10 (t.q 10) = t.queue
    rw [hr]
    unfold vset State.q vget
    rw [Vector.set_set, Vector.set_getElem_self]
  unfold accepted viaQ10
  split
  · rw [hp, hd]
  · exact hd

theorem accepted_word (m : Master) (a : Nat) (w : Word) (s : State) (b : Nat) (h : ¬ RouterWord b) :
    (accepted m a w s).word b = s.word b := by
  have hd : (dbgStatus m .ok s).word b = s.word b := by
    unfold dbgStatus
    split <;> rfl
  unfold accepted viaQ10
  split
  · exact (routerEdge_word _ _ _ b h).trans hd
  · exact hd

theorem accepted_g (m : Master) (a : Nat) (w : Word) (s : State) (f : Fld) (h : ¬ RouterWord f.addr) :
    (accepted m a w s).g f = s.g f := by
  unfold State.g
  rw [accepted_word m a w s _ h]

/-- Registers below the block of queues and router are none that a router event writes. -/
theorem not_routerWord_of_lt {a : Nat} (h : a < 0x180000) : ¬ RouterWord a := by
  rintro (e | ⟨p, e | e⟩)
  · rw [e] at h; exact absurd h (by decide)
  · simp only [A.PL_TTSLO] at e; omega
  · simp only [A.PL_TTSHI] at e; omega

/-! ### What the write of a register comes to -/

theorem regWrite_accepted {m : Master} {a : Nat} {w : Word} {s : State} (h : judge m a w s = .ok) {x : Loc}
    (hx : locate a = some x) : (regWrite m a w s).1 = effect1 m x w (accepted m a w s)
      (effect0 m x w (accepted m a w s) (putAll m x a w (accepted m a w s))) := by
  unfold regWrite writeWith
  rw [h, if_pos rfl]
  unfold applyWrite
  rw [hx]
  rfl

theorem locate_groupCommit : locate A.GROUP_COMMIT
    = some ⟨⟨.groupCommit, 0x040040, [], 0, [⟨30, 2, .wo, .live⟩, ⟨8, 8, .wo, .live⟩, ⟨0, 8, .wo, .live⟩]⟩, 0, 0, 0⟩ := by
  decide +kernel

/-- A write of GROUP_COMMIT is the group access its word spells (R81). -/
theorem groupCommit_write {m : Master} {w : Word} {s : State} (h : judge m A.GROUP_COMMIT w s = .ok) :
    (regWrite m A.GROUP_COMMIT w s).1 = groupAccess m w (accepted m A.GROUP_COMMIT w s) :=
  regWrite_accepted h locate_groupCommit

theorem locate_imgWdata : locate A.IMG_WDATA = some ⟨⟨.imgWdata, 0x04000C, [], 0, [⟨0, 32, .wo, .live⟩]⟩, 0, 0, 0⟩ := by
  decide +kernel

/-- A write of IMG_WDATA stores a word of an image (R77). -/
theorem imgWdata_write {m : Master} {w : Word} {s : State} (h : judge m A.IMG_WDATA w s = .ok) :
    (regWrite m A.IMG_WDATA w s).1 = imgData m w (accepted m A.IMG_WDATA w s) := regWrite_accepted h locate_imgWdata

theorem locate_imgCtl : locate A.IMG_CTL
    = some ⟨⟨.imgCtl, 0x040000, [], 0, [⟨4, 1, .rw, .live⟩, ⟨0, 4, .wo, .live⟩]⟩, 0, 0, 0⟩ := by decide +kernel

/-- A write of IMG_CTL keeps TARGET and is the command its CMD spells for that slot (R76). -/
theorem imgCtl_write {m : Master} {w : Word} {s : State} (h : judge m A.IMG_CTL w s = .ok) :
    (regWrite m A.IMG_CTL w s).1 = imgCommand m (getBits w 0 4) (Fin.ofNat 2 (getBits w 4 1))
      ((accepted m A.IMG_CTL w s).p F.IMG_CTL_TARGET (getBits w 4 1)) := by
  have ht : ((accepted m A.IMG_CTL w s).p F.IMG_CTL_TARGET (getBits w 4 1)).g F.IMG_CTL_TARGET = getBits w 4 1 := by
    rw [State.g_p _ F.IMG_CTL_TARGET _ (by decide)]
    exact Nat.mod_eq_of_lt (getBits_lt w 4 1)
  rw [regWrite_accepted h locate_imgCtl]
  show imgCommand m (getBits w 0 4) (Fin.ofNat 2 (((accepted m A.IMG_CTL w s).p F.IMG_CTL_TARGET (getBits w 4 1)).g
    F.IMG_CTL_TARGET)) ((accepted m A.IMG_CTL w s).p F.IMG_CTL_TARGET (getBits w 4 1)) = _
  rw [ht]

theorem locate_cfgerr : locate A.CFGERR = some ⟨⟨.cfgerr, 0x040060, [], 0,
    [⟨31, 1, .w1c, .live⟩, ⟨28, 3, .ro, .fixed⟩, ⟨24, 4, .ro, .fixed⟩, ⟨0, 24, .ro, .fixed⟩]⟩, 0, 0, 0⟩ := by decide +kernel

/-- A written 1 to VALID clears all of CFGERR (R83). -/
theorem cfgerr_write {m : Master} {w : Word} {s : State} (h : judge m A.CFGERR w s = .ok) (hw : getBits w 31 1 = 1) :
    (regWrite m A.CFGERR w s).1.word A.CFGERR = 0 := by
  rw [regWrite_accepted h locate_cfgerr]
  have he : ∀ u v : State, effect0 m ⟨⟨.cfgerr, 0x040060, [], 0,
      [⟨31, 1, .w1c, .live⟩, ⟨28, 3, .ro, .fixed⟩, ⟨24, 4, .ro, .fixed⟩, ⟨0, 24, .ro, .fixed⟩]⟩, 0, 0, 0⟩ w u v
      = v.setWord A.CFGERR 0 := fun u v => if_pos hw
  rw [he]
  exact State.word_setWord_same _ A.CFGERR 0

end Sys2Proof.Machine
end

section
/-!
PROOFS. The statements of 03_configuration_image.md (R60-R85): refusals, commits of coupled groups, the image manager's commands
and BOOT.
-/

open Sys2Proof Sys2Proof.Machine

namespace Sys2Proof.Machine

/-! ### Refusals (R83) -/

theorem masterCode_lt (m : Master) : masterCode m < 8 := by cases m <;> decide

theorem cfgCause_code_lt (c : CfgCause) : c.code < 16 := by cases c <;> decide

/-- CFGERR where a refusal fills it. -/
theorem cfgRefuse_fills (m : Master) (c : CfgCause) (a : Nat) (s : State) (h : s.gb F.CFGERR_VALID = false) :
    (cfgRefuse m c a s).word A.CFGERR
      = BitVec.ofNat 32 (2 ^ 31 + masterCode m * 2 ^ 28 + c.code * 2 ^ 24 + a % 2 ^ 24) := by
  have hv : (s.inc F.CFGERR_COUNT_COUNT).gb F.CFGERR_VALID = false :=
    (congrArg (· != 0) (State.g_p_addr s F.CFGERR_COUNT_COUNT F.CFGERR_VALID _ (by decide))).trans h
  unfold cfgRefuse
  rw [if_neg (by simp [hv])]
  exact State.word_setWord_same _ _ _

theorem cfgRefuse_holds (m : Master) (c : CfgCause) (a : Nat) (s : State) (h : s.gb F.CFGERR_VALID = true) :
    (cfgRefuse m c a s).word A.CFGERR = s.word A.CFGERR := by
  have hv : (s.inc F.CFGERR_COUNT_COUNT).gb F.CFGERR_VALID = true :=
    (congrArg (· != 0) (State.g_p_addr s F.CFGERR_COUNT_COUNT F.CFGERR_VALID _ (by decide))).trans h
  unfold cfgRefuse
  rw [if_pos hv]
  exact State.word_p_ne s F.CFGERR_COUNT_COUNT _ _ (by decide)

/-- Whatever CFGERR holds, the refusal is counted. -/
theorem cfgRefuse_count (m : Master) (c : CfgCause) (a : Nat) (s : State) :
    (cfgRefuse m c a s).g F.CFGERR_COUNT_COUNT = incHold 16 (s.g F.CFGERR_COUNT_COUNT) := by
  have hc : (s.inc F.CFGERR_COUNT_COUNT).g F.CFGERR_COUNT_COUNT = incHold 16 (s.g F.CFGERR_COUNT_COUNT) :=
    State.g_inc s F.CFGERR_COUNT_COUNT (by decide)
  unfold cfgRefuse
  dsimp only
  split
  · exact hc
  · refine Eq.trans ?_ hc
    unfold State.g
    rw [State.word_setWord_ne _ A.CFGERR F.CFGERR_COUNT_COUNT.addr _ (by decide)]

theorem cfgRefuse_onlyWords (m : Master) (c : CfgCause) (a : Nat) (s : State) :
    OnlyWords (cfgRefuse m c a s) s [A.CFGERR, A.CFGERR_COUNT] := by
  refine ⟨?_, fun b hb => ?_⟩
  · unfold cfgRefuse
    dsimp only
    split <;> rfl
  · simp only [List.mem_cons, List.not_mem_nil, or_false, not_or] at hb
    exact cfgRefuse_word m c a s b hb.1 hb.2

/-- The four fields of a filled CFGERR. -/
theorem cfgRefuse_fields (m : Master) (c : CfgCause) (a : Nat) (s : State) (ha : a < 2 ^ 24)
    (h : s.gb F.CFGERR_VALID = false) : (cfgRefuse m c a s).gb F.CFGERR_VALID = true
      ∧ (cfgRefuse m c a s).g F.CFGERR_MASTER = masterCode m ∧ (cfgRefuse m c a s).g F.CFGERR_CAUSE = c.code
      ∧ (cfgRefuse m c a s).g F.CFGERR_ADDR = a := by
  have hm := masterCode_lt m
  have hc := cfgCause_code_lt c
  have hw : ((cfgRefuse m c a s).word A.CFGERR).toNat = 2 ^ 31 + masterCode m * 2 ^ 28 + c.code * 2 ^ 24 + a := by
    rw [cfgRefuse_fills m c a s h, BitVec.toNat_ofNat, Nat.mod_eq_of_lt ha, Nat.mod_eq_of_lt (by omega)]
  have hg : ∀ f : Fld, f.addr = A.CFGERR → (cfgRefuse m c a s).g f
      = (2 ^ 31 + masterCode m * 2 ^ 28 + c.code * 2 ^ 24 + a) / 2 ^ f.lo % 2 ^ f.w := by
    intro f hf
    rw [← hw, ← hf]
    rfl
  refine ⟨?_, ?_, ?_, ?_⟩
  · unfold State.gb
    rw [hg F.CFGERR_VALID rfl, bne_iff_ne]
    simp only [F.CFGERR_VALID]
    omega
  · rw [hg F.CFGERR_MASTER rfl]
    simp only [F.CFGERR_MASTER]
    omega
  · rw [hg F.CFGERR_CAUSE rfl]
    simp only [F.CFGERR_CAUSE]
    omega
  · rw [hg F.CFGERR_ADDR rfl]
    simp only [F.CFGERR_ADDR]
    omega

/-- Settles O9: the count and CFGERR of `cfgRefuse` by whether VALID is set; a refusal of the Gatehouse writes two other registers. -/
theorem refusalsAreCounted : Obligations.RefusalsAreCounted := by
  unfold Obligations.RefusalsAreCounted
  refine ⟨fun m c a s ha => ⟨cfgRefuse_count m c a s, cfgRefuse_holds m c a s, cfgRefuse_fields m c a s ha,
    cfgRefuse_onlyWords m c a s⟩, fun m s hd hf => ?_, fun m kind a s => ?_, fun m w s hj hw => cfgerr_write hj hw⟩
  · unfold safeExit
    rw [if_neg (by simp [hd]), if_pos hf]
  · exact ⟨ghRefuse_word m kind a s _ (by decide) (by decide), ghRefuse_word m kind a s _ (by decide) (by decide)⟩

end Sys2Proof.Machine
end

section
/-!
PROOFS. The statements of 03_configuration_image.md on coupled groups (R80, R81): queries, commits and aborts by GROUP_COMMIT, and
the boundary that decides what an abort came too late for.
-/

open Sys2Proof Sys2Proof.Machine

namespace Sys2Proof.Machine

/-! ### States that differ in registers alone -/

theorem onlyWords_refl (s : State) (l : List Nat) : OnlyWords s s l := ⟨rfl, fun _ _ => rfl⟩

theorem OnlyWords.setWord {u s : State} {l : List Nat} (h : OnlyWords u s l) {a : Nat} (w : Word) (ha : a ∈ l) :
    OnlyWords (u.setWord a w) s l := by
  obtain ⟨hu, hw⟩ := h
  refine ⟨congrArg (fun x : State => { x with regs := (u.setWord a w).regs }) hu, fun b hb => ?_⟩
  have hne : b ≠ a := by
    rintro rfl
    exact hb ha
  exact (State.word_setWord_ne u a b w hne).trans (hw b hb)

theorem OnlyWords.p {u s : State} {l : List Nat} (h : OnlyWords u s l) (f : Fld) (v : Nat) (ha : f.addr ∈ l) :
    OnlyWords (u.p f v) s l := h.setWord _ ha

theorem OnlyWords.cfgRefuse {u s : State} {l : List Nat} (h : OnlyWords u s l) (m : Master) (c : CfgCause) (a : Nat)
    (he : A.CFGERR ∈ l) (hc : A.CFGERR_COUNT ∈ l) : OnlyWords (cfgRefuse m c a u) s l := by
  unfold Machine.cfgRefuse
  dsimp only
  split
  · exact h.p F.CFGERR_COUNT_COUNT _ hc
  · exact (h.p F.CFGERR_COUNT_COUNT _ hc).setWord _ he

/-! ### What staging, arming and running rest on -/

theorem stagedOf_congr {u v : State} (h : u.img = v.img) (g i : Nat) : u.stagedOf g i = v.stagedOf g i := by
  unfold State.stagedOf
  rw [h]

theorem isArmed_congr {u v : State} (h : u.img = v.img) (g i : Nat) : u.isArmed g i = v.isArmed g i := by
  unfold State.isArmed
  rw [h]

theorem sg_congr {u v : State} (h : u.img = v.img) (g i : Nat) (f : Fld) (hw : u.word f.addr = v.word f.addr) :
    u.sg g i f = v.sg g i f := by
  unfold State.sg State.staged
  rw [stagedOf_congr h, hw]

/-- Whether the block of a phase runs rests on roles, tails and rails, and of the registers on PHASE[n].ASSIGN alone. -/
theorem phRuns_congr {u v : State} (n : Fin 48) (hr : u.role = v.role) (hp : u.phase = v.phase) (hk : u.rail = v.rail)
    (hw : u.word (A.PHASE_ASSIGN n.val) = v.word (A.PHASE_ASSIGN n.val)) : u.phRuns n = v.phRuns n := by
  have hof : u.railOf n.val = v.railOf n.val := by
    unfold State.railOf State.gb State.g
    rw [show (F.PHASE_ASSIGN_ASGN n.val).addr = A.PHASE_ASSIGN n.val from rfl,
      show (F.PHASE_ASSIGN_RAIL n.val).addr = A.PHASE_ASSIGN n.val from rfl, hw]
  unfold State.phRuns State.belongs State.rl State.ph State.enabled State.st State.ra
  rw [hof, hr, hp, hk]

/-! ### GROUP_STATE names the group -/

@[simp] theorem nameGroup_img (g i : Nat) (s : State) : (nameGroup g i s).img = s.img := by
  unfold nameGroup
  rw [State.p_img, State.p_img]
@[simp] theorem nameGroup_phase (g i : Nat) (s : State) : (nameGroup g i s).phase = s.phase := by
  unfold nameGroup
  rw [State.p_phase, State.p_phase]
@[simp] theorem nameGroup_role (g i : Nat) (s : State) : (nameGroup g i s).role = s.role := by
  unfold nameGroup
  rw [State.p_role, State.p_role]
@[simp] theorem nameGroup_rail (g i : Nat) (s : State) : (nameGroup g i s).rail = s.rail := by
  unfold nameGroup
  rw [State.p_rail, State.p_rail]
@[simp] theorem nameGroup_queue (g i : Nat) (s : State) : (nameGroup g i s).queue = s.queue := by
  unfold nameGroup
  rw [State.p_queue, State.p_queue]
@[simp] theorem nameGroup_clock (g i : Nat) (s : State) : (nameGroup g i s).clock = s.clock := by
  unfold nameGroup State.clock
  rw [State.p_tb, State.p_fine, State.p_tb, State.p_fine]

theorem nameGroup_word (g i : Nat) (s : State) (a : Nat) (h : a ≠ A.GROUP_STATE) : (nameGroup g i s).word a = s.word a :=
  (State.word_p_ne _ F.GROUP_STATE_INDEX i a h).trans (State.word_p_ne s F.GROUP_STATE_GROUP g a h)

theorem nameGroup_onlyWords (g i : Nat) (s : State) : OnlyWords (nameGroup g i s) s [A.GROUP_STATE] :=
  ((onlyWords_refl s _).p F.GROUP_STATE_GROUP g (List.mem_singleton.mpr rfl)).p F.GROUP_STATE_INDEX i
    (List.mem_singleton.mpr rfl)

theorem nameGroup_fields (g i : Nat) (s : State) (hg : g < 256) (hi : i < 256) :
    (nameGroup g i s).g F.GROUP_STATE_GROUP = g ∧ (nameGroup g i s).g F.GROUP_STATE_INDEX = i := by
  unfold nameGroup
  rw [State.g_p_apart _ F.GROUP_STATE_INDEX F.GROUP_STATE_GROUP _ (by decide) (by decide),
    State.g_p s F.GROUP_STATE_GROUP g (by decide), State.g_p _ F.GROUP_STATE_INDEX i (by decide)]
  exact ⟨Nat.mod_eq_of_lt hg, Nat.mod_eq_of_lt hi⟩

theorem nameGroup_stagedOf (g i g' i' : Nat) (s : State) : (nameGroup g i s).stagedOf g' i' = s.stagedOf g' i' :=
  stagedOf_congr (nameGroup_img g i s) g' i'

theorem nameGroup_isArmed (g i g' i' : Nat) (s : State) : (nameGroup g i s).isArmed g' i' = s.isArmed g' i' :=
  isArmed_congr (nameGroup_img g i s) g' i'

/-- A result of the group GROUP_STATE names reads as put. -/
theorem lastresult_p (s : State) (r : Nat) (hr : r < 8) :
    (s.p F.GROUP_STATE_LASTRESULT r).g F.GROUP_STATE_LASTRESULT = r :=
  (State.g_p s F.GROUP_STATE_LASTRESULT r (by decide)).trans (Nat.mod_eq_of_lt hr)

/-! ### The word of GROUP_COMMIT -/

theorem groupWord_fields (op : Nat) (g i : BitVec 8) (h : op < 4) : getBits (groupWord op g i) 0 8 = g.toNat
    ∧ getBits (groupWord op g i) 8 8 = i.toNat ∧ getBits (groupWord op g i) 30 2 = op := by
  have hg : g.toNat < 2 ^ 8 := g.isLt
  have hi : i.toNat < 2 ^ 8 := i.isLt
  have ho : op < 2 ^ 2 := h
  unfold groupWord
  simp only [F.GROUP_COMMIT_OP, F.GROUP_COMMIT_INDEX, F.GROUP_COMMIT_GROUP]
  refine ⟨?_, ?_, ?_⟩
  · rw [getBits_setBits _ 0 8 _ (by decide), Nat.mod_eq_of_lt hg]
  · rw [getBits_setBits_above _ 0 8 _ 8 8 (by decide) (by decide), getBits_setBits _ 8 8 _ (by decide), Nat.mod_eq_of_lt hi]
  · rw [getBits_setBits_above _ 0 8 _ 30 2 (by decide) (by decide), getBits_setBits_above _ 8 8 _ 30 2 (by decide) (by decide),
      getBits_setBits _ 30 2 _ (by decide), Nat.mod_eq_of_lt ho]

variable {m : Master} {s : State} {g i : BitVec 8}

theorem exec_groupQuery (h : judge m A.GROUP_COMMIT (groupWord 0 g i) s = .ok) : exec (.groupQuery m g i) s
    = done (groupQuery m g.toNat i.toNat (accepted m A.GROUP_COMMIT (groupWord 0 g i) s)) := by
  obtain ⟨hg, hi, ho⟩ := groupWord_fields 0 g i (by decide)
  show done (regWrite m A.GROUP_COMMIT (groupWord 0 g i) s).1 = _
  rw [groupCommit_write h]
  unfold groupAccess
  rw [hg, hi, ho]
  rfl

theorem exec_groupCommit (h : judge m A.GROUP_COMMIT (groupWord 1 g i) s = .ok) : exec (.groupCommit m g i) s
    = done (groupCommit m g.toNat i.toNat (accepted m A.GROUP_COMMIT (groupWord 1 g i) s)) := by
  obtain ⟨hg, hi, ho⟩ := groupWord_fields 1 g i (by decide)
  show done (regWrite m A.GROUP_COMMIT (groupWord 1 g i) s).1 = _
  rw [groupCommit_write h]
  unfold groupAccess
  rw [hg, hi, ho]
  rfl

theorem exec_groupAbort {t : Time} (h : judge m A.GROUP_COMMIT (groupWord 2 g i) (s.atTime t) = .ok) :
    exec (.groupAbort m g i t) s
    = done (groupAbort m g.toNat i.toNat (accepted m A.GROUP_COMMIT (groupWord 2 g i) (s.atTime t))) := by
  obtain ⟨hg, hi, ho⟩ := groupWord_fields 2 g i (by decide)
  show done (regWrite m A.GROUP_COMMIT (groupWord 2 g i) (s.atTime t)).1 = _
  rw [groupCommit_write h]
  unfold groupAccess
  rw [hg, hi, ho]
  rfl

/-- The index of a phase fits the byte of INDEX. -/
theorem index_toNat (n : Fin 48) : (BitVec.ofNat 8 n.val).toNat = n.val := by
  rw [BitVec.toNat_ofNat]
  omega

theorem groupExists_phase (n : Fin 48) : groupExists 1 n.val = true := by simp [groupExists]

theorem exec_phaseCommit {n : Fin 48} (h : judge m A.GROUP_COMMIT (groupWord 1 1 (BitVec.ofNat 8 n.val)) s = .ok) :
    exec (.groupCommit m 1 (BitVec.ofNat 8 n.val)) s
      = done (groupCommit m 1 n.val (accepted m A.GROUP_COMMIT (groupWord 1 1 (BitVec.ofNat 8 n.val)) s)) := by
  have he := exec_groupCommit h
  rw [index_toNat] at he
  exact he

theorem exec_phaseAbort {n : Fin 48} {t : Time}
    (h : judge m A.GROUP_COMMIT (groupWord 2 1 (BitVec.ofNat 8 n.val)) (s.atTime t) = .ok) :
    exec (.groupAbort m 1 (BitVec.ofNat 8 n.val) t) s
      = done (groupAbort m 1 n.val (accepted m A.GROUP_COMMIT (groupWord 2 1 (BitVec.ofNat 8 n.val)) (s.atTime t))) := by
  have he := exec_groupAbort h
  rw [index_toNat] at he
  exact he

/-! ### Commits (R81 rules 4, 5) -/

/-- Nothing is staged: the commit has result 2. -/
theorem groupCommit_empty (m : Master) (g i : Nat) (s : State) (he : groupExists g i = true) (ha : s.isArmed g i = false)
    (hs : s.stagedOf g i = []) : groupCommit m g i s = (nameGroup g i s).p F.GROUP_STATE_LASTRESULT 2 := by
  unfold groupCommit
  simp [he, nameGroup_isArmed, ha, nameGroup_stagedOf, hs]

theorem groupCommit_invalid (m : Master) (g i : Nat) (s : State) (he : groupExists g i = true) (ha : s.isArmed g i = false)
    (hs : s.stagedOf g i ≠ []) (ho : (nameGroup g i s).groupOk g i = false) : groupCommit m g i s
      = (cfgRefuse m .grpInvalid A.GROUP_COMMIT (nameGroup g i s)).p F.GROUP_STATE_LASTRESULT 3 := by
  unfold groupCommit
  simp [he, nameGroup_isArmed, ha, nameGroup_stagedOf, hs, ho]

/-- A commit of a stopped block takes effect at once. -/
theorem groupCommit_stopped (m : Master) (g i : Nat) (s : State) (he : groupExists g i = true) (ha : s.isArmed g i = false)
    (hs : s.stagedOf g i ≠ []) (ho : (nameGroup g i s).groupOk g i = true) (hr : (nameGroup g i s).groupRuns g i = false) :
    groupCommit m g i s = applyGroup g i (nameGroup g i s) := by
  unfold groupCommit
  simp [he, nameGroup_isArmed, ha, nameGroup_stagedOf, hs, ho, hr]

/-- A commit of a running block other than a ring is armed. -/
theorem groupCommit_running (m : Master) (g i : Nat) (s : State) (he : groupExists g i = true) (ha : s.isArmed g i = false)
    (hs : s.stagedOf g i ≠ []) (ho : (nameGroup g i s).groupOk g i = true) (hr : (nameGroup g i s).groupRuns g i = true)
    (h2 : g ≠ 2) : groupCommit m g i s = { nameGroup g i s with img := { s.img with armed := s.img.armed ++ [⟨g, i, m, s.clock⟩] } } := by
  unfold groupCommit
  simp [he, nameGroup_isArmed, ha, nameGroup_stagedOf, hs, ho, hr, h2]

/-- Group 01h's check, at the state its commit names. -/
theorem groupOk_phase (s : State) (n : Fin 48) : (nameGroup 1 n.val s).groupOk 1 n.val
    = decide (s.sg 1 n.val (F.PHASE_DUTY_DUTY n.val) ≤ 16 * s.sg 1 n.val (F.PHASE_PERIOD_PERIOD n.val)) := by
  have hd : A.PHASE_DUTY n.val ≠ A.GROUP_STATE := by simp only [A.PHASE_DUTY, A.GROUP_STATE]; omega
  have hp : A.PHASE_PERIOD n.val ≠ A.GROUP_STATE := by simp only [A.PHASE_PERIOD, A.GROUP_STATE]; omega
  unfold State.groupOk
  rw [sg_congr (nameGroup_img 1 n.val s) 1 n.val (F.PHASE_DUTY_DUTY n.val) (nameGroup_word 1 n.val s _ hd),
    sg_congr (nameGroup_img 1 n.val s) 1 n.val (F.PHASE_PERIOD_PERIOD n.val) (nameGroup_word 1 n.val s _ hp)]
  rfl

theorem groupRuns_phase (s : State) (n : Fin 48) : (nameGroup 1 n.val s).groupRuns 1 n.val = s.phRuns n := by
  have ha : A.PHASE_ASSIGN n.val ≠ A.GROUP_STATE := by simp only [A.PHASE_ASSIGN, A.GROUP_STATE]; omega
  have hn : Fin.ofNat 48 n.val = n := Fin.ext (Nat.mod_eq_of_lt n.isLt)
  show (nameGroup 1 n.val s).phRuns (Fin.ofNat 48 n.val) = _
  rw [hn]
  exact phRuns_congr n (nameGroup_role _ _ s) (nameGroup_phase _ _ s) (nameGroup_rail _ _ s) (nameGroup_word 1 n.val s _ ha)

/-! ### A staged duty takes effect -/

/-- One member write of DUTY. -/
def dutyStage (n : Fin 48) (v : Nat) (m : Master) : Staged :=
  ⟨1, n.val, A.PHASE_DUTY n.val, (F.PHASE_DUTY_DUTY n.val).lo, (F.PHASE_DUTY_DUTY n.val).w, v, m⟩

/-- With DUTY alone staged, the check reads it and the live PERIOD. -/
theorem sg_dutyStage (s : State) (n : Fin 48) (v : Nat) (m : Master) (hv : v < 2 ^ (F.PHASE_DUTY_DUTY n.val).w)
    (hs : s.stagedOf 1 n.val = [dutyStage n v m]) : s.sg 1 n.val (F.PHASE_DUTY_DUTY n.val) = v
      ∧ s.sg 1 n.val (F.PHASE_PERIOD_PERIOD n.val) = s.g (F.PHASE_PERIOD_PERIOD n.val) := by
  have hne : (dutyStage n v m).addr ≠ (F.PHASE_PERIOD_PERIOD n.val).addr := by
    simp only [dutyStage, A.PHASE_DUTY, F.PHASE_PERIOD_PERIOD, A.PHASE_PERIOD]
    omega
  have hfit : (F.PHASE_DUTY_DUTY n.val).lo + (F.PHASE_DUTY_DUTY n.val).w ≤ 32 := by simp only [F.PHASE_DUTY_DUTY]; omega
  have heq : (dutyStage n v m).addr = (F.PHASE_DUTY_DUTY n.val).addr := rfl
  unfold State.sg State.staged State.g
  rw [hs]
  constructor
  · rw [List.foldl_cons, List.foldl_nil, if_pos heq]
    exact (getBits_setBits _ _ _ v hfit).trans (Nat.mod_eq_of_lt hv)
  · rw [List.foldl_cons, List.foldl_nil, if_neg hne]

/-- The staging and the armed commits that an application of a group leaves. -/
def ImageMgr.without (x : ImageMgr) (g i : Nat) : ImageMgr :=
  { x with staging := x.staging.filter fun y => !(y.group == g && y.index == i)
           armed := x.armed.filter fun y => !(y.group == g && y.index == i) }

theorem putStaging_one (s : State) (g i : Nat) (y : Staged) (hs : s.stagedOf g i = [y]) :
    putStaging g i s = { s.p ⟨y.addr, y.lo, y.w⟩ y.val with img := s.img.without g i } := by
  unfold putStaging
  rw [hs]
  rfl

theorem stagedOf_without {s : State} {x : ImageMgr} {g i : Nat} (h : s.img.staging = (x.without g i).staging) :
    s.stagedOf g i = [] := by
  unfold State.stagedOf
  rw [h]
  simp [ImageMgr.without, List.filter_eq_nil_iff]

theorem isArmed_without {s : State} {x : ImageMgr} {g i : Nat} (h : s.img.armed = (x.without g i).armed) :
    s.isArmed g i = false := by
  unfold State.isArmed
  rw [h, List.any_eq_false]
  intro y hy
  simpa [imp_iff_not_or] using (List.mem_filter.mp hy).2

/-- A commit of group 01h that has only a duty staged puts it into the register; its result is put where GROUP_STATE names the phase. -/
theorem applyGroup_duty (s : State) (n : Fin 48) (v : Nat) (m : Master) (hs : s.stagedOf 1 n.val = [dutyStage n v m]) :
    applyGroup 1 n.val s = groupResult 1 n.val 1
      { s.p (F.PHASE_DUTY_DUTY n.val) v with img := s.img.without 1 n.val } := by
  unfold applyGroup
  rw [putStaging_one s 1 n.val _ hs]
  rfl

@[simp] theorem groupResult_img (g i r : Nat) (s : State) : (groupResult g i r s).img = s.img := by
  unfold groupResult
  split <;> rfl

theorem groupResult_word (g i r : Nat) (s : State) (a : Nat) (h : a ≠ A.GROUP_STATE) :
    (groupResult g i r s).word a = s.word a := by
  unfold groupResult
  split
  · exact State.word_p_ne s _ _ a h
  · rfl

theorem applyGroup_duty_g (s : State) (n : Fin 48) (v : Nat) (m : Master) (hv : v < 2 ^ (F.PHASE_DUTY_DUTY n.val).w)
    (hs : s.stagedOf 1 n.val = [dutyStage n v m]) : (applyGroup 1 n.val s).g (F.PHASE_DUTY_DUTY n.val) = v := by
  have hne : A.PHASE_DUTY n.val ≠ A.GROUP_STATE := by simp only [A.PHASE_DUTY, A.GROUP_STATE]; omega
  rw [applyGroup_duty s n v m hs]
  unfold State.g
  refine (congrArg (getBits · _ _) (groupResult_word 1 n.val 1 _ _ hne)).trans ?_
  exact (State.g_p s (F.PHASE_DUTY_DUTY n.val) v (by simp only [F.PHASE_DUTY_DUTY]; omega)).trans (Nat.mod_eq_of_lt hv)


/-! ### Aborts (R81 rule 7) -/

theorem groupAbort_empty (m : Master) (g i : Nat) (s : State) (he : groupExists g i = true) (hs : s.stagedOf g i = [])
    (ha : s.isArmed g i = false) : groupAbort m g i s = (nameGroup g i s).p F.GROUP_STATE_LASTRESULT 2 := by
  unfold groupAbort
  simp [he, nameGroup_isArmed, ha, nameGroup_stagedOf, hs]

/-- Something is staged or armed: both are discarded, with result 4. -/
theorem groupAbort_cancels (m : Master) (g i : Nat) (s : State) (he : groupExists g i = true)
    (h : s.stagedOf g i ≠ [] ∨ s.isArmed g i = true) (h2 : g ≠ 2) :
    groupAbort m g i s = (cancelGroup g i (nameGroup g i s)).p F.GROUP_STATE_LASTRESULT 4 := by
  have hc : ((s.stagedOf g i).isEmpty && !s.isArmed g i) = false := by
    rcases h with h | h
    · simp [h]
    · simp [h]
  unfold groupAbort
  simp [he, nameGroup_isArmed, nameGroup_stagedOf, hc, h2]

/-- What a cancelled commit of a group is kept as: the commit, the values staged for it, the instant of the abort. -/
def State.cancelledOf (s : State) (g i : Nat) : List Cancelled :=
  (s.img.armed.filter fun y => y.group == g && y.index == i).map fun y => ⟨y, s.stagedOf g i, s.clock⟩

theorem cancelGroup_eq (g i : Nat) (s : State) : cancelGroup g i s = { s with img := { s.img.without g i with
    cancelled := (s.img.cancelled.filter fun y => !(y.commit.group == g && y.commit.index == i)) ++ s.cancelledOf g i } } := by
  unfold cancelGroup State.cancelledOf
  simp only [Bool.not_not]
  rfl

/-- Of the cancelled commits of a group, an abort leaves those it cancelled itself. -/
theorem cancelledOf_kept (s : State) (g i : Nat) :
    ((s.img.cancelled.filter fun y => !(y.commit.group == g && y.commit.index == i)) ++ s.cancelledOf g i).filter
      (fun y => y.commit.group == g && y.commit.index == i) = s.cancelledOf g i := by
  have hold : ((s.img.cancelled.filter fun y => !(y.commit.group == g && y.commit.index == i)).filter
      fun y => y.commit.group == g && y.commit.index == i) = [] := by
    rw [List.filter_filter, List.filter_eq_nil_iff]
    intro y _
    cases y.commit.group == g && y.commit.index == i <;> decide
  have hown : (s.cancelledOf g i).filter (fun y => y.commit.group == g && y.commit.index == i) = s.cancelledOf g i := by
    rw [List.filter_eq_self]
    intro y hy
    obtain ⟨c, hc, rfl⟩ := List.mem_map.mp hy
    exact (List.mem_filter.mp hc).2
  rw [List.filter_append, hold, hown, List.nil_append]

/-! ### The boundary and a late abort (R81 rule 7) -/

section Boundary

variable {t : State} {n : Fin 48} {x : Cancelled}

/-- The abort came in time: the boundary finds nothing to apply. -/
theorem applyDue_timely (ha : t.img.armed = []) (hc : t.img.cancelled = [x]) (hg : x.commit.group = 1)
    (hi : x.commit.index = n.val) (hx : t.atLeast ns35 x.at_ = true) :
    applyDue ns35 1 n.val t = { t with img := { t.img with cancelled := [] } } := by
  have hr : reviveLate ns35 1 n.val t = { t with img := { t.img with cancelled := [] } } := by
    unfold reviveLate State.lateAbort
    simp [hc, hg, hi, hx, abortLead]
  unfold applyDue State.isDue
  rw [hr]
  simp [ha]

/-- The abort came too late: the commit it cancelled stands again with its values. -/
theorem reviveLate_late (hc : t.img.cancelled = [x]) (hg : x.commit.group = 1) (hi : x.commit.index = n.val)
    (hx : t.atLeast ns35 x.at_ = false) (hat : t.atLeast ns35 x.commit.at_ = true) : reviveLate ns35 1 n.val t
      = { t with img := { t.img with cancelled := [], staging := x.values ++ t.img.staging, armed := t.img.armed ++ [x.commit] } } := by
  unfold reviveLate State.lateAbort
  simp [hc, hg, hi, hx, hat, abortLead]

theorem applyDue_late {v : Nat} {m : Master} (hs : t.stagedOf 1 n.val = []) (hc : t.img.cancelled = [x])
    (hg : x.commit.group = 1) (hi : x.commit.index = n.val) (hv : v < 2 ^ (F.PHASE_DUTY_DUTY n.val).w)
    (hval : x.values = [dutyStage n v m]) (hx : t.atLeast ns35 x.at_ = false) (hat : t.atLeast ns35 x.commit.at_ = true) :
    (applyDue ns35 1 n.val t).g (F.PHASE_DUTY_DUTY n.val) = v ∧ (applyDue ns35 1 n.val t).isArmed 1 n.val = false := by
  obtain ⟨y, hy⟩ : ∃ y, y = reviveLate ns35 1 n.val t := ⟨_, rfl⟩
  have hr := hy.trans (reviveLate_late hc hg hi hx hat)
  have hst : y.stagedOf 1 n.val = [dutyStage n v m] := by
    have hs' : (t.img.staging.filter fun z => z.group == 1 && z.index == n.val) = [] := hs
    rw [hr]
    unfold State.stagedOf
    dsimp only
    rw [List.filter_append, hs', hval]
    simp [dutyStage]
  have hdue : y.isDue ns35 1 n.val = true := by
    have hat' : y.atLeast ns35 x.commit.at_ = true := by
      rw [hr]
      exact hat
    have harm : y.img.armed = t.img.armed ++ [x.commit] := by rw [hr]
    unfold State.isDue
    rw [harm]
    simp [hg, hi, hat']
  have happly : applyDue ns35 1 n.val t = applyGroup 1 n.val y := by
    unfold applyDue
    rw [← hy]
    exact if_pos hdue
  rw [happly]
  refine ⟨applyGroup_duty_g y n v m hv hst, isArmed_without (x := y.img) ?_⟩
  rw [applyGroup_duty y n v m hst, groupResult_img]

end Boundary

/-! ### The writes of GROUP_COMMIT -/

section Writes

variable (m : Master) (s : State)

theorem accepted_stagedOf (a : Nat) (w : Word) (g i : Nat) : (accepted m a w s).stagedOf g i = s.stagedOf g i :=
  stagedOf_congr (accepted_img m a w s) g i

theorem accepted_isArmed (a : Nat) (w : Word) (g i : Nat) : (accepted m a w s).isArmed g i = s.isArmed g i :=
  isArmed_congr (accepted_img m a w s) g i

/-- The registers of a phase, and its ASSIGN, are none that a router event writes. -/
theorem accepted_phaseWord (a : Nat) (w : Word) (n : Fin 48) (b : Nat) (hb : b = A.PHASE_DUTY n.val ∨ b = A.PHASE_PERIOD n.val
    ∨ b = A.PHASE_ASSIGN n.val) : (accepted m a w s).word b = s.word b := by
  refine accepted_word m a w s b (not_routerWord_of_lt ?_)
  rcases hb with rfl | rfl | rfl
  · simp only [A.PHASE_DUTY]; omega
  · simp only [A.PHASE_PERIOD]; omega
  · simp only [A.PHASE_ASSIGN]; omega

theorem accepted_phRuns (a : Nat) (w : Word) (n : Fin 48) : (accepted m a w s).phRuns n = s.phRuns n :=
  phRuns_congr n (accepted_role m a w s) (accepted_phase m a w s) (accepted_rail m a w s)
    (accepted_phaseWord m s a w n _ (.inr (.inr rfl)))

theorem accepted_sg (a : Nat) (w : Word) (n : Fin 48) :
    (accepted m a w s).sg 1 n.val (F.PHASE_DUTY_DUTY n.val) = s.sg 1 n.val (F.PHASE_DUTY_DUTY n.val)
      ∧ (accepted m a w s).sg 1 n.val (F.PHASE_PERIOD_PERIOD n.val) = s.sg 1 n.val (F.PHASE_PERIOD_PERIOD n.val) :=
  ⟨sg_congr (accepted_img m a w s) 1 n.val _ (accepted_phaseWord m s a w n _ (.inl rfl)),
    sg_congr (accepted_img m a w s) 1 n.val _ (accepted_phaseWord m s a w n _ (.inr (.inl rfl)))⟩

/-- A query names a group that exists, and is refused for one that does not. -/
theorem groupQuery_effect (z : State) (g i : BitVec 8) :
    if groupExists g.toNat i.toNat then (groupQuery m g.toNat i.toNat z).g F.GROUP_STATE_GROUP = g.toNat
        ∧ (groupQuery m g.toNat i.toNat z).g F.GROUP_STATE_INDEX = i.toNat
        ∧ OnlyWords (groupQuery m g.toNat i.toNat z) z [A.GROUP_STATE]
      else OnlyWords (groupQuery m g.toNat i.toNat z) z [A.CFGERR, A.CFGERR_COUNT]
        ∧ (groupQuery m g.toNat i.toNat z).g F.CFGERR_COUNT_COUNT = incHold 16 (z.g F.CFGERR_COUNT_COUNT) := by
  obtain ⟨hg, hi⟩ := nameGroup_fields g.toNat i.toNat z g.isLt i.isLt
  unfold groupQuery
  split
  · exact ⟨hg, hi, nameGroup_onlyWords _ _ z⟩
  · exact ⟨cfgRefuse_onlyWords m .range _ z, cfgRefuse_count m .range _ z⟩

/-- A commit or an abort that finds nothing staged or armed has result 2. -/
theorem result2_effect (z : State) (g i : Nat) :
    ((nameGroup g i z).p F.GROUP_STATE_LASTRESULT 2).g F.GROUP_STATE_LASTRESULT = 2
      ∧ OnlyWords ((nameGroup g i z).p F.GROUP_STATE_LASTRESULT 2) z [A.GROUP_STATE] :=
  ⟨lastresult_p _ 2 (by decide), (nameGroup_onlyWords g i z).p _ _ (List.mem_singleton.mpr rfl)⟩

/-- A commit that fails its check is refused with result 3. -/
theorem result3_effect (z : State) (g i : Nat) :
    let u := (cfgRefuse m .grpInvalid A.GROUP_COMMIT (nameGroup g i z)).p F.GROUP_STATE_LASTRESULT 3
    u.g F.GROUP_STATE_LASTRESULT = 3 ∧ OnlyWords u z [A.GROUP_STATE, A.CFGERR, A.CFGERR_COUNT] := by
  obtain ⟨hn, hw⟩ := nameGroup_onlyWords g i z
  have ho : OnlyWords (nameGroup g i z) z [A.GROUP_STATE, A.CFGERR, A.CFGERR_COUNT] :=
    ⟨hn, fun a ha => hw a fun h => ha (List.mem_cons.mpr (.inl (List.mem_singleton.mp h)))⟩
  exact ⟨lastresult_p _ 3 (by decide), (ho.cfgRefuse m .grpInvalid _ (by simp) (by simp)).p _ _ (by simp [F.GROUP_STATE_LASTRESULT])⟩

theorem applyGroup_keep {β : Type} (π : State → β) (hp : ∀ s f v, π (State.p s f v) = π s)
    (hi : ∀ (s : State) i, π { s with img := i } = π s) (i : Nat) : π (applyGroup 1 i s) = π s := by
  have hr : ∀ t, π (groupResult 1 i 1 t) = π t := by
    intro t
    unfold groupResult
    split
    · exact hp t _ _
    · rfl
  exact (hr _).trans (putStaging_keep π hp hi 1 i s)

theorem groupResult_named (y : State) (g i r : Nat) (hg : y.g F.GROUP_STATE_GROUP = g) (hi : y.g F.GROUP_STATE_INDEX = i) :
    groupResult g i r y = y.p F.GROUP_STATE_LASTRESULT r := by
  unfold groupResult
  rw [if_pos (by simp [hg, hi])]

theorem State.img_withImg (y : State) (x : ImageMgr) : ({ y with img := x } : State).img = x := rfl

theorem State.phase_withImg (y : State) (x : ImageMgr) : ({ y with img := x } : State).phase = y.phase := rfl

theorem State.word_withImg (y : State) (x : ImageMgr) (a : Nat) : ({ y with img := x } : State).word a = y.word a := rfl

theorem State.g_withImg (y : State) (x : ImageMgr) (f : Fld) : ({ y with img := x } : State).g f = y.g f := rfl

/-- A duty that takes effect where GROUP_STATE names its phase has result 1. -/
theorem applyGroup_duty_result (y : State) (n : Fin 48) (v : Nat) (m' : Master) (hs : y.stagedOf 1 n.val = [dutyStage n v m'])
    (hg : y.g F.GROUP_STATE_GROUP = 1) (hi : y.g F.GROUP_STATE_INDEX = n.val) :
    (applyGroup 1 n.val y).g F.GROUP_STATE_LASTRESULT = 1 := by
  have hne : A.GROUP_STATE ≠ A.PHASE_DUTY n.val := by simp only [A.PHASE_DUTY, A.GROUP_STATE]; omega
  have hg' := (State.g_p_addr y (F.PHASE_DUTY_DUTY n.val) F.GROUP_STATE_GROUP v hne).trans hg
  have hi' := (State.g_p_addr y (F.PHASE_DUTY_DUTY n.val) F.GROUP_STATE_INDEX v hne).trans hi
  rw [applyGroup_duty y n v m' hs, groupResult_named _ 1 n.val 1 ((State.g_withImg _ _ _).trans hg')
    ((State.g_withImg _ _ _).trans hi')]
  exact lastresult_p _ 1 (by decide)

/-- A commit of a stopped phase with a duty staged puts it in the register, with result 1. -/
theorem dutyCommit_effect (z : State) (n : Fin 48) (v : Nat) (m' : Master) (hv : v < 2 ^ (F.PHASE_DUTY_DUTY n.val).w)
    (hs : z.stagedOf 1 n.val = [dutyStage n v m']) :
    let u := applyGroup 1 n.val (nameGroup 1 n.val z)
    u.g (F.PHASE_DUTY_DUTY n.val) = v ∧ u.stagedOf 1 n.val = [] ∧ u.g F.GROUP_STATE_LASTRESULT = 1
      ∧ u.rail = z.rail ∧ u.phase = z.phase ∧ u.queue = z.queue := by
  obtain ⟨hg, hi⟩ := nameGroup_fields 1 n.val z (by decide) (by omega)
  have hs' := (nameGroup_stagedOf 1 n.val 1 n.val z).trans hs
  refine ⟨applyGroup_duty_g _ n v m' hv hs', stagedOf_without (x := (nameGroup 1 n.val z).img) ?_,
    applyGroup_duty_result _ n v m' hs' hg hi, ?_, ?_, ?_⟩
  · rw [applyGroup_duty _ n v m' hs', groupResult_img]
  · exact (applyGroup_keep _ (·.rail) (fun _ _ _ => rfl) (fun _ _ => rfl) _).trans (nameGroup_rail ..)
  · exact (applyGroup_keep _ (·.phase) (fun _ _ _ => rfl) (fun _ _ => rfl) _).trans (nameGroup_phase ..)
  · exact (applyGroup_keep _ (·.queue) (fun _ _ _ => rfl) (fun _ _ => rfl) _).trans (nameGroup_queue ..)

/-- An abort leaves nothing staged or armed of the group, keeps what was armed with its instant, and touches no phase. -/
theorem abort_effect (z : State) (n : Fin 48) :
    let u := (cancelGroup 1 n.val (nameGroup 1 n.val z)).p F.GROUP_STATE_LASTRESULT 4
    u.stagedOf 1 n.val = [] ∧ u.isArmed 1 n.val = false ∧ u.g F.GROUP_STATE_LASTRESULT = 4
      ∧ u.word (A.PHASE_DUTY n.val) = z.word (A.PHASE_DUTY n.val) ∧ u.phase = z.phase
      ∧ (u.img.cancelled.filter fun y => y.commit.group == 1 && y.commit.index == n.val) = z.cancelledOf 1 n.val := by
  have hne : A.PHASE_DUTY n.val ≠ A.GROUP_STATE := by simp only [A.PHASE_DUTY, A.GROUP_STATE]; omega
  obtain ⟨y, hy⟩ : ∃ y, y = nameGroup 1 n.val z := ⟨_, rfl⟩
  have hkept : y.cancelledOf 1 n.val = z.cancelledOf 1 n.val := by
    unfold State.cancelledOf
    rw [hy, nameGroup_img, nameGroup_stagedOf, nameGroup_clock]
  dsimp only
  rw [← hy, cancelGroup_eq]
  refine ⟨stagedOf_without (x := y.img) ?_, isArmed_without (x := y.img) ?_, lastresult_p _ 4 (by decide), ?_, ?_, ?_⟩
  · rw [State.p_img]
  · rw [State.p_img]
  · rw [State.word_p_ne _ F.GROUP_STATE_LASTRESULT _ _ hne, ← nameGroup_word 1 n.val z _ hne, ← hy]
    rfl
  · rw [State.p_phase, ← nameGroup_phase 1 n.val z, ← hy]
  · rw [State.p_img, ← hkept]
    exact cancelledOf_kept y 1 n.val

end Writes

/-- Settles O54: the write of GROUP_COMMIT is one of three accesses, whose outcomes the lemmas above give by what is staged, armed
and running; what a late abort was too late for the boundary puts back before it applies. -/
theorem groupCommandsAct : Obligations.GroupCommandsAct := by
  unfold Obligations.GroupCommandsAct
  refine ⟨fun s m g i hj => ⟨_, exec_groupQuery hj, ?_⟩, fun s m g i hj he ha hs => ⟨_, exec_groupCommit hj, ?_⟩,
    fun s m n hj ha hs ho => ⟨_, exec_phaseCommit hj, ?_⟩, fun s m n v hj ha hr hv hs ho => ⟨_, exec_phaseCommit hj, ?_⟩,
    fun s m n hj ha hr hs ho => ⟨_, exec_phaseCommit hj, ?_⟩, fun s m n t hj hs => ⟨_, exec_phaseAbort hj, ?_⟩,
    fun s m n t c hj hc => ⟨_, exec_phaseAbort hj, ?_⟩, fun s m g i t hj he hs ha => ⟨_, exec_groupAbort hj, ?_⟩,
    fun s n x v ha hs hc hg hi hv hval hat => ?_⟩
  · have hcount := accepted_g m A.GROUP_COMMIT (groupWord 0 g i) s F.CFGERR_COUNT_COUNT (not_routerWord_of_lt (by decide))
    rw [← hcount]
    exact groupQuery_effect m _ g i
  · rw [groupCommit_empty m _ _ _ he (by rwa [accepted_isArmed]) (by rwa [accepted_stagedOf])]
    exact result2_effect _ _ _
  · obtain ⟨hd, hp⟩ := accepted_sg m s A.GROUP_COMMIT (groupWord 1 1 (BitVec.ofNat 8 n.val)) n
    rw [groupCommit_invalid m 1 n.val _ (groupExists_phase n) (by rwa [accepted_isArmed])
      (by rwa [accepted_stagedOf]) (by rw [groupOk_phase, hd, hp]; simp; omega)]
    exact result3_effect m _ 1 n.val
  · obtain ⟨m', hs⟩ := hs
    obtain ⟨hd, hp⟩ := accepted_sg m s A.GROUP_COMMIT (groupWord 1 1 (BitVec.ofNat 8 n.val)) n
    obtain ⟨hd', hp'⟩ := sg_dutyStage s n v m' hv hs
    have hz : ∀ w, (accepted m A.GROUP_COMMIT w s).stagedOf 1 n.val = [dutyStage n v m'] :=
      fun w => (accepted_stagedOf m s _ w 1 n.val).trans hs
    rw [groupCommit_stopped m 1 n.val _ (groupExists_phase n) (by rwa [accepted_isArmed])
      (by rw [hz]; simp) (by rw [groupOk_phase, hd, hp, hd', hp']; simpa using ho)
      (by rw [groupRuns_phase, accepted_phRuns, hr])]
    obtain ⟨hg, hst, hres, hra, hph, hq⟩ := dutyCommit_effect _ n v m' hv (hz _)
    exact ⟨hg, hst, hres, hra.trans (accepted_rail ..), hph.trans (accepted_phase ..), hq.trans (accepted_queue ..)⟩
  · obtain ⟨hd, hp⟩ := accepted_sg m s A.GROUP_COMMIT (groupWord 1 1 (BitVec.ofNat 8 n.val)) n
    rw [groupCommit_running m 1 n.val _ (groupExists_phase n) (by rwa [accepted_isArmed])
      (by rwa [accepted_stagedOf]) (by rw [groupOk_phase, hd, hp]; simpa using ho)
      (by rw [groupRuns_phase, accepted_phRuns, hr]) (by decide), accepted_img, accepted_clock]
    have hne : A.PHASE_DUTY n.val ≠ A.GROUP_STATE := by simp only [A.PHASE_DUTY, A.GROUP_STATE]; omega
    exact ⟨State.img_withImg _ _, (State.word_withImg _ _ _).trans ((nameGroup_word 1 n.val _ _ hne).trans
      (accepted_phaseWord m s _ _ n _ (.inl rfl))), (State.phase_withImg _ _).trans ((nameGroup_phase ..).trans (accepted_phase ..))⟩
  · rw [groupAbort_cancels m 1 n.val _ (groupExists_phase n)
      (.inl (by rw [accepted_stagedOf, stagedOf_congr (State.atTime_img s t)]; exact hs)) (by decide)]
    obtain ⟨hst, har, hres, hw, hph, -⟩ := abort_effect (accepted m A.GROUP_COMMIT (groupWord 2 1 (BitVec.ofNat 8 n.val)) (s.atTime t)) n
    exact ⟨hst, har, hres, hw.trans ((accepted_phaseWord m _ _ _ n _ (.inl rfl)).trans (State.atTime_word s t _)),
      hph.trans ((accepted_phase ..).trans (State.atTime_phase s t))⟩
  · have hcm := (List.mem_filter.mp (hc ▸ List.mem_singleton_self c : c ∈ s.img.armed.filter _))
    have harm : s.isArmed 1 n.val = true := List.any_eq_true.mpr ⟨c, hcm⟩
    rw [groupAbort_cancels m 1 n.val _ (groupExists_phase n)
      (.inr (by rw [accepted_isArmed, isArmed_congr (State.atTime_img s t)]; exact harm)) (by decide)]
    obtain ⟨-, har, hres, -, -, hkept⟩ := abort_effect (accepted m A.GROUP_COMMIT (groupWord 2 1 (BitVec.ofNat 8 n.val)) (s.atTime t)) n
    refine ⟨har, hres, hkept.trans ?_⟩
    unfold State.cancelledOf
    rw [accepted_img, accepted_clock, accepted_stagedOf, State.atTime_img, stagedOf_congr (State.atTime_img s t), hc]
    rfl
  · rw [groupAbort_empty m _ _ _ he (by rw [accepted_stagedOf, stagedOf_congr (State.atTime_img s t)]; exact hs)
      (by rw [accepted_isArmed, isArmed_congr (State.atTime_img s t)]; exact ha)]
    exact result2_effect _ _ _
  · obtain ⟨m', hval⟩ := hval
    split
    next hx => exact applyDue_timely ha hc hg hi hx
    next hx => exact applyDue_late hs hc hg hi hv hval (by simpa using hx) hat

end Sys2Proof.Machine
end

section
/-!
SUPPORT. What the operations on the non-volatile store leave alone (R329, R330), and what the checks of an image rest on (R71).
-/

open Sys2Proof Sys2Proof.Machine

namespace Sys2Proof.Machine

/-! ### Ledger records beside the rest of the store -/

/-- A projection that sees nothing of a Ledger record on its way: registers, Plates, the free-value counter, and of the store Q15
and what numbers its records. -/
structure LogFrame {β : Type} (π : State → β) : Prop where
  setWord : ∀ s a w, π (State.setWord s a w) = π s
  modPl : ∀ s p f, π (State.modPl s p f) = π s
  free : ∀ (s : State) n, π { s with free := n } = π s
  log : ∀ (s : State) q w d n r c, π { s with nv := { s.nv with
    q15 := q, waiting := w, deferred := d, nextSeq := n, dropped := r, disc := c } } = π s

/-- One that sees nothing of the sectors' wear either. -/
structure StoreFrame {β : Type} (π : State → β) : Prop extends LogFrame π where
  wear : ∀ (s : State) x y z, π { s with nv := { s.nv with spare := x, remaps := y, writes := z } } = π s

section Log

variable {β : Type} {π : State → β} (h : LogFrame π)
include h

theorem LogFrame.p_eq (s : State) (f : Fld) (v : Nat) : π (s.p f v) = π s := h.setWord s _ _

theorem LogFrame.q15Put_eq (w : NvWrite) (s : State) : π (q15Put w s) = π s := by
  unfold q15Put
  split
  · exact (routerEdge_keep π h.setWord h.modPl _ _ _).trans (h.log s _ _ s.nv.deferred s.nv.nextSeq s.nv.dropped s.nv.disc)
  · exact h.log s s.nv.q15 _ s.nv.deferred s.nv.nextSeq s.nv.dropped s.nv.disc

theorem LogFrame.queueRecord_eq (r : LedgerRec) (pin res : Bool) (s : State) : π (queueRecord r pin res s) = π s := by
  unfold queueRecord
  split
  · exact h.log s s.nv.q15 s.nv.waiting _ s.nv.nextSeq s.nv.dropped s.nv.disc
  · split
    · exact (h.setWord _ _ _).trans ((h.setWord _ _ _).trans ((h.setWord _ _ _).trans
        (h.log s s.nv.q15 s.nv.waiting s.nv.deferred s.nv.nextSeq _ s.nv.disc)))
    · exact (h.q15Put_eq _ _).trans (h.log s s.nv.q15 s.nv.waiting s.nv.deferred _ _ _)

theorem LogFrame.record_eq (t : Nat) (ev : List Byte) (s : State) : π (record t ev s) = π s := h.queueRecord_eq _ _ _ s

/-- An uncorrectable word found is counted and recorded. -/
theorem LogFrame.uncorrFound_eq (sector word : Nat) (s : State) : π (uncorrFound sector word s) = π s :=
  (h.record_eq _ _ _).trans ((h.free _ _).trans ((h.setWord _ _ _).trans (h.setWord s _ _)))

end Log

section Store

variable {β : Type} {π : State → β} (h : StoreFrame π)
include h

theorem StoreFrame.putWrites_eq (sector n : Nat) (s : State) : π (putWrites sector n s) = π s :=
  h.wear s s.nv.spare s.nv.remaps _

theorem StoreFrame.remap_eq (sector : Nat) (s : State) : π (remap sector s) = π s := by
  unfold remap
  split
  · rfl
  · exact (h.putWrites_eq _ _ _).trans ((h.record_eq _ _ _).trans ((h.wear s.draw.2 _ _ s.nv.writes).trans (h.free s _)))

theorem StoreFrame.sectorWrite_eq (sector : Nat) (s : State) : π (sectorWrite sector s) = π s := by
  unfold sectorWrite
  dsimp only
  split
  · exact h.remap_eq sector s
  · exact h.putWrites_eq _ _ s

theorem StoreFrame.bankSector_eq (v : Bool) (s : State) : π (bankSector v s) = π s := by
  unfold bankSector
  dsimp only
  split
  · exact (h.sectorWrite_eq _ _).trans (h.free s _)
  · exact (h.remap_eq _ _).trans (h.free s _)

theorem StoreFrame.correctWords_eq (base : Nat) (l : List Nat) (s : State) : π (correctWords base l s) = π s :=
  forEach_keep π _ (fun s _ => (h.setWord _ _ _).trans (h.sectorWrite_eq _ s)) l s

end Store

/-! ### Registers the store leaves -/

theorem record_word (t : Nat) (ev : List Byte) (s : State) (a : Nat) (h : ¬ ReportWord a) :
    (record t ev s).word a = s.word a :=
  queueRecord_word _ _ _ s a (fun x => h (.inl x)) (fun x => h (.inr (.inr (.inl x)))) fun x => h (.inr (.inr (.inr ⟨15, x⟩)))

theorem remap_word (sector : Nat) (s : State) (a : Nat) (h : ¬ ReportWord a) : (remap sector s).word a = s.word a := by
  unfold remap
  split
  · rfl
  · exact record_word _ _ _ a h

theorem sectorWrite_word (sector : Nat) (s : State) (a : Nat) (h : ¬ ReportWord a) :
    (sectorWrite sector s).word a = s.word a := by
  unfold sectorWrite
  dsimp only
  split
  · exact remap_word sector s a h
  · rfl

theorem sectorWrite_g (sector : Nat) (s : State) (f : Fld) (h : ¬ ReportWord f.addr) :
    (sectorWrite sector s).g f = s.g f := congrArg (getBits · _ _) (sectorWrite_word sector s _ h)

theorem remap_g (sector : Nat) (s : State) (f : Fld) (h : ¬ ReportWord f.addr) :
    (remap sector s).g f = s.g f := congrArg (getBits · _ _) (remap_word sector s _ h)

/-- Registers below the fault manager's block but LG_INFO are none that a report writes. -/
theorem not_reportWord_of_lt {a : Nat} (h : a < 0x150000) (hl : a ≠ A.LG_INFO) : ¬ ReportWord a := by
  rintro (e | e | e | ⟨q, e⟩)
  · exact not_routerWord_of_lt (by omega) e
  · rw [e] at h
    exact absurd h (by decide)
  · exact hl e
  · simp only [A.Q_STAT] at e
    omega

/-! ### Wear of a sector (R330) -/

/-- Below its limit the write is counted. -/
theorem sectorWrite_counts (k : Nat) (s : State) (h : SMap.get (fun _ => 0) s.nv.writes k + 1 < writeLimit) :
    sectorWrite k s = putWrites k (SMap.get (fun _ => 0) s.nv.writes k + 1) s := by
  unfold sectorWrite
  dsimp only
  rw [if_neg (by simp [Nat.not_le.mpr h]), Nat.min_eq_right (le_of_lt h)]

theorem putWrites_get (k n : Nat) (s : State) : SMap.get (fun _ => 0) (putWrites k n s).nv.writes k = n :=
  (SMap.get_set _ _ _ _ _).trans (if_pos rfl)

/-- With a spare left, the sector takes it and counts anew. -/
theorem remap_wear (k : Nat) (s : State) (h : s.nv.spare ≠ 0) : (remap k s).nv.spare = s.nv.spare - 1
    ∧ (remap k s).nv.remaps = s.nv.remaps + 1 ∧ SMap.get (fun _ => 0) (remap k s).nv.writes k = 0 := by
  have hs : LogFrame (·.nv.spare) := ⟨fun _ _ _ => rfl, fun _ _ _ => rfl, fun _ _ => rfl, fun _ _ _ _ _ _ _ => rfl⟩
  have hr : LogFrame (·.nv.remaps) := ⟨fun _ _ _ => rfl, fun _ _ _ => rfl, fun _ _ => rfl, fun _ _ _ _ _ _ _ => rfl⟩
  unfold remap
  rw [if_neg h]
  exact ⟨hs.record_eq _ _ _, hr.record_eq _ _ _, putWrites_get k 0 _⟩

/-! ### What the checks of a slot rest on (R71) -/

/-- The straps, the secure bank and the retired lanes: what the full check of a slot reads beside its content. -/
def State.checkBasis (s : State) : Supplies × SecureBank × Health := (s.sup, s.gate.bank, s.nv.health)

theorem storeFrame_checkBasis : StoreFrame State.checkBasis where
  setWord := fun _ _ _ => rfl
  modPl := fun _ _ _ => rfl
  free := fun _ _ => rfl
  log := fun _ _ _ _ _ _ _ => rfl
  wear := fun _ _ _ _ => rfl

theorem storeFrame_img : StoreFrame (·.img) where
  setWord := fun _ _ _ => rfl
  modPl := fun _ _ _ => rfl
  free := fun _ _ => rfl
  log := fun _ _ _ _ _ _ _ => rfl
  wear := fun _ _ _ _ => rfl

theorem storeFrame_railPhase : StoreFrame fun s => (s.rail, s.phase) where
  setWord := fun _ _ _ => rfl
  modPl := fun _ _ _ => rfl
  free := fun _ _ => rfl
  log := fun _ _ _ _ _ _ _ => rfl
  wear := fun _ _ _ _ => rfl

theorem fullCheck_congr {s t : State} (h : s.checkBasis = t.checkBasis) (sl : Slot) : fullCheck s sl = fullCheck t sl := by
  simp only [State.checkBasis, Prod.mk.injEq] at h
  obtain ⟨hsup, hbank, hhealth⟩ := h
  have hl : leaves s = leaves t := by
    funext c
    unfold leaves
    rw [hsup, hhealth]
  have ha : authOk s = authOk t := by
    funext img
    unfold authOk tagOk
    rw [hbank]
  have hs : strapCheck s = strapCheck t := by
    funext d g
    unfold strapCheck strapsOk strapsDecode
    rw [hsup]
  unfold fullCheck
  rw [hl, ha, hs, hbank]

end Sys2Proof.Machine
end

section
/-!
PROOFS. The statements of 03_configuration_image.md on the image manager's commands (R76, R77): OPEN, image data, VERIFY, COMMIT,
ACCEPT and ABORT.
-/

open Sys2Proof Sys2Proof.Machine

namespace Sys2Proof.Machine

/-! ### The state in which a command acts -/

/-- The state in which a granted image command acts: the write is through, and IMG_CTL keeps TARGET. -/
def commanded (m : Master) (w : Word) (s : State) : State :=
  (accepted m A.IMG_CTL w s).p F.IMG_CTL_TARGET (getBits w 4 1)

@[simp] theorem commanded_dev (m : Master) (w : Word) (s : State) : (commanded m w s).dev = s.dev :=
  (State.p_dev _ _ _).trans (accepted_dev _ _ _ _)
@[simp] theorem commanded_img (m : Master) (w : Word) (s : State) : (commanded m w s).img = s.img :=
  (State.p_img _ _ _).trans (accepted_img _ _ _ _)
@[simp] theorem commanded_rail (m : Master) (w : Word) (s : State) : (commanded m w s).rail = s.rail :=
  (State.p_rail _ _ _).trans (accepted_rail _ _ _ _)
@[simp] theorem commanded_phase (m : Master) (w : Word) (s : State) : (commanded m w s).phase = s.phase :=
  (State.p_phase _ _ _).trans (accepted_phase _ _ _ _)
@[simp] theorem commanded_bank (m : Master) (w : Word) (s : State) : (commanded m w s).gate.bank = s.gate.bank :=
  (congrArg (·.bank) (State.p_gate _ _ _)).trans (accepted_bank _ _ _ _)

theorem commanded_g (m : Master) (w : Word) (s : State) (f : Fld) (hc : f.addr ≠ A.IMG_CTL) (hr : f.addr < 0x180000) :
    (commanded m w s).g f = s.g f :=
  (State.g_p_addr _ F.IMG_CTL_TARGET f _ hc).trans (accepted_g _ _ _ _ f (not_routerWord_of_lt hr))

theorem imgWord_fields (cmd : Nat) (b : Bool) (h : cmd < 16) :
    getBits (imgWord cmd b) 0 4 = cmd ∧ getBits (imgWord cmd b) 4 1 = bit b := by
  have hb : bit b < 2 := by cases b <;> decide
  unfold imgWord
  simp only [F.IMG_CTL_CMD, F.IMG_CTL_TARGET]
  refine ⟨?_, ?_⟩
  · rw [getBits_setBits_below _ 4 1 _ 0 4 (by decide) (by decide), getBits_setBits _ 0 4 _ (by decide)]
    exact Nat.mod_eq_of_lt h
  · rw [getBits_setBits _ 4 1 _ (by decide)]
    exact Nat.mod_eq_of_lt hb

/-- The word of a command and a slot is that command of that slot. -/
theorem imgWord_write {m : Master} {s : State} {cmd : Nat} {b : Bool} (hc : cmd < 16)
    (h : judge m A.IMG_CTL (imgWord cmd b) s = .ok) : (regWrite m A.IMG_CTL (imgWord cmd b) s).1
      = imgCommand m cmd (Fin.ofNat 2 (bit b)) (commanded m (imgWord cmd b) s) := by
  obtain ⟨h1, h2⟩ := imgWord_fields cmd b hc
  rw [imgCtl_write h, h1, h2]
  unfold commanded
  rw [h2]

/-! ### Slots -/

theorem vget_vset_same {α : Type} {n : Nat} (v : Vector α n) (i : Fin n) (x : α) : vget (vset v i x) i = x :=
  Vector.getElem_set_self i.isLt

theorem vget_vset_ne {α : Type} {n : Nat} (v : Vector α n) {i j : Fin n} (x : α) (h : j ≠ i) : vget (vset v i x) j = vget v j :=
  Vector.getElem_set_ne i.isLt j.isLt fun e => h (Fin.ext e.symm)

theorem modSlot_same (s : State) (i : Fin 2) (f : Slot → Slot) :
    vget (s.modSlot i f).img.slots i = f (vget s.img.slots i) := vget_vset_same _ _ _

theorem modSlot_ne (s : State) {i j : Fin 2} (f : Slot → Slot) (h : j ≠ i) :
    vget (s.modSlot i f).img.slots j = vget s.img.slots j := vget_vset_ne _ _ h

theorem otherSlot_ne (i : Fin 2) : i ≠ otherSlot i := by revert i; decide

theorem cmdRes_img (r : Nat) (s : State) : (cmdRes r s).img = s.img := State.p_img _ _ _
theorem cmdRes_dev (r : Nat) (s : State) : (cmdRes r s).dev = s.dev := State.p_dev _ _ _

theorem cmdRes_railPhase (r : Nat) (s : State) : ((cmdRes r s).rail, (cmdRes r s).phase) = (s.rail, s.phase) :=
  storeFrame_railPhase.p_eq s _ _

theorem cmdRes_cmdres (r : Nat) (s : State) (h : r < 4) : (cmdRes r s).g F.IMG_STATUS_CMDRES = r :=
  (State.g_p s F.IMG_STATUS_CMDRES r (by decide)).trans (Nat.mod_eq_of_lt h)

theorem cmdRes_g (r : Nat) (s : State) (f : Fld) (h : f.addr ≠ A.IMG_STATUS) : (cmdRes r s).g f = s.g f :=
  State.g_p_addr s F.IMG_STATUS_CMDRES f r h

/-- A slot with nothing listed at n offsets reads 0 there. -/
theorem spread_zero (n o : Nat) (l : SMap Byte) (h : ∀ k, o ≤ k → k < o + n → SMap.find l k = none) :
    spread n o l = List.replicate n 0 := by
  induction n generalizing o l with
  | zero => rfl
  | succ n ih =>
    have hn : ∀ k, o + 1 ≤ k → k < o + 1 + n → SMap.find l k = none := fun k h1 h2 => h k (by omega) (by omega)
    cases l with
    | nil => exact congrArg (0 :: ·) (ih (o + 1) [] hn)
    | cons x l =>
      obtain ⟨a, v⟩ := x
      have ha : a ≠ o := by
        rintro rfl
        have := h a le_rfl (by omega)
        simp [SMap.find] at this
      rw [spread, if_neg ha, ih (o + 1) _ hn]
      rfl

/-- MAGIC is gone once the first four bytes are 0 (R76). -/
theorem hasMagic_emptied (l : SMap Byte) :
    hasMagic (spread 4 0 ((List.range 4).foldl (fun b o => SMap.set (fun _ => (0 : Byte)) b o 0) l)) = false := by
  have hr : List.range 4 = [0, 1, 2, 3] := by decide
  rw [spread_zero 4 0 _ fun k h1 h2 => ?_]
  · decide
  · rw [hr]
    simp only [List.foldl_cons, List.foldl_nil, SMap.set, if_pos, SMap.find_erase]
    have hk : k = 0 ∨ k = 1 ∨ k = 2 ∨ k = 3 := by omega
    obtain rfl | rfl | rfl | rfl := hk <;> rfl

/-! ### OPEN and ABORT -/

section Commands

variable {m : Master} {s : State} {b : Bool}

/-! While no verification runs, each command of R76 is done as its row says. -/

theorem imgCommand_open (i : Fin 2) (h : s.img.verifying = none) : imgCommand m 1 i s = imgOpen m i s := by
  simp [imgCommand, h]
theorem imgCommand_verify (i : Fin 2) (h : s.img.verifying = none) : imgCommand m 2 i s = imgVerify m i s := by
  simp [imgCommand, h]
theorem imgCommand_commit (i : Fin 2) (h : s.img.verifying = none) : imgCommand m 3 i s = imgCommit m i s := by
  simp [imgCommand, h]
theorem imgCommand_accept (i : Fin 2) (h : s.img.verifying = none) : imgCommand m 4 i s = imgAccept m s := by
  simp [imgCommand, h]
theorem imgCommand_abort (i : Fin 2) (h : s.img.verifying = none) : imgCommand m 5 i s = imgAbort m i s := by
  simp [imgCommand, h]

/-- What OPEN leaves of a slot: its first four bytes 0, no marks and CAUSE Ch. -/
def Slot.opened (sl : Slot) : Slot :=
  { sl with
    bytes := (List.range 4).foldl (fun b o => SMap.set (fun _ => (0 : Byte)) b o 0) sl.bytes
    preferred := false, trial := false, tried := false, kept := none, decl := none, cause := 0xC, verified := false, secver := 0, seq := 0 }

/-- The slot is emptied, before the write of its first word is counted. -/
def State.emptied (s : State) (i : Fin 2) : State :=
  let s1 := s.modSlot i Slot.opened
  { s1 with img := { s1.img with openSlot := some i } }

theorem imgOpen_opens (i : Fin 2) (hr : s.img.running ≠ some i) (ho : s.img.openSlot = none) :
    imgOpen m i s = cmdRes 0 ((slotWrite i 0 (s.emptied i)).p F.IMG_WPTR_WPTR 0) := by
  unfold imgOpen
  rw [if_neg (by simp [hr]), if_neg (by simp [ho])]
  rfl

theorem slotWrite_keep {β : Type} {π : State → β} (h : StoreFrame π) (i : Fin 2) (o : Nat) (s : State) :
    π (slotWrite i o s) = π s := h.sectorWrite_eq _ s

theorem emptied_railPhase (s : State) (i : Fin 2) : ((s.emptied i).rail, (s.emptied i).phase) = (s.rail, s.phase) := rfl

/-- OPEN of a slot that does not run, with no slot open. -/
theorem openCmd_opens (hj : judge m A.IMG_CTL (imgWord 1 b) s = .ok) (hv : s.img.verifying = none)
    (hr : s.img.running ≠ some (Fin.ofNat 2 (bit b))) (ho : s.img.openSlot = none) : Completes (.openCmd m b) s fun u =>
      let i : Fin 2 := Fin.ofNat 2 (bit b)
      u.img.openSlot = some i ∧ u.g F.IMG_WPTR_WPTR = 0 ∧ u.g F.IMG_STATUS_CMDRES = 0
      ∧ (vget u.img.slots i).cause = 0xC ∧ (vget u.img.slots i).preferred = false ∧ (vget u.img.slots i).trial = false
      ∧ hasMagic ((vget u.img.slots i).first 4) = false ∧ (∀ j, j ≠ i → vget u.img.slots j = vget s.img.slots j)
      ∧ u.rail = s.rail ∧ u.phase = s.phase := by
  obtain ⟨i, hi⟩ : ∃ i, i = Fin.ofNat 2 (bit b) := ⟨_, rfl⟩
  rw [← hi] at hr ⊢
  obtain ⟨t, ht⟩ : ∃ t, t = commanded m (imgWord 1 b) s := ⟨_, rfl⟩
  have himg : t.img = s.img := by rw [ht, commanded_img]
  have hrp : (t.rail, t.phase) = (s.rail, s.phase) := by rw [ht, commanded_rail, commanded_phase]
  obtain ⟨y, hy⟩ : ∃ y, y = slotWrite i 0 (t.emptied i) := ⟨_, rfl⟩
  have hyi : y.img = (t.emptied i).img := hy ▸ slotWrite_keep storeFrame_img i 0 _
  have hyr : (y.rail, y.phase) = (s.rail, s.phase) :=
    (hy ▸ slotWrite_keep storeFrame_railPhase i 0 (t.emptied i)).trans ((emptied_railPhase t i).trans hrp)
  have he : (regWrite m A.IMG_CTL (imgWord 1 b) s).1 = cmdRes 0 (y.p F.IMG_WPTR_WPTR 0) := by
    rw [imgWord_write (by decide) hj, ← hi, ← ht, imgCommand_open i (himg ▸ hv), hy]
    exact imgOpen_opens i (himg ▸ hr) (himg ▸ ho)
  have hu : (cmdRes 0 (y.p F.IMG_WPTR_WPTR 0)).img = (t.emptied i).img := by rw [cmdRes_img, State.p_img, hyi]
  have hs : vget (t.emptied i).img.slots i = (vget t.img.slots i).opened := modSlot_same t i _
  obtain ⟨h1, h2⟩ := Prod.mk.inj hyr
  refine ⟨_, congrArg done he, ?_⟩
  dsimp only
  rw [hu, hs, cmdRes_cmdres _ _ (by decide), cmdRes_g _ _ F.IMG_WPTR_WPTR (by decide), State.g_p _ F.IMG_WPTR_WPTR 0 (by decide)]
  refine ⟨rfl, rfl, rfl, rfl, rfl, rfl, hasMagic_emptied _, fun j hji => ?_, h1, h2⟩
  exact (modSlot_ne t _ hji).trans (by rw [himg])

/-! ### Refused commands -/

theorem cfgRefuse_img (m : Master) (c : CfgCause) (a : Nat) (s : State) : (cfgRefuse m c a s).img = s.img :=
  (congrArg State.img (cfgRefuse_onlyWords m c a s).1).trans rfl

theorem imgRefuse_effect (m : Master) (c : CfgCause) (s : State) : (imgRefuse m c s).img = s.img
    ∧ (imgRefuse m c s).g F.IMG_STATUS_CMDRES = 1
    ∧ (imgRefuse m c s).g F.CFGERR_COUNT_COUNT = incHold 16 (s.g F.CFGERR_COUNT_COUNT) :=
  ⟨(cmdRes_img 1 _).trans (cfgRefuse_img m c _ s), cmdRes_cmdres 1 _ (by decide),
    (cmdRes_g 1 _ F.CFGERR_COUNT_COUNT (by decide)).trans (cfgRefuse_count m c _ s)⟩

/-- OPEN of the running slot outside SAFE. -/
theorem openCmd_refused (hj : judge m A.IMG_CTL (imgWord 1 b) s = .ok) (hv : s.img.verifying = none)
    (hr : s.img.running = some (Fin.ofNat 2 (bit b))) (hd : s.dev ≠ .safe) : Completes (.openCmd m b) s fun u =>
      u.img = s.img ∧ u.g F.IMG_STATUS_CMDRES = 1 ∧ u.g F.CFGERR_COUNT_COUNT = incHold 16 (s.g F.CFGERR_COUNT_COUNT) := by
  have hn : commanded m (imgWord 1 b) s |>.g F.CFGERR_COUNT_COUNT |> (· = s.g F.CFGERR_COUNT_COUNT) :=
    commanded_g _ _ _ _ (by decide) (by decide)
  have he : (regWrite m A.IMG_CTL (imgWord 1 b) s).1 = imgRefuse m .slotBusy (commanded m (imgWord 1 b) s) := by
    rw [imgWord_write (by decide) hj, imgCommand_open _ (by rw [commanded_img, hv])]
    unfold imgOpen
    exact if_pos (by simp [hr, hd])
  obtain ⟨hi, hc, hk⟩ := imgRefuse_effect m .slotBusy (commanded m (imgWord 1 b) s)
  exact ⟨_, congrArg done he, hi.trans (commanded_img _ _ _), hc, hk.trans (congrArg (incHold 16) hn)⟩

/-- ABORT of the open slot. -/
theorem abort_closes (hj : judge m A.IMG_CTL (imgWord 5 b) s = .ok) (hv : s.img.verifying = none)
    (ho : s.img.openSlot = some (Fin.ofNat 2 (bit b))) : Completes (.abort m b) s fun u =>
      u.img = { s.img with openSlot := none } ∧ u.g F.IMG_STATUS_CMDRES = 0 := by
  obtain ⟨t, ht⟩ : ∃ t, t = commanded m (imgWord 5 b) s := ⟨_, rfl⟩
  have himg : t.img = s.img := ht ▸ commanded_img _ _ _
  have he : (regWrite m A.IMG_CTL (imgWord 5 b) s).1 = cmdRes 0 { t with img := { t.img with openSlot := none } } := by
    rw [imgWord_write (by decide) hj, ← ht, imgCommand_abort _ (himg ▸ hv)]
    unfold imgAbort
    exact if_pos (himg ▸ ho)
  exact ⟨_, congrArg done he, (cmdRes_img _ _).trans (congrArg (fun x : ImageMgr => { x with openSlot := none }) himg),
    cmdRes_cmdres _ _ (by decide)⟩

/-! ### VERIFY -/

/-- VERIFY of the open slot or of one that holds an image. -/
theorem verify_starts (f : ReadFind) (hj : judge m A.IMG_CTL (imgWord 2 b) s = .ok) (hv : s.img.verifying = none)
    (ho : s.img.openSlot = some (Fin.ofNat 2 (bit b)) ∨ (vget s.img.slots (Fin.ofNat 2 (bit b))).holdsImage = true) :
    Completes (.verify m ⟨b, f⟩) s fun u =>
      u.img = { s.img with openSlot := none, verifying := some (Fin.ofNat 2 (bit b)), found := f } ∧ u.dev = s.dev := by
  obtain ⟨i, hi⟩ : ∃ i, i = Fin.ofNat 2 (bit b) := ⟨_, rfl⟩
  rw [← hi] at ho ⊢
  obtain ⟨t, ht⟩ : ∃ t, t = commanded m (imgWord 2 b) s := ⟨_, rfl⟩
  have himg : t.img = s.img := ht ▸ commanded_img _ _ _
  have hdev : t.dev = s.dev := ht ▸ commanded_dev _ _ _
  have he : (regWrite m A.IMG_CTL (imgWord 2 b) s).1
      = { t with img := { t.img with openSlot := none, verifying := some i, found := ⟨[], []⟩ } } := by
    rw [imgWord_write (by decide) hj, ← hi, ← ht, imgCommand_verify i (himg ▸ hv)]
    unfold imgVerify
    exact if_pos (by simpa [himg] using ho)
  have hx : exec (.verify m ⟨b, f⟩) s
      = done { t with img := { t.img with openSlot := none, verifying := some i, found := f } } := by
    show execVerify m ⟨b, f⟩ s = _
    unfold execVerify
    rw [he, hv]
    rfl
  exact ⟨_, hx, congrArg (fun x : ImageMgr => { x with openSlot := none, verifying := some i, found := f }) himg, hdev⟩

/-! ### COMMIT -/

/-- The marks a COMMIT leaves in both slots, and its result. -/
def State.committed (s : State) (i : Fin 2) : State :=
  cmdRes 0 ((s.modSlot i fun sl => { sl with preferred := true, trial := true, tried := false }).modSlot (otherSlot i)
    fun sl => { sl with preferred := false })

theorem committed_slots (s : State) (i : Fin 2) : let v := (s.committed i).img.slots
    (vget v i).preferred = true ∧ (vget v i).trial = true ∧ (vget v i).tried = false
      ∧ (vget v (otherSlot i)).preferred = false := by
  have h1 : vget (s.committed i).img.slots i = { vget s.img.slots i with preferred := true, trial := true, tried := false } := by
    unfold State.committed
    rw [cmdRes_img, modSlot_ne _ _ (otherSlot_ne i), modSlot_same]
  have h2 : (vget (s.committed i).img.slots (otherSlot i)).preferred = false := by
    unfold State.committed
    rw [cmdRes_img, modSlot_same]
  exact ⟨by rw [h1], by rw [h1], by rw [h1], h2⟩

theorem committed_dev (s : State) (i : Fin 2) : (s.committed i).dev = s.dev := cmdRes_dev _ _

theorem coreReset_slots (off : Bool) (s : State) : (coreReset off s).img.slots = s.img.slots := rfl

/-- SAFE leaves for BOOT with the slots as they stand. -/
theorem safeToBoot_slots (s : State) : (safeToBoot s).img.slots = s.img.slots := by
  unfold safeToBoot
  rw [coreReset_slots, endSession_keep (·.img.slots) (fun _ _ _ => rfl) (fun _ _ _ => rfl) (fun _ _ => rfl) fun _ _ => rfl]
  exact congrArg ImageMgr.slots (State.setDev_img s .boot)

theorem safeToBoot_dev (s : State) : (safeToBoot s).dev = .boot :=
  (endSession_keep (·.dev) (fun _ _ _ => rfl) (fun _ _ _ => rfl) (fun _ _ => rfl) (fun _ _ => rfl) _).trans (setDev_dev _ _)

/-- COMMIT of a slot that passed. -/
theorem commit_prefers (hj : judge m A.IMG_CTL (imgWord 3 b) s = .ok) (hv : s.img.verifying = none)
    (hp : (vget s.img.slots (Fin.ofNat 2 (bit b))).verified = true) : Completes (.commit m b) s fun u =>
      let i : Fin 2 := Fin.ofNat 2 (bit b)
      (vget u.img.slots i).preferred = true ∧ (vget u.img.slots i).trial = true ∧ (vget u.img.slots i).tried = false
      ∧ (vget u.img.slots (otherSlot i)).preferred = false ∧ (s.dev = .safe → u.dev = .boot)
      ∧ (s.dev ≠ .safe → u.dev = s.dev ∧ u.g F.IMG_STATUS_CMDRES = 0) := by
  obtain ⟨i, hi⟩ : ∃ i, i = Fin.ofNat 2 (bit b) := ⟨_, rfl⟩
  rw [← hi] at hp ⊢
  obtain ⟨t, ht⟩ : ∃ t, t = commanded m (imgWord 3 b) s := ⟨_, rfl⟩
  have himg : t.img = s.img := ht ▸ commanded_img _ _ _
  have hdev : (t.committed i).dev = s.dev := (committed_dev t i).trans (ht ▸ commanded_dev _ _ _)
  have he : (regWrite m A.IMG_CTL (imgWord 3 b) s).1
      = if s.dev = .safe then safeToBoot (t.committed i) else t.committed i := by
    rw [imgWord_write (by decide) hj, ← hi, ← ht, imgCommand_commit i (himg ▸ hv), ← hdev]
    unfold imgCommit
    exact if_pos (himg ▸ hp)
  obtain ⟨h1, h2, h3, h4⟩ := committed_slots t i
  refine ⟨_, congrArg done he, ?_⟩
  by_cases hs : s.dev = .safe
  · rw [if_pos hs]
    dsimp only
    rw [safeToBoot_slots]
    exact ⟨h1, h2, h3, h4, fun _ => safeToBoot_dev _, fun hn => absurd hs hn⟩
  · rw [if_neg hs]
    exact ⟨h1, h2, h3, h4, fun h => absurd h hs, fun _ => ⟨hdev, cmdRes_cmdres _ _ (by decide)⟩⟩

/-! ### ACCEPT -/

theorem recheckSlot_ne (s : State) {i j : Fin 2} (h : j ≠ i) : vget (recheckSlot i s).img.slots j = vget s.img.slots j :=
  modSlot_ne s _ h

/-- A write of the secure bank leaves what a store write leaves, given the bank as changed. -/
theorem bankWrite_keep {β : Type} {π : State → β} (h : StoreFrame π) (f : SecureBank → SecureBank) (s : State) :
    π (bankWrite f s) = π { s with gate := { s.gate with bank := f s.gate.bank } } := h.bankSector_eq true _

/-- The state as ACCEPT finds it: the trial of slot r is over. -/
def State.trialEnded (s : State) (r : Fin 2) : State := s.modSlot r fun sl => { sl with trial := false, tried := false }

/-- The floor rises to the slot's SECVER. -/
def State.floorRaised (s : State) (r : Fin 2) : State :=
  bankWrite (fun b => { b with floor := max b.floor (vget s.img.slots r).secver }) s

theorem floorRaised_img (s : State) (r : Fin 2) : (s.floorRaised r).img = s.img := bankWrite_keep storeFrame_img _ s

theorem floorRaised_railPhase (s : State) (r : Fin 2) :
    ((s.floorRaised r).rail, (s.floorRaised r).phase) = (s.rail, s.phase) := bankWrite_keep storeFrame_railPhase _ s

theorem floorRaised_floor (s : State) (r : Fin 2) :
    (s.floorRaised r).gate.bank.floor = max s.gate.bank.floor (vget s.img.slots r).secver :=
  congrArg (fun c => c.2.1.floor) (bankWrite_keep storeFrame_checkBasis _ s)

theorem imgAccept_accepts (r : Fin 2) (hr : s.img.running = some r) (hd : s.dev = .standby ∨ s.dev = .run)
    (ht : (vget s.img.slots r).trial = true) : let v := (s.trialEnded r).floorRaised r
      imgAccept m s = cmdRes 0 (if (vget v.img.slots (otherSlot r)).isOpen then v else recheckSlot (otherSlot r) v) := by
  unfold imgAccept
  rw [hr]
  exact if_pos (by simpa [ht] using hd)

theorem withField_imgCtl (s : State) (c : Nat) (h : c < 16) : getBits (s.withField F.IMG_CTL_CMD c) 0 4 = c :=
  (getBits_setBits _ 0 4 c (by decide)).trans (Nat.mod_eq_of_lt h)

/-- ACCEPT of the running slot's trial. -/
theorem accept_ends (r : Fin 2) (hj : judge m A.IMG_CTL (s.withField F.IMG_CTL_CMD 4) s = .ok) (hv : s.img.verifying = none)
    (hr : s.img.running = some r) (hd : s.dev = .standby ∨ s.dev = .run) (ht : (vget s.img.slots r).trial = true) :
    Completes (.accept m) s fun u => (vget u.img.slots r).trial = false
      ∧ u.gate.bank.floor = max s.gate.bank.floor (vget s.img.slots r).secver ∧ u.g F.IMG_STATUS_CMDRES = 0
      ∧ u.rail = s.rail ∧ u.phase = s.phase := by
  obtain ⟨t, htd⟩ : ∃ t, t = commanded m (s.withField F.IMG_CTL_CMD 4) s := ⟨_, rfl⟩
  have himg : t.img = s.img := htd ▸ commanded_img _ _ _
  have hdev : t.dev = s.dev := htd ▸ commanded_dev _ _ _
  have hbank : t.gate.bank = s.gate.bank := htd ▸ commanded_bank _ _ _
  have hrail : t.rail = s.rail := htd ▸ commanded_rail _ _ _
  have hphase : t.phase = s.phase := htd ▸ commanded_phase _ _ _
  have hslot : vget (t.trialEnded r).img.slots r = { vget s.img.slots r with trial := false, tried := false } :=
    (modSlot_same t r _).trans (by rw [himg])
  obtain ⟨v, hvd⟩ : ∃ v, v = (t.trialEnded r).floorRaised r := ⟨_, rfl⟩
  have hvi : (vget v.img.slots r).trial = false := by rw [hvd, floorRaised_img, hslot]
  have hvf : v.gate.bank.floor = max s.gate.bank.floor (vget s.img.slots r).secver := by
    rw [hvd, floorRaised_floor, hslot]
    exact congrArg (fun x : SecureBank => max x.floor _) hbank
  have hvr : (v.rail, v.phase) = (s.rail, s.phase) := by
    rw [hvd, floorRaised_railPhase]
    exact Prod.ext hrail hphase
  obtain ⟨hv1, hv2⟩ := Prod.mk.inj hvr
  have he : (regWrite m A.IMG_CTL (s.withField F.IMG_CTL_CMD 4) s).1
      = cmdRes 0 (if (vget v.img.slots (otherSlot r)).isOpen then v else recheckSlot (otherSlot r) v) := by
    rw [imgCtl_write hj, withField_imgCtl s 4 (by decide)]
    show imgCommand m 4 _ (commanded m (s.withField F.IMG_CTL_CMD 4) s) = _
    rw [← htd, imgCommand_accept _ (himg ▸ hv), hvd]
    exact imgAccept_accepts r (himg ▸ hr) (hdev ▸ hd) (himg ▸ ht)
  refine ⟨_, congrArg done he, ?_⟩
  refine ⟨?_, ?_, cmdRes_cmdres _ _ (by decide), ?_, ?_⟩
  · rw [cmdRes_img]
    split
    · exact hvi
    · rw [recheckSlot_ne v (otherSlot_ne r)]
      exact hvi
  · refine Eq.trans ?_ hvf
    split <;> rfl
  · refine Eq.trans ?_ hv1
    split <;> rfl
  · refine Eq.trans ?_ hv2
    split <;> rfl

/-! ### Image data (R77) -/

/-- The bytes of a word listed from offset p on. -/
def storeBytes (l : SMap Byte) (p : Nat) (w : Word) : SMap Byte :=
  (leBytes 4 w.toNat).zipIdx.foldl (fun b x => SMap.set (fun _ => (0 : Byte)) b (p + x.2) x.1) l

theorem storeBytes_get (l : SMap Byte) (p : Nat) (w : Word) :
    ((List.range 4).map fun j => SMap.get (fun _ => (0 : Byte)) (storeBytes l p w) (p + j)) = leBytes 4 w.toNat := by
  have hr : List.range 4 = [0, 1, 2, 3] := by decide
  rw [hr]
  simp [storeBytes, leBytes, List.zipIdx, SMap.get_set]

theorem storeBytes_get_else (l : SMap Byte) (p : Nat) (w : Word) (a : Nat) (h : a < p ∨ p + 4 ≤ a) :
    SMap.get (fun _ => (0 : Byte)) (storeBytes l p w) a = SMap.get (fun _ => (0 : Byte)) l a := by
  have hn : a ≠ p ∧ a ≠ p + 1 ∧ a ≠ p + 2 ∧ a ≠ p + 3 := by omega
  obtain ⟨h0, h1, h2, h3⟩ := hn
  simp [storeBytes, leBytes, List.zipIdx, SMap.get_set, h0, h1, h2, h3]

/-- What a word of image data at offset p makes of the open slot. -/
def Slot.stored (sl : Slot) (p : Nat) (w : Word) : Slot :=
  { sl with verified := false, bytes := storeBytes sl.bytes p w, badw := sl.badw.filter (· != p / 4) }

section Data

variable {w : Word} {i : Fin 2}

theorem imgData_stores (h : s.img.openSlot = some i) (hp : s.g F.IMG_WPTR_WPTR < 0x18000) :
    imgData m w s = (slotWrite i (s.g F.IMG_WPTR_WPTR)
      (s.modSlot i fun sl => sl.stored (s.g F.IMG_WPTR_WPTR) w)).p F.IMG_WPTR_WPTR (s.g F.IMG_WPTR_WPTR + 4) := by
  unfold imgData
  dsimp only
  rw [h]
  exact if_neg (Nat.not_le.mpr hp)

/-- The state after a granted word of image data, before its read-back. -/
def dataStored (m : Master) (w : Word) (i : Fin 2) (s : State) : State :=
  (slotWrite i (s.g F.IMG_WPTR_WPTR) ((accepted m A.IMG_WDATA w s).modSlot i fun sl =>
    sl.stored (s.g F.IMG_WPTR_WPTR) w)).p F.IMG_WPTR_WPTR (s.g F.IMG_WPTR_WPTR + 4)

theorem accepted_wptr (m : Master) (w : Word) (s : State) :
    (accepted m A.IMG_WDATA w s).g F.IMG_WPTR_WPTR = s.g F.IMG_WPTR_WPTR :=
  accepted_g _ _ _ _ _ (not_routerWord_of_lt (by decide))

theorem dataStored_wptr (hp : s.g F.IMG_WPTR_WPTR < 0x18000) :
    (dataStored m w i s).g F.IMG_WPTR_WPTR = s.g F.IMG_WPTR_WPTR + 4 := by
  unfold dataStored
  rw [State.g_p _ F.IMG_WPTR_WPTR _ (by decide)]
  exact Nat.mod_eq_of_lt (show s.g F.IMG_WPTR_WPTR + 4 < 131072 by omega)

theorem dataStored_img : (dataStored m w i s).img
    = ((accepted m A.IMG_WDATA w s).modSlot i fun sl => sl.stored (s.g F.IMG_WPTR_WPTR) w).img := by
  unfold dataStored
  rw [State.p_img]
  exact slotWrite_keep storeFrame_img _ _ _

/-- A word of image data goes to the open slot at WPTR; where it does not verify, its sector is remapped. -/
theorem exec_imgWdataWrite (b : Bool) (hj : judge m A.IMG_WDATA w s = .ok) (ho : s.img.openSlot = some i)
    (hp : s.g F.IMG_WPTR_WPTR < 0x18000) : exec (.imgWdataWrite m ⟨w, b⟩) s
      = done (if b then dataStored m w i s else remap (96 * i.val + s.g F.IMG_WPTR_WPTR / 1024) (dataStored m w i s)) := by
  have he : (regWrite m A.IMG_WDATA w s).1 = dataStored m w i s := by
    rw [imgWdata_write hj, imgData_stores (by rw [accepted_img, ho]) (by rw [accepted_wptr]; exact hp), accepted_wptr]
    rfl
  have hne : (dataStored m w i s).g F.IMG_WPTR_WPTR ≠ s.g F.IMG_WPTR_WPTR := by
    rw [dataStored_wptr hp]
    omega
  show execImgWdataWrite m ⟨w, b⟩ s = _
  unfold execImgWdataWrite
  rw [he, ho]
  cases b <;> simp [hne]

theorem imgWdata_stores (b : Bool) (hj : judge m A.IMG_WDATA w s = .ok) (ho : s.img.openSlot = some i)
    (hp : s.g F.IMG_WPTR_WPTR < 0x18000) : Completes (.imgWdataWrite m ⟨w, b⟩) s fun u =>
      ((List.range 4).map fun j => SMap.get (fun _ => (0 : Byte)) (vget u.img.slots i).bytes (s.g F.IMG_WPTR_WPTR + j))
          = leBytes 4 w.toNat
      ∧ (∀ a, a < s.g F.IMG_WPTR_WPTR ∨ s.g F.IMG_WPTR_WPTR + 4 ≤ a →
          SMap.get (fun _ => (0 : Byte)) (vget u.img.slots i).bytes a
            = SMap.get (fun _ => (0 : Byte)) (vget s.img.slots i).bytes a)
      ∧ u.g F.IMG_WPTR_WPTR = s.g F.IMG_WPTR_WPTR + 4 ∧ (vget u.img.slots i).verified = false
      ∧ (∀ j, j ≠ i → vget u.img.slots j = vget s.img.slots j) := by
  refine ⟨_, exec_imgWdataWrite b hj ho hp, ?_⟩
  obtain ⟨u, hu⟩ : ∃ u, u = if b then dataStored m w i s
    else remap (96 * i.val + s.g F.IMG_WPTR_WPTR / 1024) (dataStored m w i s) := ⟨_, rfl⟩
  rw [← hu]
  have hui : u.img = (dataStored m w i s).img := by
    rw [hu]
    split
    · rfl
    · exact storeFrame_img.remap_eq _ _
  have hug : u.g F.IMG_WPTR_WPTR = (dataStored m w i s).g F.IMG_WPTR_WPTR := by
    rw [hu]
    split
    · rfl
    · exact remap_g _ _ _ (not_reportWord_of_lt (by decide) (by decide))
  have hsl : vget u.img.slots i = (vget s.img.slots i).stored (s.g F.IMG_WPTR_WPTR) w := by
    rw [hui, dataStored_img, modSlot_same, accepted_img]
  refine ⟨?_, fun a ha => ?_, hug.trans (dataStored_wptr hp), by rw [hsl]; rfl, fun j hji => ?_⟩
  · rw [hsl]
    exact storeBytes_get _ _ _
  · rw [hsl]
    exact storeBytes_get_else _ _ _ a ha
  · rw [hui, dataStored_img, modSlot_ne _ _ hji, accepted_img]

/-- The sector of a word written counts the write, or is remapped. -/
theorem imgWdata_wear (b : Bool) (hj : judge m A.IMG_WDATA w s = .ok) (ho : s.img.openSlot = some i)
    (hp : s.g F.IMG_WPTR_WPTR < 0x18000) (hs : s.nv.spare ≠ 0)
    (hl : SMap.get (fun _ => 0) s.nv.writes (96 * i.val + s.g F.IMG_WPTR_WPTR / 1024) + 1 < writeLimit) :
    Completes (.imgWdataWrite m ⟨w, b⟩) s fun u =>
      u.nv.spare = (if b then s.nv.spare else s.nv.spare - 1) ∧ u.nv.remaps = (if b then s.nv.remaps else s.nv.remaps + 1)
      ∧ SMap.get (fun _ => 0) u.nv.writes (96 * i.val + s.g F.IMG_WPTR_WPTR / 1024)
          = (if b then SMap.get (fun _ => 0) s.nv.writes (96 * i.val + s.g F.IMG_WPTR_WPTR / 1024) + 1 else 0) := by
  obtain ⟨k, hk⟩ : ∃ k, k = 96 * i.val + s.g F.IMG_WPTR_WPTR / 1024 := ⟨_, rfl⟩
  rw [← hk] at hl ⊢
  have hnv : (dataStored m w i s).nv = (putWrites k (SMap.get (fun _ => 0) s.nv.writes k + 1) (accepted m A.IMG_WDATA w s)).nv := by
    have h0 : ((accepted m A.IMG_WDATA w s).modSlot i fun sl => sl.stored (s.g F.IMG_WPTR_WPTR) w).nv = s.nv :=
      accepted_nv _ _ _ _
    unfold dataStored slotWrite
    rw [State.p_nv, ← hk, sectorWrite_counts k _ (by rw [h0]; exact hl), h0]
    rfl
  have hsp : (dataStored m w i s).nv.spare = s.nv.spare := by
    rw [hnv]
    exact congrArg (·.spare) (accepted_nv _ _ _ _)
  have hrm : (dataStored m w i s).nv.remaps = s.nv.remaps := by
    rw [hnv]
    exact congrArg (·.remaps) (accepted_nv _ _ _ _)
  refine ⟨_, exec_imgWdataWrite b hj ho hp, ?_⟩
  rw [← hk]
  cases b
  · obtain ⟨h1, h2, h3⟩ := remap_wear k (dataStored m w i s) (hsp ▸ hs)
    exact ⟨h1.trans (by rw [hsp]; rfl), h2.trans (by rw [hrm]; rfl), h3⟩
  · refine ⟨hsp, hrm, ?_⟩
    show SMap.get _ (dataStored m w i s).nv.writes k = _
    rw [hnv]
    exact putWrites_get k _ _

/-- With no slot open the word is refused. -/
theorem imgWdata_refused (b : Bool) (hj : judge m A.IMG_WDATA w s = .ok) (ho : s.img.openSlot = none) :
    Completes (.imgWdataWrite m ⟨w, b⟩) s fun u => u.img = s.img
      ∧ u.g F.CFGERR_COUNT_COUNT = incHold 16 (s.g F.CFGERR_COUNT_COUNT) := by
  have hx : exec (.imgWdataWrite m ⟨w, b⟩) s
      = done (cfgRefuse m .imgCmd A.IMG_WDATA (accepted m A.IMG_WDATA w s)) := by
    show execImgWdataWrite m ⟨w, b⟩ s = _
    unfold execImgWdataWrite
    rw [ho, imgWdata_write hj]
    unfold imgData
    dsimp only
    rw [accepted_img, ho]
  refine ⟨_, hx, (cfgRefuse_img _ _ _ _).trans (accepted_img _ _ _ _), ?_⟩
  rw [cfgRefuse_count, accepted_g _ _ _ _ _ (not_routerWord_of_lt (by decide))]

end Data

end Commands

/-! ### The end of a VERIFY -/

section Verify

variable {s : State} {i : Fin 2}

theorem putSkipped_keep {β : Type} {π : State → β} (h : StoreFrame π) (n : Nat) (s : State) : π (putSkipped n s) = π s := by
  unfold putSkipped
  split
  · exact h.setWord _ _ _
  · exact (h.setWord _ _ _).trans (h.free s _)

theorem putSkipped_g (n : Nat) (s : State) (f : Fld) (h : f.addr ≠ A.IMG_STATUS) : (putSkipped n s).g f = s.g f := by
  unfold putSkipped
  split
  · exact State.g_p_addr s F.IMG_STATUS_SKIPPED f _ h
  · exact State.g_p_addr s.draw.2 F.IMG_STATUS_SKIPPED f _ h

/-- What the checks make of the slot they were run on. -/
theorem checkSlot_slot (i : Fin 2) (s : State) : let r := fullCheck s (vget s.img.slots i)
    vget (checkSlot i s).img.slots i
      = { (vget s.img.slots i).report r.cause with kept := some r.cause, decl := r.decl } := by
  unfold checkSlot
  rw [putSkipped_keep storeFrame_img]
  exact modSlot_same s i _

theorem checkSlot_ne (s : State) {i j : Fin 2} (h : j ≠ i) : vget (checkSlot i s).img.slots j = vget s.img.slots j := by
  unfold checkSlot
  rw [putSkipped_keep storeFrame_img]
  exact modSlot_ne s _ h

theorem checkSlot_verifying (i : Fin 2) (s : State) : (checkSlot i s).img.verifying = s.img.verifying := by
  unfold checkSlot
  rw [putSkipped_keep storeFrame_img]
  rfl

theorem modSlot_railPhase (s : State) (i : Fin 2) (f : Slot → Slot) :
    ((s.modSlot i f).rail, (s.modSlot i f).phase) = (s.rail, s.phase) := rfl

theorem modSlot_g (s : State) (i : Fin 2) (f : Slot → Slot) (e : Fld) : (s.modSlot i f).g e = s.g e := rfl

theorem checkSlot_railPhase (i : Fin 2) (s : State) : ((checkSlot i s).rail, (checkSlot i s).phase) = (s.rail, s.phase) :=
  (putSkipped_keep storeFrame_railPhase _ _).trans (modSlot_railPhase s i _)

theorem checkSlot_g (i : Fin 2) (s : State) (f : Fld) (h : f.addr ≠ A.IMG_STATUS) : (checkSlot i s).g f = s.g f :=
  (putSkipped_g _ _ f h).trans (modSlot_g s i _ f)

/-- The state in which the checks are done: the slot is read, and what the reading finds has been dealt with. -/
def State.slotRead (s : State) (i : Fin 2) : State :=
  readSlot i s.img.found { s with img := { s.img with verifying := none } }

/-- What the end of a VERIFY leaves, in terms of the state after the slot was read. -/
theorem verifyDone_effect (h : s.img.verifying = some i) : Completes .verifyDone s fun u => let z := s.slotRead i
      u.img.verifying = z.img.verifying
      ∧ (vget u.img.slots i).cause = (fullCheck z (vget z.img.slots i)).cause
      ∧ (vget u.img.slots i).bytes = (vget z.img.slots i).bytes ∧ (vget u.img.slots i).badw = (vget z.img.slots i).badw
      ∧ (vget u.img.slots i).verified = ((fullCheck z (vget z.img.slots i)).cause == 0)
      ∧ u.g F.IMG_STATUS_CMDRES = (if (fullCheck z (vget z.img.slots i)).cause = 0 then 0 else 2)
      ∧ (∀ j, j ≠ i → vget u.img.slots j = vget z.img.slots j)
      ∧ (∀ f : Fld, f.addr ≠ A.IMG_STATUS → u.g f = z.g f) ∧ (u.rail, u.phase) = (z.rail, z.phase) := by
  obtain ⟨z, hz⟩ : ∃ z, z = s.slotRead i := ⟨_, rfl⟩
  obtain ⟨c, hc⟩ : ∃ c, c = (fullCheck z (vget z.img.slots i)).cause := ⟨_, rfl⟩
  have hsl := checkSlot_slot i z
  have hca : (vget (checkSlot i z).img.slots i).cause = c := by rw [hsl, hc]; rfl
  have hx : exec .verifyDone s = done (cmdRes (if c == 0 then 0 else 2)
      ((checkSlot i z).modSlot i fun sl => { sl with verified := c == 0 })) := by
    show done (verifyDone s) = _
    unfold verifyDone
    rw [h, ← hca, hz]
    rfl
  refine ⟨_, hx, ?_⟩
  dsimp only
  rw [← hz, ← hc]
  have hr : (if c == 0 then 0 else 2) < 4 := by split <;> decide
  refine ⟨?_, ?_, ?_, ?_, ?_, ?_, fun j hj => ?_, fun f hf => ?_, ?_⟩
  · rw [cmdRes_img]
    exact checkSlot_verifying i z
  · rw [cmdRes_img, modSlot_same, hca]
  · rw [cmdRes_img, modSlot_same, hsl]
    rfl
  · rw [cmdRes_img, modSlot_same, hsl]
    rfl
  · rw [cmdRes_img, modSlot_same]
  · rw [cmdRes_cmdres _ _ hr]
    simp only [beq_iff_eq]
  · rw [cmdRes_img, modSlot_ne _ _ hj, checkSlot_ne z hj]
  · rw [cmdRes_g _ _ f hf, modSlot_g, checkSlot_g i z f hf]
  · exact (cmdRes_railPhase _ _).trans ((modSlot_railPhase _ _ _).trans (checkSlot_railPhase i z))

/-- Where the reading finds nothing. -/
theorem verifyDone_clean (h : s.img.verifying = some i) (hf : s.img.found = ⟨[], []⟩) : Completes .verifyDone s fun u =>
      u.img.verifying = none
      ∧ (vget u.img.slots i).cause = (fullCheck s (vget s.img.slots i)).cause
      ∧ (vget u.img.slots i).bytes = (vget s.img.slots i).bytes
      ∧ (vget u.img.slots i).verified = ((fullCheck s (vget s.img.slots i)).cause == 0)
      ∧ u.g F.IMG_STATUS_CMDRES = (if (fullCheck s (vget s.img.slots i)).cause = 0 then 0 else 2)
      ∧ (∀ j, j ≠ i → vget u.img.slots j = vget s.img.slots j) ∧ u.rail = s.rail ∧ u.phase = s.phase := by
  have hz : s.slotRead i = { s with img := { s.img with verifying := none } } := by
    unfold State.slotRead
    rw [hf]
    rfl
  have hc : fullCheck (s.slotRead i) (vget s.img.slots i) = fullCheck s (vget s.img.slots i) :=
    fullCheck_congr (by rw [hz]; rfl) _
  have hs : (s.slotRead i).img.slots = s.img.slots := by rw [hz]
  obtain ⟨u, hx, hu⟩ := verifyDone_effect h
  dsimp only at hu
  rw [hs, hc] at hu
  obtain ⟨h1, h2, h3, _, h5, h6, h7, _, h9⟩ := hu
  obtain ⟨ha, hb⟩ := Prod.mk.inj (h9.trans (by rw [hz]))
  exact ⟨u, hx, h1.trans (by rw [hz]), h2, h3, h5, h6, h7, ha, hb⟩

theorem countCorr_one (s : State) :
    (countCorr 1 s).g F.NV_STATUS_CORR = incHold F.NV_STATUS_CORR.w (s.g F.NV_STATUS_CORR) := by
  unfold countCorr State.incBy
  rw [State.g_p _ F.NV_STATUS_CORR _ (by decide)]
  exact Nat.mod_eq_of_lt (Nat.lt_of_le_of_lt (Nat.min_le_right _ _) (by decide))

/-- Where it corrects one word. -/
theorem verifyDone_corrected (w : Nat) (h : s.img.verifying = some i) (hf : s.img.found = ⟨[w], []⟩) :
    Completes .verifyDone s fun u =>
      u.img.verifying = none ∧ u.g F.NV_STATUS_CORR = incHold F.NV_STATUS_CORR.w (s.g F.NV_STATUS_CORR)
      ∧ (vget u.img.slots i).cause = (fullCheck s (vget s.img.slots i)).cause
      ∧ (vget u.img.slots i).bytes = (vget s.img.slots i).bytes ∧ (vget u.img.slots i).badw = (vget s.img.slots i).badw := by
  obtain ⟨t, ht⟩ : ∃ t : State, t = { s with img := { s.img with verifying := none } } := ⟨_, rfl⟩
  have hz : s.slotRead i = correctWords (24576 * i.val) [w] t := by
    unfold State.slotRead
    rw [hf, ht]
    rfl
  have hi : (s.slotRead i).img = t.img := hz ▸ storeFrame_img.correctWords_eq _ _ _
  have hc : fullCheck (s.slotRead i) (vget s.img.slots i) = fullCheck s (vget s.img.slots i) :=
    fullCheck_congr ((hz ▸ storeFrame_checkBasis.correctWords_eq _ _ _ : (s.slotRead i).checkBasis = t.checkBasis).trans
      (by rw [ht]; rfl)) _
  have hs : (s.slotRead i).img.slots = s.img.slots := by rw [hi, ht]
  have hn : (s.slotRead i).g F.NV_STATUS_CORR = incHold F.NV_STATUS_CORR.w (s.g F.NV_STATUS_CORR) := by
    rw [hz]
    refine (countCorr_one (sectorWrite ((24576 * i.val + w) / 256) t)).trans ?_
    rw [sectorWrite_g _ _ _ (not_reportWord_of_lt (by decide) (by decide)), ht]
    rfl
  obtain ⟨u, hx, hu⟩ := verifyDone_effect h
  dsimp only at hu
  rw [hs, hc] at hu
  obtain ⟨h1, h2, h3, h4, _, _, _, h8, _⟩ := hu
  exact ⟨u, hx, h1.trans (by rw [hi, ht]), (h8 _ (by decide)).trans hn, h2, h3, h4⟩

/-- A word of a slot of the store, as sector and word: slot i lies in sectors 96 i to 96 i + 95. -/
theorem slotWord_sector (i : Fin 2) (w : Nat) (hw : w < 24576) : (24576 * i.val + w) / 256 < 192
    ∧ Fin.ofNat 2 ((24576 * i.val + w) / 256 / 96) = i
    ∧ (24576 * i.val + w) / 256 % 96 * 256 + (24576 * i.val + w) % 256 = w := by
  have hi : i.val = 0 ∨ i.val = 1 := by omega
  refine ⟨by omega, Fin.ext ?_, by omega⟩
  show (24576 * i.val + w) / 256 / 96 % 2 = i.val
  omega

/-- A word of a slot lost to its area is listed among the bad words of that slot. -/
theorem areaLost_slot (i : Fin 2) (w : Nat) (hw : w < 24576) (both : Bool) (s : State) :
    areaLost ((24576 * i.val + w) / 256) ((24576 * i.val + w) % 256) both s
      = s.modSlot i fun sl => { sl with badw := w :: sl.badw } := by
  obtain ⟨h1, h2, h3⟩ := slotWord_sector i w hw
  unfold areaLost
  rw [if_pos h1, h2, h3]
  rfl

theorem draw_g (s : State) (f : Fld) : s.draw.2.g f = s.g f := rfl

theorem record_g (t : Nat) (ev : List Byte) (s : State) (f : Fld) (h : ¬ ReportWord f.addr) : (record t ev s).g f = s.g f :=
  congrArg (getBits · _ _) (record_word t ev s _ h)

theorem uncorrFound_count (sector word : Nat) (s : State) :
    (uncorrFound sector word s).g F.NV_UNCORR_UNCOR = incHold F.NV_UNCORR_UNCOR.w (s.g F.NV_UNCORR_UNCOR) := by
  unfold uncorrFound
  dsimp only
  rw [record_g _ _ _ F.NV_UNCORR_UNCOR (not_reportWord_of_lt (by decide) (by decide)), draw_g,
    State.g_p_apart _ F.NV_UNCORR_UADDR F.NV_UNCORR_UNCOR _ (by decide) (by decide), State.g_inc s F.NV_UNCORR_UNCOR (by decide)]

theorem readArea_lost (base : Nat) (x : LostWord) (s : State) : readArea base ⟨[], [x]⟩ s
    = areaLost ((base + x.word) / 256) ((base + x.word) % 256) x.both
        (uncorrFound ((base + x.word) / 256) ((base + x.word) % 256) s) := rfl

/-- What the checks read where the reading of the slot finds one word uncorrectable. -/
theorem slotRead_lost (w : Nat) (hf : s.img.found = ⟨[], [⟨w, false⟩]⟩) (hw : w < 24576) : ∃ v : State,
    s.slotRead i = v.modSlot i (fun sl => { sl with badw := w :: sl.badw })
      ∧ v.img = { s.img with verifying := none } ∧ v.checkBasis = s.checkBasis
      ∧ v.g F.NV_UNCORR_UNCOR = incHold F.NV_UNCORR_UNCOR.w (s.g F.NV_UNCORR_UNCOR) := by
  refine ⟨uncorrFound ((24576 * i.val + w) / 256) ((24576 * i.val + w) % 256)
    { s with img := { s.img with verifying := none } }, ?_, ?_, ?_, ?_⟩
  · unfold State.slotRead readSlot
    rw [hf, readArea_lost]
    exact areaLost_slot i w hw false _
  · exact storeFrame_img.uncorrFound_eq _ _ _
  · exact storeFrame_checkBasis.uncorrFound_eq _ _ _
  · rw [uncorrFound_count, State.g_withImg]

/-- Where it finds one word uncorrectable. -/
theorem verifyDone_lost (w : Nat) (h : s.img.verifying = some i) (hf : s.img.found = ⟨[], [⟨w, false⟩]⟩) (hw : w < 24576) :
    Completes .verifyDone s fun u => let sl := { vget s.img.slots i with badw := w :: (vget s.img.slots i).badw }
      u.img.verifying = none ∧ u.g F.NV_UNCORR_UNCOR = incHold F.NV_UNCORR_UNCOR.w (s.g F.NV_UNCORR_UNCOR)
      ∧ (vget u.img.slots i).badw = sl.badw ∧ (vget u.img.slots i).bytes = sl.bytes
      ∧ (vget u.img.slots i).cause = (fullCheck s sl).cause
      ∧ (vget u.img.slots i).verified = ((fullCheck s sl).cause == 0) := by
  obtain ⟨v, hz, hvi, hvb, hn⟩ := slotRead_lost (i := i) w hf hw
  have hsl : vget (s.slotRead i).img.slots i = { vget s.img.slots i with badw := w :: (vget s.img.slots i).badw } := by
    rw [hz, modSlot_same, hvi]
  have hc : ∀ sl, fullCheck (s.slotRead i) sl = fullCheck s sl := fullCheck_congr (by rw [hz]; exact hvb)
  have hv : (s.slotRead i).img.verifying = none := by
    rw [hz]
    exact congrArg ImageMgr.verifying hvi
  obtain ⟨u, hx, hu⟩ := verifyDone_effect h
  dsimp only at hu
  rw [hsl, hc, hv] at hu
  obtain ⟨h1, h2, h3, h4, h5, _, _, h8, _⟩ := hu
  exact ⟨u, hx, h1, ((h8 _ (by decide)).trans (by rw [hz, modSlot_g])).trans hn, h4, h3, h2, h5⟩

/-- While none runs, its row does nothing. -/
theorem verifyDone_idle (h : s.img.verifying = none) : Leaves .verifyDone s s := by
  show done (verifyDone s) = done s
  unfold verifyDone
  rw [h]

end Verify

/-- Settles O53: each command of R76 as what `imgCommand` makes of the state in which it acts; the end of a VERIFY from what the
reading of the slot leaves. -/
theorem imageCommandsAct : Obligations.ImageCommandsAct := by
  unfold Obligations.ImageCommandsAct
  exact ⟨fun _ _ _ hj hv hr ho => openCmd_opens hj hv hr ho, fun _ _ _ hj hv hr hd => openCmd_refused hj hv hr hd,
    fun _ _ _ _ b hj ho hp => imgWdata_stores b hj ho hp, fun _ _ _ _ b hj ho hp hs hl => imgWdata_wear b hj ho hp hs hl,
    fun _ _ _ b hj ho => imgWdata_refused b hj ho, fun _ _ _ f hj hv ho => verify_starts f hj hv ho,
    fun _ _ h hf => verifyDone_clean h hf, fun _ _ w h hf => verifyDone_corrected w h hf,
    fun _ _ w h hf hw => verifyDone_lost w h hf hw, fun _ h => verifyDone_idle h,
    fun _ _ _ hj hv hp => commit_prefers hj hv hp, fun _ _ r hj hv hr hd ht => accept_ends r hj hv hr hd ht,
    fun _ _ _ hj hv ho => abort_closes hj hv ho⟩

end Sys2Proof.Machine
end

section
/-!
SUPPORT. What BOOT's work beside the clocks and the choice of a slot leaves alone (R67, R74, R329): the frame that what the store's
readings find, retirements and the roles and rings of BOOT keep.
-/

open Sys2Proof Sys2Proof.Machine

namespace Sys2Proof.Machine

/-! ### The frame -/

/-- What BOOT alters of a slot only in choosing one (R51, R72): its bytes and marks. -/
def Slot.marks (sl : Slot) : SMap Byte × Bool × Bool × Bool := (sl.bytes, sl.preferred, sl.trial, sl.tried)

/-- A projection that sees nothing of a fault response, nor of the Night Porter and the Porter, the free-value counter, the
consistency checks, what register effects keep beside the registers, and what checks report of a slot. -/
structure BootFrame {β : Type} (π : State → β) : Prop extends FaultFrame π where
  porter : ∀ (s : State) n p c f, π { s with np := n, pt := p, chk := c, free := f } = π s
  effects : ∀ (s : State) c y t x p m, π { s with capDisc := c, sync := y, ephTab := t, exp := x, port := p, masterWait := m } = π s
  calFailed : ∀ (s : State) b, π { s with img := { s.img with calFailed := b } } = π s
  slot : ∀ (s : State) i f, (∀ sl, (f sl).marks = sl.marks) → π (State.modSlot s i f) = π s

/-- The straps as sampled, and the PLLs. -/
def State.clocks (s : State) : Vector SmodStrap 6 × Bool × PllState := (s.sup.smod, s.sup.bootsel, s.pll)

theorem bootFrame_clocks : BootFrame State.clocks where
  toFaultFrame := by constructor <;> intros <;> rfl
  porter := fun _ _ _ _ _ => rfl
  effects := fun _ _ _ _ _ _ _ => rfl
  calFailed := fun _ _ => rfl
  slot := fun _ _ _ _ => rfl

/-- An image is applied, and BOOT is held. -/
def State.imageFlags (s : State) : Bool × Bool := (s.img.applied, s.img.held)

theorem bootFrame_imageFlags : BootFrame State.imageFlags where
  toFaultFrame := by constructor <;> intros <;> rfl
  porter := fun _ _ _ _ _ => rfl
  effects := fun _ _ _ _ _ _ _ => rfl
  calFailed := fun _ _ => rfl
  slot := fun _ _ _ _ => rfl

/-- Bytes and marks of slot j. -/
def State.slotMarks (j : Fin 2) (s : State) : SMap Byte × Bool × Bool × Bool := (vget s.img.slots j).marks

theorem bootFrame_slotMarks (j : Fin 2) : BootFrame (State.slotMarks j) where
  toFaultFrame := by constructor <;> intros <;> rfl
  porter := fun _ _ _ _ _ => rfl
  effects := fun _ _ _ _ _ _ _ => rfl
  calFailed := fun _ _ => rfl
  slot := by
    intro s i f hf
    unfold State.slotMarks
    by_cases hij : j = i
    · rw [hij, modSlot_same, hf]
    · rw [modSlot_ne s f hij]

section Frame

variable {β : Type} {π : State → β} (h : BootFrame π)
include h

theorem BootFrame.store : StoreFrame π where
  setWord := h.setWord
  modPl := h.modPl
  free := fun s n => h.porter s s.np s.pt s.chk n
  log := fun s _ _ _ _ _ _ => h.nv s _
  wear := fun s _ _ _ => h.nv s _

theorem BootFrame.np_eq (s : State) (n : NightPorter) : π { s with np := n } = π s := h.porter s n s.pt s.chk s.free
theorem BootFrame.pt_eq (s : State) (p : PorterState) : π { s with pt := p } = π s := h.porter s s.np p s.chk s.free
theorem BootFrame.chk_eq (s : State) (c : CheckState) : π { s with chk := c } = π s := h.porter s s.np s.pt c s.free
theorem BootFrame.draw_eq (s : State) : π s.draw.2 = π s := h.porter s s.np s.pt s.chk _
theorem BootFrame.gate_eq (s : State) (g : GateState) : π { s with gate := g } = π s := h.dev s s.dev g

/-! ### Sessions, the secure bank and the alarm -/

theorem BootFrame.bankWrite_eq (f : SecureBank → SecureBank) (s : State) : π (bankWrite f s) = π s :=
  (bankWrite_keep h.store f s).trans (h.gate_eq s _)

theorem BootFrame.secRecord_eq (sub : Nat) (m : Master) (a b c : Nat) (s : State) : π (secRecord sub m a b c s) = π s :=
  h.queueRecord_eq _ _ _ s

theorem BootFrame.endSession_eq (s : State) : π (endSession s) = π s :=
  endSession_keep π h.setWord h.modPl h.nv
    (fun s l => (h.gate_eq { s with img := { s.img with staging := l } } _).trans (h.groups s l s.img.armed s.img.cancelled)) s

theorem BootFrame.enterLockdown_eq (s : State) : π (enterLockdown s) = π s := by
  have hl : π (deviceCause 29 (discardStaging true (s.setDev .lockdown))) = π s := by
    rw [h.deviceCause_eq, h.discardStaging_eq, h.setDev_eq]
  unfold enterLockdown
  cases s.dev with
  | standby | run | safe => exact (h.record_eq _ _ _).trans hl
  | off | boot | lockdown => rfl

theorem BootFrame.keyErase_eq (s : State) : π (keyErase s) = π s := h.bankWrite_eq _ s

theorem BootFrame.securityAlarm_eq (m : Master) (cause : Nat) (s : State) : π (securityAlarm m cause s) = π s := by
  unfold securityAlarm
  extract_lets pol s1 s2 s3 s4
  have h1 : π s1 = π s := (h.p_eq _ _ _).trans ((h.pb_eq _ _ _).trans (h.endSession_eq s))
  have h2 : π s2 = π s1 := by
    unfold s2
    split
    · exact h.enterLockdown_eq s1
    · rfl
  have h3 : π s3 = π s2 := by
    unfold s3
    split
    · exact (h.secRecord_eq _ _ _ _ _ _).trans (h.keyErase_eq s2)
    · split
      · exact h.keyErase_eq s2
      · rfl
  have h4 : π s4 = π s3 := by
    unfold s4
    split
    · exact h.routerEvent_eq _ s3
    · rfl
  rw [h.secRecord_eq, h4, h3, h2, h1]

/-! ### Responses -/

theorem BootFrame.latchPhase_eq (n : Fin 48) (s : State) : π (latchPhase n s) = π s :=
  h.noting_eq n _ s fun s => (h.phaseEvent_eq _ _ _).trans ((h.pb_eq _ _ _).trans (h.phOff_eq n s))

theorem BootFrame.dropTail_eq (n : Fin 48) (s : State) : π (dropTail n s) = π s := by
  unfold dropTail
  split
  · rfl
  · exact (h.updateTail_eq _ _).trans (h.modPh s _ _)

theorem BootFrame.ffSwitch_eq (n : Fin 48) (s : State) : π (ffSwitch n s) = π s := by
  unfold ffSwitch
  split
  · split
    · exact h.ffRing_eq _ s
    · rfl
  · rfl

theorem BootFrame.phaseHold_eq (n : Fin 48) (keep : Bool) (s : State) : π (phaseHold n keep s) = π s := by
  unfold phaseHold
  split
  · rfl
  · extract_lets s1 s2
    have h1 : π s1 = π s := h.pb_eq s _ _
    have h2 : π s2 = π s1 := by
      unfold s2
      split
      · exact h.phOff_eq n s1
      · exact (h.modPh _ _ _).trans (h.latchPhase_eq n s1)
    rw [h.dropTail_eq, h.ffSwitch_eq, h.modPh, h2, h1]

/-- The response to an event of any class and source. -/
theorem BootFrame.respond_eq (e : FmEvent) (c : Nat) (s : State) : π (respond e c s).1 = π s := by
  cases hp : isPhaseFid e.fid with
  | true =>
    unfold respond
    rw [if_pos hp]
    split
    · rfl
    · split
      · exact h.phaseHold_eq _ _ s
      · split
        · split
          · exact h.railRespond_eq _ _ _ s
          · rfl
        · rfl
  | false =>
    cases hr : isRailFid e.fid with
    | true =>
      unfold respond
      rw [if_neg (by simp [hp]), if_pos hr]
      split
      · exact h.railRespond_eq _ _ _ s
      · rfl
    | false => exact h.respondDev_eq e c s hp hr

/-! ### The Porter's gates and the early warning -/

theorem BootFrame.pfwAssert_eq (cause : Nat) (s : State) : π (pfwAssert cause s) = π s := by
  unfold pfwAssert
  split
  · rfl
  · dsimp only
    rw [h.record_eq, h.latchScope_eq, h.routerEdge_eq, h.deviceCause_eq, h.p_eq, h.pb_eq]

theorem BootFrame.hsOff_eq (s : State) : π (hsOff s) = π s := by
  unfold hsOff
  split
  · dsimp only
    split
    · exact (h.pfwAssert_eq _ _).trans (h.np_eq s _)
    · exact h.np_eq s _
  · rfl

theorem BootFrame.setPt_eq (st : Nat) (s : State) : π (setPt st s) = π s := by
  unfold setPt
  extract_lets s0 s1
  have h0 : π s0 = π s := by
    unfold s0
    split
    · exact h.inc_eq s _
    · rfl
  have h1 : π s1 = π s := (h.p_eq _ _ _).trans h0
  split
  · exact (h.np_eq s1 _).trans h1
  · exact (h.hsOff_eq s1).trans h1

theorem BootFrame.npFollow_eq (s : State) : π (npFollow s) = π s := by
  have ht : ∀ st, π (toPt st s) = π s := fun st => (h.setPt_eq st _).trans (h.pt_eq s _)
  unfold npFollow
  split
  · rfl
  · split
    · exact ht 1
    · split
      · exact ht 0
      · rfl

theorem BootFrame.feedOff_eq (b : Fin 2) (s : State) : π (feedOff b s) = π s := by
  unfold feedOff
  split
  · exact (h.report_eq _ _ _ _).trans (h.pt_eq s _)
  · rfl

theorem BootFrame.setGate_eq (b : Fin 2) (v : Bool) (s : State) : π (setGate b v s) = π s := h.np_eq s _

theorem BootFrame.reverseOff_eq (b : Fin 2) (s : State) : π (reverseOff b s) = π s := by
  unfold reverseOff
  split
  · dsimp only
    split
    · rw [h.feedOff_eq, h.pb_eq, h.inc_eq, h.setGate_eq]
    · exact h.setGate_eq b _ s
  · rfl

theorem BootFrame.settleGate_eq (was : State) (b : Fin 2) (s : State) : π (settleGate was b s) = π s := by
  unfold settleGate
  split
  · dsimp only
    split
    · exact (h.feedOff_eq _ _).trans (h.setGate_eq b _ s)
    · exact h.setGate_eq b _ s
  · split
    · exact h.setGate_eq b _ s
    · rfl

theorem BootFrame.settleGates_eq (was s : State) : π (settleGates was s) = π s :=
  (h.settleGate_eq was 1 _).trans (h.settleGate_eq was 0 s)

/-! ### Comparators -/

/-- Where an operation is framed, so is showing the router what it changes. -/
theorem BootFrame.withRoutes_eq (c : Nat) (f : State → State) (s : State) (hf : π (f s) = π s) :
    π (withRoutes c f s) = π s := by
  unfold withRoutes
  dsimp only
  split
  · exact hf
  · exact (forEach_keep π _ (fun s x => h.routerEdge_eq x _ s) _ _).trans hf

theorem BootFrame.releaseOvLow_eq (k : Fin 8) (s : State) : π (releaseOvLow k s) = π s := by
  unfold releaseOvLow
  split
  · dsimp only
    split
    · exact h.modPr_eq s k _
    · refine (forAll_keep π _ (fun s n => ?_) _).trans (h.modPr_eq s k _)
      split
      · exact h.phOff_eq n s
      · rfl
  · rfl

theorem BootFrame.functionEffect_eq (f : Nat) (out : Bool) (was s : State) : π (functionEffect f out was s) = π s := by
  unfold functionEffect
  split
  · split
    · rfl
    · exact h.releaseOvLow_eq _ s
  · split
    · split
      · exact h.pfwAssert_eq _ s
      · rfl
    · split
      · split
        · exact h.pt_eq s _
        · rfl
      · split
        · split
          · exact (h.hsOff_eq _).trans (h.pt_eq s _)
          · rfl
        · split
          · split
            · exact h.reverseOff_eq _ s
            · rfl
          · split
            · dsimp only
              split
              · exact (h.pfwAssert_eq _ _).trans (h.settleGates_eq was s)
              · exact h.settleGates_eq was s
            · rfl

theorem BootFrame.withFunction_eq (f : Nat) (op : State → State) (s : State) (ho : π (op s) = π s) :
    π (withFunction f op s) = π s := by
  have h2 : π (forEach (fun x c => if s.level c == (op s).level c then x else routerEdge c ((op s).level c) x)
      (List.range 128) (op s)) = π s := by
    refine (forEach_keep π _ (fun x c => ?_) _ _).trans ho
    split
    · rfl
    · exact h.routerEdge_eq _ _ x
  unfold withFunction
  dsimp only
  split
  · exact (h.functionEffect_eq _ _ _ _).trans h2
  · exact h2

theorem BootFrame.coverFunction_eq (f : Nat) (s : State) : π (coverFunction f s) = π s := by
  unfold coverFunction
  refine h.withFunction_eq f _ s ?_
  dsimp only
  split
  · exact h.p_eq s _ _
  · rw [h.pb_eq, h.pb_eq, h.p_eq]

/-! ### Retirement -/

theorem BootFrame.recordRetire_eq (t i cause : Nat) (s : State) : π (recordRetire t i cause s) = π s :=
  (h.store.q15Put_eq _ _).trans (h.record_eq _ _ s)

theorem BootFrame.retireNow_eq (n : Fin 48) (cause : Nat) (s : State) : π (retireNow n cause s) = π s :=
  (h.phOff_eq _ _).trans ((h.releaseHold_eq _ _).trans (h.changeRole_eq n _ _ s))

theorem BootFrame.promoteNow_eq (k : Fin 8) (n m : Fin 48) (was : Role) (s : State) : π (promoteNow k n m was s) = π s := by
  unfold promoteNow
  dsimp only
  split
  · exact h.promote_eq _ _ _ _ s
  · split
    · exact h.modInk_eq s k _
    · exact h.promote_eq _ _ _ _ s

theorem BootFrame.retirePhase_eq (n : Fin 48) (cause : Nat) (s : State) : π (retirePhase n cause s) = π s := by
  unfold retirePhase
  split
  · rfl
  · extract_lets s1 was s2
    have h1 : π s1 = π s := (h.recordRetire_eq _ _ _ _).trans (h.p_eq s _ _)
    have hn : π (retireNow n cause s1) = π s := (h.retireNow_eq n cause s1).trans h1
    split
    · exact hn
    · rename_i k _
      split
      · exact h1
      · split
        · extract_lets swap base s3 s4 s5
          have h3 : π s3 = π s := (h.modInk_eq s2 k _).trans hn
          have h4 : π s4 = π s3 := by
            unfold s4
            clear_value swap
            cases swap with
            | some m => exact h.promoteNow_eq k n m was s3
            | none => rfl
          have h5 : π s5 = π s4 := by
            unfold s5
            split
            · rfl
            · exact h.changeRing_eq k _ s4
          rw [h.capacityCheck_eq, h5, h4, h3]
        · exact hn

theorem BootFrame.retireCmp_eq (c fid : Nat) (s : State) : π (retireCmp c fid s) = π s := by
  unfold retireCmp
  extract_lets s1 fs s2 s3
  have h1 : π s1 = π s := h.recordRetire_eq _ _ _ s
  have h2 : π s2 = π s1 := by
    refine h.withRoutes_eq c _ s1 ?_
    extract_lets x
    have hx : π x = π s1 := (h.pb_eq _ _ _).trans (h.pb_eq s1 _ _)
    split
    · exact hx
    · exact (h.chk_eq (x.p (F.CMP_CTL_FUNC c) 0x7F) _).trans ((h.p_eq x _ _).trans hx)
  have h3 : π s3 = π s2 := forEach_keep π _ (fun s f => h.coverFunction_eq f s) fs s2
  have h0 : π s3 = π s := h3.trans (h2.trans h1)
  split
  · exact h0
  · exact (h.withRoutes_eq c _ s3 (h.pb_eq s3 _ _)).trans h0

theorem BootFrame.raiseSense_eq (k : Fin 8) (s : State) : π (raiseSense k s) = π s :=
  (h.report_eq _ _ _ _).trans (h.respond_eq _ _ s)

theorem BootFrame.senseCheck_eq (k : Fin 8) (s : State) : π (senseCheck k s) = π s := by
  unfold senseCheck
  dsimp only
  split
  · exact (h.raiseSense_eq _ _).trans (h.modPr_eq s k _)
  · exact h.modPr_eq s k _

theorem BootFrame.retireIc_eq (i fid : Nat) (s : State) : π (retireIc i fid s) = π s := by
  unfold retireIc
  extract_lets s1
  have h1 : π s1 = π s := (h.recordRetire_eq _ _ _ _).trans (h.p_eq s _ _)
  refine (forAll_keep π _ (fun s k => h.senseCheck_eq k s) _).trans ?_
  split
  · exact (h.p_eq s1 _ _).trans h1
  · exact h1

theorem BootFrame.retirePll_eq (i fid : Nat) (s : State) : π (retirePll i fid s) = π s := by
  refine (h.recordRetire_eq _ _ _ _).trans ?_
  split
  · exact h.pb_eq s _ _
  · exact h.pb_eq s _ _

theorem BootFrame.sendRail_eq (k : Fin 8) (dest : Fin 5 × Bool) (spread : Bool) (s : State) :
    π (sendRail k dest spread s) = π s := (h.pb_eq _ _ _).trans (h.modGr_eq s k _)

theorem BootFrame.retireLane_eq (m fid : Nat) (s : State) : π (retireLane m fid s).1 = π s := by
  unfold retireLane
  extract_lets rails s1
  have h1 : π s1 = π s := (h.recordRetire_eq _ _ _ _).trans (h.p_eq s _ _)
  split
  · refine (forEach_keep π _ (fun s k => ?_) rails s1).trans h1
    split
    · exact h.sendRail_eq k _ _ s
    · rfl
  · suffices hf : ∀ (l : List (Fin 8)) (x : State × List (Fin 8)), π (l.foldl (fun (x : State × List (Fin 8)) k =>
        match x.1.freeHalves with
        | h :: _ => (sendRail k h true x.1, x.2)
        | [] => (x.1.modGr k fun g => { g with place := none, moveTo := none, noLane := true }, x.2 ++ [k])) x).1 = π x.1 from
      (hf rails (s1, [])).trans h1
    intro l
    induction l with
    | nil => intro x; rfl
    | cons k l ih =>
      intro x
      rw [List.foldl_cons, ih]
      split
      · exact h.sendRail_eq k _ _ x.1
      · dsimp only
        exact h.modGr_eq x.1 k _

theorem BootFrame.raiseNoLane_eq (k : Fin 8) (s : State) : π (raiseNoLane k s) = π s :=
  (h.report_eq _ _ _ _).trans ((h.pb_eq _ _ _).trans (h.railRespond_eq _ _ k s))

theorem BootFrame.retireChannel_eq (e : FmEvent) (s : State) : π (retireChannel e s) = π s := by
  unfold retireChannel
  split
  · rfl
  · split
    · rfl
    · split
      · split
        · exact h.retirePhase_eq _ _ s
        · rfl
      · split
        · exact h.retireCmp_eq _ _ s
        · split
          · exact h.retireIc_eq _ _ s
          · split
            · exact (forEach_keep π _ (fun s k => h.raiseNoLane_eq k s) _ _).trans (h.retireLane_eq _ _ s)
            · exact h.retirePll_eq _ _ s

/-! ### Readings of the store (R329) -/

theorem BootFrame.clearCounters_eq (n : Fin 48) (s : State) : π (clearCounters n s) = π s := by
  unfold clearCounters
  dsimp only
  rw [h.modRl, h.p_eq, h.p_eq, h.p_eq, h.p_eq, h.p_eq]

theorem BootFrame.channelLost_eq (x : Nat) (s : State) : π (channelLost x s) = π s := by
  unfold channelLost
  split
  · rfl
  · refine (h.updateDev_eq _).trans ?_
    split
    · exact (h.retirePhase_eq _ _ _).trans (h.clearCounters_eq _ s)
    · exact h.retireChannel_eq _ s

theorem BootFrame.areaLost_eq (sector word : Nat) (both : Bool) (s : State) : π (areaLost sector word both s) = π s := by
  unfold areaLost
  split
  · exact h.slot s _ (fun sl => { sl with badw := (sector % 96 * 256 + word) :: sl.badw }) fun _ => rfl
  · split
    · dsimp only
      split
      · exact h.nv s _
      · split
        · exact h.nv s _
        · rfl
    · split
      · dsimp only
        split
        · exact (h.channelLost_eq _ _).trans (h.draw_eq s)
        · exact h.store.sectorWrite_eq _ s
      · split
        · exact h.nv s _
        · split
          · split
            · exact h.securityAlarm_eq _ _ s
            · exact h.store.sectorWrite_eq _ s
          · rfl

theorem BootFrame.readArea_eq (base : Nat) (f : ReadFind) (s : State) : π (readArea base f s) = π s :=
  (forEach_keep π _ (fun s _ => (h.areaLost_eq _ _ _ _).trans (h.store.uncorrFound_eq _ _ s)) f.lost _).trans
    (h.store.correctWords_eq base f.corrected s)

end Frame

end Sys2Proof.Machine
end

section
/-!
SUPPORT. What the steps of BOOT leave alone (R67, R71, R74, R243, R256, R291, R292, R314, R335), in their order.
-/

open Sys2Proof Sys2Proof.Machine

namespace Sys2Proof.Machine

theorem report_marks (sl : Slot) (c : Nat) : (sl.report c).marks = sl.marks := rfl

section Frame

variable {β : Type} {π : State → β} (h : BootFrame π)
include h

/-! ### The health area and the Ledger (R67, R400) -/

theorem BootFrame.readStore_eq (b : BootIn) (s : State) : π (readStore b s) = π s := by
  unfold readStore
  dsimp only
  refine (h.readArea_eq _ _ _).trans ((forEach_keep π _ (fun s x => ?_) _ _).trans (h.store.correctWords_eq _ _ s))
  split
  · exact (h.nv _ _).trans ((h.draw_eq _).trans (h.store.uncorrFound_eq _ _ s))
  · exact (h.store.sectorWrite_eq _ _).trans (h.store.uncorrFound_eq _ _ s)

theorem BootFrame.loadPhase_eq (n : Nat) (x : PhaseHealth) (s : State) : π (loadPhase n x s) = π s := by
  unfold loadPhase
  dsimp only
  rw [h.modRl, h.pi_eq, h.p_eq, h.p_eq, h.p_eq, h.p_eq, h.p_eq, h.pb_eq, h.pb_eq, h.p_eq, h.p_eq]

theorem BootFrame.loadHealth_eq (s : State) : π (loadHealth s) = π s := by
  unfold loadHealth
  extract_lets x s1 s2 s3
  have h1 : π s1 = π s := forAll_keep π _ (fun s n => h.loadPhase_eq _ _ s) s
  have h2 : π s2 = π s1 := by
    refine forEach_keep π _ (fun s c => ?_) _ s1
    split
    · exact h.pb_eq s _ _
    · rfl
  have h3 : π s3 = π s2 := (h.p_eq _ _ _).trans (h.p_eq s2 _ _)
  exact (h.nv s3 _).trans (h3.trans (h2.trans h1))

/-! ### Checks of slots (R71, R425) -/

theorem BootFrame.readHeader_eq (i : Fin 2) (s : State) : π (readHeader i s) = π s :=
  h.slot s i (fun sl => sl.report (headerReport s sl)) fun sl => report_marks sl (headerReport s sl)

theorem BootFrame.checkSlot_eq (i : Fin 2) (s : State) : π (checkSlot i s) = π s :=
  (putSkipped_keep h.store _ _).trans (h.slot s i _ fun sl => report_marks sl (fullCheck s (vget s.img.slots i)).cause)

theorem BootFrame.bootCheck_eq (i : Fin 2) (f : ReadFind) (s : State) : π (bootCheck i f s) = π s := by
  unfold bootCheck
  split
  · rfl
  · exact (h.checkSlot_eq i _).trans (h.readArea_eq _ f s)

/-! ### Roles and rings (R243, R246, R256) -/

theorem BootFrame.bootRoles_eq (s : State) : π (bootRoles s) = π s := forAll_keep π _ (fun s n => h.modRl s n _) s

theorem BootFrame.bootEntry_eq (k : Fin 8) (x : List (Fin 48) × State) (n : Fin 48) :
    π (bootEntry k x n).2 = π x.2 := by
  unfold bootEntry
  split
  · split
    · dsimp only
      exact (h.modRl _ _ _).trans (h.p_eq x.2 _ _)
    · rfl
  · rfl

theorem BootFrame.bootEntries_eq (k : Fin 8) (l : List (Fin 48)) (x : List (Fin 48) × State) :
    π (l.foldl (bootEntry k) x).2 = π x.2 := by
  induction l generalizing x with
  | nil => rfl
  | cons n l ih => exact (ih _).trans (h.bootEntry_eq k x n)

theorem BootFrame.bootRing_eq (k : Fin 8) (s : State) : π (bootRing k s) = π s := by
  unfold bootRing
  dsimp only
  rw [h.capacityCheck_eq, h.modInk_eq, h.writeRing_eq]
  exact h.bootEntries_eq k _ ([], s)

theorem BootFrame.bootNoLane_eq (k : Fin 8) (s : State) : π (bootNoLane k s) = π s := by
  unfold bootNoLane
  split
  · exact h.raiseNoLane_eq k s
  · rfl

/-! ### Comparators and converters (R291, R292) -/

theorem BootFrame.loadDac_eq (c : Nat) (s : State) : π (loadDac c s) = π s := by
  unfold loadDac
  dsimp only
  split
  · exact h.p_eq s _ _
  · exact h.p_eq s _ _

theorem BootFrame.bootCmp_eq (f : Nat) (s : State) : π (bootCmp f s) = π s := by
  unfold bootCmp
  split
  · split
    · dsimp only
      rw [h.loadDac_eq, h.p_eq, h.setWord, h.setWord]
    · exact h.coverFunction_eq f s
  · rfl

theorem BootFrame.bootIc_eq (s : State) : π (bootIc s) = π s := by
  unfold bootIc
  extract_lets ret s1
  have h1 : π s1 = π s := by
    unfold s1
    split
    · exact h.p_eq s _ _
    · rfl
  refine (forEach_keep π _ (fun s g => ?_) _ s1).trans h1
  split
  · exact (h.p_eq _ _ _).trans (h.p_eq s _ _)
  · rfl

/-! ### The Porter's take-over (R314, R315) -/

theorem BootFrame.portersVt_eq (s : State) : π (portersVt s) = π s := by
  unfold portersVt
  split
  · rfl
  · split
    · exact h.pt_eq s _
    · exact (h.pt_eq s.draw.2 _).trans (h.draw_eq s)

theorem BootFrame.porterTakes_eq (s : State) : π (porterTakes s) = π s := by
  unfold porterTakes
  extract_lets was p s1 n s2
  have h1 : π s1 = π s := by
    unfold s1
    split
    · rfl
    · exact (h.portersVt_eq _).trans (h.pt_eq s _)
  exact (h.npFollow_eq _).trans ((h.settleGates_eq _ _).trans ((h.np_eq s1 _).trans h1))

/-! ### Records (R335) -/

theorem BootFrame.insertRecord_eq (s : State) : π (insertRecord s) = π s := by
  unfold insertRecord
  extract_lets s1
  have h1 : π s1 = π s := by
    unfold s1
    split
    · exact h.record_eq _ _ s
    · rfl
  exact (h.np_eq s1 _).trans h1

theorem BootFrame.imageRecord_eq (sub : Nat) (s : State) : π (imageRecord sub s) = π s := h.record_eq _ _ s

theorem BootFrame.imageRecords_eq (reverted : Bool) (s : State) : π (imageRecords reverted s) = π s := by
  have hif : ∀ (p : Prop) [Decidable p] (sub : Nat) (s : State), π (if p then imageRecord sub s else s) = π s := by
    intro p _ sub s
    split
    · exact h.imageRecord_eq sub s
    · rfl
  unfold imageRecords
  dsimp only
  rw [hif, hif, hif, hif]

theorem BootFrame.flushRecords_eq (s : State) : π (flushRecords s) = π s :=
  (forEach_keep π _ (fun s _ => h.queueRecord_eq _ _ _ s) _ _).trans (h.nv s _)

theorem BootFrame.bootEnd_eq (calOk : Bool) (s : State) : π (bootEnd calOk s) = π s := by
  unfold bootEnd
  extract_lets n s1 i s2 s3
  have h1 : π s1 = π s := h.nv s _
  have h3 : π s3 = π s1 := by
    unfold s3 s2
    rw [h.deviceCause_eq, h.flushRecords_eq, h.setDev_eq, h.calFailed]
  split
  · rw [h.flushRecords_eq, h.setDev_eq, h1]
  · rw [h.queueRecord_eq, h3, h1]

end Frame

end Sys2Proof.Machine
end

section
/-!
SUPPORT. What the words of an image leave alone beyond their registers (R66, R397): the effects of the registers that the sections
of a valid image can reach, which are none of the image manager's own and not DEVICE_CTL (R64, R65).
-/

open Sys2Proof Sys2Proof.Machine

namespace Sys2Proof.Machine

/-- The image manager's registers that act on slots and groups, and DEVICE_CTL. -/
def ownCommand (id : RegId) : Bool :=
  match id with
  | .deviceCtl | .imgCtl | .imgWdata | .groupCommit => true
  | _ => false

/-- The address is none of a register with a command of `ownCommand`. -/
def harmless (a : Nat) : Prop := ∀ x, locate a = some x → ownCommand x.spec.id = false

/-- One rail with AUTO = 1 is placed in the first free half-frame. -/
def placeNext (x : State × Bool) (k : Fin 8) : State × Bool :=
  match x.1.freeHalves with
  | h :: _ => (takeHalf k h x.1, x.2)
  | [] => (x.1, false)

section Frame

variable {β : Type} {π : State → β} (h : BootFrame π)
include h

theorem BootFrame.cfgRefuse_eq (m : Master) (c : CfgCause) (a : Nat) (s : State) : π (cfgRefuse m c a s) = π s := by
  unfold cfgRefuse
  dsimp only
  split
  · exact h.inc_eq s _
  · exact (h.setWord _ _ _).trans (h.inc_eq s _)

/-! ### Phases, comparators and the pulse generators -/

theorem BootFrame.latchClearRequest_eq (n : Fin 48) (s : State) : π (latchClearRequest n s) = π s := by
  unfold latchClearRequest
  split
  · rfl
  · split
    · exact h.pb_eq s _ _
    · split
      · exact h.modPh s n _
      · exact h.unlatchPhase_eq n s

theorem BootFrame.forceOff_eq (g : Nat) (s : State) : π (forceOff g s) = π s := by
  refine forAll_keep π _ (fun s n => ?_) s
  split
  · exact h.phOff_eq n s
  · rfl

theorem BootFrame.disarm_eq (c : Nat) (s : State) : π (disarm c s) = π s := by
  unfold disarm
  extract_lets f s1
  have h1 : π s1 = π s := (h.withRoutes_eq c _ _ (h.pb_eq _ _ _)).trans (h.pb_eq s _ _)
  split
  · exact (h.functionEffect_eq _ _ _ _).trans h1
  · exact h1

theorem BootFrame.cmpCtlWrite_eq (c : Nat) (was s : State) : π (cmpCtlWrite c was s) = π s := by
  unfold cmpCtlWrite
  extract_lets v s1
  have h1 : π s1 = π s := by
    unfold s1
    split
    · rfl
    · exact forEach_keep π _ (fun s x => h.routerEdge_eq x _ s) _ s
  split
  · exact (h.disarm_eq c s1).trans h1
  · exact h1

theorem BootFrame.clearCmpLatch_eq (c : Nat) (s : State) : π (clearCmpLatch c s) = π s := by
  unfold clearCmpLatch
  split
  · exact h.pb_eq s _ _
  · exact h.withRoutes_eq c _ s (h.pb_eq s _ _)

theorem BootFrame.placeSynco_eq (s : State) : π (placeSynco s) = π s :=
  h.effects s s.capDisc _ s.ephTab s.exp s.port s.masterWait

/-! ### The Porter, the store and the image's own registers -/

theorem BootFrame.clrLatch_eq (s : State) : π (clrLatch s) = π s := by
  unfold clrLatch
  split
  · exact h.pt_eq s _
  · rfl

theorem BootFrame.ptCtlWrite_eq (w : Word) (was s : State) : π (ptCtlWrite w was s) = π s := by
  have hs : ∀ t : State, π t = π s → π (npFollow (settleGates was t)) = π s :=
    fun t ht => (h.npFollow_eq _).trans ((h.settleGates_eq was t).trans ht)
  have hw : ∀ t : State, π t = π s → π (if getBits w F.PT_CTL_CLRLATCH.lo 1 = 1 then clrLatch t else t) = π s := by
    intro t ht
    split
    · exact (h.clrLatch_eq t).trans ht
    · exact ht
  refine hw _ (hs _ ?_)
  split
  · exact h.np_eq s _
  · rfl

theorem BootFrame.hnvWrite_eq (w : Word) (s : State) : π (hnvWrite w s) = π s := by
  unfold hnvWrite
  split
  · exact (h.qDrop_eq _ _).trans (h.pb_eq s _ _)
  · exact (h.p_eq _ _ _).trans (h.store.q15Put_eq _ s)

theorem BootFrame.ledgerRead_eq (seq : Nat) (s : State) : π (ledgerRead seq s) = π s :=
  (h.p_eq _ _ _).trans ((h.p_eq _ _ _).trans (h.nv s _))

theorem BootFrame.effect0_eq (m : Master) (x : Loc) (w : Word) (was s : State) (hx : ownCommand x.spec.id = false) :
    π (effect0 m x w was s) = π s := by
  unfold effect0
  split
  case h_1 hid => rw [hid] at hx; exact absurd hx (by decide)
  case h_5 hid => rw [hid] at hx; exact absurd hx (by decide)
  case h_6 hid => rw [hid] at hx; exact absurd hx (by decide)
  case h_7 hid => rw [hid] at hx; exact absurd hx (by decide)
  · split
    · exact h.effects s _ s.sync s.ephTab s.exp s.port s.masterWait
    · rfl
  · exact h.ptCtlWrite_eq w was s
  · exact h.np_eq s _
  · split
    · exact h.setWord s _ _
    · rfl
  · split
    · exact h.nv s _
    · rfl
  · exact h.ledgerRead_eq _ s
  · exact h.hnvWrite_eq w s
  · split
    · rfl
    · exact h.modPh s _ _
  · split
    · exact h.latchClearRequest_eq _ s
    · rfl
  · split
    · exact h.forceOff_eq _ s
    · rfl
  · exact h.cmpCtlWrite_eq _ was s
  · exact h.placeSynco_eq s
  · split
    · exact h.clearCmpLatch_eq _ s
    · rfl
  · exact h.loadDac_eq _ s
  · rfl

/-! ### Rails, the Innkeeper and the ports -/

theorem BootFrame.pushCommand_eq (m : Master) (k : Fin 8) (data : Word) (kind : Nat) (s : State) :
    π (pushCommand m k data kind s) = π s := by
  unfold pushCommand
  split
  · exact h.qAppend_eq _ _ s
  · exact (h.qDrop_eq _ _).trans (h.pb_eq s _ _)

/-- A write a full queue does not take leaves the register as it was. -/
theorem BootFrame.keptWord_eq (was : State) (k : Fin 8) (a : Nat) (s : State) :
    π (if was.room (Fin.ofNat 16 k.val) 1 then s else s.setWord a (was.word a)) = π s := by
  split
  · rfl
  · exact h.setWord s _ _

theorem BootFrame.vsetWrite_eq (m : Master) (k : Fin 8) (was s : State) : π (vsetWrite m k was s) = π s :=
  (h.pushCommand_eq _ _ _ _ _).trans (h.keptWord_eq was k _ s)

theorem BootFrame.endTest_eq (n : Fin 48) (s : State) : π (endTest n s) = π s := by
  unfold endTest
  dsimp only
  split
  · rfl
  · rw [h.store.q15Put_eq, h.inkMessage_eq, h.changeRole_eq, h.modRl, h.p_eq, h.phOff_eq]

theorem BootFrame.beginTest_eq (n : Fin 48) (s : State) : π (beginTest n s) = π s :=
  (h.startPhase_eq _ _).trans ((h.changeRole_eq _ _ _ _).trans (h.modRl s n _))

theorem BootFrame.reqResult_eq (n : Fin 48) (res : Nat) (s : State) : π (reqResult n res s) = π s :=
  (h.p_eq _ _ _).trans (h.p_eq s _ _)

theorem BootFrame.inkRequest_eq (op : Nat) (n : Fin 48) (epoch : BitVec 8) (s : State) :
    π (inkRequest op n epoch s) = π s := by
  unfold inkRequest
  split
  · exact (h.inkMessage_eq _ _ _ _ _ _ _).trans ((h.reqResult_eq _ _ _).trans (h.inc_eq s _))
  · extract_lets role ok s1
    have h1 : π s1 = π s := h.reqResult_eq n 1 s
    split
    · exact h.reqResult_eq n 2 s
    · split
      · refine (h.retirePhase_eq n 5 _).trans ?_
        split
        · exact (h.endTest_eq n s1).trans h1
        · exact h1
      · exact (h.beginTest_eq n s1).trans h1
      · exact (h.endTest_eq n s1).trans h1

theorem BootFrame.linkUnusable_eq (p : Nat) (s : State) : π (linkUnusable p s) = π s := by
  refine forAll_keep π _ (fun s k => ?_) s
  split
  · exact (h.modOl_eq _ _ _).trans (h.pb_eq s _ _)
  · rfl

theorem BootFrame.clearDup_eq (p : Fin 2) (s : State) : π (clearDup p s) = π s :=
  (forEach_keep π _ (fun s _ => h.setWord s _ _) (List.range 4) _).trans
    (h.effects s s.capDisc s.sync s.ephTab s.exp _ s.masterWait)

theorem BootFrame.linkEnable_eq (p : Fin 2) (was s : State) : π (linkEnable p was s) = π s := by
  unfold linkEnable
  split
  · exact (h.clearDup_eq p _).trans (h.p_eq s _ _)
  · split
    · exact h.linkUnusable_eq _ s
    · rfl
  · rfl

/-! ### Plates and the Gatehouse -/

theorem BootFrame.plateArm_eq (p : Fin 4) (s : State) : π (plateArm p s) = π s := by
  unfold plateArm
  dsimp only
  rw [h.setWord, h.setWord, h.pb_eq, h.pb_eq, h.modPl]

theorem BootFrame.plateStop_eq (p : Fin 4) (s : State) : π (plateStop p s) = π s :=
  (h.pb_eq _ _ _).trans (h.modPl s p _)

theorem BootFrame.plateCtl_eq (p : Fin 4) (w : Word) (was s : State) : π (plateCtl p w was s) = π s := by
  unfold plateCtl
  extract_lets now s1
  have h1 : π s1 = π s := by
    unfold s1
    split
    · exact h.plateArm_eq p s
    · split
      · exact h.plateStop_eq p s
      · rfl
  split
  · exact (plateTrigger_keep π h.setWord h.modPl p s1).trans h1
  · exact h1

theorem BootFrame.exp_eq (s : State) (x : Option (Fin 4 × Nat)) : π { s with exp := x } = π s :=
  h.effects s s.capDisc s.sync s.ephTab x s.port s.masterWait

theorem BootFrame.exportRun_eq (n : Nat) (s : State) : π (exportRun n s) = π s := by
  induction n generalizing s with
  | zero => rfl
  | succ n ih =>
    unfold exportRun
    split
    · rfl
    · split
      · exact h.exp_eq s none
      · split
        · exact (ih _).trans ((h.exp_eq _ _).trans (h.qAppend_eq _ _ s))
        · rfl

theorem BootFrame.exportGo_eq (p : Fin 4) (s : State) : π (exportGo p s) = π s :=
  (h.exportRun_eq 34 _).trans (h.exp_eq s _)

theorem BootFrame.chalRequest_eq (m : Master) (scope sess : Nat) (s : State) : π (chalRequest m scope sess s) = π s := by
  unfold chalRequest
  dsimp only
  split
  · exact h.p_eq s _ _
  · exact (h.gate_eq _ _).trans ((h.draw_eq _).trans (h.bankWrite_eq _ s))

theorem BootFrame.chalFailed_eq (n : Nonce) (s : State) : π (chalFailed n s) = π s := by
  unfold chalFailed
  extract_lets b f lock s1 s2 s3
  have h2 : π s2 = π s := (h.secRecord_eq _ _ _ _ _ _).trans ((h.p_eq _ _ _).trans (h.bankWrite_eq _ s))
  have h3 : π s3 = π s2 := by
    unfold s3
    split
    · rfl
    · exact h.secRecord_eq _ _ _ _ _ s2
  split
  · exact (h.securityAlarm_eq _ _ s3).trans (h3.trans h2)
  · exact h3.trans h2

theorem BootFrame.chalSubmit_eq (m : Master) (s : State) : π (chalSubmit m s) = π s := by
  unfold chalSubmit
  split
  · split
    · exact h.p_eq s _ _
    · dsimp only
      split
      · exact (h.secRecord_eq _ _ _ _ _ _).trans ((h.p_eq _ _ _).trans ((h.gate_eq _ _).trans
          ((h.bankWrite_eq _ _).trans (h.gate_eq s _))))
      · exact (h.chalFailed_eq _ _).trans (h.gate_eq s _)
  · exact h.p_eq s _ _

theorem BootFrame.chalEnd_eq (m : Master) (s : State) : π (chalEnd m s) = π s := by
  unfold chalEnd
  split
  · split
    · exact h.endSession_eq s
    · rfl
  · rfl

theorem BootFrame.keyWrite_eq (m : Master) (i : Fin 5) (s : State) : π (keyWrite m i s) = π s := by
  refine (h.gate_eq _ _).trans ?_
  split
  · exact (h.secRecord_eq _ _ _ _ _ _).trans (h.bankWrite_eq _ s)
  · exact h.cfgRefuse_eq _ _ _ s

theorem BootFrame.effect1_eq (m : Master) (x : Loc) (w : Word) (was s : State) : π (effect1 m x w was s) = π s := by
  unfold effect1
  dsimp only
  split
  · exact h.vsetWrite_eq _ _ was s
  · exact (h.pushCommand_eq _ _ _ _ _).trans (h.keptWord_eq was _ _ s)
  · exact h.genHist s _
  · split
    · exact h.modEp_eq s _ _
    · rfl
  · exact h.effects s s.capDisc s.sync _ s.exp s.port s.masterWait
  · exact h.inkRequest_eq _ _ _ s
  · exact h.linkEnable_eq _ was s
  · exact h.setWord s _ _
  · split
    · exact h.setQ s _ _
    · rfl
  · split
    · exact (h.effects _ _ _ _ _ _ false).trans ((h.p_eq _ _ _).trans (h.pb_eq s _ _))
    · rfl
  · exact h.plateCtl_eq _ w was s
  · split
    · exact h.exportGo_eq _ s
    · rfl
  · split
    · exact h.setWord s _ _
    · rfl
  · exact h.gate_eq s _
  · exact h.gate_eq s _
  · exact h.keyWrite_eq _ _ s
  · split
    · exact h.chalRequest_eq _ _ _ s
    · exact h.chalSubmit_eq _ s
    · exact h.chalEnd_eq _ s
  · rfl

/-! ### Words of an image -/

theorem BootFrame.imageWord_eq (s : State) (aw : Nat × Word) (ha : harmless aw.1) : π (imageWord s aw) = π s := by
  unfold imageWord
  split
  · rename_i x hx
    exact (h.effect1_eq _ _ _ _ _).trans ((h.effect0_eq _ _ _ _ _ (ha x hx)).trans (h.setWord s _ _))
  · rfl

theorem BootFrame.imageWords_eq (l : List (Nat × Word)) (s : State) (hl : ∀ aw ∈ l, harmless aw.1) :
    π (l.foldl imageWord s) = π s := by
  induction l generalizing s with
  | nil => rfl
  | cons aw l ih =>
    rw [List.foldl_cons, ih _ fun x hx => hl x (List.mem_cons_of_mem _ hx)]
    exact h.imageWord_eq s aw (hl aw List.mem_cons_self)

/-! ### Placement (R139, R141) -/

theorem BootFrame.takeHalf_eq (k : Fin 8) (x : Fin 5 × Bool) (s : State) : π (takeHalf k x s) = π s := h.modGr_eq s k _

theorem BootFrame.placeLost_eq (l : List (Fin 8)) (s : State) : π (placeLost l s) = π s := by
  unfold placeLost
  split
  · rfl
  · split
    · exact forEach_keep π _ (fun s k => h.takeHalf_eq k _ s) l s
    · refine forEach_keep π _ (fun s k => ?_) l s
      split
      · exact h.takeHalf_eq k _ s
      · exact h.modGr_eq s k _

theorem BootFrame.placeNexts_eq (l : List (Fin 8)) (x : State × Bool) : π (l.foldl placeNext x).1 = π x.1 := by
  induction l generalizing x with
  | nil => rfl
  | cons k l ih =>
    rw [List.foldl_cons, ih]
    unfold placeNext
    split
    · exact h.takeHalf_eq k _ x.1
    · rfl

theorem BootFrame.placeAll_eq (s : State) : π (placeAll s).1 = π s := by
  unfold placeAll
  extract_lets s0 ok fixed distinct lost s1 r
  have h0 : π s0 = π s := forAll_keep π _ (fun s k => h.modGr_eq s k _) s
  have h1 : π s1 = π s0 := by
    refine forEach_keep π _ (fun s k => ?_) fixed s0
    split
    · split
      · rfl
      · exact h.takeHalf_eq k _ s
    · rfl
  have hr : π r.1 = π s1 := h.placeNexts_eq _ (s1, distinct)
  exact (forAll_keep π _ (fun s m => h.placeLost_eq _ s) r.1).trans (hr.trans (h1.trans h0))

theorem BootFrame.applyContent_eq (c : Content) (s : State) (hc : ∀ x ∈ c.writes, harmless x.2.1) :
    π (applyContent c s) = π s := by
  have hw : π ((c.writes.map (·.2)).foldl imageWord s) = π s := by
    refine h.imageWords_eq _ s fun aw ha => ?_
    obtain ⟨x, hx, rfl⟩ := List.mem_map.mp ha
    exact hc x hx
  exact (forEach_keep π _ (fun s c => h.loadDac_eq c s) (List.range 128) _).trans ((h.placeAll_eq _).trans hw)

theorem BootFrame.unapply_eq (c : Content) (s : State) : π (unapply c s) = π s := by
  refine forEach_keep π _ (fun s x => ?_) c.writes s
  split
  · exact h.setWord s _ _
  · rfl

end Frame

end Sys2Proof.Machine
end

section
/-!
SUPPORT. The addresses that the sections of a valid image reach (R63-R65, R71, R153): the blocks of R65's table and the graph
windows, in none of which a register with a command of its own that acts on slots, groups or the device stands but a WO one.
-/

open Sys2Proof Sys2Proof.Machine

namespace Sys2Proof.Machine

/-! ### Blocks -/

theorem locateIn_mem {l : List RegSpec} {a : Nat} {x : Loc} (h : locateIn l a = some x) : x.spec ∈ l := by
  induction l with
  | nil => exact absurd h (by simp [locateIn])
  | cons r l ih =>
    unfold locateIn at h
    split at h
    · split at h
      · obtain rfl := Option.some.inj h
        exact List.mem_cons_self
      · exact List.mem_cons_of_mem _ (ih h)
    · exact List.mem_cons_of_mem _ (ih h)

theorem locate_mem {a : Nat} {x : Loc} (h : locate a = some x) : x.spec ∈ blockMap (a / 0x10000) := locateIn_mem h

/-- Outside the image manager's block, only DEVICE_CTL has such a command, and all its fields are WO. -/
theorem ownCommand_writeOnly : ∀ b < 32, b ≠ 4 → ∀ r ∈ blockMap b, ownCommand r.id = true →
    (!r.fields.isEmpty && r.fields.all fun f => f.acc == .wo) = true := by decide +kernel

theorem ownCommand_loop : ∀ r ∈ blockMap 16, ownCommand r.id = false := by decide +kernel

/-- No section's records reach the image manager's block (R65). -/
theorem sectionBlocks_range (typ b : Nat) (h : b ∈ sectionBlocks typ) : b < 32 ∧ b ≠ 4 := by
  unfold sectionBlocks at h
  split at h <;> simp only [List.mem_cons, List.not_mem_nil, or_false] at h <;> omega

/-- A record's word is harmless. -/
theorem harmless_of_record {typ : Nat} {aw : Nat × Word} (h : recordWordOk typ aw = true) : harmless aw.1 := by
  intro x hx
  unfold recordWordOk at h
  rw [hx] at h
  simp only [Bool.and_eq_true, List.contains_iff_mem, Bool.not_eq_true'] at h
  obtain ⟨⟨hb, _⟩, hw, _⟩ := h
  obtain ⟨hlt, hne⟩ := sectionBlocks_range typ _ hb
  cases hc : ownCommand x.spec.id with
  | false => rfl
  | true => exact absurd (ownCommand_writeOnly _ hlt hne _ (locate_mem hx) hc) (Bool.not_eq_true _ ▸ hw)

/-- A word of the graph windows' block is harmless. -/
theorem harmless_of_loop {a : Nat} (h : a / 65536 = 16) : harmless a := by
  intro x hx
  have hm := locate_mem hx
  rw [h] at hm
  exact ownCommand_loop _ hm

/-! ### GRAPH sections (R153) -/

theorem graphStages_block {k : Nat} (hk : k ≤ 7) (n i : Nat) (l : List Word) (r : List (Nat × Word)) (hi : i + n ≤ 16)
    (h : graphStages k n i l = some r) : ∀ aw ∈ r, aw.1 / 65536 = 16 := by
  induction n generalizing i l r with
  | zero =>
    unfold graphStages at h
    split at h
    · obtain rfl := Option.some.inj h
      exact fun aw ha => absurd ha List.not_mem_nil
    · exact absurd h (by simp)
  | succ n ih =>
    obtain _ | ⟨d, _ | ⟨sh, l⟩⟩ := l
    · exact absurd h (by simp [graphStages])
    · exact absurd h (by simp [graphStages])
    · unfold graphStages at h
      dsimp only at h
      split at h
      · exact absurd h (by simp)
      · obtain ⟨q, hq, rfl⟩ := Option.map_eq_some_iff.mp h
        intro aw ha
        simp only [List.cons_append, List.mem_cons, List.mem_append, List.mem_map, List.mem_range] at ha
        obtain rfl | rfl | ⟨j, hj, rfl⟩ | ha := ha
        · simp only [A.GRAPH_STG_DESC]
          omega
        · simp only [A.GRAPH_STG_SHIFT]
          omega
        · simp only [A.GRAPH_STG_COEF]
          omega
        · exact ih (i + 1) _ q (by omega) hq aw ha

theorem graphWords_block {x : Section} {ws : List (Nat × Word)} (h : graphWords x = some ws) :
    ∀ aw ∈ ws, aw.1 / 65536 = 16 := by
  unfold graphWords at h
  split at h
  · exact absurd h (by simp)
  · rename_i hc
    have hk : x.inst ≤ 7 := by
      by_contra hn
      exact hc (by simp; omega)
    split at h
    · split at h
      · exact absurd h (by simp)
      · rename_i hd pl y l _ _
        obtain ⟨q, hq, rfl⟩ := Option.map_eq_some_iff.mp h
        have hn : getBits hd 8 4 < 16 := getBits_lt hd 8 4
        intro aw ha
        simp only [List.mem_cons] at ha
        obtain rfl | rfl | rfl | ha := ha
        · simp only [A.GRAPH_HDR]
          omega
        · simp only [A.GRAPH_PLACE]
          omega
        · simp only [A.GRAPH_YINIT]
          omega
        · exact graphStages_block hk _ 0 l q (by omega) hq aw ha
    · exact absurd h (by simp)

/-! ### The content of an image (R63-R65) -/

/-- While the content is well formed, all it writes is harmless. -/
def Content.safe (c : Content) : Prop := c.ok = true → ∀ x ∈ c.writes, harmless x.2.1

/-- Further words keep the content safe, where they are harmless or the content is no longer well formed. -/
theorem Content.safe_append {c d : Content} (h : c.safe) (ws : List (Nat × Word)) (typ : Nat)
    (hw : d.writes = c.writes ++ ws.map fun aw => (typ, aw.1, aw.2)) (hc : d.ok = true → c.ok = true)
    (hs : d.ok = true → ∀ aw ∈ ws, harmless aw.1) : d.safe := by
  intro hd x hx
  rw [hw, List.mem_append, List.mem_map] at hx
  obtain hx | ⟨aw, ha, rfl⟩ := hx
  · exact h (hc hd) x hx
  · exact hs hd aw ha

theorem addSection_safe (c : Content) (x : Section) (h : c.safe) : (addSection c x).safe := by
  have hbad : ∀ d : Content, d.ok = false → d.safe := fun d hd ho => absurd ho (by simp [hd])
  unfold addSection
  split
  · split
    · exact hbad _ rfl
    · exact h
  · split
    · exact h
    · split
      · split
        · exact hbad _ rfl
        · rename_i ws hws
          exact Content.safe_append h ws 6 rfl (fun ho => (Bool.and_eq_true_iff.mp ho).1)
            fun _ aw ha => harmless_of_loop (graphWords_block hws aw ha)
      · extract_lets ws body c1
        have h1 : c1.writes = c.writes ∧ (c1.ok = true → c.ok = true) := by
          unfold c1
          split
          · exact ⟨rfl, fun ho => (Bool.and_eq_true_iff.mp ho).1⟩
          · exact ⟨rfl, id⟩
        obtain ⟨hw, ho⟩ := h1
        split
        · exact hbad _ rfl
        · rename_i rs _
          refine Content.safe_append h rs x.typ (by rw [← hw]) (fun hd => ?_) fun hd aw ha => ?_
          · exact ho (Bool.and_eq_true_iff.mp (Bool.and_eq_true_iff.mp hd).1).1
          · exact harmless_of_record (List.all_eq_true.mp (Bool.and_eq_true_iff.mp hd).2 aw ha)

theorem contentOf_safe (l : List Section) : (contentOf l).safe := by
  suffices hf : ∀ (l : List Section) (c : Content), c.safe → (l.foldl addSection c).safe from
    hf l _ fun _ x hx => absurd hx List.not_mem_nil
  intro l
  induction l with
  | nil => exact fun _ h => h
  | cons x l ih => exact fun c h => ih _ (addSection_safe c x h)

/-! ### What a full check passes (R71) -/

/-- The content of a slot that passes every check writes harmless words alone. -/
theorem fullCheck_harmless (s : State) (sl : Slot) (h : (fullCheck s sl).cause = 0) :
    ∀ x ∈ (fullCheck s sl).content.writes, harmless x.2.1 := by
  unfold fullCheck at h ⊢
  dsimp only at h ⊢
  split at h
  · rename_i hc
    exact absurd h hc
  · rename_i hc
    rw [if_neg hc]
    split at h
    · exact absurd h (by simp)
    · rename_i secs _
      have hok : (contentOf secs).ok = true := by
        by_contra hn
        rw [Bool.not_eq_true] at hn
        simp only [hn, Bool.false_and, Bool.not_false, if_true] at h
        grind
      exact contentOf_safe secs hok

/-- A full check sees of a slot its bytes and bad words alone. -/
theorem fullCheck_slot {sl sl' : Slot} (s : State) (hb : sl.bytes = sl'.bytes) (hw : sl.badw = sl'.badw) :
    fullCheck s sl = fullCheck s sl' := by
  unfold fullCheck Slot.first
  rw [hb, hw]

end Sys2Proof.Machine
end

section
/-!
PROOFS. The statement of 03_configuration_image.md on the end of BOOT (R19, R51, R74): in STANDBY with an image applied and a good
calibration, in SAFE otherwise.
-/

open Sys2Proof Sys2Proof.Machine

namespace Sys2Proof.Machine

/-! ### The choice of a slot (R72-R74) -/

/-- A slot whose check BOOT reports good is one that a check of the state after it passes. -/
theorem bootCheck_passes (i : Fin 2) (f : ReadFind) (s : State) (h : (vget (bootCheck i f s).img.slots i).cause = 0) :
    (fullCheck (bootCheck i f s) (vget (bootCheck i f s).img.slots i)).cause = 0 := by
  unfold bootCheck at h ⊢
  split at h
  · rename_i ho
    rw [Slot.isOpen, h] at ho
    exact absurd ho (by decide)
  · rename_i ho
    rw [if_neg ho]
    obtain ⟨z, hz⟩ : ∃ z, z = readSlot i f s := ⟨_, rfl⟩
    rw [← hz] at h ⊢
    have hb : (checkSlot i z).checkBasis = z.checkBasis := putSkipped_keep storeFrame_checkBasis _ _
    rw [fullCheck_congr hb]
    rw [checkSlot_slot] at h ⊢
    exact (congrArg Checked.cause (fullCheck_slot z rfl rfl)).trans h

theorem clocks_withImg (s : State) (i : ImageMgr) : ({ s with img := i } : State).clocks = s.clocks := rfl

/-- Choosing and applying an image leaves the straps as sampled, and the PLLs. -/
theorem trySlot_clocks (i : Fin 2) (b : BootIn) (s : State) : (trySlot i b s).1.clocks = s.clocks := by
  unfold trySlot
  extract_lets works s1 sl c s2
  have h1 : s1.clocks = s.clocks := bootFrame_clocks.bootCheck_eq i _ s
  split
  · exact h1
  · rename_i hc
    have hsafe : ∀ x ∈ c.writes, harmless x.2.1 := fullCheck_harmless s1 sl (bootCheck_passes i _ s (not_not.mp hc))
    split
    · exact (clocks_withImg s2 _).trans ((bootFrame_clocks.applyContent_eq c s1 hsafe).trans h1)
    · dsimp only
      exact (bootFrame_clocks.unapply_eq c s1).trans h1

theorem bootMarks_clocks (s : State) : (bootMarks s).1.clocks = s.clocks := by
  unfold bootMarks
  split
  · rfl
  · dsimp only
    split
    · rfl
    · split <;> rfl

theorem preferSlot_clocks (s : State) : (preferSlot s).1.clocks = s.clocks := by
  unfold preferSlot
  split <;> rfl

theorem bootImage_clocks (b : BootIn) (s : State) : (bootImage b s).1.clocks = s.clocks := by
  unfold bootImage
  extract_lets s0 r q t u
  have h0 : s0.clocks = s.clocks := (bootFrame_clocks.readHeader_eq 1 _).trans (bootFrame_clocks.readHeader_eq 0 s)
  have ht : t.1.clocks = s.clocks :=
    (trySlot_clocks _ b q.1).trans ((preferSlot_clocks r.1).trans ((bootMarks_clocks s0).trans h0))
  have hu : u.1.clocks = s.clocks := (trySlot_clocks _ b t.1).trans ht
  clear_value u t
  split
  · exact ht
  · dsimp only
    split
    · exact (bootFrame_clocks.pb_eq u.1 _ _).trans hu
    · exact hu

/-- What BOOT does of the slots: with BOOTSEL high it only checks them. -/
def bootSlots (b : BootIn) (s : State) : State × Bool := if b.bootsel then (bootHeld b s, false) else bootImage b s

/-- Both slots checked and reported, and BOOT held, of which the straps, the PLLs and the marks see nothing. -/
theorem bootHeld_eq {β : Type} {π : State → β} (h : BootFrame π)
    (hh : ∀ t : State, π { t with img := { t.img with held := true } } = π t) (b : BootIn) (s : State) :
    π (bootHeld b s) = π s := by
  unfold bootHeld
  dsimp only
  rw [hh, h.bootCheck_eq, h.bootCheck_eq, h.readHeader_eq, h.readHeader_eq]

theorem bootHeld_clocks (b : BootIn) (s : State) : (bootHeld b s).clocks = s.clocks :=
  bootHeld_eq bootFrame_clocks (fun _ => rfl) b s

theorem bootHeld_slotMarks (b : BootIn) (s : State) (j : Fin 2) : (bootHeld b s).slotMarks j = s.slotMarks j :=
  bootHeld_eq (bootFrame_slotMarks j) (fun _ => rfl) b s

theorem bootHeld_imageFlags (b : BootIn) (s : State) : (bootHeld b s).imageFlags = (s.img.applied, true) := by
  have hf := bootFrame_imageFlags
  have hc : (bootCheck 1 b.readB (bootCheck 0 b.readA (readHeader 1 (readHeader 0 s)))).imageFlags = s.imageFlags := by
    rw [hf.bootCheck_eq, hf.bootCheck_eq, hf.readHeader_eq, hf.readHeader_eq]
  exact congrArg (fun x : Bool × Bool => (x.1, true)) hc

theorem imageFlags_eq {s : State} {a b : Bool} (h : s.imageFlags = (a, b)) : s.img.applied = a ∧ s.img.held = b :=
  Prod.mk.inj h

theorem bootSlots_clocks (b : BootIn) (s : State) : (bootSlots b s).1.clocks = s.clocks := by
  unfold bootSlots
  split
  · exact bootHeld_clocks b s
  · exact bootImage_clocks b s

/-! ### Before and after the choice -/

/-- The state before the choice of a slot, as it was when BOOT began but for the clocks and what no image has yet. -/
theorem bootStart_frame {β : Type} {π : State → β} (h : BootFrame π) (b : BootIn) (s : State) : π (bootStart b s)
    = π { s with img := { s.img with applied := false, running := none, held := false, calFailed := false },
                 sup := { s.sup with smod := b.smod, bootsel := b.bootsel },
                 pll := ⟨(Vector.replicate 2 (!s.nv.health.pllRetired.getLsbD 0)).set 1 (!s.nv.health.pllRetired.getLsbD 1),
                   .replicate 2 false⟩ } := by
  unfold bootStart bootClocks
  dsimp only
  rw [h.readArea_eq, h.loadHealth_eq, h.readStore_eq, h.pb_eq, h.pb_eq, h.pb_eq, h.pb_eq, h.pb_eq]

/-- Roles, rings, channels and the Porter after the choice. -/
def bootJoined (s : State) : State :=
  let s1 := forAll (n := 8) (fun s k => bootNoLane k (bootRing k s)) (bootRoles s)
  let s2 := bootIc ((List.range 120).foldl (fun s f => bootCmp f s) s1)
  if s2.img.applied then porterTakes s2 else s2

/-- BOOT from the choice of a slot on, with whether a trial was reverted. -/
def bootRest (calOk : Bool) (r : State × Bool) : State := bootEnd calOk (imageRecords r.2 (insertRecord (bootJoined r.1)))

/-- BOOT with a PLL locked at its end. -/
theorem boot_locked (b : BootIn) (s : State)
    (h : vget (bootRest b.calOk (bootSlots b (bootStart b s))).pll.locked 0 = true) :
    boot b s = bootRest b.calOk (bootSlots b (bootStart b s)) := by
  show (if vget (bootRest b.calOk (bootSlots b (bootStart b s))).pll.locked 0
    || vget (bootRest b.calOk (bootSlots b (bootStart b s))).pll.locked 1 then _ else _) = _
  exact if_pos (by simp [h])

theorem bootJoined_eq {β : Type} {π : State → β} (h : BootFrame π) (s : State) : π (bootJoined s) = π s := by
  unfold bootJoined
  extract_lets s1 s2
  have h1 : π s1 = π s := (forAll_keep π _ (fun s k => (h.bootNoLane_eq k _).trans (h.bootRing_eq k s)) _).trans (h.bootRoles_eq s)
  have h2 : π s2 = π s1 := (h.bootIc_eq _).trans (forEach_keep π _ (fun s f => h.bootCmp_eq f s) (List.range 120) s1)
  split
  · exact (h.porterTakes_eq s2).trans (h2.trans h1)
  · exact h2.trans h1

theorem bootRest_eq {β : Type} {π : State → β} (h : BootFrame π) (calOk : Bool) (r : State × Bool) :
    π (bootRest calOk r) = π r.1 := by
  unfold bootRest
  rw [h.bootEnd_eq, h.imageRecords_eq, h.insertRecord_eq, bootJoined_eq h]

/-! ### The state BOOT ends in (R19, R74) -/

theorem logFrame_dev : LogFrame (·.dev) := ⟨fun _ _ _ => rfl, fun _ _ _ => rfl, fun _ _ => rfl, fun _ _ _ _ _ _ _ => rfl⟩

theorem flushRecords_dev (s : State) : (flushRecords s).dev = s.dev :=
  forEach_keep (·.dev) _ (fun s _ => logFrame_dev.queueRecord_eq _ _ _ s) _ _

theorem deviceCause_dev (n : Nat) (s : State) : (deviceCause n s).dev = s.dev := by
  refine forEach_keep (·.dev) _ (fun s pe => ?_) _ s
  split <;> rfl

theorem bootEnd_dev (calOk : Bool) (s : State) :
    (bootEnd calOk s).dev = if s.img.applied && calOk then .standby else .safe := by
  unfold bootEnd
  extract_lets n s1 i s2 s3
  split
  · exact (flushRecords_dev _).trans (setDev_dev _ _)
  · refine (logFrame_dev.queueRecord_eq _ _ _ s3).trans ?_
    exact (deviceCause_dev _ _).trans ((flushRecords_dev _).trans (setDev_dev _ _))

theorem bootRest_dev (calOk : Bool) (r : State × Bool) :
    (bootRest calOk r).dev = if r.1.img.applied && calOk then .standby else .safe := by
  have hf := bootFrame_imageFlags
  have ha : (imageRecords r.2 (insertRecord (bootJoined r.1))).img.applied = r.1.img.applied := by
    refine congrArg Prod.fst (?_ : State.imageFlags _ = r.1.imageFlags)
    rw [hf.imageRecords_eq, hf.insertRecord_eq, bootJoined_eq hf]
  unfold bootRest
  rw [bootEnd_dev, ha]

/-- What BOOT leaves with PLL 0 in service, in terms of the state after the choice of a slot. -/
theorem boot_completes {s : State} {b : BootIn} (hd : s.dev = .boot) (hp : s.nv.health.pllRetired.getLsbD 0 = false) :
    let r := bootSlots b (bootStart b s)
    Completes (.boot b) s fun u => u = bootRest b.calOk r ∧ u.dev = (if r.1.img.applied && b.calOk then .standby else .safe)
      ∧ u.sup.smod = b.smod ∧ u.sup.bootsel = b.bootsel ∧ vget u.pll.locked 0 = true := by
  intro r
  have hc : (bootRest b.calOk r).clocks = (b.smod, b.bootsel,
      ⟨(Vector.replicate 2 (!s.nv.health.pllRetired.getLsbD 0)).set 1 (!s.nv.health.pllRetired.getLsbD 1),
        .replicate 2 false⟩) := by
    rw [bootRest_eq bootFrame_clocks, bootSlots_clocks, bootStart_frame bootFrame_clocks]
    rfl
  obtain ⟨hm, hx⟩ := Prod.mk.inj hc
  obtain ⟨hb, hl⟩ := Prod.mk.inj hx
  have hk : vget (bootRest b.calOk r).pll.locked 0 = true := by
    rw [hl, hp]
    rfl
  have he : exec (.boot b) s = done (bootRest b.calOk r) := by
    show done (if s.dev = .boot then boot b s else s) = _
    rw [if_pos hd, boot_locked b s hk]
  exact ⟨_, he, rfl, bootRest_dev _ r, hm, hb, hk⟩

theorem boot_held {s : State} {b : BootIn} (hb : b.bootsel = true) : bootSlots b (bootStart b s)
    = (bootHeld b (bootStart b s), false) := if_pos hb

theorem boot_chosen {s : State} {b : BootIn} (hb : b.bootsel = false) : bootSlots b (bootStart b s)
    = bootImage b (bootStart b s) := if_neg (by simp [hb])

/-- With BOOTSEL high: held in SAFE, the slots' contents and marks as they were. -/
theorem boot_bootsel {s : State} {b : BootIn} (hd : s.dev = .boot) (hp : s.nv.health.pllRetired.getLsbD 0 = false)
    (hb : b.bootsel = true) : Completes (.boot b) s fun u =>
      u.dev = .safe ∧ u.img.held = true ∧ u.img.applied = false ∧ u.sup.bootsel = true ∧ u.sup.smod = b.smod
      ∧ ∀ i : Fin 2, (vget u.img.slots i).bytes = (vget s.img.slots i).bytes
          ∧ (vget u.img.slots i).preferred = (vget s.img.slots i).preferred
          ∧ (vget u.img.slots i).trial = (vget s.img.slots i).trial ∧ (vget u.img.slots i).tried = (vget s.img.slots i).tried := by
  have hst : (bootStart b s).imageFlags = (false, false) := (bootStart_frame bootFrame_imageFlags b s).trans rfl
  have hfl : (bootHeld b (bootStart b s)).imageFlags = (false, true) := by
    rw [bootHeld_imageFlags, (imageFlags_eq hst).1]
  obtain ⟨hap, _⟩ := imageFlags_eq hfl
  obtain ⟨u, he, hu, hdev, hsm, hbs, _⟩ := boot_completes hd hp
  rw [boot_held hb] at hu hdev
  obtain ⟨hua, huh⟩ := imageFlags_eq (show u.imageFlags = (false, true) by rw [hu, bootRest_eq bootFrame_imageFlags, hfl])
  have hum : ∀ j, u.slotMarks j = s.slotMarks j := by
    intro j
    rw [hu, bootRest_eq (bootFrame_slotMarks j), bootHeld_slotMarks, bootStart_frame (bootFrame_slotMarks j)]
    rfl
  refine ⟨u, he, hdev.trans (by rw [hap]; rfl), huh, hua, hbs.trans hb, hsm, fun j => ?_⟩
  obtain ⟨h1, hx⟩ := Prod.mk.inj (hum j)
  obtain ⟨h2, hy⟩ := Prod.mk.inj hx
  obtain ⟨h3, h4⟩ := Prod.mk.inj hy
  exact ⟨h1, h2, h3, h4⟩

/-- Settles O13: the straps and PLLs, the flags and the slots' marks are each framed through every step of BOOT that is not their own,
and its end tells STANDBY from SAFE by the image applied and the calibration. -/
theorem bootEndsInStandbyOrSafe : Obligations.BootEndsInStandbyOrSafe := by
  unfold Obligations.BootEndsInStandbyOrSafe
  refine ⟨fun s b hd hp hb => boot_bootsel hd hp hb, fun s b hd hp hb ha => ?_, fun s b hd hp hc => ?_,
    fun s b hd hp hc hb ha => ?_, fun s b hd => ?_⟩
  · obtain ⟨u, he, _, hdev, hsm, hbs, _⟩ := boot_completes hd hp
    rw [boot_chosen hb, ha] at hdev
    exact ⟨u, he, hdev, hsm, hbs.trans hb⟩
  · obtain ⟨u, he, _, hdev, hsm, _, _⟩ := boot_completes hd hp
    rw [hc, Bool.and_false] at hdev
    exact ⟨u, he, hdev, hsm⟩
  · obtain ⟨u, he, _, hdev, hsm, _, hl⟩ := boot_completes hd hp
    rw [boot_chosen hb, ha, hc] at hdev
    exact ⟨u, he, hdev, hsm, hl⟩
  · exact congrArg done (if_neg hd)

end Sys2Proof.Machine
end

section
/-!
PROOFS. The time base while no command waits, and the state reset leaves (O2, O3).
-/

open Sys2Proof Sys2Proof.Machine
namespace Sys2Proof.Machine

/-- Settles O2: `step_idle`, in OFF and outside it. -/
theorem idleStepTicks : Obligations.IdleStepTicks := by
  unfold Obligations.IdleStepTicks
  intro s h
  constructor
  · intro hd
    rw [step_idle s h, if_neg hd]
  · intro hd
    rw [step_idle s h, if_pos hd]

/-- At reset the register file lists NP_SECS alone. -/
theorem reset_word (a : Nat) (h : a ≠ A.NP_SECS) : State.reset.word a = resetWord a := by
  have hne : ¬ (0x020000 = a) := fun e => h e.symm
  show (SMap.find [(0x020000, (1 : Word))] a).getD (resetWord a) = resetWord a
  rw [SMap.find, if_neg hne]
  rfl

theorem vget_replicate {α : Type} {n : Nat} (x : α) (i : Fin n) : vget (.replicate n x) i = x := by
  simp [vget]

/-- Settles O3: every bank of the reset state is a replicate, and its register file lists one word. -/
theorem resetState : Obligations.ResetState := by
  unfold Obligations.ResetState
  refine ⟨rfl, rfl, reset_word, rfl, fun k => ?_, fun n => ?_, fun q => vget_replicate [] q, rfl⟩
  · exact congrArg (fun r : RailState => r.tr.st) (vget_replicate .reset k)
  · exact congrArg (fun p : PhaseState => p.out) (vget_replicate .reset n)

end Sys2Proof.Machine
end

section
/-!
SUPPORT. What the pulse engine's operations leave alone, as frames: an operation keeps every projection that its own kind of
update keeps. Events of the router reach sticky bits and Plates; switching reaches one phase's output beside; the counting of
limited cycles, the hand-over to forced fixed-frequency mode and the bookkeeping of a boundary reach no output.
-/

open Sys2Proof Sys2Proof.Machine
namespace Sys2Proof.Machine

/-! ### Events of the router (R374, R375) -/

/-- A projection that sees neither the registers the router writes nor the Plates' run states. -/
structure EventFrame {β : Type} (π : State → β) : Prop where
  router : ∀ s a w, RouterWord a → π (State.setWord s a w) = π s
  modPl : ∀ s p f, π (State.modPl s p f) = π s

/-- Whatever keeps every register write and every run state of a Plate. -/
theorem eventFrame_of {β : Type} {π : State → β} (hw : ∀ s a w, π (State.setWord s a w) = π s)
    (hm : ∀ s p f, π (State.modPl s p f) = π s) : EventFrame π := ⟨fun s a w _ => hw s a w, hm⟩

theorem eventFrame_g {e : Fld} (h : ¬ RouterWord e.addr) : EventFrame (·.g e) := by
  refine ⟨fun s a w ha => ?_, fun _ _ _ => rfl⟩
  have hne : e.addr ≠ a := fun he => h (he ▸ ha)
  exact congrArg (getBits · e.lo e.w) (State.word_setWord_ne s a e.addr w hne)

section
variable {β : Type} {π : State → β} (h : EventFrame π)
include h

theorem EventFrame.p_eq (s : State) (f : Fld) (v : Nat) (hf : RouterWord f.addr) : π (s.p f v) = π s := h.router s _ _ hf

theorem EventFrame.plateTrigger_eq (p : Fin 4) (s : State) : π (plateTrigger p s) = π s := by
  have hlo : RouterWord (A.PL_TTSLO p.val) := .inr ⟨p, .inl rfl⟩
  have hhi : RouterWord (A.PL_TTSHI p.val) := .inr ⟨p, .inr rfl⟩
  unfold plateTrigger
  dsimp only
  split
  · exact (h.p_eq _ _ _ hhi).trans ((h.p_eq _ _ _ hhi).trans ((h.p_eq _ _ _ hhi).trans ((h.p_eq _ _ _ hhi).trans
      ((h.router _ _ _ hlo).trans (h.modPl s p _)))))
  · rfl

theorem EventFrame.routerEvent_eq (src : Nat) (s : State) : π (routerEvent src s) = π s := by
  have hsticky : π (stickyEvent src true s) = π s := by
    refine forAll_keep π _ (fun s i => ?_) s
    split
    · exact h.p_eq s _ _ (.inl rfl)
    · rfl
  have hplate : ∀ s, π (plateEvent src true s) = π s := by
    refine forAll_keep π _ (fun s p => ?_)
    split
    · exact h.plateTrigger_eq p s
    · rfl
  unfold routerEvent routerEdge
  split
  · exact (plateBase_keep π h.modPl 4 src _).trans ((hplate _).trans hsticky)
  · rfl

theorem EventFrame.phaseEvent_eq (n : Fin 48) (kind : Nat) (s : State) : π (phaseEvent n kind s) = π s := by
  have hbase : π (if kind = 2 then plateBase 3 n.val s else s) = π s := by
    split
    · exact plateBase_keep π h.modPl _ _ s
    · rfl
  unfold phaseEvent
  extract_lets s1
  change π s1 = π s at hbase
  clear_value s1
  split
  · exact (h.routerEvent_eq _ s1).trans hbase
  · exact hbase

end

/-! ### Switching (R93, R94) -/

/-- A phase without what a change of its output changes. -/
def PhaseState.held (p : PhaseState) : PhaseState :=
  { p with out := .off, dead := .none, full := false, delayed := none, offAt := none, ends := [], hist := [], watched := false }

/-- A projection that sees nothing of what switching the output of phase n changes. -/
structure SwitchFrame {β : Type} (n : Fin 48) (π : State → β) : Prop extends EventFrame π where
  modPh : ∀ s f, (∀ p, PhaseState.held (f p) = p.held) → π (State.modPh s n f) = π s

theorem switchFrame_g {n : Fin 48} {e : Fld} (h : ¬ RouterWord e.addr) : SwitchFrame n (·.g e) :=
  ⟨eventFrame_g h, fun _ _ _ => rfl⟩

theorem switchFrame_ph {n m : Fin 48} (h : m ≠ n) : SwitchFrame n (·.ph m) :=
  ⟨⟨fun _ _ _ _ => rfl, fun _ _ _ => rfl⟩, fun s f _ => State.modPh_ne s n m f h⟩

theorem switchFrame_held (n m : Fin 48) : SwitchFrame n fun s => (s.ph m).held := by
  refine ⟨⟨fun _ _ _ _ => rfl, fun _ _ _ => rfl⟩, fun s f hf => ?_⟩
  by_cases hm : m = n
  · rw [hm, State.modPh_same, hf]
  · rw [State.modPh_ne s n m f hm]

theorem switchFrame_of {β : Type} {n : Fin 48} {π : State → β} (hw : ∀ s a w, π (State.setWord s a w) = π s)
    (hm : ∀ s p f, π (State.modPl s p f) = π s) (hp : ∀ s f, π (State.modPh s n f) = π s) : SwitchFrame n π :=
  ⟨eventFrame_of hw hm, fun s f _ => hp s f⟩

section
variable {β : Type} {π : State → β} {n : Fin 48} (h : SwitchFrame n π)
include h

theorem SwitchFrame.noting_eq (f : State → State) (s : State) : π (noting n f s) = π (f s) := by
  unfold noting
  dsimp only
  split
  · rfl
  · exact h.modPh _ _ fun _ => rfl

theorem SwitchFrame.turnOff_eq (s : State) : π (turnOff n s) = π s := by
  unfold turnOff
  split
  · exact (h.phaseEvent_eq n 1 _).trans (h.modPh s _ fun _ => by rfl)
  · rfl

theorem SwitchFrame.phOff_eq (s : State) : π (phOff n s) = π s :=
  (h.noting_eq _ s).trans ((h.modPh _ _ fun _ => by rfl).trans (h.turnOff_eq s))

theorem SwitchFrame.phLow_eq (s : State) : π (phLow n s) = π s :=
  (h.noting_eq _ s).trans ((h.modPh _ _ fun _ => by rfl).trans (h.turnOff_eq s))

theorem SwitchFrame.phHigh_eq (s : State) : π (phHigh n s) = π s :=
  (h.noting_eq _ s).trans ((h.phaseEvent_eq n 0 _).trans (h.modPh s _ fun _ => by rfl))

theorem SwitchFrame.endPulse_eq (s : State) : π (endPulse n s) = π s := by
  unfold endPulse
  split
  · exact (h.noting_eq _ s).trans ((h.modPh _ _ fun _ => by rfl).trans (h.turnOff_eq s))
  · exact h.phLow_eq s

theorem SwitchFrame.cutOutput_eq (s : State) : π (cutOutput n s) = π s := by
  unfold cutOutput
  split
  · exact h.phOff_eq s
  · split
    · exact h.endPulse_eq s
    · split
      · rfl
      · exact h.phLow_eq s

end

/-! ### The output and dead time after switching -/

/-- The output and the dead time of phase n. -/
def State.drive (s : State) (n : Fin 48) : OutState × DeadTime := ((s.ph n).out, (s.ph n).dead)

theorem drive_eq {s : State} {n : Fin 48} {o : OutState} {d : DeadTime} (h : s.drive n = (o, d)) :
    (s.ph n).out = o ∧ (s.ph n).dead = d := Prod.mk.inj h

theorem eventFrame_drive (n : Fin 48) : EventFrame (·.drive n) := ⟨fun _ _ _ _ => rfl, fun _ _ _ => rfl⟩

/-- Changes of a phase that leave its output and dead time. -/
theorem drive_modPh (s : State) (n m : Fin 48) (f : PhaseState → PhaseState)
    (hf : ∀ p, (f p).out = p.out ∧ (f p).dead = p.dead) : (s.modPh m f).drive n = s.drive n := by
  by_cases h : n = m
  · obtain ⟨ho, hd⟩ := hf (s.ph m)
    unfold State.drive
    rw [h, State.modPh_same, ho, hd]
  · unfold State.drive
    rw [State.modPh_ne s m n f h]

theorem noting_drive (n m : Fin 48) (f : State → State) (s : State) : (noting n f s).drive m = (f s).drive m := by
  unfold noting
  dsimp only
  split
  · rfl
  · exact drive_modPh _ m n _ fun _ => ⟨rfl, rfl⟩

theorem phOff_drive (n : Fin 48) (s : State) : (phOff n s).drive n = (.off, .none) := by
  refine (noting_drive n n _ s).trans ?_
  unfold State.drive
  rw [State.modPh_same]

theorem phLow_drive (n : Fin 48) (s : State) : (phLow n s).drive n = (.low, .none) := by
  refine (noting_drive n n _ s).trans ?_
  unfold State.drive
  rw [State.modPh_same]

theorem phHigh_drive (n : Fin 48) (s : State) : (phHigh n s).drive n = (.high, .none) := by
  refine (noting_drive n n _ s).trans (((eventFrame_drive n).phaseEvent_eq n 0 _).trans ?_)
  unfold State.drive
  rw [State.modPh_same]

theorem endPulse_paired (n : Fin 48) (s : State) (h : s.paired (groupOf n.val) = true) :
    (endPulse n s).drive n = (.off, .hl) := by
  unfold endPulse
  rw [if_pos h, noting_drive]
  unfold State.drive
  rw [State.modPh_same]

theorem endPulse_threeLevel (n : Fin 48) (s : State) (h : s.paired (groupOf n.val) = false) :
    (endPulse n s).drive n = (.low, .none) := by
  unfold endPulse
  rw [if_neg (by simp [h]), phLow_drive]

/-! ### Limited cycles and forced fixed-frequency mode (R106, R133, R279, R280) -/

/-- A projection that sees nothing of what the count of limited cycles of phase n and a hand-over of ring phases change. -/
structure CycleFrame {β : Type} (n : Fin 48) (π : State → β) : Prop where
  limcnt : ∀ s w, π (State.setWord s (A.PHASE_LIMCNT n.val) w) = π s
  rcons : ∀ s (k : Fin 8) v, π (State.p s (F.FM_RAIL_STAT_RCONS k.val) v) = π s
  modPh : ∀ s m f, (∀ p : PhaseState, (f p).out = p.out ∧ (f p).dead = p.dead ∧ (f p).limited = p.limited
    ∧ (f p).tail = p.tail) → π (State.modPh s m f) = π s

theorem cycleFrame_drive (n m : Fin 48) : CycleFrame n (·.drive m) :=
  ⟨fun _ _ => rfl, fun _ _ _ => rfl, fun s j f hf => drive_modPh s m j f fun p => ⟨(hf p).1, (hf p).2.1⟩⟩

section
variable {β : Type} {π : State → β} {n : Fin 48} (h : CycleFrame n π)
include h

theorem CycleFrame.limCycle_eq (s : State) : π (limCycle n s) = π s := by
  have h1 : π ((s.inc (F.PHASE_LIMCNT_TOTAL n.val)).inc (F.PHASE_LIMCNT_CONSEC n.val)) = π s :=
    (h.limcnt _ _).trans (h.limcnt s _)
  unfold limCycle
  extract_lets s1
  split
  · split
    · exact (h.rcons s1 _ _).trans h1
    · exact h1
  · exact h1

theorem CycleFrame.normalEnd_eq (s : State) : π (normalEnd n s) = π s := by
  have h1 : π ((s.p (F.PHASE_LIMCNT_CONSEC n.val) 0).modPh n fun p => { p with neighbour := false }) = π s :=
    (h.modPh _ n _ fun _ => by exact ⟨rfl, rfl, rfl, rfl⟩).trans (h.limcnt s _)
  unfold normalEnd
  extract_lets s1
  split
  · extract_lets s2
    have h2 : π s2 = π s := (h.rcons s1 _ _).trans h1
    split
    · refine (forEach_keep π _ (fun s m => ?_) _ s2).trans h2
      split
      · exact h.modPh s m _ fun _ => ⟨rfl, rfl, rfl, rfl⟩
      · rfl
    · exact h2
  · exact h1

theorem CycleFrame.ffPhase_eq (k : Fin 8) (i : Nat) (m : Fin 48) (s : State) : π (ffPhase k i m s) = π s := by
  unfold ffPhase
  split
  · exact h.modPh s m _ fun _ => ⟨rfl, rfl, rfl, rfl⟩
  · split
    · rfl
    · exact h.modPh s m _ fun _ => ⟨rfl, rfl, rfl, rfl⟩

theorem CycleFrame.ffSwitch_eq (m : Fin 48) (s : State) : π (ffSwitch m s) = π s := by
  unfold ffSwitch
  split
  · split
    · exact forEach_keep π _ (fun s (x : Fin 48 × Nat) => h.ffPhase_eq _ x.2 x.1 s) _ s
    · rfl
  · rfl

end

theorem ffSwitch_regs (n : Fin 48) (s : State) : (ffSwitch n s).regs = s.regs := by
  have hp : ∀ (k : Fin 8) (s : State) (x : Fin 48 × Nat), (ffPhase k x.2 x.1 s).regs = s.regs := by
    intro k s x
    unfold ffPhase
    split
    · rfl
    · split <;> rfl
  unfold ffSwitch
  split
  · split
    · exact forEach_keep (·.regs) _ (hp _) _ s
    · rfl
  · rfl

theorem ffSwitch_g (n : Fin 48) (s : State) (e : Fld) : (ffSwitch n s).g e = s.g e :=
  congrArg (fun r => getBits (RegFile.word r e.addr) e.lo e.w) (ffSwitch_regs n s)

/-- A pulse that ends at its programmed on-time ends the run of limited cycles. -/
theorem normalEnd_consec (n : Fin 48) (s : State) : (normalEnd n s).g (F.PHASE_LIMCNT_CONSEC n.val) = 0 := by
  have h1 : ((s.p (F.PHASE_LIMCNT_CONSEC n.val) 0).modPh n fun p => { p with neighbour := false }).g
      (F.PHASE_LIMCNT_CONSEC n.val) = 0 := State.g_p s (F.PHASE_LIMCNT_CONSEC n.val) 0 (show 0 + 8 ≤ 32 by decide)
  have hne : ∀ k : Fin 8, (F.PHASE_LIMCNT_CONSEC n.val).addr ≠ (F.FM_RAIL_STAT_RCONS k.val).addr := by
    intro k
    show A.PHASE_LIMCNT n.val ≠ A.FM_RAIL_STAT k.val
    unfold A.PHASE_LIMCNT A.FM_RAIL_STAT
    omega
  unfold normalEnd
  extract_lets s1
  split
  · next k _ =>
    extract_lets s2
    have h2 : s2.g (F.PHASE_LIMCNT_CONSEC n.val) = 0 := (State.g_p_addr s1 _ _ 0 (hne k)).trans h1
    split
    · refine (forEach_keep (·.g (F.PHASE_LIMCNT_CONSEC n.val)) _ (fun s m => ?_) _ s2).trans h2
      split <;> rfl
    · exact h2
  · exact h1

end Sys2Proof.Machine
end

section
/-!
PROOFS. The ends of pulses, dead times and low intervals (O16).
-/

open Sys2Proof Sys2Proof.Machine
namespace Sys2Proof.Machine

/-! ### What the instant of a command leaves alone -/

/-- The instant of a command reaches nothing that does not read the time base. -/
theorem atTime_eq {β : Type} (π : State → β) (h : ∀ (s : State) b f, π { s with tb := b, fine := f } = π s) (s : State) (t : Time) :
    π (s.atTime t) = π s := by
  unfold State.atTime
  split
  · rfl
  · exact h s _ _

@[simp] theorem atTime_ph (s : State) (t : Time) (n : Fin 48) : (s.atTime t).ph n = s.ph n :=
  atTime_eq (·.ph n) (fun _ _ _ => rfl) s t
@[simp] theorem atTime_gb (s : State) (t : Time) (f : Fld) : (s.atTime t).gb f = s.gb f :=
  atTime_eq (·.gb f) (fun _ _ _ => rfl) s t
@[simp] theorem atTime_phRuns (s : State) (t : Time) (n : Fin 48) : (s.atTime t).phRuns n = s.phRuns n :=
  atTime_eq (·.phRuns n) (fun _ _ _ => rfl) s t
@[simp] theorem atTime_paired (s : State) (t : Time) (g : Nat) : (s.atTime t).paired g = s.paired g :=
  atTime_eq (·.paired g) (fun _ _ _ => rfl) s t
@[simp] theorem atTime_latched (s : State) (t : Time) (n : Nat) : (s.atTime t).latched n = s.latched n :=
  atTime_eq (·.latched n) (fun _ _ _ => rfl) s t
@[simp] theorem atTime_servedBy (s : State) (t : Time) (f : Nat) : (s.atTime t).servedBy f = s.servedBy f :=
  atTime_eq (·.servedBy f) (fun _ _ _ => rfl) s t

/-! ### Ends of pulses (R91, R94, R106) -/

/-- The high level of a phase has ended at its programmed on-time, by an operation that switches phase n alone. -/
theorem pulseEnded {n : Fin 48} {s e : State} {d : OutState × DeadTime} (hn : e.drive n = d)
    (ho : ∀ m, m ≠ n → e.ph m = s.ph m) :
    (ffSwitch n (normalEnd n e)).drive n = d ∧ (ffSwitch n (normalEnd n e)).g (F.PHASE_LIMCNT_CONSEC n.val) = 0
      ∧ ∀ m, m ≠ n → ((ffSwitch n (normalEnd n e)).ph m).out = (s.ph m).out := by
  have hd : ∀ m, (ffSwitch n (normalEnd n e)).drive m = e.drive m := fun m =>
    ((cycleFrame_drive n m).ffSwitch_eq n _).trans ((cycleFrame_drive n m).normalEnd_eq e)
  refine ⟨(hd n).trans hn, (ffSwitch_g n _ _).trans (normalEnd_consec n e), fun m hm => ?_⟩
  exact (congrArg Prod.fst (hd m)).trans (congrArg (·.out) (ho m hm))

theorem onTimeEnd_running (n : Fin 48) (s : State) (hr : s.phRuns n = true) (ho : (s.ph n).out = .high)
    (hf : (s.ph n).full = false) : onTimeEnd n s = ffSwitch n (normalEnd n (endPulse n s)) := by
  simp [onTimeEnd, hr, ho, hf]

theorem onTimeEnd_stopped (n : Fin 48) (s : State) (hr : s.phRuns n = false) (ho : (s.ph n).out = .high) :
    onTimeEnd n s = ffSwitch n (normalEnd n (phOff n s)) := by
  simp [onTimeEnd, hr, ho]

theorem onTimeEnd_idle (n : Fin 48) (s : State) (h : (s.ph n).out ≠ .high ∨ ((s.ph n).full = true ∧ s.phRuns n = true)) :
    onTimeEnd n s = s := by
  refine if_neg ?_
  rcases h with h | ⟨hf, hr⟩
  · simp [h]
  · simp [hf, hr]

/-! ### Ends of dead times (R94) -/

theorem deadTimeEnd_running (n : Fin 48) (s : State) (hr : s.phRuns n = true) (hl : s.latched n.val = false)
    (hd : (s.ph n).dead ≠ .none) : deadTimeEnd n s = if (s.ph n).dead = .lh then phHigh n s else phLow n s := by
  unfold deadTimeEnd
  split
  · next h => exact absurd h hd
  · next h => simp [hr, hl, h]
  · next h => simp [hr, hl, h]

theorem deadTimeEnd_held (n : Fin 48) (s : State) (hr : s.phRuns n = false ∨ s.latched n.val = true)
    (hd : (s.ph n).dead ≠ .none) : deadTimeEnd n s = phOff n s := by
  have hg : ¬ ((s.phRuns n && !s.latched n.val) = true) := by
    rcases hr with hr | hr <;> simp [hr]
  unfold deadTimeEnd
  split
  · next h => exact absurd h hd
  · exact if_neg hg
  · exact if_neg hg

theorem deadTimeEnd_none (n : Fin 48) (s : State) (hd : (s.ph n).dead = .none) : deadTimeEnd n s = s := by
  unfold deadTimeEnd
  rw [hd]

/-! ### The end of a tail and the zero-current crossing (R132, R137) -/

theorem dropTail_ph (n : Fin 48) (s : State) :
    (dropTail n s).drive n = s.drive n ∧ ((dropTail n s).ph n).tail = none ∧ ∀ m, m ≠ n → (dropTail n s).ph m = s.ph m := by
  unfold dropTail
  split
  · next h => exact ⟨rfl, h, fun _ _ => rfl⟩
  · next k _ =>
    have hp : ∀ m, (updateTail k (s.modPh n fun p => { p with tail := none })).ph m
        = (s.modPh n fun p => { p with tail := none }).ph m := fun m => rfl
    have hd : (s.modPh n fun p => { p with tail := none }).drive n = s.drive n := drive_modPh s n n _ fun _ => ⟨rfl, rfl⟩
    refine ⟨hd, ?_, fun m hm => (hp m).trans (State.modPh_ne s n m _ hm)⟩
    rw [hp, State.modPh_same]

theorem held_tail {p q : PhaseState} (h : p.held = q.held) : p.tail = q.tail := by
  have ht : p.held.tail = q.held.tail := congrArg (fun p : PhaseState => p.tail) h
  exact ht

theorem phOff_tail (n : Fin 48) (s : State) : ((phOff n s).ph n).tail = (s.ph n).tail :=
  held_tail ((switchFrame_held n n).phOff_eq s)

theorem zeroCurrentCrossing_off (n : Fin 48) (s : State) (ho : (s.ph n).out = .low)
    (hd : (s.ph n).de = true ∨ (s.ph n).tail ≠ none) (hs : s.servedBy (48 + n.val) < 128) :
    zeroCurrentCrossing n s = if (s.ph n).tail = none then phOff n s else dropTail n (phOff n s) := by
  unfold zeroCurrentCrossing endTail
  rcases ht : (s.ph n).tail with _ | k
  · have hde : (s.ph n).de = true := by simpa [ht] using hd
    simp [ho, hde, hs]
  · simp [ho, hs]

theorem zeroCurrentCrossing_unserved (n : Fin 48) (s : State) (h : 128 ≤ s.servedBy (48 + n.val)) :
    zeroCurrentCrossing n s = s :=
  if_neg (by simp [Nat.not_lt.mpr h])

theorem zeroCurrentCrossing_ph (n : Fin 48) (s : State) (ho : (s.ph n).out = .low)
    (hd : (s.ph n).de = true ∨ (s.ph n).tail ≠ none) (hs : s.servedBy (48 + n.val) < 128) :
    (zeroCurrentCrossing n s).drive n = (.off, .none) ∧ ((zeroCurrentCrossing n s).ph n).tail = none
      ∧ ∀ m, m ≠ n → (zeroCurrentCrossing n s).ph m = s.ph m := by
  have hoff : ∀ m, m ≠ n → (phOff n s).ph m = s.ph m := fun m hm => (switchFrame_ph hm).phOff_eq s
  rw [zeroCurrentCrossing_off n s ho hd hs]
  split
  · next ht => exact ⟨phOff_drive n s, (phOff_tail n s).trans ht, hoff⟩
  · obtain ⟨hdr, ht, hm⟩ := dropTail_ph n (phOff n s)
    exact ⟨hdr.trans (phOff_drive n s), ht, fun m h => (hm m h).trans (hoff m h)⟩

/-- Settles O16: the four ends of a pulse by what switches the phase (`pulseEnded`), the dead time by the FET that waits, the
crossing with and without a tail. -/
theorem pulseEndsFollowTheGroup : Obligations.PulseEndsFollowTheGroup := by
  unfold Obligations.PulseEndsFollowTheGroup
  refine ⟨fun s n t hr ho hf hp => ?_, fun s n t hr ho hf hp => ?_, fun s n t hr ho => ?_, fun s n t h => ?_,
    fun s n t hr hl hd => ?_, fun s n t hr hd => ?_, fun s n t hd => ?_, fun s n t ho hd hs => ?_, fun s n t hs => ?_⟩
  · have hother : ∀ m, m ≠ n → (endPulse n (s.atTime t)).ph m = s.ph m := fun m hm =>
      ((switchFrame_ph hm).endPulse_eq _).trans (atTime_ph s t m)
    obtain ⟨hd, hc, hm⟩ := pulseEnded (endPulse_threeLevel n (s.atTime t) (by simp [hp])) hother
    refine ⟨_, congrArg done (onTimeEnd_running n (s.atTime t) ?_ ?_ ?_), (drive_eq hd).1, hc, hm⟩ <;> simpa
  · have hother : ∀ m, m ≠ n → (endPulse n (s.atTime t)).ph m = s.ph m := fun m hm =>
      ((switchFrame_ph hm).endPulse_eq _).trans (atTime_ph s t m)
    obtain ⟨hd, hc, hm⟩ := pulseEnded (endPulse_paired n (s.atTime t) (by simp [hp])) hother
    refine ⟨_, congrArg done (onTimeEnd_running n (s.atTime t) ?_ ?_ ?_), (drive_eq hd).1, (drive_eq hd).2, hc, hm⟩ <;> simpa
  · have hother : ∀ m, m ≠ n → (phOff n (s.atTime t)).ph m = s.ph m := fun m hm =>
      ((switchFrame_ph hm).phOff_eq _).trans (atTime_ph s t m)
    obtain ⟨hd, hc, hm⟩ := pulseEnded (phOff_drive n (s.atTime t)) hother
    refine ⟨_, congrArg done (onTimeEnd_stopped n (s.atTime t) ?_ ?_), (drive_eq hd).1, (drive_eq hd).2, hc, hm⟩ <;> simpa
  · exact congrArg done (onTimeEnd_idle n (s.atTime t) (by simpa using h))
  · refine ⟨_, congrArg done (deadTimeEnd_running n (s.atTime t) (by simpa) (by simpa) (by simpa)), ?_⟩
    rw [atTime_ph]
    split
    · obtain ⟨ho, hn⟩ := drive_eq (phHigh_drive n (s.atTime t))
      exact ⟨hn, ho, fun m hm => ((switchFrame_ph hm).phHigh_eq _).trans (atTime_ph s t m)⟩
    · obtain ⟨ho, hn⟩ := drive_eq (phLow_drive n (s.atTime t))
      exact ⟨hn, ho, fun m hm => ((switchFrame_ph hm).phLow_eq _).trans (atTime_ph s t m)⟩
  · obtain ⟨ho, hn⟩ := drive_eq (phOff_drive n (s.atTime t))
    exact ⟨_, congrArg done (deadTimeEnd_held n (s.atTime t) (by simpa) (by simpa)), hn, ho,
      fun m hm => ((switchFrame_ph hm).phOff_eq _).trans (atTime_ph s t m)⟩
  · exact congrArg done (deadTimeEnd_none n (s.atTime t) (by simpa))
  · obtain ⟨hdr, ht, hm⟩ := zeroCurrentCrossing_ph n (s.atTime t) (by simpa) (by simpa) (by simpa)
    exact ⟨_, rfl, (drive_eq hdr).1, (drive_eq hdr).2, ht, fun m h => (hm m h).trans (atTime_ph s t m)⟩
  · exact congrArg done (zeroCurrentCrossing_unserved n (s.atTime t) (by simpa))

end Sys2Proof.Machine
end

section
/-!
SUPPORT. What the bookkeeping of a boundary leaves alone where no latch source acts (R87, R96-R99, R101, R104), and the start of
a pulse in a three-level group (R94, R95).
-/

open Sys2Proof Sys2Proof.Machine
namespace Sys2Proof.Machine

/-! ### Fields apart -/

/-- Field e shares no bit with field f. -/
def Fld.Apart (e f : Fld) : Prop := e.addr ≠ f.addr ∨ e.lo + e.w ≤ f.lo ∨ f.lo + f.w ≤ e.lo

theorem g_p_of_apart {e f : Fld} (s : State) (v : Nat) (hf : f.lo + f.w ≤ 32) (h : e.Apart f) : (s.p f v).g e = s.g e := by
  rcases h with h | h
  · exact State.g_p_addr s f e v h
  · exact State.g_p_apart s f e v hf h

theorem gb_p_of_apart {e f : Fld} (s : State) (v : Nat) (hf : f.lo + f.w ≤ 32) (h : e.Apart f) : (s.p f v).gb e = s.gb e :=
  congrArg (· != 0) (g_p_of_apart s v hf h)

theorem phaseWord_not_router {n : Fin 48} {a : Nat} (h : a < 0x080100 + n.val * 0x100) : ¬ RouterWord a :=
  not_routerWord_of_lt (by omega)

/-! ### The bookkeeping of a boundary -/

/-- A phase without what a boundary's bookkeeping changes. -/
def PhaseState.kept (p : PhaseState) : PhaseState :=
  { p with started := false, limited := false, dutyActive := none, ffFirst := false, bound := none, ofsOver := none, hist := [],
           boundary := [], shCount := 0, modelOc := false, de := false, alignErr := 0, alignAdj := 0 }

/-- A projection that sees nothing of what the bookkeeping of a boundary of phase n changes. -/
structure PrepFrame {β : Type} (n : Fin 48) (π : State → β) : Prop extends EventFrame π where
  shlock : ∀ s v, π (State.p s (F.PHASE_CTL_SHLOCK n.val) v) = π s
  shlockto : ∀ s v, π (State.p s (F.PHASE_STATUS_SHLOCKTO n.val) v) = π s
  cut : ∀ s v, π (State.p s (F.PHASE_STATUS_CUT n.val) v) = π s
  actper : ∀ s w, π (State.setWord s (A.PHASE_ACTPER n.val) w) = π s
  cancelled : ∀ (s : State) x, π { s with img := { s.img with cancelled := x } } = π s
  modPh : ∀ s f, (∀ p, PhaseState.kept (f p) = p.kept) → π (State.modPh s n f) = π s

/-- Whatever sees no register, no Plate, no phase and no cancelled commit. -/
theorem prepFrame_of {β : Type} {n : Fin 48} {π : State → β} (hw : ∀ s a w, π (State.setWord s a w) = π s)
    (hm : ∀ s p f, π (State.modPl s p f) = π s) (hp : ∀ s f, π (State.modPh s n f) = π s)
    (hc : ∀ (s : State) x, π { s with img := { s.img with cancelled := x } } = π s) : PrepFrame n π :=
  ⟨eventFrame_of hw hm, fun s _ => hw s _ _, fun s _ => hw s _ _, fun s _ => hw s _ _, fun s _ => hw s _ _, hc,
    fun s f _ => hp s f⟩

theorem prepFrame_g {n : Fin 48} {e : Fld} (hr : ¬ RouterWord e.addr) (h1 : e.Apart (F.PHASE_CTL_SHLOCK n.val))
    (h2 : e.Apart (F.PHASE_STATUS_SHLOCKTO n.val)) (h3 : e.Apart (F.PHASE_STATUS_CUT n.val))
    (h4 : e.addr ≠ A.PHASE_ACTPER n.val) : PrepFrame n (·.g e) :=
  ⟨eventFrame_g hr, fun s v => g_p_of_apart s v (show 15 + 1 ≤ 32 by decide) h1,
    fun s v => g_p_of_apart s v (show 10 + 1 ≤ 32 by decide) h2, fun s v => g_p_of_apart s v (show 4 + 1 ≤ 32 by decide) h3,
    fun s w => congrArg (getBits · e.lo e.w) (State.word_setWord_ne s _ _ w h4), fun _ _ => rfl, fun _ _ _ => rfl⟩

/-- A field of a configuration register of the phase, beside CTL, STATUS and ACTPER. -/
theorem prepFrame_config {n : Fin 48} {e : Fld} (h : e.addr < A.PHASE_STATUS n.val) (hc : e.addr ≠ A.PHASE_CTL n.val) :
    PrepFrame n (·.g e) := by
  have hlt : e.addr < 0x08001C + n.val * 0x100 := h
  refine prepFrame_g (phaseWord_not_router (n := n) (by omega)) (.inl hc) (.inl (Nat.ne_of_lt h)) (.inl (Nat.ne_of_lt h)) ?_
  unfold A.PHASE_ACTPER
  omega

theorem prepFrame_ctl {n : Fin 48} {e : Fld} (h : e.addr = A.PHASE_CTL n.val) (ha : e.lo + e.w ≤ 15) :
    PrepFrame n (·.g e) := by
  have hst : e.addr ≠ A.PHASE_STATUS n.val := by rw [h]; unfold A.PHASE_CTL A.PHASE_STATUS; omega
  refine prepFrame_g (phaseWord_not_router (n := n) ?_) (.inr (.inl ha)) (.inl hst) (.inl hst) ?_
  · rw [h]; unfold A.PHASE_CTL; omega
  · rw [h]; unfold A.PHASE_CTL A.PHASE_ACTPER; omega

theorem prepFrame_latched (n : Fin 48) : PrepFrame n (·.g (F.PHASE_STATUS_LATCHED n.val)) := by
  have hctl : A.PHASE_STATUS n.val ≠ A.PHASE_CTL n.val := by unfold A.PHASE_CTL A.PHASE_STATUS; omega
  refine prepFrame_g (phaseWord_not_router (n := n) ?_) (.inl hctl) (.inr (.inl (show 5 + 1 ≤ 10 by decide)))
    (.inr (.inr (show 4 + 1 ≤ 5 by decide))) ?_
  · show A.PHASE_STATUS n.val < _
    unfold A.PHASE_STATUS; omega
  · show A.PHASE_STATUS n.val ≠ _
    unfold A.PHASE_STATUS A.PHASE_ACTPER; omega

/-- What a phase holds beside the bookkeeping. -/
theorem prepFrame_kept (n m : Fin 48) : PrepFrame n fun s => (s.ph m).kept := by
  refine ⟨⟨fun _ _ _ _ => rfl, fun _ _ _ => rfl⟩, fun _ _ => rfl, fun _ _ => rfl, fun _ _ => rfl, fun _ _ => rfl,
    fun _ _ => rfl, fun s f hf => ?_⟩
  by_cases hm : m = n
  · rw [hm, State.modPh_same, hf]
  · rw [State.modPh_ne s n m f hm]

theorem prepFrame_tripcfg {n : Fin 48} {e : Fld} (h : e.addr = A.PHASE_TRIPCFG n.val) : PrepFrame n (·.g e) := by
  refine prepFrame_config ?_ ?_
  · rw [h]; unfold A.PHASE_TRIPCFG A.PHASE_STATUS; omega
  · rw [h]; unfold A.PHASE_TRIPCFG A.PHASE_CTL; omega

/-- Two projections side by side. -/
theorem PrepFrame.pair {β γ : Type} {n : Fin 48} {π : State → β} {κ : State → γ} (h : PrepFrame n π) (k : PrepFrame n κ) :
    PrepFrame n fun s => (π s, κ s) where
  router s a w ha := Prod.ext (h.router s a w ha) (k.router s a w ha)
  modPl s p f := Prod.ext (h.modPl s p f) (k.modPl s p f)
  shlock s v := Prod.ext (h.shlock s v) (k.shlock s v)
  shlockto s v := Prod.ext (h.shlockto s v) (k.shlockto s v)
  cut s v := Prod.ext (h.cut s v) (k.cut s v)
  actper s w := Prod.ext (h.actper s w) (k.actper s w)
  cancelled s x := Prod.ext (h.cancelled s x) (k.cancelled s x)
  modPh s f hf := Prod.ext (h.modPh s f hf) (k.modPh s f hf)

section
variable {β : Type} {π : State → β} {n : Fin 48} (h : PrepFrame n π)
include h

theorem PrepFrame.shlockBoundary_eq (s : State) : π (shlockBoundary n s) = π s := by
  unfold shlockBoundary
  extract_lets c
  split
  · exact (h.modPh _ _ fun _ => by rfl).trans ((h.shlockto _ _).trans (h.shlock s _))
  · exact h.modPh s _ fun _ => rfl

/-- With nothing armed or cancelled for the phase no commit takes effect, and what was cancelled for it is settled. -/
theorem PrepFrame.applyDue_eq (w : Nat) (s : State) (ha : s.isArmed 1 n.val = false)
    (hc : ∀ x ∈ s.img.cancelled, x.commit.group = 1 → x.commit.index ≠ n.val) : π (applyDue w 1 n.val s) = π s := by
  have hlate : s.lateAbort w 1 n.val = none := by
    refine List.find?_eq_none.mpr fun x hx => ?_
    by_cases hg : x.commit.group = 1
    · simp [hg, hc x hx hg]
    · simp [hg]
  have hdue : (reviveLate w 1 n.val s).isDue w 1 n.val = false := by
    unfold State.isArmed at ha
    unfold State.isDue reviveLate
    rw [hlate]
    simp only [List.any_eq_false, Bool.and_eq_true, beq_iff_eq, not_and] at ha ⊢
    exact fun x hx hgi => absurd hgi.2 (ha x hx hgi.1)
  unfold applyDue
  dsimp only
  rw [hdue]
  unfold reviveLate
  rw [hlate]
  exact h.cancelled s _

theorem PrepFrame.boundaryLoad_eq (s : State) (hb : (s.ph n).boundary = []) (ha : s.isArmed 1 n.val = false)
    (hc : ∀ x ∈ s.img.cancelled, x.commit.group = 1 → x.commit.index ≠ n.val) : π (boundaryLoad n s) = π s := by
  have ht : π (transferShadows n s) = π s ∧ (transferShadows n s).img = s.img := by
    unfold transferShadows transferSome
    rw [hb]
    exact ⟨h.modPh s _ fun _ => rfl, rfl⟩
  unfold boundaryLoad
  split
  · exact h.shlockBoundary_eq s
  · refine (h.modPh _ _ fun _ => by rfl).trans ((h.applyDue_eq _ _ ?_ ?_).trans ht.1)
    · rw [isArmed_congr ht.2, ha]
    · rw [ht.2]
      exact hc

theorem PrepFrame.liftCut_eq (s : State) : π (liftCut n s) = π s := by
  unfold liftCut
  split
  · rfl
  · unfold noting
    dsimp only
    split
    · exact h.cut s _
    · exact (h.modPh _ _ fun _ => by rfl).trans (h.cut s _)

theorem PrepFrame.alignPeriod_eq (s : State) : π (alignPeriod n s) = π s := by
  unfold alignPeriod
  exact h.modPh s _ fun _ => rfl

end

/-- What decides at a boundary whether phase n latches or its latch clears. -/
def State.latchView (s : State) (n : Fin 48) : Nat × Nat × Nat × PhaseState :=
  (s.g (F.PHASE_STATUS_LATCHED n.val), s.g (F.PHASE_CTL_AUTOCLR n.val), s.g (F.PHASE_TRIPCFG_LATCH n.val), (s.ph n).kept)

/-- Neither does phase n latch at a boundary nor does its latch clear. -/
def LatchRests (n : Fin 48) (s : State) : Prop :=
  (s.latched n.val = true ∧ s.gb (F.PHASE_CTL_AUTOCLR n.val) = false ∧ (s.ph n).clearPend = false ∧ (s.ph n).holdClear = false)
    ∨ (s.latched n.val = false ∧ s.g (F.PHASE_TRIPCFG_LATCH n.val) = 0)

theorem prepFrame_latchView (n : Fin 48) : PrepFrame n (·.latchView n) := by
  have ha : PrepFrame n (·.g (F.PHASE_CTL_AUTOCLR n.val)) := prepFrame_ctl rfl (show 14 + 1 ≤ 15 by decide)
  exact (prepFrame_latched n).pair (ha.pair ((prepFrame_tripcfg rfl).pair (prepFrame_kept n n)))

theorem latchRests_congr {n : Fin 48} {s u : State} (h : u.latchView n = s.latchView n) (hs : LatchRests n s) :
    LatchRests n u := by
  unfold State.latchView at h
  simp only [Prod.mk.injEq] at h
  obtain ⟨hl, ha, ht, hk⟩ := h
  have hc' : (u.ph n).kept.clearPend = (s.ph n).kept.clearPend := congrArg (fun p : PhaseState => p.clearPend) hk
  have hh' : (u.ph n).kept.holdClear = (s.ph n).kept.holdClear := congrArg (fun p : PhaseState => p.holdClear) hk
  have hc : (u.ph n).clearPend = (s.ph n).clearPend := hc'
  have hh : (u.ph n).holdClear = (s.ph n).holdClear := hh'
  unfold LatchRests State.latched State.gb at hs ⊢
  rw [hl, ha, ht, hc, hh]
  exact hs

theorem boundaryLatch_rests {n : Fin 48} {s : State} (h : LatchRests n s) : boundaryLatch n s = s := by
  refine if_neg ?_
  rcases h with ⟨hl, -, -, -⟩ | ⟨-, ht⟩
  · simp [hl]
  · simp [State.latchTrips, ht]

theorem boundaryClear_rests {n : Fin 48} {s : State} (h : LatchRests n s) : boundaryClear n s = s := by
  refine if_neg ?_
  rcases h with ⟨-, ha, hc, hh⟩ | ⟨hl, -⟩
  · simp [ha, hc, hh]
  · simp [hl]

/-- No shadow, no commit and no latch source of phase n is in the way of a boundary. -/
structure ClearWay (n : Fin 48) (s : State) : Prop where
  shadow : (s.ph n).boundary = []
  armed : s.isArmed 1 n.val = false
  cancelled : ∀ x ∈ s.img.cancelled, x.commit.group = 1 → x.commit.index ≠ n.val
  latch : LatchRests n s

/-- What a boundary's bookkeeping keeps, with nothing in its way. -/
theorem PrepFrame.boundaryPrep_eq {β : Type} {π : State → β} {n : Fin 48} (h : PrepFrame n π) (s : State) (hs : ClearWay n s) :
    π (boundaryPrep n s) = π s := by
  unfold boundaryPrep
  extract_lets s1 dea s2 s5
  have to2 : ∀ {γ : Type} {κ : State → γ}, PrepFrame n κ → κ (liftCut n s2) = κ s := fun hk =>
    (hk.liftCut_eq s2).trans ((hk.modPh s1 _ fun _ => by rfl).trans (hk.boundaryLoad_eq s hs.shadow hs.armed hs.cancelled))
  have hrest : LatchRests n (liftCut n s2) := latchRests_congr (to2 (prepFrame_latchView n)) hs.latch
  have h5 : π s5 = π s := by
    show π (alignPeriod n (boundaryClear n (boundaryLatch n (liftCut n s2)))) = π s
    rw [boundaryLatch_rests hrest, boundaryClear_rests hrest]
    exact (h.alignPeriod_eq _).trans (to2 h)
  exact (h.phaseEvent_eq n 2 _).trans ((h.actper s5 _).trans h5)

end Sys2Proof.Machine
end

section
/-!
PROOFS. Launches on their way to a phase (O18).
-/

open Sys2Proof Sys2Proof.Machine
namespace Sys2Proof.Machine

/-! ### The start of a pulse in a three-level group (R94, R95) -/

theorem noting_ph {β : Type} (F : PhaseState → β) (hF : ∀ (p : PhaseState) l, F { p with hist := l } = F p) (n : Fin 48)
    (f : State → State) (s : State) : F ((noting n f s).ph n) = F ((f s).ph n) := by
  unfold noting
  dsimp only
  split
  · rfl
  · rw [State.modPh_same, hF]

theorem phHigh_delayed (n : Fin 48) (s : State) : ((phHigh n s).ph n).delayed = (s.ph n).delayed := by
  have he : EventFrame (·.ph n) := ⟨fun _ _ _ _ => rfl, fun _ _ _ => rfl⟩
  refine (noting_ph (·.delayed) (fun _ _ => rfl) n _ s).trans ?_
  rw [he.phaseEvent_eq, State.modPh_same]

theorem phHigh_out (n : Fin 48) (s : State) : ((phHigh n s).ph n).out = .high := (drive_eq (phHigh_drive n s)).1

theorem switchFrame_rail (n : Fin 48) : SwitchFrame n (·.rail) :=
  switchFrame_of (fun _ _ _ => rfl) (fun _ _ _ => rfl) fun _ _ => rfl

theorem countPulse_ph (n m : Fin 48) (s : State) : (countPulse n s).ph m = s.ph m := by
  unfold countPulse
  dsimp only
  split <;> rfl

theorem countPulse_rail (n : Fin 48) (s : State) : (countPulse n s).rail = s.rail := by
  unfold countPulse
  dsimp only
  split <;> rfl

/-- A pulse has started on phase n: it is high, no launch of it waits, and no rail has changed. -/
structure PulseStarted (n : Fin 48) (s u : State) : Prop where
  out : (u.ph n).out = .high
  delayed : (s.ph n).delayed = none → (u.ph n).delayed = none
  rail : u.rail = s.rail

theorem startPulse_started (n : Fin 48) (s : State) (hp : s.paired (groupOf n.val) = false) :
    PulseStarted n s (startPulse n s) := by
  unfold startPulse
  rw [if_neg (by simp [hp])]
  refine ⟨phHigh_out n _, fun _ => ?_, (switchFrame_rail n).phHigh_eq _⟩
  rw [phHigh_delayed, State.modPh_same]

theorem PulseStarted.counted {n : Fin 48} {s u : State} (h : PulseStarted n s u) : PulseStarted n s (countPulse n u) :=
  ⟨by rw [countPulse_ph, h.out], fun hd => by rw [countPulse_ph, h.delayed hd], (countPulse_rail n u).trans h.rail⟩

theorem PulseStarted.modPh {n : Fin 48} {s u : State} (h : PulseStarted n s u) (f : PhaseState → PhaseState)
    (ho : ∀ p, (f p).out = p.out) (hd : ∀ p : PhaseState, p.delayed = none → (f p).delayed = none) :
    PulseStarted n s (u.modPh n f) :=
  ⟨by rw [State.modPh_same, ho, h.out], fun hs => by rw [State.modPh_same]; exact hd _ (h.delayed hs), h.rail⟩

/-- A duty of which R95 applies a code other than 0 starts a pulse, or leaves a high level that fills its period on. -/
theorem pulseFrom_started (n : Fin 48) (d : Nat) (s : State) (ha : (applyDuty s n (periodOf s n) d).1 ≠ 0)
    (hf : (s.ph n).full = false) (hp : s.paired (groupOf n.val) = false) : PulseStarted n s (pulseFrom n d s) := by
  unfold pulseFrom
  extract_lets a s1 fixed
  have hf1 : (s1.ph n).full = false := hf
  have hp1 : s1.paired (groupOf n.val) = false := hp
  have back : ∀ u, PulseStarted n s1 u → PulseStarted n s u := fun u h => ⟨h.out, h.delayed, h.rail⟩
  clear_value fixed s1
  rw [if_neg ha]
  split
  · split
    · next ho => exact back _ ((PulseStarted.mk ho id rfl).modPh _ (fun _ => rfl) fun _ h => h)
    · refine back _ (PulseStarted.counted ?_)
      refine ⟨?_, fun _ => ?_, (switchFrame_rail n).phHigh_eq s1⟩
      · rw [State.modPh_same]
        exact phHigh_out n s1
      · rw [State.modPh_same]
  · unfold pulseOn
    rw [if_neg (by simp [hf1])]
    exact back _ (startPulse_started n s1 hp1).counted

/-! ### What a launch finds after the bookkeeping (R88, R92, R95) -/

/-- What R95 reads of phase n, with its period. -/
def State.dutyView (s : State) (n : Fin 48) : Nat × Nat × Nat × Nat × Nat × Supplies :=
  (s.g (F.PHASE_PERIOD_PERIOD n.val), s.g (F.PHASE_TIMING_MINON n.val), s.g (F.PHASE_TIMING_MINOFF n.val),
    s.g (F.PHASE_DT_DTLH n.val), s.g (F.PHASE_CTL_ALLOW100 n.val), s.sup)

theorem prepFrame_sup (n : Fin 48) : PrepFrame n (·.sup) :=
  prepFrame_of (fun _ _ _ => rfl) (fun _ _ _ => rfl) (fun _ _ => rfl) fun _ _ => rfl

theorem prepFrame_rail (n : Fin 48) : PrepFrame n (·.rail) :=
  prepFrame_of (fun _ _ _ => rfl) (fun _ _ _ => rfl) (fun _ _ => rfl) fun _ _ => rfl

theorem prepFrame_clock (n : Fin 48) : PrepFrame n (·.clock) :=
  prepFrame_of (fun _ _ _ => rfl) (fun _ _ _ => rfl) (fun _ _ => rfl) fun _ _ => rfl

theorem prepFrame_timing {n : Fin 48} {e : Fld} (h : e.addr = A.PHASE_TIMING n.val) : PrepFrame n (·.g e) := by
  refine prepFrame_config ?_ ?_
  · rw [h]; unfold A.PHASE_TIMING A.PHASE_STATUS; omega
  · rw [h]; unfold A.PHASE_TIMING A.PHASE_CTL; omega

theorem prepFrame_dutyView (n : Fin 48) : PrepFrame n (·.dutyView n) := by
  have hper : PrepFrame n (·.g (F.PHASE_PERIOD_PERIOD n.val)) := by
    refine prepFrame_config ?_ ?_
    · show A.PHASE_PERIOD n.val < A.PHASE_STATUS n.val
      unfold A.PHASE_PERIOD A.PHASE_STATUS; omega
    · show A.PHASE_PERIOD n.val ≠ A.PHASE_CTL n.val
      unfold A.PHASE_PERIOD A.PHASE_CTL; omega
  have hdt : PrepFrame n (·.g (F.PHASE_DT_DTLH n.val)) := by
    refine prepFrame_config ?_ ?_
    · show A.PHASE_DT n.val < A.PHASE_STATUS n.val
      unfold A.PHASE_DT A.PHASE_STATUS; omega
    · show A.PHASE_DT n.val ≠ A.PHASE_CTL n.val
      unfold A.PHASE_DT A.PHASE_CTL; omega
  have hctl : PrepFrame n (·.g (F.PHASE_CTL_ALLOW100 n.val)) := prepFrame_ctl rfl (show 12 + 1 ≤ 15 by decide)
  exact hper.pair ((prepFrame_timing rfl).pair ((prepFrame_timing rfl).pair (hdt.pair (hctl.pair (prepFrame_sup n)))))

/-- R95 forms the same duty of what it reads the same. -/
theorem applyDuty_congr {n : Fin 48} {u s : State} (h : u.dutyView n = s.dutyView n) (period d : Nat) :
    applyDuty u n period d = applyDuty s n period d := by
  unfold State.dutyView at h
  simp only [Prod.mk.injEq] at h
  obtain ⟨-, hon, hoff, hdt, hall, hsup⟩ := h
  unfold applyDuty dMax State.paired State.gb
  rw [hon, hoff, hdt, hall, hsup]

/-- What a boundary with nothing in its way leaves of phase n, and of the rails. -/
structure Prepped (n : Fin 48) (s u : State) : Prop where
  kept : ∀ m, (u.ph m).kept = (s.ph m).kept
  latched : u.latched n.val = s.latched n.val
  cut : u.g (F.PHASE_TRIPCFG_CUT n.val) = s.g (F.PHASE_TRIPCFG_CUT n.val)
  duty : u.dutyView n = s.dutyView n
  clock : u.clock = s.clock
  rail : u.rail = s.rail

theorem boundaryPrep_prepped {n : Fin 48} {s : State} (h : ClearWay n s) : Prepped n s (boundaryPrep n s) where
  kept m := (prepFrame_kept n m).boundaryPrep_eq s h
  latched := congrArg (· != 0) ((prepFrame_latched n).boundaryPrep_eq s h)
  cut := (prepFrame_tripcfg rfl).boundaryPrep_eq s h
  duty := (prepFrame_dutyView n).boundaryPrep_eq s h
  clock := (prepFrame_clock n).boundaryPrep_eq s h
  rail := (prepFrame_rail n).boundaryPrep_eq s h

section
variable {n : Fin 48} {s u : State} (h : Prepped n s u)
include h

/-- A component of a phase that no bookkeeping changes. -/
theorem Prepped.ph_eq {β : Type} (F : PhaseState → β) (hF : ∀ p : PhaseState, F p.kept = F p) (m : Fin 48) :
    F (u.ph m) = F (s.ph m) := by
  rw [← hF, h.kept m, hF]

theorem Prepped.minOffDone : u.minOffDone n = s.minOffDone n := by
  have hd := h.duty
  unfold State.dutyView at hd
  simp only [Prod.mk.injEq] at hd
  obtain ⟨-, -, hoff, -, -, -⟩ := hd
  unfold State.minOffDone
  rw [h.ph_eq (·.offAt) (fun _ => rfl) n, hoff, h.clock]

theorem Prepped.paired (g : Nat) : u.paired g = s.paired g := by
  have hd := h.duty
  unfold State.dutyView at hd
  simp only [Prod.mk.injEq] at hd
  obtain ⟨-, -, -, -, -, hsup⟩ := hd
  unfold State.paired
  rw [hsup]

theorem Prepped.applyDuty (hm : (s.ph n).modeOver = none) (d : Nat) :
    applyDuty u n (periodOf u n) d = applyDuty s n (s.g (F.PHASE_PERIOD_PERIOD n.val)) d := by
  have hmu : (u.ph n).modeOver = none := (h.ph_eq (·.modeOver) (fun _ => rfl) n).trans hm
  have hper : periodOf u n = s.g (F.PHASE_PERIOD_PERIOD n.val) := by
    unfold periodOf
    rw [hmu, if_neg (by simp)]
    exact congrArg Prod.fst h.duty
  rw [hper, applyDuty_congr h.duty]

end

/-! ### Delivery (R92, R124, R125) -/

/-- A refused launch: LAUNCHREF and LAUNCHLOST are set, and no phase and no rail has changed. -/
theorem launchRefused_flags (k : Fin 8) (n : Fin 48) (s : State) :
    (launchRefused k n s).gb (F.PHASE_STATUS_LAUNCHREF n.val) = true
      ∧ (launchRefused k n s).gb (F.RAIL_MSTAT_LAUNCHLOST k.val) = true := by
  have hne : (F.PHASE_STATUS_LAUNCHREF n.val).addr ≠ (F.RAIL_MSTAT_LAUNCHLOST k.val).addr := by
    show A.PHASE_STATUS n.val ≠ A.RAIL_MSTAT k.val
    unfold A.PHASE_STATUS A.RAIL_MSTAT
    omega
  unfold launchRefused launchLost
  constructor
  · exact (gb_p_of_apart _ _ (show 13 + 1 ≤ 32 by decide) (.inl hne)).trans (State.gb_pb s _ true rfl (show 9 + 1 ≤ 32 by decide))
  · exact State.gb_pb _ _ true rfl (show 13 + 1 ≤ 32 by decide)

theorem launchRefused_rail (k : Fin 8) (n : Fin 48) (s : State) : (launchRefused k n s).rail = s.rail := by
  simp [launchRefused, launchLost]

theorem launchRefused_ph (k : Fin 8) (n m : Fin 48) (s : State) : (launchRefused k n s).ph m = s.ph m := by
  simp [launchRefused, launchLost, State.ph]

theorem launch_none (k : Fin 8) (s : State) (h : (s.ra k).md.inFlight = []) : launch k s = s := by
  unfold launch
  rw [h]

/-- The oldest launch taken from those on their way. -/
def takeLaunch (k : Fin 8) (rest : List Launch) (s : State) : State := s.modMd k fun m => { m with inFlight := rest }

theorem takeLaunch_inFlight (k : Fin 8) (rest : List Launch) (s : State) : ((takeLaunch k rest s).ra k).md.inFlight = rest := by
  unfold takeLaunch State.modMd
  rw [State.modRa_same]

/-- A launch with no forced sequence boundary waiting is its delivery, where that leaves the rails alone. -/
theorem launch_deliver {k : Fin 8} {l : Launch} {rest : List Launch} {s : State} (h : (s.ra k).md.inFlight = l :: rest)
    (hf : (s.ra k).md.forcePend = false)
    (hr : (deliver k l (takeLaunch k rest s)).rail = (takeLaunch k rest s).rail) :
    launch k s = deliver k l (takeLaunch k rest s) ∧ ((launch k s).ra k).md.inFlight = rest := by
  have hra : ((deliver k l (takeLaunch k rest s)).ra k) = (takeLaunch k rest s).ra k := congrArg (vget · k) hr
  have hforce : ((deliver k l (takeLaunch k rest s)).ra k).md.forcePend = false := by
    rw [hra]
    unfold takeLaunch State.modMd
    rw [State.modRa_same]
    exact hf
  have heq : launch k s = deliver k l (takeLaunch k rest s) := by
    unfold launch
    rw [h]
    unfold takeLaunch at hforce ⊢
    simp [hforce]
  exact ⟨heq, by rw [heq, hra, takeLaunch_inFlight]⟩

theorem deliver_stale {k : Fin 8} {l : Launch} {s : State} (h : l.epoch ≠ (s.rl l.phase).epoch) :
    deliver k l s = launchLost k (s.inc (F.PHASE_STALE_STALE l.phase.val)) := if_pos h

/-- A launch issued for an earlier epoch is counted and lost. -/
theorem launchLost_stale (k : Fin 8) (n : Fin 48) (s : State) :
    (launchLost k (s.inc (F.PHASE_STALE_STALE n.val))).g (F.PHASE_STALE_STALE n.val)
        = incHold (F.PHASE_STALE_STALE n.val).w (s.g (F.PHASE_STALE_STALE n.val))
      ∧ (launchLost k (s.inc (F.PHASE_STALE_STALE n.val))).gb (F.RAIL_MSTAT_LAUNCHLOST k.val) = true := by
  have hne : (F.PHASE_STALE_STALE n.val).addr ≠ (F.RAIL_MSTAT_LAUNCHLOST k.val).addr := by
    show A.PHASE_STALE n.val ≠ A.RAIL_MSTAT k.val
    unfold A.PHASE_STALE A.RAIL_MSTAT
    omega
  refine ⟨?_, State.gb_pb _ _ true rfl (show 13 + 1 ≤ 32 by decide)⟩
  refine (State.g_p_addr _ _ _ _ hne).trans ?_
  unfold State.inc
  rw [State.g_p s _ _ (show 0 + 16 ≤ 32 by decide)]
  refine Nat.mod_eq_of_lt ?_
  show min _ (2 ^ 16 - 1) < 2 ^ 16
  omega

/-- A launch to a phase whose latch stays is refused, whatever else holds of the phase. -/
theorem deliver_latched {k : Fin 8} {l : Launch} {s : State} (he : l.epoch = (s.rl l.phase).epoch)
    (hl : s.latched l.phase.val = true) (hs : ClearWay l.phase s) :
    ∃ v, deliver k l s = launchRefused k l.phase v ∧ v.rail = s.rail ∧ ∀ m, (v.ph m).out = (s.ph m).out := by
  have hp := boundaryPrep_prepped hs
  unfold deliver
  rw [if_neg (by simp [he])]
  split
  · exact ⟨s, rfl, rfl, fun _ => rfl⟩
  · split
    · exact ⟨s, rfl, rfl, fun _ => rfl⟩
    · refine ⟨boundaryPrep l.phase s, ?_, hp.rail, fun m => hp.ph_eq (·.out) (fun _ => rfl) m⟩
      exact if_pos (hp.latched.trans hl)

/-- A flag is told by the registers. -/
theorem gb_of_regs {u s : State} (h : u.regs = s.regs) (e : Fld) : u.gb e = s.gb e :=
  congrArg (fun r => getBits (RegFile.word r e.addr) e.lo e.w != 0) h

/-- A pulse that MINOFF delays: its on-time waits. -/
def delayLaunch (n : Fin 48) (d : Nat) (s : State) : State :=
  (s.pb (F.PHASE_STATUS_LAUNCHDLY n.val) true).modPh n fun p => { p with delayed := some d }

theorem delayLaunch_flag (n : Fin 48) (d : Nat) (s : State) :
    (delayLaunch n d s).gb (F.PHASE_STATUS_LAUNCHDLY n.val) = true := by
  rw [gb_of_regs (u := delayLaunch n d s) (s := s.pb (F.PHASE_STATUS_LAUNCHDLY n.val) true) rfl]
  exact State.gb_pb s _ true rfl (show 8 + 1 ≤ 32 by decide)

theorem delayLaunch_ph (n : Fin 48) (d : Nat) (s : State) : (delayLaunch n d s).ph n = { s.ph n with delayed := some d } :=
  State.modPh_same _ n _

theorem delayLaunch_rail (n : Fin 48) (d : Nat) (s : State) : (delayLaunch n d s).rail = s.rail := by
  simp [delayLaunch]

/-- A launch that nothing is in the way of starts its pulse, or waits for MINOFF. -/
theorem deliver_free {k : Fin 8} {l : Launch} {s : State} (he : l.epoch = (s.rl l.phase).epoch)
    (hl : s.latched l.phase.val = false) (ho : (s.ph l.phase).out ≠ .high) (hd : (s.ph l.phase).dead ≠ .lh)
    (hr : s.phRuns l.phase = true) (hm : s.mode l.phase = 1) (hcut : s.g (F.PHASE_TRIPCFG_CUT l.phase.val) = 0)
    (hs : ClearWay l.phase s) :
    deliver k l s = if s.minOffDone l.phase then pulseFrom l.phase l.onTime (boundaryPrep l.phase s)
      else delayLaunch l.phase l.onTime (boundaryPrep l.phase s) := by
  have hp := boundaryPrep_prepped hs
  have hnl : (boundaryPrep l.phase s).latched l.phase.val = false := hp.latched.trans hl
  have hnc : (boundaryPrep l.phase s).cutActive l.phase = false := by
    unfold State.cutActive
    rw [hp.cut, hcut]
    simp
  unfold deliver startLaunch delayLaunch
  simp only [he, ho, hd, hr, hm, hnl, hnc, hp.minOffDone]
  rcases s.minOffDone l.phase <;> simp

/-- Whether a block runs is told by its role, its rail and its tail. -/
theorem phRuns_of {n : Fin 48} {u s : State} (hr : u.role = s.role) (hk : u.rail = s.rail) (ho : u.railOf n.val = s.railOf n.val)
    (ht : (u.ph n).tail = (s.ph n).tail) : u.phRuns n = s.phRuns n := by
  unfold State.phRuns State.belongs State.rl State.enabled State.st State.ra
  rw [hr, hk, ho, ht]

theorem launchDelayEnd_none (n : Fin 48) (s : State) (h : (s.ph n).delayed = none) : launchDelayEnd n s = s := by
  unfold launchDelayEnd
  rw [h]

/-- The end of MINOFF starts the delayed pulse. -/
theorem launchDelayEnd_started {n : Fin 48} {d : Nat} {s : State} (hd : (s.ph n).delayed = some d) (hr : s.phRuns n = true)
    (hl : s.latched n.val = false) (hp : s.paired (groupOf n.val) = false) (hf : (s.ph n).full = false)
    (ha : (applyDuty s n (periodOf s n) d).1 ≠ 0) :
    ((launchDelayEnd n s).ph n).out = .high ∧ ((launchDelayEnd n s).ph n).delayed = none := by
  have hph : (s.modPh n fun p => { p with delayed := none }).ph n = { s.ph n with delayed := none } := State.modPh_same s n _
  have hruns : (s.modPh n fun p => { p with delayed := none }).phRuns n = true :=
    (phRuns_of (u := s.modPh n fun p => { p with delayed := none }) (s := s) rfl rfl rfl (by rw [hph])).trans hr
  have heq : launchDelayEnd n s = pulseFrom n d (s.modPh n fun p => { p with delayed := none }) := by
    unfold launchDelayEnd
    rw [hd]
    dsimp only
    rw [hruns]
    exact if_pos (by rw [show (s.modPh n fun p => { p with delayed := none }).latched n.val = false from hl]; rfl)
  have hper : periodOf (s.modPh n fun p => { p with delayed := none }) n = periodOf s n := by
    unfold periodOf
    rw [hph]
    rfl
  have hst := pulseFrom_started n d (s.modPh n fun p => { p with delayed := none }) (by rw [hper]; exact ha)
    (by rw [hph]; exact hf) hp
  rw [heq]
  exact ⟨hst.out, hst.delayed (by rw [hph])⟩

/-! ### What the launch taken, and the instant of the command, leave alone -/

section
variable (k : Fin 8) (rest : List Launch) (s : State)

@[simp] theorem takeLaunch_ph (n : Fin 48) : (takeLaunch k rest s).ph n = s.ph n := rfl
@[simp] theorem takeLaunch_phase : (takeLaunch k rest s).phase = s.phase := rfl
@[simp] theorem takeLaunch_rl (n : Fin 48) : (takeLaunch k rest s).rl n = s.rl n := rfl
@[simp] theorem takeLaunch_img : (takeLaunch k rest s).img = s.img := rfl
@[simp] theorem takeLaunch_g (f : Fld) : (takeLaunch k rest s).g f = s.g f := rfl
@[simp] theorem takeLaunch_gb (f : Fld) : (takeLaunch k rest s).gb f = s.gb f := rfl
@[simp] theorem takeLaunch_latched (n : Nat) : (takeLaunch k rest s).latched n = s.latched n := rfl
@[simp] theorem takeLaunch_isArmed (g i : Nat) : (takeLaunch k rest s).isArmed g i = s.isArmed g i := rfl
@[simp] theorem takeLaunch_paired (g : Nat) : (takeLaunch k rest s).paired g = s.paired g := rfl
@[simp] theorem takeLaunch_minOffDone (n : Fin 48) : (takeLaunch k rest s).minOffDone n = s.minOffDone n := rfl
@[simp] theorem takeLaunch_applyDuty (n : Fin 48) (period d : Nat) :
    applyDuty (takeLaunch k rest s) n period d = applyDuty s n period d := rfl

@[simp] theorem takeLaunch_enabled (j : Fin 8) : (takeLaunch k rest s).enabled j = s.enabled j := by
  unfold State.enabled State.st takeLaunch State.modMd
  by_cases h : j = k
  · rw [h, State.modRa_same]
  · rw [State.modRa_ne s k j _ h]

@[simp] theorem takeLaunch_phRuns (n : Fin 48) : (takeLaunch k rest s).phRuns n = s.phRuns n := by
  unfold State.phRuns State.belongs
  simp only [takeLaunch_enabled]
  rfl

@[simp] theorem takeLaunch_mode (n : Fin 48) : (takeLaunch k rest s).mode n = s.mode n := by
  unfold State.mode
  rw [takeLaunch_phRuns]
  rfl

end

@[simp] theorem atTime_mode (s : State) (t : Time) (n : Fin 48) : (s.atTime t).mode n = s.mode n :=
  atTime_eq (·.mode n) (fun _ _ _ => rfl) s t
@[simp] theorem atTime_ra (s : State) (t : Time) (k : Fin 8) : (s.atTime t).ra k = s.ra k :=
  atTime_eq (·.ra k) (fun _ _ _ => rfl) s t
@[simp] theorem atTime_rl (s : State) (t : Time) (n : Fin 48) : (s.atTime t).rl n = s.rl n :=
  atTime_eq (·.rl n) (fun _ _ _ => rfl) s t
@[simp] theorem atTime_isArmed (s : State) (t : Time) (g i : Nat) : (s.atTime t).isArmed g i = s.isArmed g i :=
  atTime_eq (·.isArmed g i) (fun _ _ _ => rfl) s t
@[simp] theorem atTime_applyDuty (s : State) (t : Time) (n : Fin 48) (period d : Nat) :
    applyDuty (s.atTime t) n period d = applyDuty s n period d :=
  atTime_eq (applyDuty · n period d) (fun _ _ _ => rfl) s t
@[simp] theorem atTime_periodOf (s : State) (t : Time) (n : Fin 48) : periodOf (s.atTime t) n = periodOf s n :=
  atTime_eq (periodOf · n) (fun _ _ _ => rfl) s t

theorem completes_launch {k : Fin 8} {t : Time} {s : State} {P : State → Prop} (h : P (launch k (s.atTime t))) :
    Completes (.launch k t) s P := ⟨_, rfl, h⟩

/-- Settles O18: each launch by the branch of its delivery, after the bookkeeping of its boundary. -/
theorem launchesReachPhases : Obligations.LaunchesReachPhases := by
  unfold Obligations.LaunchesReachPhases
  refine ⟨fun s k l rest t hi hf he => ?_, fun s k l rest t hi hf he hl ha hc hh hb har hca => ?_,
    fun s k l rest t hi hf he hl ho hd hr hm hmo hb har hca hcut hlat hfull hp hdu => ?_, fun s k t hi => ?_,
    fun s n d t hd hr hl hp hf ha => ?_, fun s n t hd => ?_⟩
  · have hde := deliver_stale (k := k) (l := l) (s := takeLaunch k rest (s.atTime t)) (by simpa)
    obtain ⟨heq, hin⟩ := launch_deliver (s := s.atTime t) (by simpa) (by simpa) (by rw [hde]; rfl)
    obtain ⟨hst, hlost⟩ := launchLost_stale k l.phase (takeLaunch k rest (s.atTime t))
    refine completes_launch ⟨?_, ?_, ?_, hin⟩
    · rw [heq, hde, hst]
      simp
    · rw [heq, hde, hlost]
    · rw [heq, hde]
      simp [launchLost]
  · have hw : ClearWay l.phase (takeLaunch k rest (s.atTime t)) :=
      ⟨by simpa, by simpa, by simpa, .inl (by simp [*])⟩
    obtain ⟨v, hv, hrail, hout⟩ := deliver_latched (k := k) (by simpa) (by simpa) hw
    obtain ⟨heq, hin⟩ := launch_deliver (s := s.atTime t) (by simpa) (by simpa) (by rw [hv, launchRefused_rail, hrail])
    obtain ⟨href, hlost⟩ := launchRefused_flags k l.phase v
    refine completes_launch ⟨?_, ?_, fun m => ?_, hin⟩
    · rw [heq, hv, href]
    · rw [heq, hv, hlost]
    · rw [heq, hv, launchRefused_ph, hout, takeLaunch_ph, atTime_ph]
  · have hw : ClearWay l.phase (takeLaunch k rest (s.atTime t)) :=
      ⟨by simpa, by simpa, by simpa, .inr (by simp [*])⟩
    have hp := boundaryPrep_prepped hw
    have hde := deliver_free (k := k) (l := l) (by simpa) (by simpa) (by simpa) (by simpa) (by simpa) (by simpa) (by simpa) hw
    have hst := pulseFrom_started l.phase l.onTime (boundaryPrep l.phase (takeLaunch k rest (s.atTime t)))
      (by rw [hp.applyDuty (by simpa)]; simpa) ((hp.ph_eq (·.full) (fun _ => rfl) _).trans (by simpa))
      ((hp.paired _).trans (by simpa))
    rw [takeLaunch_minOffDone] at hde
    obtain ⟨heq, hin⟩ := launch_deliver (s := s.atTime t) (by simpa) (by simpa) (by
      rw [hde]
      split
      · rw [hst.rail, hp.rail]
      · rw [delayLaunch_rail, hp.rail])
    refine completes_launch ⟨hin, ?_⟩
    rw [heq, hde]
    split
    · exact hst.out
    · refine ⟨delayLaunch_flag _ _ _, ?_, ?_⟩
      · rw [delayLaunch_ph]
      · have hout := hp.ph_eq (·.out) (fun _ => rfl) l.phase
        rw [takeLaunch_ph, atTime_ph] at hout
        rw [delayLaunch_ph, hout]
  · exact congrArg done (launch_none k (s.atTime t) (by simpa))
  · have hst := launchDelayEnd_started (n := n) (d := d) (s := s.atTime t) (by simpa) (by simpa) (by simpa) (by simpa)
      (by simpa) (by simpa)
    exact ⟨launchDelayEnd n (s.atTime t), rfl, hst⟩
  · exact congrArg done (launchDelayEnd_none n (s.atTime t) (by simpa))

end Sys2Proof.Machine
end

section
/-!
PROOFS. Cuts, latches and TRIP pins (O19).
-/

open Sys2Proof Sys2Proof.Machine
namespace Sys2Proof.Machine

theorem bitAt_eq_testBit (x i : Nat) : bitAt x i = x.testBit i := by
  rw [Nat.testBit_eq_decide_div_mod_eq]
  rfl

/-- A bit of an assignment is a bit of the source and of what assigns it. -/
theorem bitAt_and (x y i : Nat) : bitAt (x &&& y) i = (bitAt x i && bitAt y i) := by
  simp only [bitAt_eq_testBit, Nat.testBit_and]

@[simp] theorem atTime_trips (s : State) (t : Time) (n : Fin 48) : (s.atTime t).trips n = s.trips n :=
  atTime_eq (·.trips n) (fun _ _ _ => rfl) s t
@[simp] theorem atTime_classOf (s : State) (t : Time) (fid : Nat) (k : Option (Fin 8)) :
    (s.atTime t).classOf fid k = s.classOf fid k :=
  atTime_eq (·.classOf fid k) (fun _ _ _ => rfl) s t
@[simp] theorem atTime_limRail (s : State) (t : Time) (n : Fin 48) : limRail (s.atTime t) n = limRail s n :=
  atTime_eq (limRail · n) (fun _ _ _ => rfl) s t
@[simp] theorem atTime_railOf (s : State) (t : Time) (n : Nat) : (s.atTime t).railOf n = s.railOf n :=
  atTime_eq (·.railOf n) (fun _ _ _ => rfl) s t

/-! ### Cuts (R101, R102, R106) -/

theorem cycleFrame_g {n : Fin 48} {e : Fld} (h1 : e.addr ≠ A.PHASE_LIMCNT n.val)
    (h2 : ∀ k : Fin 8, e.addr ≠ A.FM_RAIL_STAT k.val) : CycleFrame n (·.g e) :=
  ⟨fun s w => congrArg (getBits · e.lo e.w) (State.word_setWord_ne s _ _ w h1), fun s k v => State.g_p_addr s _ e v (h2 k),
    fun _ _ _ _ => rfl⟩

theorem cycleFrame_limited (n m : Fin 48) : CycleFrame n fun s => (s.ph m).limited := by
  refine ⟨fun _ _ => rfl, fun _ _ _ => rfl, fun s j f hf => ?_⟩
  by_cases h : m = j
  · rw [h, State.modPh_same, (hf _).2.2.1]
  · rw [State.modPh_ne s j m f h]

theorem held_limited {p q : PhaseState} (h : p.held = q.held) : p.limited = q.limited := by
  have hl : p.held.limited = q.held.limited := congrArg (fun p : PhaseState => p.limited) h
  exact hl

theorem status_not_router (n : Fin 48) : ¬ RouterWord (A.PHASE_STATUS n.val) :=
  phaseWord_not_router (n := n) (by unfold A.PHASE_STATUS; omega)

theorem limcnt_not_router (n : Fin 48) : ¬ RouterWord (A.PHASE_LIMCNT n.val) :=
  phaseWord_not_router (n := n) (by unfold A.PHASE_LIMCNT; omega)

theorem limcnt_ne_railStat (n : Fin 48) (k : Fin 8) : A.PHASE_LIMCNT n.val ≠ A.FM_RAIL_STAT k.val := by
  unfold A.PHASE_LIMCNT A.FM_RAIL_STAT
  omega

/-- The fields of STATUS see no count of limited cycles. -/
theorem cycleFrame_status {n : Fin 48} {e : Fld} (h : e.addr = A.PHASE_STATUS n.val) : CycleFrame n (·.g e) := by
  refine cycleFrame_g ?_ fun k => ?_
  · rw [h]; unfold A.PHASE_STATUS A.PHASE_LIMCNT; omega
  · rw [h]; unfold A.PHASE_STATUS A.FM_RAIL_STAT; omega

theorem limCycle_total (n : Fin 48) (s : State) : (limCycle n s).g (F.PHASE_LIMCNT_TOTAL n.val)
    = incHold (F.PHASE_LIMCNT_TOTAL n.val).w (s.g (F.PHASE_LIMCNT_TOTAL n.val)) := by
  have h1 : ((s.inc (F.PHASE_LIMCNT_TOTAL n.val)).inc (F.PHASE_LIMCNT_CONSEC n.val)).g (F.PHASE_LIMCNT_TOTAL n.val)
      = incHold (F.PHASE_LIMCNT_TOTAL n.val).w (s.g (F.PHASE_LIMCNT_TOTAL n.val)) := by
    refine (State.g_p_apart _ _ _ _ (show 0 + 8 ≤ 32 by decide) (.inr (show 0 + 8 ≤ 8 by decide))).trans ?_
    refine (State.g_p s _ _ (show 8 + 24 ≤ 32 by decide)).trans (Nat.mod_eq_of_lt ?_)
    show min _ (2 ^ 24 - 1) < 2 ^ 24
    omega
  unfold limCycle
  extract_lets s1
  split
  · split
    · exact (State.g_p_addr s1 _ _ _ (limcnt_ne_railStat n _)).trans h1
    · exact h1
  · exact h1

/-- What a cut leaves the output at. -/
def State.cutOut (s : State) (n : Fin 48) : OutState :=
  if s.gb (F.PHASE_CTL_LSPOL n.val) || !(s.ph n).started || !s.phRuns n || s.gb (F.STAGEGRP_CFG_FORCEOFF (groupOf n.val)) then .off
  else if (s.ph n).out = .high then (if s.paired (groupOf n.val) then .off else .low)
  else if (s.ph n).dead = .hl then (s.ph n).out else .low

theorem cutOutput_out (n : Fin 48) (s : State) : ((cutOutput n s).ph n).out = s.cutOut n := by
  unfold cutOutput State.cutOut
  split
  · exact (drive_eq (phOff_drive n s)).1
  · split
    · split
      · next hp => exact (drive_eq (endPulse_paired n s hp)).1
      · next hp => exact (drive_eq (endPulse_threeLevel n s (by simpa using hp))).1
    · split
      · rfl
      · exact (drive_eq (phLow_drive n s)).1

/-- CUT set changes nothing a cut's output depends on. -/
theorem cutOut_cut (n : Fin 48) (s : State) (b : Bool) : (s.pb (F.PHASE_STATUS_CUT n.val) b).cutOut n = s.cutOut n := by
  have hcut : (4 : Nat) + 1 ≤ 32 := by decide
  have hl : (s.pb (F.PHASE_STATUS_CUT n.val) b).gb (F.PHASE_CTL_LSPOL n.val) = s.gb (F.PHASE_CTL_LSPOL n.val) := by
    refine gb_p_of_apart s _ hcut (.inl ?_)
    show A.PHASE_CTL n.val ≠ A.PHASE_STATUS n.val
    unfold A.PHASE_CTL A.PHASE_STATUS; omega
  have hf : (s.pb (F.PHASE_STATUS_CUT n.val) b).gb (F.STAGEGRP_CFG_FORCEOFF (groupOf n.val))
      = s.gb (F.STAGEGRP_CFG_FORCEOFF (groupOf n.val)) := by
    refine gb_p_of_apart s _ hcut (.inl ?_)
    show A.STAGEGRP_CFG (groupOf n.val) ≠ A.PHASE_STATUS n.val
    unfold A.STAGEGRP_CFG A.PHASE_STATUS; omega
  have hr : (s.pb (F.PHASE_STATUS_CUT n.val) b).phRuns n = s.phRuns n := by
    refine phRuns_congr n (by simp) (by simp) (by simp) (State.word_p_ne s _ _ _ ?_)
    show A.PHASE_ASSIGN n.val ≠ A.PHASE_STATUS n.val
    unfold A.PHASE_ASSIGN A.PHASE_STATUS; omega
  have hph : (s.pb (F.PHASE_STATUS_CUT n.val) b).ph n = s.ph n := by simp [State.ph]
  have hp : (s.pb (F.PHASE_STATUS_CUT n.val) b).paired (groupOf n.val) = s.paired (groupOf n.val) := by simp [State.paired]
  unfold State.cutOut
  rw [hl, hf, hr, hph, hp]

/-- The output under a cut: CUT set, and the phase switched by LSPOL. -/
def cutSwitch (n : Fin 48) (s : State) : State :=
  phaseEvent n 3 ((noting n (fun s => cutOutput n (s.pb (F.PHASE_STATUS_CUT n.val) true)) s).modPh n
    fun p => { p with delayed := none })

theorem cutPhase_eq (n : Fin 48) (s : State) : cutPhase n s = if ((cutSwitch n s).ph n).limited then cutSwitch n s
    else limCycle n ((cutSwitch n s).modPh n fun p => { p with limited := true }) := rfl

/-- Switching under a cut keeps what switching keeps, CUT apart. -/
theorem SwitchFrame.cutSwitch_eq {β : Type} {π : State → β} {n : Fin 48} (h : SwitchFrame n π) (s : State) :
    π (cutSwitch n s) = π (s.pb (F.PHASE_STATUS_CUT n.val) true) :=
  (h.phaseEvent_eq n 3 _).trans ((h.modPh _ _ fun _ => by rfl).trans ((h.noting_eq _ s).trans (h.cutOutput_eq _)))

theorem cutSwitch_out (n : Fin 48) (s : State) : ((cutSwitch n s).ph n).out = s.cutOut n := by
  have hd : (cutSwitch n s).drive n = (cutOutput n (s.pb (F.PHASE_STATUS_CUT n.val) true)).drive n :=
    ((eventFrame_drive n).phaseEvent_eq n 3 _).trans ((drive_modPh _ n n _ fun _ => by exact ⟨rfl, rfl⟩).trans
      (noting_drive n n _ s))
  exact (congrArg Prod.fst hd).trans ((cutOutput_out n _).trans (cutOut_cut n s true))

/-- What a cut leaves: CUT, the limited period counted once, the output, and every other phase's. -/
structure CutLeaves (n : Fin 48) (s u : State) : Prop where
  cut : u.gb (F.PHASE_STATUS_CUT n.val) = true
  limited : (u.ph n).limited = true
  out : (u.ph n).out = s.cutOut n
  total : u.g (F.PHASE_LIMCNT_TOTAL n.val) = if (s.ph n).limited then s.g (F.PHASE_LIMCNT_TOTAL n.val)
    else incHold (F.PHASE_LIMCNT_TOTAL n.val).w (s.g (F.PHASE_LIMCNT_TOTAL n.val))
  other : ∀ m, m ≠ n → (u.ph m).out = (s.ph m).out

theorem cutPhase_leaves (n : Fin 48) (s : State) : CutLeaves n s (cutPhase n s) := by
  have hlim : ((cutSwitch n s).ph n).limited = (s.ph n).limited := by
    have h := (switchFrame_held n n).cutSwitch_eq s
    exact held_limited (h.trans (congrArg PhaseState.held (by simp [State.ph])))
  have hcut : (cutSwitch n s).gb (F.PHASE_STATUS_CUT n.val) = true := by
    refine (congrArg (· != 0) ((switchFrame_g (status_not_router n)).cutSwitch_eq s)).trans ?_
    exact State.gb_pb s (F.PHASE_STATUS_CUT n.val) true rfl (show 4 + 1 ≤ 32 by decide)
  have htot : (cutSwitch n s).g (F.PHASE_LIMCNT_TOTAL n.val) = s.g (F.PHASE_LIMCNT_TOTAL n.val) := by
    refine ((switchFrame_g (limcnt_not_router n)).cutSwitch_eq s).trans (State.g_p_addr s _ _ _ ?_)
    show A.PHASE_LIMCNT n.val ≠ A.PHASE_STATUS n.val
    unfold A.PHASE_LIMCNT A.PHASE_STATUS; omega
  have hother : ∀ m, m ≠ n → (cutSwitch n s).ph m = s.ph m := fun m hm =>
    ((switchFrame_ph hm).cutSwitch_eq s).trans (by simp [State.ph])
  rw [cutPhase_eq]
  split
  · next h =>
    rw [hlim] at h
    exact ⟨hcut, hlim.trans h, cutSwitch_out n s, by rw [htot, if_pos h], fun m hm => congrArg (·.out) (hother m hm)⟩
  · next h =>
    rw [hlim] at h
    have hd : ∀ m, (limCycle n ((cutSwitch n s).modPh n fun p => { p with limited := true })).drive m = (cutSwitch n s).drive m :=
      fun m => ((cycleFrame_drive n m).limCycle_eq _).trans (drive_modPh _ m n _ fun _ => by exact ⟨rfl, rfl⟩)
    refine ⟨?_, ?_, ?_, ?_, fun m hm => ?_⟩
    · have hc := (cycleFrame_status (e := F.PHASE_STATUS_CUT n.val) rfl).limCycle_eq
        ((cutSwitch n s).modPh n fun p => { p with limited := true })
      exact (congrArg (· != 0) hc).trans hcut
    · rw [(cycleFrame_limited n n).limCycle_eq, State.modPh_same]
    · exact (congrArg Prod.fst (hd n)).trans (cutSwitch_out n s)
    · rw [limCycle_total, if_neg h, ← htot]
      rfl
    · exact (congrArg Prod.fst (hd m)).trans (congrArg (·.out) (hother m hm))

theorem CutLeaves.ffSwitch {n : Fin 48} {s u : State} (h : CutLeaves n s u) : CutLeaves n s (ffSwitch n u) where
  cut := (congrArg (· != 0) (ffSwitch_g n u _)).trans h.cut
  limited := ((cycleFrame_limited n n).ffSwitch_eq n u).trans h.limited
  out := (congrArg Prod.fst ((cycleFrame_drive n n).ffSwitch_eq n u)).trans h.out
  total := (ffSwitch_g n u _).trans h.total
  other m hm := (congrArg Prod.fst ((cycleFrame_drive n m).ffSwitch_eq n u)).trans (h.other m hm)

theorem cycleCut_acts {n : Fin 48} {src : Fin 8} {s : State} (hr : s.phRuns n = true ∨ (s.ph n).out = .high)
    (hl : s.latched n.val = false) (ht : bitAt (s.trips n) src.val = true)
    (hc : bitAt (s.g (F.PHASE_TRIPCFG_CUT n.val)) src.val = true)
    (hla : bitAt (s.g (F.PHASE_TRIPCFG_LATCH n.val)) src.val = false) : CutLeaves n s (cycleCut n src s) := by
  have heq : cycleCut n src s = Machine.ffSwitch n (cutPhase n s) := by
    refine if_pos ?_
    rcases hr with hr | hr <;> simp [hr, hl, ht, hc, hla]
  rw [heq]
  exact (cutPhase_leaves n s).ffSwitch

theorem cycleCut_inactive {n : Fin 48} {src : Fin 8} {s : State} (h : bitAt (s.trips n) src.val = false) :
    cycleCut n src s = s := if_neg (by simp [h])

theorem tripLatch_inactive {n : Fin 48} {src : Fin 8} {s : State} (h : bitAt (s.trips n) src.val = false) :
    tripLatch n src s = s := if_neg (by simp [State.latchTrips, bitAt_and, h])

end Sys2Proof.Machine
end

section
/-!
PROOFS. Latches and TRIP pins (O19).
-/

open Sys2Proof Sys2Proof.Machine
namespace Sys2Proof.Machine

theorem g_of_regs {u s : State} (h : u.regs = s.regs) (e : Fld) : u.g e = s.g e :=
  congrArg (fun r => getBits (RegFile.word r e.addr) e.lo e.w) h

/-! ### Latching (R103) -/

theorem latchPhase_latched (n : Fin 48) (s : State) : (latchPhase n s).latched n.val = true := by
  have hf : SwitchFrame n (·.g (F.PHASE_STATUS_LATCHED n.val)) := switchFrame_g (status_not_router n)
  have h := (hf.noting_eq (fun s => phaseEvent n 4 ((phOff n s).pb (F.PHASE_STATUS_LATCHED n.val) true)) s).trans
    (hf.phaseEvent_eq n 4 _)
  refine (congrArg (· != 0) h).trans ?_
  exact State.gb_pb _ (F.PHASE_STATUS_LATCHED n.val) true rfl (show 5 + 1 ≤ 32 by decide)

theorem latchPhase_drive (n : Fin 48) (s : State) : (latchPhase n s).drive n = (.off, .none) :=
  (noting_drive n n _ s).trans (((eventFrame_drive n).phaseEvent_eq n 4 _).trans (phOff_drive n s))

/-- Latching switches the phase and sets LATCHED. -/
theorem latchPhase_keeps {β : Type} {π : State → β} {n : Fin 48} (h : SwitchFrame n π)
    (hl : ∀ s, π (State.pb s (F.PHASE_STATUS_LATCHED n.val) true) = π s) (s : State) : π (latchPhase n s) = π s :=
  (h.noting_eq _ s).trans ((h.phaseEvent_eq n 4 _).trans ((hl _).trans (h.phOff_eq s)))

/-! ### The report of a phase's latch (R275, R294) -/

theorem qPush_phase (q : Fin 16) (e : QEntry) (s : State) : (qPush q e s).phase = s.phase := by
  have hm : ∀ s, (markPushed q s).phase = s.phase := by
    intro s
    unfold markPushed
    split <;> rfl
  unfold qPush
  split
  · unfold qAppend routerEvent
    rw [routerEdge_keep (·.phase) (fun _ _ _ => rfl) (fun _ _ _ => rfl), hm, State.setQ_phase]
  · unfold qDrop
    rw [State.pb_phase, State.inc_phase]

theorem latchFid_phase (fid : Nat) (k : Option (Fin 8)) (s : State) : (latchFid fid k s).phase = s.phase := by
  have hscope : ∀ a b c d, ∀ k : Option (Fin 8), (latchScope k a b c d s).phase = s.phase := by
    intro a b c d k
    unfold latchScope
    split
    · rfl
    · exact forAll_keep (·.phase) (fun s k => latchRail k a b c d s) (fun _ _ => rfl) s
  unfold latchFid
  split
  case h_17 => rfl
  all_goals exact hscope _ _ _ _ _

theorem report_phase (e : FmEvent) (c : Nat) (perm : Bool) (s : State) : (report e c perm s).phase = s.phase := by
  have hw : ∀ (s : State) a w, (s.setWord a w).phase = s.phase := fun _ _ _ => rfl
  have hpend : ∀ x : State, (if x.g F.FM_CTL_FPMIN ≤ c then x.pb F.FM_STATUS_FPEND true else x).phase = x.phase := by
    intro x
    split <;> rfl
  unfold report
  dsimp only
  rw [plateFault_keep (·.phase) hw fun _ _ _ => rfl, routerEvent, routerEdge_keep (·.phase) hw fun _ _ _ => rfl,
    queueRecord_keep (·.phase) hw (fun _ _ _ => rfl) fun _ _ => rfl, latchFid_phase]
  split
  · rw [State.p_phase, hpend, State.p_phase, State.p_phase, qPush_phase]
  · rw [hpend, State.p_phase, State.p_phase, qPush_phase]

/-- Beside the registers every report writes, one of phase n writes LASTFID of FM_PH_STAT[n]. -/
theorem report_word_phase {e : FmEvent} {n : Fin 48} (he : e.phase = some n) (c : Nat) (perm : Bool) (s : State) (a : Nat)
    (h : ¬ ReportWord a) (hn : ¬ ReportWord (A.FM_PH_STAT n.val)) :
    (report e c perm s).word a = (s.p (F.FM_PH_STAT_LASTFID n.val) e.fid).word a := by
  have hpend : ∀ (x : State) b, b ≠ A.FM_STATUS →
      (if x.g F.FM_CTL_FPMIN ≤ c then x.pb F.FM_STATUS_FPEND true else x).word b = x.word b := by
    intro x b hb
    split
    · exact State.word_p_ne x _ _ b hb
    · rfl
  have before : ∀ b, ¬ ReportWord b → ∀ x : State, x = ((qPush 11 (s.reportEntry e c perm) s).p F.FM_STATUS_LASTFID e.fid).p
      F.FM_STATUS_LASTCLS c → (if x.g F.FM_CTL_FPMIN ≤ c then x.pb F.FM_STATUS_FPEND true else x).word b = s.word b := by
    intro b hb x hx
    have hf : b ≠ A.FM_STATUS := fun y => hb (.inr (.inl y))
    rw [hpend x b hf, hx, State.word_p_ne _ _ _ _ hf, State.word_p_ne _ _ _ _ hf,
      qPush_word _ _ _ _ (fun y => hb (.inl y)) fun y => hb (.inr (.inr (.inr ⟨_, y⟩)))]
  have hr : ¬ RouterWord a := fun x => h (.inl x)
  unfold report
  rw [he]
  dsimp only
  rw [plateFault_word _ _ _ hr, routerEvent, routerEdge_word _ _ _ _ hr,
    queueRecord_word _ _ _ _ _ hr (fun x => h (.inr (.inr (.inl x)))) (fun x => h (.inr (.inr (.inr ⟨15, x⟩)))),
    latchFid_word, State.word_p, State.word_p, before (F.FM_PH_STAT_LASTFID n.val).addr hn _ rfl, before a h _ rfl]

theorem not_reportWord_of {a : Nat} (h : a < 0x180000) (hf : a ≠ A.FM_STATUS) (hl : a ≠ A.LG_INFO) : ¬ ReportWord a := by
  rintro (x | x | x | ⟨q, x⟩)
  · exact not_routerWord_of_lt h x
  · exact hf x
  · exact hl x
  · unfold A.Q_STAT at x
    omega

theorem phStat_not_report (n : Fin 48) : ¬ ReportWord (A.FM_PH_STAT n.val) := by
  refine not_reportWord_of ?_ ?_ ?_
  all_goals simp only [A.FM_PH_STAT, A.FM_STATUS, A.LG_INFO]; omega

theorem status_not_report (n : Fin 48) : ¬ ReportWord (A.PHASE_STATUS n.val) := by
  refine not_reportWord_of ?_ ?_ ?_
  all_goals simp only [A.PHASE_STATUS, A.FM_STATUS, A.LG_INFO]; omega

/-- A fault of a phase that is answered by its report alone: no strike, class 1 or below (R276, R289). -/
theorem raisePhase_report {n : Fin 48} {fid : Nat} {s : State} (hf : isPhaseFid fid = true)
    (hc : s.classOf fid (limRail s n <|> s.railOf n.val) ≤ 1) :
    ∃ c, raisePhase fid n false false s = updateDev (report (phEvent fid n (limRail s n <|> s.railOf n.val) false false) c false s) := by
  refine ⟨s.classOf fid (limRail s n <|> s.railOf n.val), ?_⟩
  have hresp : ∀ (e : FmEvent) (c : Nat), e.fid = fid → e.phase = some n → c ≤ 1 → respond e c s = (s, c) := by
    intro e c he hp hc
    unfold respond
    rw [if_pos (by rw [he]; exact hf), hp]
    dsimp only
    rw [if_neg (by omega), if_neg (by omega)]
  unfold raisePhase raise
  simp only [phEvent, Bool.false_eq_true, if_false, Bool.false_and, Bool.and_false, Bool.or_self, Option.getD_none]
  rw [hresp _ _ rfl rfl hc]

/-- The class of PHLATCH is that of FM_CLASS, whatever the rail. -/
theorem classOf_latch (s : State) (k : Option (Fin 8)) : s.classOf 6 k = getBits (s.word (A.FM_CLASS 0)) 24 4 := by
  cases k <;> rfl

/-- What an active latch source leaves of a phase that was not latched. -/
structure LatchLeaves (n : Fin 48) (s u : State) : Prop where
  latched : u.latched n.val = true
  out : (u.ph n).out = .off
  tail : (u.ph n).tail = none
  fid : u.g F.FM_STATUS_LASTFID = 6
  phFid : u.g (F.FM_PH_STAT_LASTFID n.val) = 6
  other : ∀ m, m ≠ n → (u.ph m).out = (s.ph m).out

/-- The register words of the state after the latch, its report, the hand-over and the end of the tail. -/
theorem dropTail_g {n : Fin 48} {s : State} {e : Fld} (h : ∀ k : Fin 8, e.addr ≠ A.RAIL_MSTAT k.val) :
    (dropTail n s).g e = s.g e := by
  unfold dropTail
  split
  · rfl
  · next k _ => rw [updateTail, State.pb, State.g_p_addr _ (F.RAIL_MSTAT_TAIL k.val) e _ (h k), g_of_regs (State.modPh_regs s n _)]

/-- What the report of a phase's latch shows, and the registers and phases it leaves. -/
structure LatchReported (n : Fin 48) (s u : State) : Prop where
  phase : u.phase = s.phase
  latched : u.g (F.PHASE_STATUS_LATCHED n.val) = s.g (F.PHASE_STATUS_LATCHED n.val)
  fid : u.g F.FM_STATUS_LASTFID = 6
  phFid : u.g (F.FM_PH_STAT_LASTFID n.val) = 6

theorem raiseLatch_reported {n : Fin 48} {s : State} (hc : getBits (s.word (A.FM_CLASS 0)) 24 4 ≤ 1) :
    LatchReported n s (raisePhase 6 n false false s) := by
  obtain ⟨c, hr⟩ := raisePhase_report (n := n) (fid := 6) (s := s) rfl (by rw [classOf_latch]; exact hc)
  rw [hr]
  generalize he : phEvent 6 n (limRail s n <|> s.railOf n.val) false false = e
  have hep : e.phase = some n := by rw [← he]; rfl
  have hef : e.fid = 6 := by rw [← he]; rfl
  have hword : ∀ a, ¬ ReportWord a →
      (updateDev (report e c false s)).word a = (s.p (F.FM_PH_STAT_LASTFID n.val) e.fid).word a := fun a ha =>
    (updateDev_keep (·.word a) (fun _ _ _ => rfl) _).trans (report_word_phase hep c false s a ha (phStat_not_report n))
  refine ⟨?_, ?_, ?_, ?_⟩
  · exact (updateDev_keep (·.phase) (fun _ _ _ => rfl) _).trans (report_phase e c false s)
  · refine (congrArg (getBits · 5 1) (hword _ (status_not_report n))).trans ?_
    refine State.g_p_addr s (F.FM_PH_STAT_LASTFID n.val) (F.PHASE_STATUS_LATCHED n.val) _ ?_
    show A.PHASE_STATUS n.val ≠ A.FM_PH_STAT n.val
    unfold A.PHASE_STATUS A.FM_PH_STAT; omega
  · rw [updateDev_fmStatus, report_lastfid, hef]
  · refine (congrArg (getBits · 16 8) (hword _ (phStat_not_report n))).trans ?_
    refine (State.g_p s (F.FM_PH_STAT_LASTFID n.val) e.fid (show 16 + 8 ≤ 32 by decide)).trans ?_
    rw [hef]
    rfl

/-- What follows the report: the hand-over to forced fixed-frequency mode and the end of the tail. -/
theorem LatchReported.ended {n : Fin 48} {s u : State} (h : LatchReported n s u) (hl : s.latched n.val = true)
    (hd : s.drive n = (.off, .none)) : LatchLeaves n s (dropTail n (ffSwitch n u)) := by
  have hdr : ∀ m, (ffSwitch n u).drive m = s.drive m := fun m =>
    ((cycleFrame_drive n m).ffSwitch_eq n u).trans (by unfold State.drive State.ph; rw [h.phase])
  have hg : ∀ e : Fld, (∀ k : Fin 8, e.addr ≠ A.RAIL_MSTAT k.val) → (dropTail n (ffSwitch n u)).g e = u.g e :=
    fun e he => (dropTail_g he).trans (ffSwitch_g n u e)
  obtain ⟨hdn, htn, hdm⟩ := dropTail_ph n (ffSwitch n u)
  refine ⟨?_, (drive_eq (hdn.trans ((hdr n).trans hd))).1, htn, ?_, ?_, fun m hm => ?_⟩
  · refine (congrArg (· != 0) ((hg _ fun k => ?_).trans h.latched)).trans hl
    show A.PHASE_STATUS n.val ≠ A.RAIL_MSTAT k.val
    unfold A.PHASE_STATUS A.RAIL_MSTAT; omega
  · refine (hg _ fun k => ?_).trans h.fid
    show A.FM_STATUS ≠ A.RAIL_MSTAT k.val
    unfold A.FM_STATUS A.RAIL_MSTAT; omega
  · refine (hg _ fun k => ?_).trans h.phFid
    show A.FM_PH_STAT n.val ≠ A.RAIL_MSTAT k.val
    unfold A.FM_PH_STAT A.RAIL_MSTAT; omega
  · rw [hdm m hm]
    exact congrArg Prod.fst (hdr m)

/-- Latching reads and writes no word of FM_CLASS. -/
theorem latchPhase_class (n : Fin 48) (s : State) : (latchPhase n s).word (A.FM_CLASS 0) = s.word (A.FM_CLASS 0) := by
  have hf : SwitchFrame n (·.word (A.FM_CLASS 0)) :=
    ⟨⟨fun s a w ha => State.word_setWord_ne s a _ w fun h => not_routerWord_of_lt (by decide) (h ▸ ha),
      fun _ _ _ => rfl⟩, fun _ _ _ => rfl⟩
  refine latchPhase_keeps hf (fun s => State.word_p_ne s _ _ _ ?_) s
  show A.FM_CLASS 0 ≠ A.PHASE_STATUS n.val
  unfold A.FM_CLASS A.PHASE_STATUS; omega

theorem setLatch_leaves {n : Fin 48} {s : State} (hc : s.classOf 6 (limRail s n <|> s.railOf n.val) ≤ 1) :
    LatchLeaves n s (setLatch n false s) := by
  have hother : ∀ m, m ≠ n → (latchPhase n (s.modPh n fun p => { p with clearPend := false })).ph m = s.ph m := fun m hm =>
    (latchPhase_keeps (switchFrame_ph hm) (fun s => congrArg (vget · m) (State.pb_phase s _ _)) _).trans
      (State.modPh_ne s n m _ hm)
  have hclass : (latchPhase n (s.modPh n fun p => { p with clearPend := false })).word (A.FM_CLASS 0) = s.word (A.FM_CLASS 0) :=
    (latchPhase_class n _).trans (congrArg (RegFile.word · _) (State.modPh_regs s n _))
  rw [classOf_latch, ← hclass] at hc
  have h := (raiseLatch_reported (n := n) hc).ended (latchPhase_latched n _) (latchPhase_drive n _)
  exact ⟨h.latched, h.out, h.tail, h.fid, h.phFid, fun m hm => (h.other m hm).trans (congrArg (·.out) (hother m hm))⟩

/-- Settles O19: the cut by `cycleCut_acts`, the latch by `setLatch_leaves`, with the instant of the command set aside. -/
theorem tripsCutAndLatch : Obligations.TripsCutAndLatch := by
  unfold Obligations.TripsCutAndLatch
  refine ⟨fun s n src t hr hl ht hc hla => ?_, fun s n src t hr ho hl ht hc hla => ?_, fun s n src t ht => ⟨?_, ?_⟩,
    fun s n src t ht h0 hla hl hc => ?_, fun s n src t ht hla hl => ?_, fun s i l => ?_⟩
  · have h := cycleCut_acts (n := n) (src := src) (s := s.atTime t) (by simp [hr]) (by simpa) (by simpa) (by simpa) (by simpa)
    refine ⟨cycleCut n src (s.atTime t), rfl, h.cut, h.limited, ?_, ?_, fun m hm => ?_⟩
    · rw [h.out]
      simp [State.cutOut, hr]
    · rw [h.total]
      simp
    · rw [h.other m hm, atTime_ph]
  · have h := cycleCut_acts (n := n) (src := src) (s := s.atTime t) (by simp [ho]) (by simpa) (by simpa) (by simpa) (by simpa)
    refine ⟨cycleCut n src (s.atTime t), rfl, h.cut, ?_, fun m hm => ?_⟩
    · rw [h.out]
      simp [State.cutOut, hr]
    · rw [h.other m hm, atTime_ph]
  · exact congrArg done (cycleCut_inactive (by simpa))
  · exact congrArg done (tripLatch_inactive (by simpa))
  · have hsrc : (src.val == 0) = false := beq_eq_false_iff_ne.mpr fun h => h0 (Fin.ext h)
    have heq : tripLatch n src (s.atTime t) = setLatch n false (s.atTime t) := by
      have hact : bitAt ((s.atTime t).latchTrips n) src.val = true := by
        rw [State.latchTrips, bitAt_and, atTime_trips, State.atTime_g, ht, hla]
        rfl
      unfold tripLatch
      rw [if_pos hact, if_neg (by simp [hl]), hsrc]
    have h := setLatch_leaves (n := n) (s := s.atTime t) (by simpa)
    rw [← heq] at h
    exact ⟨tripLatch n src (s.atTime t), rfl, h.latched, h.out, h.tail, h.fid, h.phFid,
      fun m hm => (h.other m hm).trans (by rw [atTime_ph])⟩
  · have heq : tripLatch n src (s.atTime t) = phOff n ((s.atTime t).modPh n fun p => { p with clearPend := false }) := by
      have hact : bitAt ((s.atTime t).latchTrips n) src.val = true := by
        rw [State.latchTrips, bitAt_and, atTime_trips, State.atTime_g, ht, hla]
        rfl
      unfold tripLatch
      rw [if_pos hact, if_pos (by simpa)]
    have hheld : ((tripLatch n src (s.atTime t)).ph n).held.clearPend = false := by
      rw [heq, (switchFrame_held n n).phOff_eq, State.modPh_same]
      rfl
    refine ⟨tripLatch n src (s.atTime t), rfl, ?_, ?_, hheld, fun m hm => ?_⟩
    · rw [heq]
      refine (congrArg (· != 0) ((switchFrame_g (status_not_router n)).phOff_eq _)).trans ?_
      exact (atTime_latched s t n.val).trans hl
    · rw [heq]
      exact (drive_eq (phOff_drive n _)).1
    · rw [heq, (switchFrame_ph hm).phOff_eq, State.modPh_ne _ n m _ hm, atTime_ph]
  · have hkeep : ∀ {β : Type} (π : State → β), (∀ s a w, π (State.setWord s a w) = π s) →
        (∀ s p f, π (State.modPl s p f) = π s) →
        π (tripPin i l s) = π { s with sup := { s.sup with tripPin := vset s.sup.tripPin i l } } := by
      intro β π hw hm
      unfold tripPin
      dsimp only
      split
      · rfl
      · exact routerEdge_keep π hw hm _ _ _
    exact ⟨tripPin i l s, rfl, hkeep (·.sup) (fun _ _ _ => rfl) (fun _ _ _ => rfl),
      hkeep (·.phase) (fun _ _ _ => rfl) (fun _ _ _ => rfl), hkeep (·.rail) (fun _ _ _ => rfl) (fun _ _ _ => rfl)⟩

end Sys2Proof.Machine
end

section
/-!
PROOFS. The shadow lock's timeout, the sync reference and the capture units (O21).
-/

open Sys2Proof Sys2Proof.Machine
namespace Sys2Proof.Machine

/-! ### A new t_ref (R107, R109, R110) -/

/-- Realignment reaches the alignment errors of phases alone. -/
theorem realign_keep {β : Type} (π : State → β) (h : ∀ (s : State) n e, π (s.modPh n fun p => { p with alignErr := e - p.alignAdj }) = π s)
    (s : State) : π (realign s) = π s := by
  refine forAll_keep π _ (fun s n => ?_) s
  split
  · exact h s n _
  · rfl

theorem setTref_sync (x : Nat) (s : State) : (setTref x s).sync = (placeSynco { s with sync := { s.sync with tref := x } }).sync :=
  realign_keep (·.sync) (fun _ _ _ => rfl) _

theorem setTref_tref (x : Nat) (s : State) : (setTref x s).sync.tref = x := by
  rw [setTref_sync]
  rfl

theorem setTref_lastEdge (x : Nat) (s : State) : (setTref x s).sync.lastEdge = s.sync.lastEdge := by
  rw [setTref_sync]
  rfl

/-- With SYNCOEN 0 no pulse is placed (R110). -/
theorem setTref_synco (x : Nat) (s : State) (h : s.gb F.PE_SYNCO_CTL_SYNCOEN = false) : (setTref x s).sync.synco = [] := by
  rw [setTref_sync]
  exact if_neg (Bool.eq_false_iff.mp h)

theorem setTref_regs (x : Nat) (s : State) : (setTref x s).regs = s.regs := realign_keep (·.regs) (fun _ _ _ => rfl) _

theorem setTref_sup (x : Nat) (s : State) : (setTref x s).sup = s.sup := realign_keep (·.sup) (fun _ _ _ => rfl) _

theorem setTref_drive (x : Nat) (s : State) (n : Fin 48) : (setTref x s).drive n = s.drive n :=
  realign_keep (·.drive n) (fun s m _ => drive_modPh s n m _ fun _ => ⟨rfl, rfl⟩) _

theorem out_of_drive {u s : State} {n : Fin 48} (h : u.drive n = s.drive n) : (u.ph n).out = (s.ph n).out :=
  congrArg Prod.fst h

/-! ### Accepted edges (R107, R108) -/

/-- What a SYNCI edge accepted at instant t leaves, from the offset of the spec. -/
structure EdgeTaken (t : Nat) (s u : State) : Prop where
  tref : (u.sync.tref : Int) = ((t : Int) + s.gi F.PE_SYNC_DLY_SYNCIDLY) % 2 ^ 52
  lastEdge : u.sync.lastEdge = some t
  out : ∀ n, (u.ph n).out = (s.ph n).out

/-- The state with its last accepted edge at instant t. -/
def markEdge (t : Nat) (s : State) : State := { s with sync := { s.sync with lastEdge := some t } }

theorem synciAccept_none (t : Nat) (s : State) : synciAccept t none s
    = setTref (((t : Int) + s.gi F.PE_SYNC_DLY_SYNCIDLY) % (2 ^ 52 : Int)).toNat (markEdge t s) := rfl

theorem synciAccept_first (t : Nat) (s : State) : EdgeTaken t s (synciAccept t none s)
    ∧ (synciAccept t none s).g F.PE_SYNC_STATUS_SYNCERR = s.g F.PE_SYNC_STATUS_SYNCERR := by
  have hpos : 0 ≤ ((t : Int) + s.gi F.PE_SYNC_DLY_SYNCIDLY) % (2 ^ 52 : Int) := Int.emod_nonneg _ (by decide)
  rw [synciAccept_none]
  refine ⟨⟨?_, ?_, fun n => ?_⟩, ?_⟩
  · rw [setTref_tref, Int.toNat_of_nonneg hpos]
  · rw [setTref_lastEdge]
    rfl
  · have hd : (markEdge t s).drive n = s.drive n := rfl
    exact out_of_drive ((setTref_drive _ (markEdge t s) n).trans hd)
  · have hr : (markEdge t s).regs = s.regs := rfl
    exact g_of_regs ((setTref_regs _ (markEdge t s)).trans hr) _

/-- Counting a good edge reaches the count, SYNCLOCK and SYNCLOST alone, beside an event. -/
theorem synciGood_keep {β : Type} {π : State → β} (h : EventFrame π)
    (hg : ∀ (s : State) x, π { s with sync := { s.sync with good := x } } = π s)
    (h1 : ∀ s b, π (State.pb s F.PE_SYNC_STATUS_SYNCLOCK b) = π s) (h2 : ∀ s b, π (State.pb s F.PE_SYNC_STATUS_SYNCLOST b) = π s)
    (s : State) : π (synciGood s) = π s := by
  unfold synciGood
  dsimp only
  split
  · exact (h.routerEvent_eq _ _).trans ((h2 _ _).trans ((h1 _ _).trans (hg s _)))
  · exact hg s _

theorem toSigned_ofSigned (i : Int) (hl : -32768 ≤ i) (hu : i < 32768) : toSigned 16 (ofSigned 16 i % 2 ^ 16) = i := by
  unfold toSigned ofSigned
  norm_num
  split <;> omega

theorem syncStatus_not_router : ¬ RouterWord A.PE_SYNC_STATUS := not_routerWord_of_lt (by decide)

theorem gi_pi_syncErr (s : State) (i : Int) : (s.pi F.PE_SYNC_STATUS_SYNCERR (clampInt i (-32767) 32767)).gi F.PE_SYNC_STATUS_SYNCERR
    = clampInt i (-32767) 32767 := by
  have hl : -32767 ≤ clampInt i (-32767) 32767 := le_max_left _ _
  have hu : clampInt i (-32767) 32767 ≤ 32767 := max_le (by decide) (min_le_right _ _)
  unfold State.gi State.pi
  rw [State.g_p s _ _ (by decide)]
  exact toSigned_ofSigned _ (by omega) (by omega)

/-- The judgment of an error in SYNCERR: a good edge is counted, any other starts the count anew and clears SYNCLOCK. -/
def judgeError (e : Int) (s : State) : State :=
  if e.natAbs ≤ 32 then synciGood s
  else { s.pb F.PE_SYNC_STATUS_SYNCLOCK false with sync := { s.sync with good := 0 } }

theorem synciAccept_some (t : Nat) (e : Int) (s : State) : synciAccept t (some e) s
    = judgeError e ((synciAccept t none s).pi F.PE_SYNC_STATUS_SYNCERR (clampInt e (-32767) 32767)) := by
  unfold synciAccept judgeError
  dsimp only

theorem judgeError_keep {β : Type} {π : State → β} (h : EventFrame π)
    (hg : ∀ (s : State) x, π { s with sync := { s.sync with good := x } } = π s)
    (h1 : ∀ s b, π (State.pb s F.PE_SYNC_STATUS_SYNCLOCK b) = π s) (h2 : ∀ s b, π (State.pb s F.PE_SYNC_STATUS_SYNCLOST b) = π s)
    (e : Int) (s : State) : π (judgeError e s) = π s := by
  unfold judgeError
  split
  · exact synciGood_keep h hg h1 h2 s
  · exact (hg (s.pb F.PE_SYNC_STATUS_SYNCLOCK false) 0).trans (h1 s false)

/-- What follows a prediction leaves of the edge taken: SYNCERR, the count of good edges and the lock. -/
theorem synciAccept_predicted (t : Nat) (e : Int) (s : State) : EdgeTaken t s (synciAccept t (some e) s)
    ∧ (synciAccept t (some e) s).gi F.PE_SYNC_STATUS_SYNCERR = clampInt e (-32767) 32767 := by
  obtain ⟨hfirst, -⟩ := synciAccept_first t s
  -- the state with the error in SYNCERR, and what the judgment of the error keeps of it
  have after : ∀ {β : Type} (π : State → β), EventFrame π → (∀ (s : State) x, π { s with sync := { s.sync with good := x } } = π s) →
      (∀ s b, π (State.pb s F.PE_SYNC_STATUS_SYNCLOCK b) = π s) → (∀ s b, π (State.pb s F.PE_SYNC_STATUS_SYNCLOST b) = π s) →
      π (synciAccept t (some e) s)
        = π ((synciAccept t none s).pi F.PE_SYNC_STATUS_SYNCERR (clampInt e (-32767) 32767)) := by
    intro β π hev hg h1 h2
    rw [synciAccept_some]
    exact judgeError_keep hev hg h1 h2 e _
  have htref : (synciAccept t (some e) s).sync.tref = (synciAccept t none s).sync.tref :=
    (after (·.sync.tref) (eventFrame_of (fun _ _ _ => rfl) fun _ _ _ => rfl) (fun _ _ => rfl) (fun _ _ => rfl)
      fun _ _ => rfl).trans (congrArg (fun y : SyncState => y.tref) (State.pi_sync _ _ _))
  have hedge : (synciAccept t (some e) s).sync.lastEdge = (synciAccept t none s).sync.lastEdge :=
    (after (·.sync.lastEdge) (eventFrame_of (fun _ _ _ => rfl) fun _ _ _ => rfl) (fun _ _ => rfl) (fun _ _ => rfl)
      fun _ _ => rfl).trans (congrArg (fun y : SyncState => y.lastEdge) (State.pi_sync _ _ _))
  have hph : (synciAccept t (some e) s).phase = (synciAccept t none s).phase :=
    (after (·.phase) (eventFrame_of (fun _ _ _ => rfl) fun _ _ _ => rfl) (fun _ _ => rfl) (fun _ _ => rfl)
      fun _ _ => rfl).trans (State.pi_phase _ _ _)
  have herr := after (·.g F.PE_SYNC_STATUS_SYNCERR) (eventFrame_g syncStatus_not_router) (fun _ _ => rfl)
    (fun s b => State.g_p_apart s _ _ _ (by decide) (by decide)) fun s b => State.g_p_apart s _ _ _ (by decide) (by decide)
  refine ⟨⟨?_, hedge.trans hfirst.lastEdge, fun n => ?_⟩, (congrArg (toSigned 16) herr).trans (gi_pi_syncErr _ e)⟩
  · rw [htref, hfirst.tref]
  · rw [show (synciAccept t (some e) s).ph n = (synciAccept t none s).ph n from congrArg (vget · n) hph, hfirst.out n]

/-! ### The judgment of an edge (R107) -/

/-- What an event at the SYNCI ball leaves of what judges the edge. -/
structure SameSync (s u : State) : Prop where
  sync : u.sync = s.sync
  core : u.core = s.core
  ctl : ∀ e : Fld, e.addr < 0x180000 → u.g e = s.g e
  phase : u.phase = s.phase

theorem edgeSeen (s : State) (t : Time) : SameSync s (routerEvent 0xC0 (s.atTime t)) where
  sync := ((eventFrame_of (fun _ _ _ => rfl) fun _ _ _ => rfl : EventFrame (·.sync)).routerEvent_eq _ _).trans (State.atTime_sync s t)
  core := ((eventFrame_of (fun _ _ _ => rfl) fun _ _ _ => rfl : EventFrame (·.core)).routerEvent_eq _ _).trans
    (congrArg (fun d : DevState => d != .off) (State.atTime_dev s t))
  ctl e he := ((eventFrame_g (not_routerWord_of_lt he)).routerEvent_eq _ _).trans (State.atTime_g s t e)
  phase := ((eventFrame_of (fun _ _ _ => rfl) fun _ _ _ => rfl : EventFrame (·.phase)).routerEvent_eq _ _).trans (State.atTime_phase s t)

section
variable {s u : State} (h : SameSync s u)
include h

theorem SameSync.gb (e : Fld) (he : e.addr < 0x180000) : u.gb e = s.gb e := congrArg (· != 0) (h.ctl e he)

theorem SameSync.gi (e : Fld) (he : e.addr < 0x180000) : u.gi e = s.gi e := congrArg (toSigned e.w) (h.ctl e he)

theorem SameSync.syncFine : u.syncFine = s.syncFine := congrArg (· * 16) (h.ctl F.PE_SYNC_CTL_SYNCPER (by decide))

theorem SameSync.taken {t : Nat} {v : State} (hv : EdgeTaken t u v) : EdgeTaken t s v where
  tref := by rw [hv.tref, h.gi _ (by decide)]
  lastEdge := hv.lastEdge
  out n := (hv.out n).trans (congrArg (fun p => (vget p n).out) h.phase)

end

/-- An edge of the chosen polarity with SYNCSRC 1, outside OFF, is judged. -/
theorem edgeJudged {u : State} {r : Bool} (hc : u.core = true) (hs : u.gb F.PE_SYNC_CTL_SYNCSRC = true)
    (hp : u.gb F.PE_SYNC_CTL_SYNCIEDGE = !r) :
    (u.core && u.gb F.PE_SYNC_CTL_SYNCSRC && (u.gb F.PE_SYNC_CTL_SYNCIEDGE != r)) = true := by
  rw [hc, hs, hp]
  cases r <;> rfl

theorem synciEdge_first {s : State} {t : Nat} {r : Bool} {u : State} (hu : routerEvent 0xC0 s = u)
    (hj : (u.core && u.gb F.PE_SYNC_CTL_SYNCSRC && (u.gb F.PE_SYNC_CTL_SYNCIEDGE != r)) = true) (he : u.sync.lastEdge = none) :
    synciEdge t r s = synciAccept t none u := by
  unfold synciEdge
  rw [hu]
  dsimp only
  rw [if_pos hj, he]

/-- The edges after the first are judged by their distance from the predicted time. -/
theorem synciEdge_again {s : State} {t p : Nat} {r : Bool} {u : State} (hu : routerEvent 0xC0 s = u)
    (hj : (u.core && u.gb F.PE_SYNC_CTL_SYNCSRC && (u.gb F.PE_SYNC_CTL_SYNCIEDGE != r)) = true) (he : u.sync.lastEdge = some p) :
    (((elapsed p t : Int) - u.syncFine).natAbs * 16 ≤ u.syncFine →
        synciEdge t r s = synciAccept t (some ((elapsed p t : Int) - u.syncFine)) u)
    ∧ (¬ ((elapsed p t : Int) - u.syncFine).natAbs * 16 ≤ u.syncFine → u.gb F.PE_SYNC_STATUS_SYNCLOST = false →
        synciEdge t r s = synciReject u) := by
  unfold synciEdge
  rw [hu]
  dsimp only
  rw [if_pos hj, he]
  constructor
  · intro hn
    exact if_pos hn
  · intro hn hl
    dsimp only
    rw [if_neg hn, if_neg (by simp [hl])]

/-- A rejected edge is counted and clears SYNCLOCK, and the reference stays. -/
theorem synciReject_leaves (s : State) : (synciReject s).sync.tref = s.sync.tref ∧ (synciReject s).sync.lastEdge = s.sync.lastEdge
    ∧ (synciReject s).gb F.PE_SYNC_STATUS_SYNCLOCK = false
    ∧ (synciReject s).g F.PE_SYNC_STATUS_REJCNT = incHold F.PE_SYNC_STATUS_REJCNT.w (s.g F.PE_SYNC_STATUS_REJCNT) := by
  have hregs : (synciReject s).regs = ((s.inc F.PE_SYNC_STATUS_REJCNT).pb F.PE_SYNC_STATUS_SYNCLOCK false).regs := rfl
  refine ⟨rfl, rfl, ?_, ?_⟩
  · rw [gb_of_regs hregs]
    exact State.gb_pb _ _ false rfl (by decide)
  · rw [g_of_regs hregs]
    refine (State.g_p_apart _ _ _ _ (by decide) (by decide)).trans ?_
    refine (State.g_p s _ _ (by decide)).trans (Nat.mod_eq_of_lt ?_)
    show min _ (2 ^ 8 - 1) < 2 ^ 8
    omega

/-! ### Capture units (R113) -/

theorem foldl_keep_of_ne {α β : Type} (π : State → β) (f : State → α → State) (c : α) (h : ∀ s x, x ≠ c → π (f s x) = π s)
    (l : List α) (hl : c ∉ l) (s : State) : π (l.foldl f s) = π s := by
  induction l generalizing s with
  | nil => rfl
  | cons x l ih =>
    rw [List.mem_cons, not_or] at hl
    exact (ih hl.2 (f s x)).trans (h s x (Ne.symm hl.1))

/-- Where every other index leaves what is seen, a fold over all of them is seen as its step at one, from a state seen the same. -/
theorem forAll_at {n : Nat} {β : Type} (π : State → β) (f : State → Fin n → State) (c : Fin n)
    (h : ∀ s x, x ≠ c → π (f s x) = π s) (s : State) : ∃ v, π v = π s ∧ π (forAll f s) = π (f v c) := by
  obtain ⟨l, r, hlr⟩ := List.append_of_mem (List.mem_finRange c)
  have hnd : (l ++ c :: r).Nodup := hlr ▸ List.nodup_finRange n
  have hl : c ∉ l := fun hm => (List.disjoint_of_nodup_append hnd) hm List.mem_cons_self
  have hr : c ∉ r := (List.nodup_cons.mp (List.nodup_append.mp hnd).2.1).1
  refine ⟨l.foldl f s, foldl_keep_of_ne π f c h l hl s, ?_⟩
  unfold forAll allFin
  rw [hlr, List.foldl_append, List.foldl_cons]
  exact foldl_keep_of_ne π f c h r hr _

/-- What capture unit c sees: its registers and the time base. -/
def State.unit (s : State) (c : Fin 32) : Word × Word × Word × BitVec 48 :=
  (s.word (A.CAP_CTL c.val), s.word (A.CAP_TSLO c.val), s.word (A.CAP_TSHI c.val), s.tb)

theorem unit_setWord (s : State) (c : Fin 32) (a : Nat) (w : Word) (h1 : a ≠ A.CAP_CTL c.val) (h2 : a ≠ A.CAP_TSLO c.val)
    (h3 : a ≠ A.CAP_TSHI c.val) : (s.setWord a w).unit c = s.unit c := by
  unfold State.unit
  rw [State.word_setWord_ne s a _ w h1.symm, State.word_setWord_ne s a _ w h2.symm, State.word_setWord_ne s a _ w h3.symm,
    State.setWord_tb]

/-- The words of another unit are not this one's. -/
theorem unit_tshi (s : State) (c u : Fin 32) (w : Word) (h : u ≠ c) : (s.setWord (A.CAP_TSHI u.val) w).unit c = s.unit c := by
  have hv : u.val ≠ c.val := fun e => h (Fin.ext e)
  refine unit_setWord s c _ w ?_ ?_ ?_
  all_goals simp only [A.CAP_CTL, A.CAP_TSLO, A.CAP_TSHI]; omega

theorem unit_tslo (s : State) (c u : Fin 32) (w : Word) (h : u ≠ c) : (s.setWord (A.CAP_TSLO u.val) w).unit c = s.unit c := by
  have hv : u.val ≠ c.val := fun e => h (Fin.ext e)
  refine unit_setWord s c _ w ?_ ?_ ?_
  all_goals simp only [A.CAP_CTL, A.CAP_TSLO, A.CAP_TSHI]; omega

/-- The stamp a unit takes: its words, with the flag that is set. -/
def stampWords (u fine : Nat) (flag : Fld) (s : State) : State :=
  ((((s.setWord (A.CAP_TSLO u) (BitVec.ofNat 32 s.tb.toNat)).p (F.CAP_TSHI_TSHI u) (s.tb.toNat / 2 ^ 32)).p (F.CAP_TSHI_FINE u)
    fine).pb (F.CAP_TSHI_TBDISC u) (bitAt s.capDisc.toNat u)).pb flag true

/-- The discontinuity mark of a unit is spent. -/
def clearDisc (u : Nat) (s : State) : State := { s with capDisc := BitVec.ofNat 32 (putBit s.capDisc.toNat u false) }

theorem clearDisc_unit (u : Nat) (c : Fin 32) (s : State) : (clearDisc u s).unit c = s.unit c := rfl

theorem stamp_taken {u fine : Nat} {s : State} (h : s.gb (F.CAP_TSHI_VALID u) = true → s.gb (F.CAP_CTL_CONT u) = true) :
    stamp u fine s = clearDisc u (stampWords u fine (if s.gb (F.CAP_TSHI_VALID u) then F.CAP_TSHI_OVR u else F.CAP_TSHI_VALID u) s) := by
  have hg : ¬ ((s.gb (F.CAP_TSHI_VALID u) && !s.gb (F.CAP_CTL_CONT u)) = true) := by
    rcases hv : s.gb (F.CAP_TSHI_VALID u) with _ | _
    · simp
    · simp [h hv]
  unfold stamp
  extract_lets held s1 s2 s3
  have h3 : s3 = stampWords u fine (if s.gb (F.CAP_TSHI_VALID u) then F.CAP_TSHI_OVR u else F.CAP_TSHI_VALID u) s := by
    show (if s.gb (F.CAP_TSHI_VALID u) then s2.pb (F.CAP_TSHI_OVR u) true else s2.pb (F.CAP_TSHI_VALID u) true) = _
    split <;> rfl
  exact (if_neg hg).trans (congrArg (clearDisc u) h3)

theorem stamp_held {u fine : Nat} {s : State} (h : s.gb (F.CAP_TSHI_VALID u) = true) (hc : s.gb (F.CAP_CTL_CONT u) = false) :
    stamp u fine s = s := if_pos (by simp [h, hc])

theorem stamp_other {c u : Fin 32} (h : u ≠ c) (fine : Nat) (s : State) : (stamp u.val fine s).unit c = s.unit c := by
  by_cases hg : s.gb (F.CAP_TSHI_VALID u.val) = true ∧ s.gb (F.CAP_CTL_CONT u.val) = false
  · rw [stamp_held hg.1 hg.2]
  · have hd := stamp_taken (u := u.val) (fine := fine) (s := s) fun hv => by
      rcases hc : s.gb (F.CAP_CTL_CONT u.val) with _ | _
      · exact absurd ⟨hv, hc⟩ hg
      · rfl
    have hf : (if s.gb (F.CAP_TSHI_VALID u.val) then F.CAP_TSHI_OVR u.val else F.CAP_TSHI_VALID u.val).addr = A.CAP_TSHI u.val := by
      split <;> rfl
    rw [hd, clearDisc_unit]
    unfold stampWords State.pb State.p
    rw [hf, unit_tshi _ c u _ h]
    exact (unit_tshi _ c u _ h).trans ((unit_tshi _ c u _ h).trans ((unit_tshi _ c u _ h).trans (unit_tslo _ c u _ h)))

/-- The capture of one unit. -/
def captureUnit (src : Nat) (falling : Bool) (fine : Nat) (s : State) (u : Fin 32) : State :=
  if s.gb (F.CAP_CTL_EN u.val) && s.g (F.CAP_CTL_SRC u.val) = src && edgeMatches (s.g (F.CAP_CTL_EDGE u.val)) (!falling) then
    stamp u.val fine s
  else s

theorem capture_unit (src : Nat) (falling : Bool) (fine : Nat) (s : State) (c : Fin 32) (h : s.core = true) :
    ∃ v, v.unit c = s.unit c ∧ (capture src falling fine s).unit c = (captureUnit src falling fine v c).unit c := by
  obtain ⟨v, hv, hc⟩ := forAll_at (fun s => s.unit c) (captureUnit src falling fine) c (fun s u hu => by
    unfold captureUnit
    split
    · exact stamp_other hu fine s
    · rfl) s
  have heq : capture src falling fine s = forAll (captureUnit src falling fine) s := if_pos h
  exact ⟨v, hv, by rw [heq, hc]⟩

section
variable {s v : State} {c : Fin 32} (h : v.unit c = s.unit c)
include h

theorem unit_ctl {e : Fld} (he : e.addr = A.CAP_CTL c.val) : v.g e = s.g e := by
  have hw : v.word (A.CAP_CTL c.val) = s.word (A.CAP_CTL c.val) := congrArg Prod.fst h
  unfold State.g
  rw [he, hw]

theorem unit_lo : v.word (A.CAP_TSLO c.val) = s.word (A.CAP_TSLO c.val) := congrArg (fun x => x.2.1) h

theorem unit_hi {e : Fld} (he : e.addr = A.CAP_TSHI c.val) : v.g e = s.g e := by
  have hw : v.word (A.CAP_TSHI c.val) = s.word (A.CAP_TSHI c.val) := congrArg (fun x => x.2.2.1) h
  unfold State.g
  rw [he, hw]

end

/-- The words of a unit that stamps afresh. -/
theorem stampWords_fresh (c : Fin 32) (fine : BitVec 4) (s : State) :
    (stampWords c.val fine.toNat (F.CAP_TSHI_VALID c.val) s).gb (F.CAP_TSHI_VALID c.val) = true
      ∧ (stampWords c.val fine.toNat (F.CAP_TSHI_VALID c.val) s).word (A.CAP_TSLO c.val) = BitVec.ofNat 32 s.tb.toNat
      ∧ (stampWords c.val fine.toNat (F.CAP_TSHI_VALID c.val) s).g (F.CAP_TSHI_TSHI c.val) = s.tb.toNat / 2 ^ 32
      ∧ (stampWords c.val fine.toNat (F.CAP_TSHI_VALID c.val) s).g (F.CAP_TSHI_FINE c.val) = fine.toNat := by
  have hlo : A.CAP_TSLO c.val ≠ A.CAP_TSHI c.val := by unfold A.CAP_TSLO A.CAP_TSHI; omega
  have hvalid : (31 : Nat) + 1 ≤ 32 := by decide
  have hdisc : (29 : Nat) + 1 ≤ 32 := by decide
  have hfine : (0 : Nat) + 4 ≤ 32 := by decide
  unfold stampWords
  refine ⟨State.gb_pb _ _ true rfl hvalid, ?_, ?_, ?_⟩
  · exact (State.word_p_ne _ _ _ _ hlo).trans ((State.word_p_ne _ _ _ _ hlo).trans ((State.word_p_ne _ _ _ _ hlo).trans
      ((State.word_p_ne _ _ _ _ hlo).trans (State.word_setWord_same _ _ _))))
  · refine (State.g_p_apart _ _ _ _ hvalid (.inl (show 4 + 16 ≤ 31 by decide))).trans
      ((State.g_p_apart _ _ _ _ hdisc (.inl (show 4 + 16 ≤ 29 by decide))).trans
        ((State.g_p_apart _ _ _ _ hfine (.inr (show 0 + 4 ≤ 4 by decide))).trans ?_))
    refine (State.g_p _ (F.CAP_TSHI_TSHI c.val) _ (show 4 + 16 ≤ 32 by decide)).trans (Nat.mod_eq_of_lt ?_)
    have htb := s.tb.isLt
    show s.tb.toNat / 2 ^ 32 < 2 ^ 16
    omega
  · refine (State.g_p_apart _ _ _ _ hvalid (.inl (show 0 + 4 ≤ 31 by decide))).trans
      ((State.g_p_apart _ _ _ _ hdisc (.inl (show 0 + 4 ≤ 29 by decide))).trans ?_)
    exact (State.g_p _ (F.CAP_TSHI_FINE c.val) _ hfine).trans (Nat.mod_eq_of_lt fine.isLt)

/-- An enabled free unit takes the stamp of an event it selects. -/
theorem captureUnit_fresh {v : State} {c : Fin 32} {src : BitVec 8} {f : Bool} (fine : BitVec 4)
    (hen : v.gb (F.CAP_CTL_EN c.val) = true) (hsrc : v.g (F.CAP_CTL_SRC c.val) = src.toNat)
    (hedge : edgeMatches (v.g (F.CAP_CTL_EDGE c.val)) (!f) = true) (hv : v.gb (F.CAP_TSHI_VALID c.val) = false) :
    captureUnit src.toNat f fine.toNat v c = clearDisc c.val (stampWords c.val fine.toNat (F.CAP_TSHI_VALID c.val) v) := by
  have hst := stamp_taken (u := c.val) (fine := fine.toNat) (s := v) (by simp [hv])
  rw [hv, if_neg (by simp)] at hst
  exact (if_pos (by simp [hen, hsrc, hedge])).trans hst

theorem capture_fresh {s : State} {c : Fin 32} {src : BitVec 8} {f : Bool} (fine : BitVec 4) (hc : s.core = true)
    (hen : s.gb (F.CAP_CTL_EN c.val) = true) (hsrc : s.g (F.CAP_CTL_SRC c.val) = src.toNat)
    (hedge : edgeMatches (s.g (F.CAP_CTL_EDGE c.val)) (!f) = true) (hv : s.gb (F.CAP_TSHI_VALID c.val) = false) :
    ∃ v, v.tb = s.tb ∧ (capture src.toNat f fine.toNat s).unit c
      = (stampWords c.val fine.toNat (F.CAP_TSHI_VALID c.val) v).unit c := by
  obtain ⟨v, hu, heq⟩ := capture_unit src.toNat f fine.toNat s c hc
  refine ⟨v, congrArg (fun x => x.2.2.2) hu, heq.trans ?_⟩
  rw [captureUnit_fresh fine, clearDisc_unit]
  · exact (congrArg (· != 0) (unit_ctl hu rfl)).trans hen
  · exact (unit_ctl hu rfl).trans hsrc
  · rw [unit_ctl hu rfl]
    exact hedge
  · exact (congrArg (· != 0) (unit_hi hu rfl)).trans hv

/-- A unit that holds a stamp in single mode keeps it. -/
theorem capture_held {s : State} {c : Fin 32} (src : Nat) (f : Bool) (fine : Nat) (hv : s.gb (F.CAP_TSHI_VALID c.val) = true)
    (hcont : s.gb (F.CAP_CTL_CONT c.val) = false) : (capture src f fine s).unit c = s.unit c := by
  rcases hc : s.core with _ | _
  · rw [show capture src f fine s = s from if_neg (by simp [hc])]
  · obtain ⟨v, hu, heq⟩ := capture_unit src f fine s c hc
    refine heq.trans (Eq.trans ?_ hu)
    unfold captureUnit
    split
    · rw [stamp_held ((congrArg (· != 0) (unit_hi hu rfl)).trans hv) ((congrArg (· != 0) (unit_ctl hu rfl)).trans hcont)]
    · rfl

/-! ### The shadow lock's timeout and the holdover (R98, R108) -/

/-- A flag written is a change of the registers alone. -/
theorem pb_shape (s : State) (f : Fld) (b : Bool) : ∃ r, s.pb f b = { s with regs := r } := ⟨_, rfl⟩

/-- SHLOCK cleared and SHLOCKTO set. -/
theorem shlockTimeout_leaves {n : Fin 48} {s : State} (h : s.gb (F.PHASE_CTL_SHLOCK n.val) = true) :
    (shlockTimeout n s).gb (F.PHASE_CTL_SHLOCK n.val) = false ∧ (shlockTimeout n s).gb (F.PHASE_STATUS_SHLOCKTO n.val) = true
      ∧ shlockTimeout n s = { s with regs := (shlockTimeout n s).regs, phase := (shlockTimeout n s).phase } := by
  have heq : shlockTimeout n s = ((s.pb (F.PHASE_CTL_SHLOCK n.val) false).pb (F.PHASE_STATUS_SHLOCKTO n.val) true).modPh n
      fun p => { p with shCount := 0 } := if_pos h
  have hne : (F.PHASE_CTL_SHLOCK n.val).addr ≠ (F.PHASE_STATUS_SHLOCKTO n.val).addr := by
    show A.PHASE_CTL n.val ≠ A.PHASE_STATUS n.val
    unfold A.PHASE_CTL A.PHASE_STATUS; omega
  rw [heq]
  refine ⟨?_, ?_, ?_⟩
  · rw [gb_of_regs (State.modPh_regs _ _ _)]
    refine (gb_p_of_apart _ _ (show 10 + 1 ≤ 32 by decide) (.inl hne)).trans ?_
    exact State.gb_pb s _ false rfl (show 15 + 1 ≤ 32 by decide)
  · rw [gb_of_regs (State.modPh_regs _ _ _)]
    exact State.gb_pb _ _ true rfl (show 10 + 1 ≤ 32 by decide)
  · obtain ⟨r, hr⟩ := pb_shape s (F.PHASE_CTL_SHLOCK n.val) false
    obtain ⟨q, hq⟩ := pb_shape { s with regs := r } (F.PHASE_STATUS_SHLOCKTO n.val) true
    rw [hr, hq]
    rfl

/-- The holdover: SYNCLOST is set, the run of good edges begins anew, and the reference and the phases stay. -/
theorem syncHoldover_leaves {s : State} (hc : s.core = true) (hs : s.gb F.PE_SYNC_CTL_SYNCSRC = true)
    (hl : s.sync.lastEdge ≠ none) (hlost : s.gb F.PE_SYNC_STATUS_SYNCLOST = false) :
    (syncHoldover s).gb F.PE_SYNC_STATUS_SYNCLOST = true ∧ (syncHoldover s).sync.tref = s.sync.tref
      ∧ (syncHoldover s).sync.lastEdge = s.sync.lastEdge ∧ (syncHoldover s).phase = s.phase := by
  have hsome : s.sync.lastEdge.isSome = true := Option.isSome_iff_ne_none.mpr hl
  have hg := (eventFrame_g (e := F.PE_SYNC_STATUS_SYNCLOST) syncStatus_not_router).routerEvent_eq 0xC6
    (s.pb F.PE_SYNC_STATUS_SYNCLOST true)
  have hsync := (eventFrame_of (fun _ _ _ => rfl) fun _ _ _ => rfl : EventFrame (·.sync)).routerEvent_eq 0xC6
    (s.pb F.PE_SYNC_STATUS_SYNCLOST true)
  have hph := (eventFrame_of (fun _ _ _ => rfl) fun _ _ _ => rfl : EventFrame (·.phase)).routerEvent_eq 0xC6
    (s.pb F.PE_SYNC_STATUS_SYNCLOST true)
  have hset : (s.pb F.PE_SYNC_STATUS_SYNCLOST true).gb F.PE_SYNC_STATUS_SYNCLOST = true := State.gb_pb s _ true rfl (by decide)
  unfold syncHoldover
  rw [if_pos (by simp [hc, hs, hsome, hlost])]
  generalize routerEvent 0xC6 (s.pb F.PE_SYNC_STATUS_SYNCLOST true) = v at hg hsync hph
  dsimp only at hg hsync hph ⊢
  rw [State.pb_sync] at hsync
  rw [State.pb_phase] at hph
  refine ⟨(gb_of_regs rfl _).trans ((congrArg (· != 0) hg).trans hset), by rw [hsync], by rw [hsync], hph⟩

/-- Settles O21: the edges by their distance from the predicted time, the captures through what one unit sees of them all. -/
theorem syncAndCapture : Obligations.SyncAndCapture := by
  unfold Obligations.SyncAndCapture
  refine ⟨fun s n h => ?_, fun s g h => ?_, fun s t r hc hs hp hl => ?_, fun s t r p hc hs hp hl hn => ?_,
    fun s t r p hc hs hp hl hn hlost => ?_, fun s hc => ?_, fun s hc hs hl hlost => ?_,
    fun s c src f fine hc hen hsrc hedge hv => ?_, fun s c src f fine hv hcont => ?_⟩
  · exact ⟨shlockTimeout n s, rfl, shlockTimeout_leaves h⟩
  · exact congrArg done (if_pos h)
  · have hsame := edgeSeen s t
    generalize hu : routerEvent 0xC0 (s.atTime t) = u at hsame
    have hj := edgeJudged (hsame.core.trans hc) ((hsame.gb _ (by decide)).trans hs) ((hsame.gb _ (by decide)).trans hp)
    have heq := synciEdge_first (t := t.toNat) hu hj (by rw [hsame.sync, hl])
    obtain ⟨htaken, herr⟩ := synciAccept_first t.toNat u
    have h := hsame.taken htaken
    refine ⟨synciEdge t.toNat r (s.atTime t), rfl, ?_⟩
    rw [heq]
    exact ⟨h.tref, h.lastEdge, herr.trans (hsame.ctl _ (by decide)), h.out⟩
  · have hsame := edgeSeen s t
    generalize hu : routerEvent 0xC0 (s.atTime t) = u at hsame
    have hj := edgeJudged (hsame.core.trans hc) ((hsame.gb _ (by decide)).trans hs) ((hsame.gb _ (by decide)).trans hp)
    have heq := (synciEdge_again (t := t.toNat) (p := p) hu hj (by rw [hsame.sync, hl])).1 (by rw [hsame.syncFine]; omega)
    obtain ⟨htaken, herr⟩ := synciAccept_predicted t.toNat ((elapsed p t.toNat : Int) - u.syncFine) u
    have h := hsame.taken htaken
    refine ⟨synciEdge t.toNat r (s.atTime t), rfl, ?_⟩
    rw [heq]
    exact ⟨h.tref, h.lastEdge, herr.trans (by rw [hsame.syncFine]), h.out⟩
  · have hsame := edgeSeen s t
    generalize hu : routerEvent 0xC0 (s.atTime t) = u at hsame
    have hj := edgeJudged (hsame.core.trans hc) ((hsame.gb _ (by decide)).trans hs) ((hsame.gb _ (by decide)).trans hp)
    have heq := (synciEdge_again (t := t.toNat) (p := p) hu hj (by rw [hsame.sync, hl])).2 (by rw [hsame.syncFine]; omega)
      ((hsame.gb _ (by decide)).trans hlost)
    obtain ⟨htref, hedge, hlock, hrej⟩ := synciReject_leaves u
    refine ⟨synciEdge t.toNat r (s.atTime t), rfl, ?_⟩
    rw [heq]
    exact ⟨htref.trans (by rw [hsame.sync]), hedge.trans (by rw [hsame.sync, hl]), hlock,
      hrej.trans (by rw [hsame.ctl _ (by decide)])⟩
  · refine ⟨syncReferenceTick s, rfl, ?_⟩
    rw [show syncReferenceTick s = setTref ((s.sync.tref + s.syncFine) % 2 ^ 52) s from if_pos hc]
    generalize (s.sync.tref + s.syncFine) % 2 ^ 52 = x
    exact ⟨setTref_tref x s, setTref_lastEdge x s, setTref_sup x s, setTref_synco x s⟩
  · exact ⟨syncHoldover s, rfl, syncHoldover_leaves hc hs hl hlost⟩
  · obtain ⟨v, htb, hu⟩ := capture_fresh fine hc hen hsrc hedge hv
    obtain ⟨hvalid, hlo, hhi, hf⟩ := stampWords_fresh c fine v
    refine ⟨capture src.toNat f fine.toNat s, rfl, ?_, ?_, ?_, ?_⟩
    · exact (congrArg (· != 0) (unit_hi hu rfl)).trans hvalid
    · exact (unit_lo hu).trans (hlo.trans (by rw [htb]))
    · exact (unit_hi hu rfl).trans (hhi.trans (by rw [htb]))
    · exact (unit_hi hu rfl).trans hf
  · have hu := capture_held src.toNat f fine.toNat hv hcont
    exact ⟨capture src.toNat f fine.toNat s, rfl, unit_lo hu, congrArg (fun x => x.2.2.1) hu⟩

end Sys2Proof.Machine
end

section
/-!
PROOFS. Reads that latch an upper half or clear a capture, and writes under each commit class (O57).
-/

open Sys2Proof Sys2Proof.Machine
namespace Sys2Proof.Machine

/-! ### The registers read and written, as the map gives them (R393-R396) -/

def RegSpec.tbCountLo : RegSpec := ⟨.tbCountLo, 0x010010, [], 0, [⟨0, 32, .ro, .fixed⟩]⟩
def RegSpec.tbSecmarkLo : RegSpec := ⟨.tbSecmarkLo, 0x010020, [], 0, [⟨0, 32, .ro, .fixed⟩]⟩
def RegSpec.ptEinLo : RegSpec := ⟨.ptEinLo, 0x0300A0, [], 0, [⟨0, 32, .ro, .fixed⟩]⟩
def RegSpec.ptErailLo : RegSpec := ⟨.ptErailLo, 0x0300C0, [(8, 0x8)], 0, [⟨0, 32, .ro, .fixed⟩]⟩
def RegSpec.capTshi : RegSpec := ⟨.capTshi, 0x010408, [(32, 0x10)], 0,
  [⟨31, 1, .rc, .live⟩, ⟨30, 1, .rc, .live⟩, ⟨29, 1, .ro, .fixed⟩, ⟨4, 16, .ro, .fixed⟩, ⟨0, 4, .ro, .fixed⟩]⟩
def RegSpec.hpmTx : RegSpec := ⟨.hpmTx, 0x170204, [(2, 0x4)], 0, [⟨0, 32, .rw, .live⟩]⟩
def RegSpec.phaseDuty : RegSpec := ⟨.phaseDuty, 0x080008, [(48, 0x100)], 0, [⟨0, 21, .rw, .group⟩]⟩
def RegSpec.phaseDt : RegSpec :=
  ⟨.phaseDt, 0x080010, [(48, 0x100)], 0x00800080, [⟨16, 10, .rw, .boundary⟩, ⟨0, 10, .rw, .boundary⟩]⟩
def RegSpec.railTonmax : RegSpec := ⟨.railTonmax, 0x0A0008, [(8, 0x400)], 0x0003E800, [⟨0, 18, .rw, .sample⟩]⟩

theorem locate_tbCountLo : locate A.TB_COUNT_LO = some ⟨.tbCountLo, 0, 0, 0⟩ := by decide +kernel
theorem locate_tbSecmarkLo : locate A.TB_SECMARK_LO = some ⟨.tbSecmarkLo, 0, 0, 0⟩ := by decide +kernel
theorem locate_ptEinLo : locate A.PT_EIN_LO = some ⟨.ptEinLo, 0, 0, 0⟩ := by decide +kernel
theorem locate_ptErailLo : ∀ k : Fin 8, locate (A.PT_ERAIL_LO k.val) = some ⟨.ptErailLo, k.val, 0, 0⟩ := by decide +kernel
theorem locate_capTshi : ∀ n : Fin 32, locate (A.CAP_TSHI n.val) = some ⟨.capTshi, n.val, 0, 0⟩ := by decide +kernel
theorem locate_hpmTx : locate (A.HPM_TX 0) = some ⟨.hpmTx, 0, 0, 0⟩ := by decide +kernel
theorem locate_phaseDuty : ∀ n : Fin 48, locate (A.PHASE_DUTY n.val) = some ⟨.phaseDuty, n.val, 0, 0⟩ := by decide +kernel
theorem locate_phaseDt : ∀ n : Fin 48, locate (A.PHASE_DT n.val) = some ⟨.phaseDt, n.val, 0, 0⟩ := by decide +kernel
theorem locate_railTonmax : ∀ k : Fin 8, locate (A.RAIL_TONMAX k.val) = some ⟨.railTonmax, k.val, 0, 0⟩ := by decide +kernel

/-! ### Reads (R112, R113, R319, R326, R398) -/

/-- A granted read answers what its master sees, beside what the read does. -/
theorem readAnswer_granted {m : Master} {a : Nat} {s : State} (h : judgeRead m a s = .ok) (ha : a ≠ A.HNV_DATA) :
    readAnswer .clean m a s = { dbgStatus m .ok (readEffect m a .clean s) with answer := s.view m a } := by
  have hw : s.readWord m a .clean = s.view m a := by
    unfold State.readWord
    rw [if_neg (by simp [ha]), if_neg (by simp)]
  unfold readAnswer regReadWith
  rw [h]
  dsimp only
  rw [hw]

/-- A value laid over a whole word is the word. -/
theorem setBits_full (x : Word) (v : Nat) : setBits x 0 32 v = BitVec.ofNat 32 v := by
  have hg : getBits x 0 32 = x.toNat := by
    unfold getBits
    have := x.isLt
    omega
  refine BitVec.eq_of_toNat_eq ?_
  unfold setBits
  rw [hg, BitVec.toNat_ofNat, BitVec.toNat_ofNat]
  omega

theorem dbgStatus_hi (m : Master) (v : Verdict) (s : State) : (dbgStatus m v s).hi = s.hi := by
  unfold dbgStatus
  split <;> rfl

theorem dbgStatus_regs (m : Master) (v : Verdict) (s : State) : (dbgStatus m v s).regs = s.regs := by
  unfold dbgStatus
  split <;> rfl

theorem dbgStatus_answer (m : Master) (v : Verdict) (s : State) : (dbgStatus m v s).answer = s.answer := by
  unfold dbgStatus
  split <;> rfl

/-- A read that latches an upper half: what it answers, and that master's latch. -/
theorem loRead_leaves {m : Master} {a : Nat} {s : State} {f : HiLatch → HiLatch} (h : judgeRead m a s = .ok)
    (ha : a ≠ A.HNV_DATA) (he : readEffect m a .clean s = s.modHi m f) :
    (readAnswer .clean m a s).answer = s.view m a
      ∧ vget (readAnswer .clean m a s).hi (Fin.ofNat 6 (masterCode m)) = f (vget s.hi (Fin.ofNat 6 (masterCode m)))
      ∧ (∀ i, i ≠ Fin.ofNat 6 (masterCode m) → vget (readAnswer .clean m a s).hi i = vget s.hi i)
      ∧ (readAnswer .clean m a s).regs = s.regs := by
  have hhi : (readAnswer .clean m a s).hi = (s.modHi m f).hi := by
    rw [readAnswer_granted h ha, he]
    exact dbgStatus_hi m .ok _
  have hregs : (readAnswer .clean m a s).regs = (s.modHi m f).regs := by
    rw [readAnswer_granted h ha, he]
    exact dbgStatus_regs m .ok _
  refine ⟨by rw [readAnswer_granted h ha], ?_, fun i hi => ?_, hregs⟩
  · rw [hhi]
    exact vget_vset_same _ _ _
  · rw [hhi]
    exact vget_vset_ne _ _ hi

theorem tbCountLo_view (m : Master) (s : State) : s.view m A.TB_COUNT_LO = s.tb.setWidth 32 := by
  have hv : s.view m A.TB_COUNT_LO = setBits (s.word A.TB_COUNT_LO) 0 32 (s.tb.toNat % 2 ^ 32) := by
    unfold State.view
    rw [locate_tbCountLo]
    rfl
  rw [hv, setBits_full]
  refine BitVec.eq_of_toNat_eq ?_
  simp

theorem tbSecmarkLo_view (m : Master) (s : State) : s.view m A.TB_SECMARK_LO = s.secMark.setWidth 32 := by
  have hv : s.view m A.TB_SECMARK_LO = setBits (s.word A.TB_SECMARK_LO) 0 32 (s.secMark.toNat % 2 ^ 32) := by
    unfold State.view
    rw [locate_tbSecmarkLo]
    rfl
  rw [hv, setBits_full]
  refine BitVec.eq_of_toNat_eq ?_
  simp

/-- An answer is a number modulo its word. -/
theorem ofNat_mod_word (n : Nat) : BitVec.ofNat 32 (n % 2 ^ 32) = BitVec.ofNat 32 n := by
  refine BitVec.eq_of_toNat_eq ?_
  simp

theorem ptEinLo_view (m : Master) (s : State) : s.view m A.PT_EIN_LO = BitVec.ofNat 32 s.einMj := by
  have hv : s.view m A.PT_EIN_LO = setBits (s.word A.PT_EIN_LO) 0 32 (s.einMj % 2 ^ 32) := by
    unfold State.view
    rw [locate_ptEinLo]
    rfl
  rw [hv, setBits_full, ofNat_mod_word]

theorem ptErailLo_view (m : Master) (k : Fin 8) (s : State) : s.view m (A.PT_ERAIL_LO k.val) = BitVec.ofNat 32 (s.erailMj k) := by
  have hk : Fin.ofNat 8 k.val = k := Fin.ofNat_val_eq_self k
  have hv : s.view m (A.PT_ERAIL_LO k.val)
      = setBits (s.word (A.PT_ERAIL_LO k.val)) 0 32 (s.erailMj (Fin.ofNat 8 k.val) % 2 ^ 32) := by
    unfold State.view
    rw [locate_ptErailLo]
    rfl
  rw [hv, setBits_full, ofNat_mod_word, hk]

/-- The upper half of a 48-bit count. -/
theorem upperHalf (x : BitVec 48) : BitVec.ofNat 16 (x.toNat / 2 ^ 32) = (x >>> 32).setWidth 16 := by
  refine BitVec.eq_of_toNat_eq ?_
  simp [Nat.shiftRight_eq_div_pow]

/-- What a read of a register of no phase and with no field that clears does: the latch of its upper half. -/
theorem tbCountLo_read (m : Master) (s : State) : readEffect m A.TB_COUNT_LO .clean s
    = s.modHi m fun h => { h with tb := BitVec.ofNat 16 (s.tb.toNat / 2 ^ 32) } := by
  unfold readEffect
  rw [locate_tbCountLo]
  rfl

theorem tbSecmarkLo_read (m : Master) (s : State) : readEffect m A.TB_SECMARK_LO .clean s
    = s.modHi m fun h => { h with mark := BitVec.ofNat 16 (s.secMark.toNat / 2 ^ 32) } := by
  unfold readEffect
  rw [locate_tbSecmarkLo]
  rfl

theorem ptEinLo_read (m : Master) (s : State) : readEffect m A.PT_EIN_LO .clean s
    = s.modHi m fun h => { h with ein := BitVec.ofNat 16 (s.einMj / 2 ^ 32) } := by
  unfold readEffect
  rw [locate_ptEinLo]
  rfl

theorem ptErailLo_read (m : Master) (k : Fin 8) (s : State) : readEffect m (A.PT_ERAIL_LO k.val) .clean s
    = s.modHi m fun h => { h with erail := vset h.erail k (BitVec.ofNat 16 (s.erailMj k / 2 ^ 32)) } := by
  have hk : Fin.ofNat 8 k.val = k := Fin.ofNat_val_eq_self k
  have he : readEffect m (A.PT_ERAIL_LO k.val) .clean s = s.modHi m fun h =>
      { h with erail := vset h.erail (Fin.ofNat 8 k.val) (BitVec.ofNat 16 (s.erailMj (Fin.ofNat 8 k.val) / 2 ^ 32)) } := by
    unfold readEffect
    rw [locate_ptErailLo]
    rfl
  rw [he, hk]

theorem capTshi_read (m : Master) (n : Fin 32) (s : State) : readEffect m (A.CAP_TSHI n.val) .clean s
    = (s.p (F.CAP_TSHI_VALID n.val) 0).p (F.CAP_TSHI_OVR n.val) 0 := by
  unfold readEffect
  rw [locate_capTshi]
  rfl

theorem dbgStatus_p (m : Master) (v : Verdict) (s : State) (f : Fld) (x : Nat) :
    dbgStatus m v (s.p f x) = (dbgStatus m v s).p f x := by
  unfold dbgStatus
  split <;> rfl

/-- A field written is a change of the registers alone. -/
theorem p_shape (s : State) (f : Fld) (v : Nat) : ∃ r, s.p f v = { s with regs := r } := ⟨_, rfl⟩

/-- A read of a capture's upper word clears VALID and OVR of that word alone. -/
theorem capTshiRead_leaves {m : Master} {n : Fin 32} {s : State} (h : judgeRead m (A.CAP_TSHI n.val) s = .ok) :
    let u := readAnswer .clean m (A.CAP_TSHI n.val) s
    u.answer = s.view m (A.CAP_TSHI n.val) ∧ u.gb (F.CAP_TSHI_VALID n.val) = false ∧ u.gb (F.CAP_TSHI_OVR n.val) = false
      ∧ u.g (F.CAP_TSHI_TSHI n.val) = s.g (F.CAP_TSHI_TSHI n.val)
      ∧ OnlyWords { u with answer := s.answer } (dbgStatus m .ok s) [A.CAP_TSHI n.val] := by
  intro u
  have hne : A.CAP_TSHI n.val ≠ A.HNV_DATA := by unfold A.CAP_TSHI A.HNV_DATA; omega
  have hu : u = { ((dbgStatus m .ok s).p (F.CAP_TSHI_VALID n.val) 0).p (F.CAP_TSHI_OVR n.val) 0
      with answer := s.view m (A.CAP_TSHI n.val) } := by
    rw [← dbgStatus_p, ← dbgStatus_p, ← capTshi_read m]
    exact readAnswer_granted h hne
  generalize ht : dbgStatus m .ok s = t at hu
  have htr : t.regs = s.regs := by rw [← ht, dbgStatus_regs]
  have hta : t.answer = s.answer := by rw [← ht, dbgStatus_answer]
  have hur : u.regs = ((t.p (F.CAP_TSHI_VALID n.val) 0).p (F.CAP_TSHI_OVR n.val) 0).regs := by rw [hu]
  have hovr : (30 : Nat) + 1 ≤ 32 := by decide
  have hvalid : (31 : Nat) + 1 ≤ 32 := by decide
  refine ⟨by rw [hu], ?_, ?_, ?_, ?_⟩
  · rw [gb_of_regs hur]
    refine (congrArg (· != 0) (State.g_p_apart _ _ _ _ hovr (.inr (show 30 + 1 ≤ 31 by decide)))).trans ?_
    exact congrArg (· != 0) (State.g_p t (F.CAP_TSHI_VALID n.val) 0 hvalid)
  · rw [gb_of_regs hur]
    exact congrArg (· != 0) (State.g_p _ (F.CAP_TSHI_OVR n.val) 0 hovr)
  · rw [g_of_regs hur]
    refine (State.g_p_apart _ _ _ _ hovr (.inl (show 4 + 16 ≤ 30 by decide))).trans
      ((State.g_p_apart _ _ _ _ hvalid (.inl (show 4 + 16 ≤ 31 by decide))).trans (g_of_regs htr _))
  · have hset : { u with answer := s.answer } = (t.p (F.CAP_TSHI_VALID n.val) 0).p (F.CAP_TSHI_OVR n.val) 0 := by
      obtain ⟨r, hr⟩ := p_shape t (F.CAP_TSHI_VALID n.val) 0
      obtain ⟨q, hq⟩ := p_shape { t with regs := r } (F.CAP_TSHI_OVR n.val) 0
      rw [hu, hr, hq, ← hta]
    rw [hset]
    exact ((onlyWords_refl t _).p _ 0 (List.mem_singleton.mpr rfl)).p _ 0 (List.mem_singleton.mpr rfl)

/-! ### Writes (R8, R80, R81, R96, R397) -/

/-- A granted write of a register outside the Loop Engine is its fields' parts and its effects, where it was accepted. -/
theorem completes_write {m : Master} {a : Nat} {v : Word} {b : Bool} {s : State} {x : Loc} {P : State → Prop}
    (hj : judge m a v s = .ok) (hx : locate a = some x) (ha : a < 2 ^ 24) (h4 : a % 4 = 0) (he : a / 65536 ≠ 0x10)
    (hp : P (effect1 m x v (accepted m a v s) (effect0 m x v (accepted m a v s) (putAll m x a v (accepted m a v s))))) :
    Completes (.registerWrite m (BitVec.ofNat 24 a) v b) s P := by
  have hw : wordAddr m (BitVec.ofNat 24 a) = a := by
    unfold wordAddr
    rw [BitVec.toNat_ofNat, Nat.mod_eq_of_lt ha]
    split
    · omega
    · rfl
  have hexec : execRegisterWrite m (BitVec.ofNat 24 a) v b s = write m a v s := by
    unfold execRegisterWrite
    rw [hw, if_neg (by simp [inEngine, he])]
  refine ⟨(regWrite m a v s).1, hexec, ?_⟩
  rw [regWrite_accepted hj hx]
  exact hp

theorem hpmTx_put (m : Master) (v : Word) (t : State) : effect1 m ⟨.hpmTx, 0, 0, 0⟩ v t (effect0 m ⟨.hpmTx, 0, 0, 0⟩ v t
    (putAll m ⟨.hpmTx, 0, 0, 0⟩ (A.HPM_TX 0) v t)) = t.p ⟨A.HPM_TX 0, 0, 32⟩ (getBits v 0 32) := rfl

/-- The staged value of PHASE[n].DUTY. -/
def stagedDuty (m : Master) (n : Fin 48) (v : Word) : Staged := ⟨1, n.val, A.PHASE_DUTY n.val, 0, 21, getBits v 0 21, m⟩

theorem phaseDuty_put (m : Master) (n : Fin 48) (v : Word) (t : State) : effect1 m ⟨.phaseDuty, n.val, 0, 0⟩ v t
    (effect0 m ⟨.phaseDuty, n.val, 0, 0⟩ v t (putAll m ⟨.phaseDuty, n.val, 0, 0⟩ (A.PHASE_DUTY n.val) v t))
    = if t.phRuns n then stageField (stagedDuty m n v) t
      else if t.img.staging.any (fun z => z.addr == A.PHASE_DUTY n.val && z.lo == 0) then
        stageField (stagedDuty m n v) (t.p (F.PHASE_DUTY_DUTY n.val) (getBits v 0 21))
      else t.p (F.PHASE_DUTY_DUTY n.val) (getBits v 0 21) := by
  have hn : Fin.ofNat 48 n.val = n := Fin.ofNat_val_eq_self n
  have hmem : t.memberOf ⟨.phaseDuty, n.val, 0, 0⟩ v = some (1, n.val) := rfl
  have hcom : (⟨.phaseDuty, n.val, 0, 0⟩ : Loc).com .group = [⟨0, 21, .rw, .group⟩] := rfl
  have hruns : (t.groupRuns 1 n.val || RegSpec.phaseDuty.id == .phaseAssign) = t.phRuns n := by
    show (t.phRuns (Fin.ofNat 48 n.val) || false) = _
    rw [hn, Bool.or_false]
  show putGroup m ⟨.phaseDuty, n.val, 0, 0⟩ (A.PHASE_DUTY n.val) v t = _
  unfold putGroup
  rw [hmem]
  dsimp only
  rw [hruns, hcom, List.foldl_cons, List.foldl_nil]
  rcases t.phRuns n with _ | _ <;> rfl

theorem railTonmax_put (m : Master) (k : Fin 8) (v : Word) (t : State) : effect1 m ⟨.railTonmax, k.val, 0, 0⟩ v t
    (effect0 m ⟨.railTonmax, k.val, 0, 0⟩ v t (putAll m ⟨.railTonmax, k.val, 0, 0⟩ (A.RAIL_TONMAX k.val) v t))
    = if t.enabled k then t.modRa k fun r => { r with sample := r.sample ++ [(t.clock, A.RAIL_TONMAX k.val, v)] }
      else t.p (F.RAIL_TONMAX_TONMAX k.val) (getBits v 0 18) := by
  have hwin : railWindow (A.RAIL_TONMAX k.val) = some k.val := by
    revert k
    decide +kernel
  have hrail : sampleRail ⟨.railTonmax, k.val, 0, 0⟩ (A.RAIL_TONMAX k.val) = k := by
    show Fin.ofNat 8 ((railWindow (A.RAIL_TONMAX k.val)).getD 0) = k
    rw [hwin]
    exact Fin.ofNat_val_eq_self k
  have hput : RegSpec.railTonmax.fields.foldl (putField ⟨.railTonmax, k.val, 0, 0⟩ (A.RAIL_TONMAX k.val) v) t
      = if t.enabled k then t else t.p (F.RAIL_TONMAX_TONMAX k.val) (getBits v 0 18) := by
    show (if t.enabled (sampleRail ⟨.railTonmax, k.val, 0, 0⟩ (A.RAIL_TONMAX k.val)) then t else _) = _
    rw [hrail]
    rfl
  have hwait : ∀ u : State, waitWrites ⟨.railTonmax, k.val, 0, 0⟩ (A.RAIL_TONMAX k.val) v u = if u.enabled k then
      u.modRa k fun r => { r with sample := r.sample ++ [(u.clock, A.RAIL_TONMAX k.val, v)] } else u := by
    intro u
    show (if true && u.enabled (sampleRail ⟨.railTonmax, k.val, 0, 0⟩ (A.RAIL_TONMAX k.val)) then
      u.modRa (sampleRail ⟨.railTonmax, k.val, 0, 0⟩ (A.RAIL_TONMAX k.val)) _ else u) = _
    rw [hrail, Bool.true_and]
  show waitWrites ⟨.railTonmax, k.val, 0, 0⟩ (A.RAIL_TONMAX k.val) v (RegSpec.railTonmax.fields.foldl
    (putField ⟨.railTonmax, k.val, 0, 0⟩ (A.RAIL_TONMAX k.val) v) t) = _
  rw [hput, hwait]
  rcases hr : t.enabled k with _ | _
  · have hr' : (t.p (F.RAIL_TONMAX_TONMAX k.val) (getBits v 0 18)).enabled k = false := hr
    simp only [Bool.false_eq_true, if_false, hr']
  · rw [if_pos rfl, if_pos hr, if_pos rfl]

/-- A BOUNDARY write of PHASE[n].DT beside the fields. -/
def waitDt (n : Fin 48) (v : Word) (s : State) : State := s.modPh n fun p =>
  { p with boundary := (if s.phRuns n then p.boundary ++ [(A.PHASE_DT n.val, v)]
      else p.boundary.filter fun y => y.1 != A.PHASE_DT n.val) }

theorem phRuns_p (n : Fin 48) (s : State) (f : Fld) (v : Nat) (h : A.PHASE_ASSIGN n.val ≠ f.addr) :
    (s.p f v).phRuns n = s.phRuns n :=
  phRuns_congr n (State.p_role s f v) (State.p_phase s f v) (State.p_rail s f v) (State.word_p_ne s f v _ h)

theorem phaseDt_put (m : Master) (n : Fin 48) (v : Word) (t : State) : effect1 m ⟨.phaseDt, n.val, 0, 0⟩ v t
    (effect0 m ⟨.phaseDt, n.val, 0, 0⟩ v t (putAll m ⟨.phaseDt, n.val, 0, 0⟩ (A.PHASE_DT n.val) v t))
    = waitDt n v (if t.phRuns n then t
      else (t.p (F.PHASE_DT_DTHL n.val) (getBits v 16 10)).p (F.PHASE_DT_DTLH n.val) (getBits v 0 10)) := by
  have hn : Fin.ofNat 48 n.val = n := Fin.ofNat_val_eq_self n
  have hne : A.PHASE_ASSIGN n.val ≠ A.PHASE_DT n.val := by unfold A.PHASE_ASSIGN A.PHASE_DT; omega
  have hput : RegSpec.phaseDt.fields.foldl (putField ⟨.phaseDt, n.val, 0, 0⟩ (A.PHASE_DT n.val) v) t = if t.phRuns n then t
      else (t.p (F.PHASE_DT_DTHL n.val) (getBits v 16 10)).p (F.PHASE_DT_DTLH n.val) (getBits v 0 10) := by
    have hone : ∀ (u : State) (lo w : Nat), putField ⟨.phaseDt, n.val, 0, 0⟩ (A.PHASE_DT n.val) v u ⟨lo, w, .rw, .boundary⟩
        = if u.phRuns n then u else u.p ⟨A.PHASE_DT n.val, lo, w⟩ (getBits v lo w) := by
      intro u lo w
      show (if u.phRuns (Fin.ofNat 48 n.val) then u else _) = _
      rw [hn]
    show putField _ _ v (putField _ _ v t ⟨16, 10, .rw, .boundary⟩) ⟨0, 10, .rw, .boundary⟩ = _
    rw [hone, hone]
    rcases hr : t.phRuns n with _ | _
    · have hr' : (t.p ⟨A.PHASE_DT n.val, 16, 10⟩ (getBits v 16 10)).phRuns n = false := (phRuns_p n t _ _ hne).trans hr
      simp only [Bool.false_eq_true, if_false, hr']
      rfl
    · rw [if_pos rfl, if_pos hr, if_pos rfl]
  have hwait : ∀ u : State, waitWrites ⟨.phaseDt, n.val, 0, 0⟩ (A.PHASE_DT n.val) v u = waitDt n v u := by
    intro u
    show u.modPh (Fin.ofNat 48 n.val) (fun p => { p with boundary := (if u.phRuns (Fin.ofNat 48 n.val) then
        p.boundary ++ [(A.PHASE_DT n.val, v)] else p.boundary.filter fun y => y.1 != A.PHASE_DT n.val) }) = _
    rw [hn]
    rfl
  show waitWrites ⟨.phaseDt, n.val, 0, 0⟩ (A.PHASE_DT n.val) v (RegSpec.phaseDt.fields.foldl
    (putField ⟨.phaseDt, n.val, 0, 0⟩ (A.PHASE_DT n.val) v) t) = _
  rw [hput, hwait]

/-- A BOUNDARY write to a stopped phase leaves no older write of the register waiting (log entry 92). -/
theorem waitDt_boundary (n : Fin 48) (v : Word) (s : State) (h : s.phRuns n = false) :
    ∀ y ∈ ((waitDt n v s).ph n).boundary, y.1 ≠ A.PHASE_DT n.val := by
  intro y hy
  have hb : ((waitDt n v s).ph n).boundary = (s.ph n).boundary.filter fun y => y.1 != A.PHASE_DT n.val := by
    unfold waitDt
    rw [h, State.modPh_same]
    rfl
  rw [hb, List.mem_filter, bne_iff_ne] at hy
  exact hy.2

theorem waitDt_phase (n : Fin 48) (v : Word) (s : State) : { waitDt n v s with phase := s.phase } = s := rfl

theorem waitDt_g (n : Fin 48) (v : Word) (s : State) (f : Fld) : (waitDt n v s).g f = s.g f := rfl

/-- A field takes the value written. -/
theorem g_p_getBits (s : State) (f : Fld) (x : Word) (lo w : Nat) (hw : f.w = w) (h : f.lo + f.w ≤ 32) :
    (s.p f (getBits x lo w)).g f = getBits x lo w := by
  rw [State.g_p s f _ h, hw]
  exact Nat.mod_eq_of_lt (getBits_lt x lo w)

/-- Settles O57: each read by its latch, each write by what its register's fields take. -/
theorem readsLatchUpperHalves : Obligations.ReadsLatchUpperHalves := by
  unfold Obligations.ReadsLatchUpperHalves
  refine ⟨fun s m h => ?_, fun s m h => ?_, fun s m h => ?_, fun s m k h => ?_, fun s m n h => ?_, fun s m v b h => ?_,
    fun s m n v b h hr => ?_, fun s m n v b h hr hst => ?_, fun s m k v b h hr => ?_, fun s m k v b h hr => ?_,
    fun s m n v b h hr => ?_, fun s m n v b h hr => ?_⟩
  · obtain ⟨ha, hi, ho, hr⟩ := loRead_leaves h (by decide) (tbCountLo_read m s)
    exact ⟨readAnswer .clean m A.TB_COUNT_LO s, rfl, ha.trans (tbCountLo_view m s),
      (congrArg (fun x : HiLatch => x.tb) hi).trans (upperHalf s.tb), ho, hr⟩
  · obtain ⟨ha, hi, ho, hr⟩ := loRead_leaves h (by decide) (tbSecmarkLo_read m s)
    exact ⟨readAnswer .clean m A.TB_SECMARK_LO s, rfl, ha.trans (tbSecmarkLo_view m s),
      (congrArg (fun x : HiLatch => x.mark) hi).trans (upperHalf s.secMark), ho, hr⟩
  · obtain ⟨ha, hi, -, hr⟩ := loRead_leaves h (by decide) (ptEinLo_read m s)
    exact ⟨readAnswer .clean m A.PT_EIN_LO s, rfl, ha.trans (ptEinLo_view m s), congrArg (fun x : HiLatch => x.ein) hi, hr⟩
  · have hne : A.PT_ERAIL_LO k.val ≠ A.HNV_DATA := by unfold A.PT_ERAIL_LO A.HNV_DATA; omega
    obtain ⟨ha, hi, -, hr⟩ := loRead_leaves h hne (ptErailLo_read m k s)
    exact ⟨readAnswer .clean m (A.PT_ERAIL_LO k.val) s, rfl, ha.trans (ptErailLo_view m k s),
      (congrArg (fun x : HiLatch => vget x.erail k) hi).trans (vget_vset_same _ _ _), hr⟩
  · exact ⟨readAnswer .clean m (A.CAP_TSHI n.val) s, rfl, capTshiRead_leaves h⟩
  · refine completes_write h locate_hpmTx (by decide) (by decide) (by decide) ?_
    rw [hpmTx_put]
    refine ⟨?_, (onlyWords_refl _ _).p _ _ (List.mem_singleton.mpr rfl)⟩
    rw [State.word_p, if_pos rfl, setBits_full]
    refine BitVec.eq_of_toNat_eq ?_
    simpa [getBits] using Nat.mod_eq_of_lt v.isLt
  · have ha : A.PHASE_DUTY n.val = 0x080008 + n.val * 0x100 := rfl
    refine completes_write h (locate_phaseDuty n) (by omega) (by omega) (by omega) ?_
    rw [phaseDuty_put, accepted_phRuns, if_pos hr]
    unfold stageField
    rw [accepted_img]
    rfl
  · have ha : A.PHASE_DUTY n.val = 0x080008 + n.val * 0x100 := rfl
    refine completes_write h (locate_phaseDuty n) (by omega) (by omega) (by omega) ?_
    have hany : (accepted m (A.PHASE_DUTY n.val) v s).img.staging.any
        (fun z => z.addr == A.PHASE_DUTY n.val && z.lo == 0) = false := by
      rw [accepted_img]
      simp only [List.any_eq_false, Bool.and_eq_true, beq_iff_eq, not_and]
      exact fun z hz he => absurd he (hst z hz)
    rw [phaseDuty_put, accepted_phRuns, if_neg (by rw [hr]; simp), if_neg (by rw [hany]; simp)]
    exact ⟨g_p_getBits _ (F.PHASE_DUTY_DUTY n.val) v 0 21 rfl (show 0 + 21 ≤ 32 by decide),
      (onlyWords_refl _ _).p _ _ (List.mem_singleton.mpr rfl)⟩
  · have ha : A.RAIL_TONMAX k.val = 0x0A0008 + k.val * 0x400 := rfl
    refine completes_write h (locate_railTonmax k) (by omega) (by omega) (by omega) ?_
    have he : (accepted m (A.RAIL_TONMAX k.val) v s).enabled k = true := by
      unfold State.enabled State.st State.ra
      rw [accepted_rail]
      exact hr
    rw [railTonmax_put, if_pos he, accepted_clock]
  · have ha : A.RAIL_TONMAX k.val = 0x0A0008 + k.val * 0x400 := rfl
    refine completes_write h (locate_railTonmax k) (by omega) (by omega) (by omega) ?_
    have he : (accepted m (A.RAIL_TONMAX k.val) v s).enabled k = false := by
      unfold State.enabled State.st State.ra
      rw [accepted_rail]
      exact hr
    rw [railTonmax_put, if_neg (by simp [he])]
    exact ⟨g_p_getBits _ (F.RAIL_TONMAX_TONMAX k.val) v 0 18 rfl (show 0 + 18 ≤ 32 by decide),
      (onlyWords_refl _ _).p _ _ (List.mem_singleton.mpr rfl)⟩
  · have ha : A.PHASE_DT n.val = 0x080010 + n.val * 0x100 := rfl
    refine completes_write h (locate_phaseDt n) (by omega) (by omega) (by omega) ?_
    have hra : (accepted m (A.PHASE_DT n.val) v s).phRuns n = true := (accepted_phRuns m s _ _ _).trans hr
    rw [phaseDt_put, if_pos hra]
    unfold waitDt
    rw [hra]
    rfl
  · have ha : A.PHASE_DT n.val = 0x080010 + n.val * 0x100 := rfl
    refine completes_write h (locate_phaseDt n) (by omega) (by omega) (by omega) ?_
    have hra : (accepted m (A.PHASE_DT n.val) v s).phRuns n = false := (accepted_phRuns m s _ _ _).trans hr
    have hne : A.PHASE_ASSIGN n.val ≠ A.PHASE_DT n.val := by unfold A.PHASE_ASSIGN A.PHASE_DT; omega
    rw [phaseDt_put, if_neg (by rw [hra]; simp)]
    refine ⟨?_, ?_, waitDt_boundary n v _ ((phRuns_p n _ _ _ hne).trans ((phRuns_p n _ _ _ hne).trans hra)), ?_⟩
    · have hap : (F.PHASE_DT_DTHL n.val).Apart (F.PHASE_DT_DTLH n.val) := .inr (.inr (show 0 + 10 ≤ 16 by decide))
      rw [waitDt_g, g_p_of_apart _ _ (show 0 + 10 ≤ 32 by decide) hap]
      exact g_p_getBits _ (F.PHASE_DT_DTHL n.val) v 16 10 rfl (show 16 + 10 ≤ 32 by decide)
    · rw [waitDt_g]
      exact g_p_getBits _ (F.PHASE_DT_DTLH n.val) v 0 10 rfl (show 0 + 10 ≤ 32 by decide)
    · rw [show s.phase = (((accepted m (A.PHASE_DT n.val) v s).p (F.PHASE_DT_DTHL n.val) (getBits v 16 10)).p
        (F.PHASE_DT_DTLH n.val) (getBits v 0 10)).phase from (accepted_phase m _ v s).symm, waitDt_phase]
      exact ((onlyWords_refl _ _).p _ _ (List.mem_singleton.mpr rfl)).p _ _ (List.mem_singleton.mpr rfl)

end Sys2Proof.Machine
end

section
/-!
PROOFS. The refutations of O17 and O20. In the model a retired spare comparator of the routed trip line hands the route on to
the number it keeps in `chk.served`, which `State` lets be any number (R272, R273). At 6038h the comparator's CTL would be
EV_PEND, so that ROUTELAT is the sticky bit 12 of the router: a command that sets that bit then moves a trip source
of a phase in its own midst. Both statements quantify over every state, this one too.
-/

open Sys2Proof Sys2Proof.Machine

namespace Sys2Proof.Machine

/-- Of a command that completes, the phases of the state its effect leaves are those of the state it settles. -/
theorem completes_phase {c : Instr} {s v : State} {P : State → Prop} (hv : exec c s = done v) (h : Completes c s P) :
    ∃ u, P u ∧ u.phase = v.phase := by
  obtain ⟨u, hu, hP⟩ := h
  rw [hv] at hu
  injection hu with hf
  exact ⟨u, hP, by rw [← finish_phase u, ← hf, finish_phase]⟩

theorem ph_of_phase {u v : State} (h : u.phase = v.phase) (n : Fin 48) : u.ph n = v.ph n := by
  unfold State.ph
  rw [h]

/-- RUN with phase 0 under test and every group awake; the routed trip line of phase 0, its one latch source, follows the retired
spare comparator 120, whose last function is recorded as 6038h. -/
def oddRoute : State :=
  let s := { State.reset with
    dev := .run
    sup := { Supplies.reset with groupAwake := .replicate 6 true }
    chk := { State.reset.chk with served := vset State.reset.chk.served 0 (some 0x6038) } }
  let s1 := ((s.modRl 0 fun r => { r with role := .test }).pb (F.EV_RTR_EN 0) true).p (F.EV_RTR_SRC 0) 120
  (s1.pb (F.CMP_STATUS_RETIRED 120) true).p (F.PHASE_TRIPCFG_LATCH 0) 0x80

/-! ### O17: the boundary's own latch event quiets the latch source -/

/-- There OUT is 1 and LATCHED 0, so the latch source is active until the latch event of phase 0 sets sticky bit 12; the phase is
under SHLOCK, clears its latch by itself, and has a PERIOD and a DUTY. PHLATCH has class 0. -/
def quietedByLatch : State :=
  let s := (oddRoute.setWord (A.CMP_STATUS 0x6038) 0x8002).p (F.FM_CLASS_CLS6 0) 0
  let s1 := ((s.p (F.EV_PHSEL_KIND 0) 4).p (F.EV_INT_SRC 12) 0x80).p (F.PHASE_PERIOD_PERIOD 0) 1000
  ((s1.p (F.PHASE_DUTY_DUTY 0) 8000).pb (F.PHASE_CTL_SHLOCK 0) true).pb (F.PHASE_CTL_AUTOCLR 0) true

/-- The conditions of the fourth clause of O17. -/
theorem quietedByLatch_meets : quietedByLatch.phRuns 0 = true ∧ quietedByLatch.mode 0 = 2
    ∧ (quietedByLatch.atTime 0).boundaryFalls 0 = true ∧ quietedByLatch.latched (0 : Fin 48).val = false
    ∧ quietedByLatch.gb (F.PHASE_CTL_SHLOCK (0 : Fin 48).val) = true ∧ (quietedByLatch.ph 0).shCount < 62
    ∧ quietedByLatch.latchTrips 0 ≠ 0 ∧ bitAt (quietedByLatch.latchTrips 0) 0 = false
    ∧ quietedByLatch.classOf 6 (limRail quietedByLatch 0 <|> quietedByLatch.railOf (0 : Fin 48).val) ≤ 1 := by
  decide +kernel

/-- The boundary latches the phase, finds every latch source inactive, clears the latch and starts the pulse. -/
theorem quietedByLatch_pulses : ((periodBoundary 0 (quietedByLatch.atTime 0)).ph 0).out = .high := by
  decide +kernel

/-- Refutes O17: its fourth clause has an active latch source latch the phase at the boundary and the output at its off level
after it. In this state the latch event itself quiets the source, auto-clear clears the latch in the same boundary (R99 step 3,
R104), and the pulse starts. It rests on a recorded number that no retirement leaves: those lie below 120. -/
theorem not_boundariesStartPulses : ¬ Obligations.BoundariesStartPulses := by
  unfold Obligations.BoundariesStartPulses
  rintro ⟨-, -, -, hlatches, -⟩
  obtain ⟨hruns, hmode, hfalls, hlat, hlock, hcount, htrips, hoc, hcls⟩ := quietedByLatch_meets
  have hc := hlatches quietedByLatch 0 0 hruns hmode hfalls hlat hlock hcount htrips hoc hcls
  obtain ⟨u, ⟨-, hoff⟩, hphase⟩ := completes_phase (v := periodBoundary 0 (quietedByLatch.atTime 0)) rfl hc
  rw [ph_of_phase hphase, quietedByLatch_pulses] at hoff
  cases hoff

/-! ### O20: the write that carries the clear wakes the latch source -/

/-- There OUT is 0 and LATCHED 1, so the latch source is inactive until the passage of a write through Q10, event BAh, sets sticky
bit 12; phase 0 is latched. -/
def wokenByWrite : State :=
  let s := (oddRoute.setWord (A.CMP_STATUS 0x6038) 0x8004).p (F.EV_INT_SRC 12) 0xBA
  s.pb (F.PHASE_STATUS_LATCHED 0) true

/-- The clear written by SUP. -/
def supClears : State × Verdict :=
  regWrite .sup (A.PHASE_STATUS 0) (BitVec.ofNat 32 (2 ^ (F.PHASE_STATUS_LATCHED 0).lo)) wokenByWrite

/-- The conditions of the first clause of O20, with every latch source inactive and the phase running. -/
theorem wokenByWrite_meets : judge .sup (A.PHASE_STATUS (0 : Fin 48).val)
      (BitVec.ofNat 32 (2 ^ (F.PHASE_STATUS_LATCHED (0 : Fin 48).val).lo)) wokenByWrite = .ok
    ∧ wokenByWrite.latched (0 : Fin 48).val = true ∧ wokenByWrite.latchActive 0 = false ∧ wokenByWrite.phRuns 0 = true := by
  decide +kernel

/-- The write finds the latch source active, and no clear waits for the boundary. -/
theorem supClears_refused : (supClears.1.ph 0).clearPend = false := by
  decide +kernel

/-- Refutes O20: its first clause asks for an active latch source in the state before the write, while the write acts in the state
that its passage through Q10 leaves (R371, R374). In this state that event wakes the source, and the clear is
refused. It rests on a recorded number that no retirement leaves, as O17's. -/
theorem not_latchesClearWhenInactive : ¬ Obligations.LatchesClearWhenInactive := by
  unfold Obligations.LatchesClearWhenInactive
  rintro ⟨hclear, -⟩
  obtain ⟨hok, hlat, hquiet, hruns⟩ := wokenByWrite_meets
  obtain ⟨u, hu, hphase⟩ := completes_phase (v := supClears.1) rfl (hclear wokenByWrite .sup 0 hok hlat)
  rw [if_neg (by rw [hquiet]; simp), if_pos hruns] at hu
  have hpend := hu.1
  rw [ph_of_phase hphase, supClears_refused] at hpend
  cases hpend

end Sys2Proof.Machine
end

section
/-!
SUPPORT. The modulator's state of a rail: what a change of it, the instant of a command, onset mode and a freeze of the lock leave
alone (R127, R130).
-/

open Sys2Proof Sys2Proof.Machine
namespace Sys2Proof.Machine

/-! ### A change of the modulator's state -/

section
variable (s : State) (k : Fin 8) (f : ModState → ModState)

@[simp] theorem modMd_md : ((s.modMd k f).ra k).md = f (s.ra k).md :=
  congrArg RailState.md (State.modRa_same s k _)

theorem modMd_ra_ne {j : Fin 8} (h : j ≠ k) : (s.modMd k f).ra j = s.ra j := State.modRa_ne s k j _ h

/-- What a rail holds beside the modulator's state. -/
theorem modMd_beside {β : Type} (F : RailState → β) (hF : ∀ r m, F { r with md := m } = F r) (j : Fin 8) :
    F ((s.modMd k f).ra j) = F (s.ra j) := by
  by_cases h : j = k
  · rw [h]
    exact (congrArg F (State.modRa_same s k _)).trans (hF _ _)
  · rw [modMd_ra_ne s k f h]

@[simp] theorem modMd_ink (j : Fin 8) : ((s.modMd k f).ra j).ink = (s.ra j).ink := modMd_beside s k f (·.ink) (fun _ _ => rfl) j

@[simp] theorem modMd_enabled (j : Fin 8) : (s.modMd k f).enabled j = s.enabled j :=
  modMd_beside s k f (fun r => r.tr.st.enabled) (fun _ _ => rfl) j

@[simp] theorem modMd_gb (e : Fld) : (s.modMd k f).gb e = s.gb e := rfl
@[simp] theorem modMd_onset (j : Fin 8) : (s.modMd k f).onset j = s.onset j := rfl
@[simp] theorem modMd_effMode (j : Fin 8) : (s.modMd k f).effMode j = s.effMode j := rfl
@[simp] theorem modMd_rl (n : Fin 48) : (s.modMd k f).rl n = s.rl n := rfl
@[simp] theorem modMd_ring (j : Fin 8) : (s.modMd k f).ring j = s.ring j := rfl
@[simp] theorem modMd_ovlLimit (j : Fin 8) : (s.modMd k f).ovlLimit j = s.ovlLimit j := rfl

@[simp] theorem modMd_phRuns (n : Fin 48) : (s.modMd k f).phRuns n = s.phRuns n := by
  unfold State.phRuns State.belongs
  simp only [modMd_enabled]
  rfl

@[simp] theorem modMd_eligible (b : Bool) (n : Fin 48) : (s.modMd k f).eligible b n = s.eligible b n := by
  unfold State.eligible State.mode
  rw [modMd_phRuns]
  rfl

end

/-! ### Register writes and the instant of a command -/

@[simp] theorem ra_pb (s : State) (f : Fld) (b : Bool) (k : Fin 8) : (s.pb f b).ra k = s.ra k := rfl
@[simp] theorem ra_pi (s : State) (f : Fld) (i : Int) (k : Fin 8) : (s.pi f i).ra k = s.ra k := rfl
@[simp] theorem ra_inc (s : State) (f : Fld) (k : Fin 8) : (s.inc f).ra k = s.ra k := rfl
@[simp] theorem ra_incBy (s : State) (f : Fld) (n : Nat) (k : Fin 8) : (s.incBy f n).ra k = s.ra k := rfl

theorem g_pb_of_apart {e f : Fld} (s : State) (b : Bool) (hf : f.lo + f.w ≤ 32) (h : e.Apart f) : (s.pb f b).g e = s.g e :=
  g_p_of_apart s _ hf h

@[simp] theorem atTime_g (s : State) (t : Time) (f : Fld) : (s.atTime t).g f = s.g f := atTime_eq (·.g f) (fun _ _ _ => rfl) s t
@[simp] theorem atTime_regs (s : State) (t : Time) : (s.atTime t).regs = s.regs := atTime_eq (·.regs) (fun _ _ _ => rfl) s t
@[simp] theorem atTime_phase (s : State) (t : Time) : (s.atTime t).phase = s.phase :=
  atTime_eq (·.phase) (fun _ _ _ => rfl) s t
@[simp] theorem atTime_queue (s : State) (t : Time) : (s.atTime t).queue = s.queue :=
  atTime_eq (·.queue) (fun _ _ _ => rfl) s t
@[simp] theorem atTime_img (s : State) (t : Time) : (s.atTime t).img = s.img := atTime_eq (·.img) (fun _ _ _ => rfl) s t
@[simp] theorem atTime_sync (s : State) (t : Time) : (s.atTime t).sync = s.sync := atTime_eq (·.sync) (fun _ _ _ => rfl) s t
@[simp] theorem atTime_enabled (s : State) (t : Time) (k : Fin 8) : (s.atTime t).enabled k = s.enabled k :=
  atTime_eq (·.enabled k) (fun _ _ _ => rfl) s t
@[simp] theorem atTime_effMode (s : State) (t : Time) (k : Fin 8) : (s.atTime t).effMode k = s.effMode k :=
  atTime_eq (·.effMode k) (fun _ _ _ => rfl) s t
@[simp] theorem atTime_onset (s : State) (t : Time) (k : Fin 8) : (s.atTime t).onset k = s.onset k :=
  atTime_eq (·.onset k) (fun _ _ _ => rfl) s t
@[simp] theorem atTime_launches (s : State) (t : Time) (k : Fin 8) : (s.atTime t).launches k = s.launches k :=
  atTime_eq (·.launches k) (fun _ _ _ => rfl) s t
@[simp] theorem atTime_windowOpen (s : State) (t : Time) (k : Fin 8) : (s.atTime t).windowOpen k = s.windowOpen k :=
  atTime_eq (·.windowOpen k) (fun _ _ _ => rfl) s t
@[simp] theorem atTime_ring (s : State) (t : Time) (k : Fin 8) : (s.atTime t).ring k = s.ring k :=
  atTime_eq (·.ring k) (fun _ _ _ => rfl) s t
@[simp] theorem atTime_ringTail (s : State) (t : Time) (k : Fin 8) : (s.atTime t).ringTail k = s.ringTail k :=
  atTime_eq (·.ringTail k) (fun _ _ _ => rfl) s t
@[simp] theorem atTime_ovl (s : State) (t : Time) (k : Fin 8) : (s.atTime t).ovl k = s.ovl k :=
  atTime_eq (·.ovl k) (fun _ _ _ => rfl) s t
@[simp] theorem atTime_ovlLimit (s : State) (t : Time) (k : Fin 8) : (s.atTime t).ovlLimit k = s.ovlLimit k :=
  atTime_eq (·.ovlLimit k) (fun _ _ _ => rfl) s t
@[simp] theorem atTime_awake (s : State) (t : Time) (g : Nat) : (s.atTime t).awake g = s.awake g :=
  atTime_eq (·.awake g) (fun _ _ _ => rfl) s t
/-- Outside onset mode no instant decides whether a phase is eligible. -/
@[simp] theorem atTime_eligible (s : State) (t : Time) (n : Fin 48) : (s.atTime t).eligible false n = s.eligible false n := by
  unfold State.eligible
  simp

/-! ### Onset mode and the freeze of the lock (R127, R130) -/

/-- The modulator's state without what onset mode and a freeze of the lock change. -/
def ModState.unfrozen (m : ModState) : ModState := { m with deExit := false, lockGood := 0 }

/-- A projection that sees nothing of what onset mode and a freeze of rail k's lock change. -/
structure OnsetFrame {β : Type} (k : Fin 8) (π : State → β) : Prop where
  setWord : ∀ s a w, π (State.setWord s a w) = π s
  modMd : ∀ s f, (∀ m, ModState.unfrozen (f m) = m.unfrozen) → π (State.modMd s k f) = π s

theorem onsetFrame_unfrozen (k : Fin 8) : OnsetFrame k fun s => (s.ra k).md.unfrozen :=
  ⟨fun _ _ _ => rfl, fun s f hf => by rw [modMd_md, hf]⟩

theorem onsetFrame_ink (k : Fin 8) : OnsetFrame k fun s => (s.ra k).ink := ⟨fun _ _ _ => rfl, fun s f _ => modMd_ink s k f k⟩

theorem onsetFrame_phase (k : Fin 8) : OnsetFrame k (·.phase) := ⟨fun _ _ _ => rfl, fun _ _ _ => rfl⟩

theorem onsetFrame_queue (k : Fin 8) : OnsetFrame k (·.queue) := ⟨fun _ _ _ => rfl, fun _ _ _ => rfl⟩

section
variable {β : Type} {π : State → β} {k : Fin 8} (h : OnsetFrame k π)
include h

theorem OnsetFrame.settleLock_eq (s : State) : π (settleLock k s) = π s := by
  unfold settleLock
  split
  · exact (h.modMd _ _ fun _ => by rfl).trans ((h.setWord _ _ _).trans (h.setWord s _ _))
  · exact h.setWord s _ _

theorem OnsetFrame.enterOnset_eq (s : State) : π (enterOnset k s) = π s := by
  unfold enterOnset
  split
  · exact (h.settleLock_eq _).trans ((h.modMd _ _ fun _ => by rfl).trans ((h.setWord _ _ _).trans (h.setWord s _ _)))
  · rfl

end

/-- A component of the modulator's state that neither onset mode nor a freeze of the lock changes. -/
theorem onsetFrame_md {β : Type} (k : Fin 8) (F : ModState → β) (hF : ∀ m : ModState, F m.unfrozen = F m) :
    OnsetFrame k fun s => F (s.ra k).md :=
  ⟨fun _ _ _ => rfl, fun s f hf => by rw [← hF, (onsetFrame_unfrozen k).modMd s f hf, hF]⟩

/-- The lock settles in FLOCK and LOCKFRZ. -/
theorem settleLock_g (k : Fin 8) (s : State) (e : Fld) (h1 : e.Apart (F.RAIL_MSTAT_FLOCK k.val))
    (h2 : e.Apart (F.RAIL_MSTAT_LOCKFRZ k.val)) : (settleLock k s).g e = s.g e := by
  unfold settleLock
  split
  · rw [State.modMd_g, g_pb_of_apart _ _ (show 5 + 1 ≤ 32 by decide) h2, g_pb_of_apart _ _ (show 6 + 1 ≤ 32 by decide) h1]
  · exact g_pb_of_apart s _ (show 5 + 1 ≤ 32 by decide) h2

theorem settleLock_onset (k : Fin 8) (s : State) : (settleLock k s).onset k = s.onset k :=
  congrArg (· != 0) (settleLock_g k s (F.RAIL_MSTAT_ONSET k.val) (.inr (.inl (show 4 + 1 ≤ 6 by decide)))
    (.inr (.inl (show 4 + 1 ≤ 5 by decide))))

theorem leaveOnset_onset (k : Fin 8) (s : State) : (leaveOnset k s).onset k = false :=
  (settleLock_onset k _).trans (State.gb_pb s _ false rfl (show 4 + 1 ≤ 32 by decide))

end Sys2Proof.Machine
end

section
/-!
PROOFS. Launches on demand (O22).
-/

open Sys2Proof Sys2Proof.Machine
namespace Sys2Proof.Machine

/-! ### The phase a launch goes to (R122) -/

/-- The phases of the ring in the order in which a launch asks them, from POS on, each with its position. -/
def State.launchOrder (s : State) (k : Fin 8) : List (Nat × Fin 48) :=
  let ringI := (s.ring k).zipIdx.map fun x => (x.2, x.1)
  ringI.drop (s.ra k).md.pos ++ ringI.take (s.ra k).md.pos

theorem pickFrom_head {s : State} {b : Bool} {x : Nat × Fin 48} (l : List (Nat × Fin 48)) (c : Nat)
    (h : s.eligible b x.2 = true) : pickFrom s b (x :: l) c = (some x, c) := if_pos h

theorem pickFrom_none {s : State} {b : Bool} {l : List (Nat × Fin 48)} (h : ∀ x ∈ l, s.eligible b x.2 = false) (c : Nat) :
    (pickFrom s b l c).1 = none := by
  induction l generalizing c with
  | nil => rfl
  | cons x l ih =>
    obtain ⟨hx, hl⟩ := List.forall_mem_cons.mp h
    unfold pickFrom
    rw [if_neg (by simp [hx])]
    exact ih hl _

/-- The phase at POS is asked first. -/
theorem launchOrder_head {s : State} {k : Fin 8} {n : Fin 48} (h : (s.ring k)[(s.ra k).md.pos]? = some n) :
    ∃ l, s.launchOrder k = ((s.ra k).md.pos, n) :: l := by
  obtain ⟨hlt, hn⟩ := List.getElem?_eq_some_iff.mp h
  unfold State.launchOrder
  dsimp only
  rw [List.drop_eq_getElem_cons (by simpa using hlt)]
  simp [hn]

theorem launchOrder_mem {s : State} {k : Fin 8} {x : Nat × Fin 48} (h : x ∈ s.launchOrder k) : x.2 ∈ s.ring k := by
  unfold State.launchOrder at h
  have hx : x ∈ (s.ring k).zipIdx.map fun x => (x.2, x.1) := (List.mem_append.mp h).elim List.mem_of_mem_drop List.mem_of_mem_take
  obtain ⟨y, hy, rfl⟩ := List.mem_map.mp hx
  exact List.fst_mem_of_mem_zipIdx hy

/-! ### Issuing a launch (R116, R117, R121, R122) -/

/-- The on-time of a launch hangs on TON and on registers other than the modulator's counters. -/
theorem onTimeOf_congr {u s : State} {k : Fin 8} (hw : ∀ a, a ≠ A.RAIL_MCNT k.val → u.word a = s.word a)
    (ht : (u.ra k).md.ton = (s.ra k).md.ton) (n : Fin 48) : u.onTimeOf k n = s.onTimeOf k n := by
  have hg : ∀ e : Fld, e.addr ≠ A.RAIL_MCNT k.val → u.g e = s.g e := fun e he => congrArg (getBits · e.lo e.w) (hw _ he)
  have htrim : A.OLPH_TRIM n.val ≠ A.RAIL_MCNT k.val := by unfold A.OLPH_TRIM A.RAIL_MCNT; omega
  have hrole : A.PHASE_ROLE n.val ≠ A.RAIL_MCNT k.val := by unfold A.PHASE_ROLE A.RAIL_MCNT; omega
  have hic : A.FM_IC ≠ A.RAIL_MCNT k.val := by unfold A.FM_IC A.RAIL_MCNT; omega
  have hmax : A.RAIL_TONMAX k.val ≠ A.RAIL_MCNT k.val := by unfold A.RAIL_TONMAX A.RAIL_MCNT; omega
  unfold State.onTimeOf State.onModel State.blind State.noConverter State.gb State.gi
  rw [hg _ htrim, hg _ hrole, hg F.FM_IC_GMAP hic, hg F.FM_IC_ICRET hic, hg _ hmax, ht]

@[simp] theorem atTime_onTimeOf (s : State) (t : Time) (k : Fin 8) (n : Fin 48) : (s.atTime t).onTimeOf k n = s.onTimeOf k n :=
  onTimeOf_congr (fun a _ => atTime_eq (·.word a) (fun _ _ _ => rfl) s t) (by rw [atTime_ra]) n

theorem onTimeOf_modMd (s : State) (k : Fin 8) (f : ModState → ModState) (n : Fin 48) (h : ∀ m, (f m).ton = m.ton) :
    (s.modMd k f).onTimeOf k n = s.onTimeOf k n :=
  onTimeOf_congr (u := s.modMd k f) (s := s) (fun _ _ => rfl) (by rw [modMd_md, h]) n

/-- A launch sent to position i joins those in delivery, and POS moves on; whether it enters onset mode changes neither. -/
theorem sendLaunch_issued (k : Fin 8) (cont : Bool) (len i : Nat) (n : Fin 48) (s : State) :
    let m := ((sendLaunch k cont len i n s).ra k).md
    m.inFlight = (s.ra k).md.inFlight ++ [⟨n, (s.rl n).epoch, s.onTimeOf k n⟩] ∧ m.blanking = (s.ra k).md.blanking
      ∧ m.waiting = (s.ra k).md.waiting ∧ m.pos = (if i + 1 < len then i + 1 else 0)
      ∧ (sendLaunch k cont len i n s).phase = s.phase := by
  have keep : ∀ {β : Type} {π : State → β}, OnsetFrame k π → ∀ (c : Bool) (v : State), π (if c then enterOnset k v else v) = π v := by
    intro β π h c v
    split
    · exact h.enterOnset_eq v
    · rfl
  unfold sendLaunch
  extract_lets l c s1
  have hmd : (s1.ra k).md = { (s.ra k).md with
      inFlight := (s.ra k).md.inFlight ++ [l], pos := if i + 1 < len then i + 1 else 0, cont := c } := modMd_md s k _
  refine ⟨(keep (onsetFrame_md k (·.inFlight) fun _ => rfl) _ s1).trans ?_,
    (keep (onsetFrame_md k (·.blanking) fun _ => rfl) _ s1).trans ?_, (keep (onsetFrame_md k (·.waiting) fun _ => rfl) _ s1).trans ?_,
    (keep (onsetFrame_md k (·.pos) fun _ => rfl) _ s1).trans ?_, keep (onsetFrame_phase k) _ s1⟩ <;>
  rw [hmd]

/-- Blanking starts, with c ring phases passed over. -/
def startBlanking (k : Fin 8) (c : Nat) (s : State) : State :=
  (s.incBy (F.RAIL_MCNT_RINGSKIP k.val) c).modMd k fun m => { m with waiting := false, blanking := true }

theorem startBlanking_md (k : Fin 8) (c : Nat) (s : State) :
    ((startBlanking k c s).ra k).md = { (s.ra k).md with waiting := false, blanking := true } := modMd_md _ k _

theorem startBlanking_word (k : Fin 8) (c : Nat) (s : State) (a : Nat) (h : a ≠ A.RAIL_MCNT k.val) :
    (startBlanking k c s).word a = s.word a := by
  unfold startBlanking State.incBy
  rw [State.modMd_word]
  exact State.word_p_ne s _ _ a h

theorem startBlanking_onTimeOf (k : Fin 8) (c : Nat) (s : State) (n : Fin 48) :
    (startBlanking k c s).onTimeOf k n = s.onTimeOf k n :=
  onTimeOf_congr (startBlanking_word k c s) (by rw [startBlanking_md]) n

/-- Below the overlap limit the launch goes to the phase picked, or to none. -/
theorem issueLaunch_picks {k : Fin 8} {s : State} (hovl : s.ovl k < s.ovlLimit k) (cont : Bool) {o : Option (Nat × Fin 48)} {c : Nat}
    (hp : pickFrom s (s.onset k) (s.launchOrder k) 0 = (o, c)) : issueLaunch k cont s = match o with
      | none => launchLost k (startBlanking k c s)
      | some x => sendLaunch k cont (s.ring k).length x.1 x.2 (startBlanking k c s) := by
  unfold State.launchOrder at hp
  unfold issueLaunch
  rw [if_neg (Nat.not_le.mpr hovl)]
  dsimp only at hp ⊢
  rw [hp]
  cases o with
  | none => rfl
  | some x => simp only [List.length_map, List.length_zipIdx]; rfl

/-- With the phase at POS eligible the launch is issued to it. -/
theorem issueLaunch_next {k : Fin 8} {n : Fin 48} {s : State} (h : NextLaunch s k n) (cont : Bool) :
    LaunchIssued s (issueLaunch k cont s) k n := by
  obtain ⟨hon, hovl, hpos, hel⟩ := h
  obtain ⟨l, hl⟩ := launchOrder_head hpos
  have hpick : pickFrom s (s.onset k) (s.launchOrder k) 0 = (some ((s.ra k).md.pos, n), 0) := by
    rw [hl, hon]
    exact pickFrom_head (x := ((s.ra k).md.pos, n)) l 0 hel
  obtain ⟨hin, hbl, hwa, hp, hph⟩ := sendLaunch_issued k cont (s.ring k).length (s.ra k).md.pos n (startBlanking k 0 s)
  rw [startBlanking_onTimeOf, startBlanking_md] at hin
  rw [startBlanking_md] at hbl hwa
  rw [issueLaunch_picks hovl cont hpick]
  exact ⟨hin, hbl, hwa, hp, hph⟩

/-- At its overlap limit a rail's launch waits, and is counted. -/
theorem issueLaunch_waits {k : Fin 8} {s : State} (h : s.ovlLimit k ≤ s.ovl k) (cont : Bool) :
    issueLaunch k cont s = (s.inc (F.RAIL_MCNT_OVLWAIT k.val)).modMd k fun m => { m with waiting := true, waitCont := cont } :=
  if_pos h

/-- With no ring phase eligible no launch is issued: it is lost, and blanking starts. -/
theorem issueLaunch_lost {k : Fin 8} {s : State} (hovl : s.ovl k < s.ovlLimit k)
    (hno : ∀ n ∈ s.ring k, s.eligible (s.onset k) n = false) (cont : Bool) :
    ∃ c, issueLaunch k cont s = launchLost k (startBlanking k c s) :=
  ⟨_, issueLaunch_picks hovl cont (Prod.ext (pickFrom_none (fun x hx => hno x.2 (launchOrder_mem hx)) 0) rfl)⟩

/-! ### What a launch finds does not hang on blanking, nor on one that waits -/

theorem NextLaunch.atTime {s : State} {k : Fin 8} {n : Fin 48} (h : NextLaunch s k n) (t : Time) : NextLaunch (s.atTime t) k n := by
  unfold NextLaunch at h ⊢
  simpa using h

theorem LaunchIssued.of_atTime {s u : State} {k : Fin 8} {n : Fin 48} {t : Time} (h : LaunchIssued (s.atTime t) u k n) :
    LaunchIssued s u k n := by
  unfold LaunchIssued at h ⊢
  simpa using h

section
variable {s : State} {k : Fin 8} {f : ModState → ModState}

theorem ovl_modMd (hf : ∀ m, (f m).inFlight = m.inFlight) : (s.modMd k f).ovl k = s.ovl k := by
  unfold State.ovl
  rw [modMd_md, hf]
  rfl

theorem NextLaunch.modMd {n : Fin 48} (h : NextLaunch s k n) (hf : ∀ m, (f m).inFlight = m.inFlight) (hp : ∀ m, (f m).pos = m.pos) :
    NextLaunch (s.modMd k f) k n := by
  unfold NextLaunch at h ⊢
  simpa [ovl_modMd hf, hp] using h

theorem LaunchIssued.of_modMd {u : State} {n : Fin 48} (h : LaunchIssued (s.modMd k f) u k n)
    (hf : ∀ m, (f m).inFlight = m.inFlight) (hp : ∀ m, (f m).pos = m.pos) (ht : ∀ m, (f m).ton = m.ton) : LaunchIssued s u k n := by
  unfold LaunchIssued at h ⊢
  simpa [onTimeOf_modMd s k f n ht, hf, hp] using h

end

/-! ### The three occasions (R116, R117, R127) -/

theorem launchDemand_issues {k : Fin 8} {s : State} (hl : s.launches k = true) (hb : (s.ra k).md.blanking = false)
    (hw : (s.ra k).md.waiting = false) : launchDemand k s = issueLaunch k false s := if_pos (by simp [hl, hb, hw])

theorem blankingEnd_demand {k : Fin 8} {s : State} (hl : s.launches k = true) (hb : (s.ra k).md.blanking = true) :
    blankingEnd k true s = issueLaunch k true (s.modMd k fun m => { m with blanking := false }) := if_pos (by simp [hl, hb])

/-- Blanking that ends without demand ends the series, and outside a forecast window onset mode. -/
theorem blankingEnd_quiet {k : Fin 8} {s : State} (hl : s.launches k = true) (hb : (s.ra k).md.blanking = true)
    (hwin : s.windowOpen k = false) : blankingEnd k false s
      = leaveOnset k ((s.modMd k fun m => { m with blanking := false }).modMd k fun m => { m with cont := 0 }) := by
  have hopen : ((s.modMd k fun m => { m with blanking := false }).modMd k fun m => { m with cont := 0 }).windowOpen k = false := by
    unfold State.windowOpen at hwin ⊢
    rw [modMd_md, modMd_md]
    exact hwin
  unfold blankingEnd
  rw [if_pos (by simp [hl, hb])]
  dsimp only
  rw [if_neg (by simp), hopen]
  rfl

theorem overlapRelease_released {k : Fin 8} {s : State} (demand : Bool) (hl : s.launches k = true) (hw : (s.ra k).md.waiting = true)
    (ho : s.ovl k < s.ovlLimit k) : overlapRelease k demand s
      = if demand then issueLaunch k (s.ra k).md.waitCont (s.modMd k fun m => { m with waiting := false })
        else s.modMd k fun m => { m with waiting := false } := if_pos (by simp [hl, hw, ho])

/-- Settles O22: each occasion issues a launch, loses it, lets it wait or drops it by one rule of `issueLaunch`. -/
theorem demandIssuesLaunches : Obligations.DemandIssuesLaunches := by
  unfold Obligations.DemandIssuesLaunches
  refine ⟨fun s k n t hl hb hw hn => ?_, fun s k t hl hb hw ho => ?_, fun s k n t hl hb hn => ?_, fun s k t hl hb hon ho hno => ?_,
    fun s k t hl hb hwin => ?_, fun s k n t hl hw hn => ?_, fun s k t hl hw ho => ?_, fun s k d t hl => ⟨?_, ?_, ?_⟩⟩
  · refine ⟨launchDemand k (s.atTime t), rfl, ?_⟩
    rw [launchDemand_issues (by simpa) (by simpa) (by simpa)]
    exact (issueLaunch_next (hn.atTime t) false).of_atTime
  · refine ⟨launchDemand k (s.atTime t), rfl, ?_⟩
    rw [launchDemand_issues (by simpa) (by simpa) (by simpa), issueLaunch_waits (by simpa)]
    refine ⟨by simp, by simp, ?_⟩
    rw [State.modMd_g, State.g_inc _ _ (show 16 + 8 ≤ 32 by decide), atTime_g]
  · refine ⟨blankingEnd k true (s.atTime t), rfl, ?_⟩
    rw [blankingEnd_demand (by simpa) (by simpa)]
    exact ((issueLaunch_next ((hn.atTime t).modMd (fun _ => by rfl) fun _ => by rfl) true).of_modMd (fun _ => by rfl) (fun _ => by rfl)
      fun _ => by rfl).of_atTime
  · obtain ⟨c, hc⟩ := issueLaunch_lost (k := k) (s := (s.atTime t).modMd k fun m => { m with blanking := false })
      (by rw [ovl_modMd fun _ => by rfl]; simpa) (by simpa [hon]) true
    refine ⟨blankingEnd k true (s.atTime t), rfl, ?_⟩
    rw [blankingEnd_demand (by simpa) (by simpa), hc]
    refine ⟨State.gb_pb _ _ true rfl (show 13 + 1 ≤ 32 by decide), ?_, ?_, ?_, ?_⟩
    all_goals simp [launchLost, startBlanking]
  · refine ⟨blankingEnd k false (s.atTime t), rfl, ?_⟩
    rw [blankingEnd_quiet (by simpa) (by simpa) (by simpa)]
    have left : ∀ {β : Type} {π : State → β}, OnsetFrame k π → ∀ v, π (leaveOnset k v) = π v := fun h v =>
      (h.settleLock_eq _).trans (h.setWord v _ _)
    refine ⟨(left (onsetFrame_md k (·.blanking) fun _ => rfl) _).trans (by simp),
      (left (onsetFrame_md k (·.cont) fun _ => rfl) _).trans (by simp), leaveOnset_onset k _,
      (left (onsetFrame_md k (·.inFlight) fun _ => rfl) _).trans (by simp), (left (onsetFrame_phase k) _).trans (by simp)⟩
  · refine ⟨overlapRelease k true (s.atTime t), rfl, ?_⟩
    rw [overlapRelease_released true (by simpa) (by simpa) (hn.atTime t).2.1, if_pos rfl]
    exact ((issueLaunch_next ((hn.atTime t).modMd (fun _ => by rfl) fun _ => by rfl) _).of_modMd (fun _ => by rfl) (fun _ => by rfl)
      fun _ => by rfl).of_atTime
  · refine ⟨overlapRelease k false (s.atTime t), rfl, ?_⟩
    rw [overlapRelease_released false (by simpa) (by simpa) (by simpa), if_neg (by simp)]
    exact ⟨by simp, by simp, by simp⟩
  · exact congrArg done (if_neg (by simp [hl]))
  · exact congrArg done (if_neg (by simp [hl]))
  · exact congrArg done (if_neg (by simp [hl]))

end Sys2Proof.Machine
end

section
/-!
PROOFS. Input feed-forward and the synthesized ripple (O23).
-/

open Sys2Proof Sys2Proof.Machine
namespace Sys2Proof.Machine

/-! ### VINC (R119) -/

/-- VINC and SRCNOW have been written, and no other register. -/
theorem vinffData_written (s : State) (v c : Nat) (hv : v < 2 ^ 16) (hc : c < 4) :
    let u := (s.p F.VINFF_DATA_VINC v).p F.VINFF_DATA_SRCNOW c
    u.g F.VINFF_DATA_VINC = v ∧ u.g F.VINFF_DATA_SRCNOW = c ∧ ∀ a, a ≠ A.VINFF_DATA → u.word a = s.word a := by
  refine ⟨?_, (State.g_p _ F.VINFF_DATA_SRCNOW c (by decide)).trans (Nat.mod_eq_of_lt hc), fun a ha => ?_⟩
  · rw [State.g_p_apart _ F.VINFF_DATA_SRCNOW F.VINFF_DATA_VINC c (by decide) (by decide), State.g_p s F.VINFF_DATA_VINC v (by decide)]
    exact Nat.mod_eq_of_lt hv
  · rw [State.word_p_ne _ F.VINFF_DATA_SRCNOW c a ha, State.word_p_ne s F.VINFF_DATA_VINC v a ha]

/-- A conversion joins the last four, of which VINC is formed. -/
theorem vinffUpdate_code {s : State} (c : BitVec 10) (hc : s.core = true) (hs : s.gb F.VINFF_CFG_SRC = false)
    (hf : s.vinffFailed = false) : vinffUpdate (some c) s = (((vinffSample (some c) s).p F.VINFF_DATA_VINC
      (min (((c.toNat :: s.vinff).take 4).sum * s.g F.VINFF_CFG_VINGAIN / 2 ^ 14) 0xFFFF)).p F.VINFF_DATA_SRCNOW 0) := by
  have hfail : (vinffSample (some c) s).vinffFailed = false := hf
  unfold vinffUpdate
  rw [if_pos hc]
  dsimp only
  rw [if_neg (by simp [hs]), if_neg (by simp [hfail])]
  rfl

theorem vinffUpdate_failed {s : State} (hc : s.core = true) (hs : s.gb F.VINFF_CFG_SRC = false) :
    vinffUpdate none s = { s with vinffFailed := true } := by
  unfold vinffUpdate
  rw [if_pos hc]
  dsimp only
  rw [if_neg (by simp [hs])]
  rfl

/-- With SRC 1 VINC is the fixed value, whatever the frame brings. -/
theorem vinffUpdate_fixed {s : State} (c : Option (BitVec 10)) (hc : s.core = true) (hs : s.gb F.VINFF_CFG_SRC = true) :
    vinffUpdate c s = ((vinffSample c s).p F.VINFF_DATA_VINC (s.g F.VINFF_FIX_VINFIX)).p F.VINFF_DATA_SRCNOW 2 := by
  unfold vinffUpdate
  rw [if_pos hc]
  dsimp only
  rw [if_pos hs]

theorem vinffSample_word (c : Option (BitVec 10)) (s : State) (a : Nat) : (vinffSample c s).word a = s.word a := by
  cases c <;> rfl

/-! ### HF and LF of a phase (R118) -/

/-- High and low parts of what is left of a step never exceed it. -/
theorem classCounts_le (c now left : Nat) (l : List (Nat × Nat)) :
    (classCounts c now left l).1 + (classCounts c now left l).2 ≤ left := by
  induction l generalizing now left with
  | nil =>
    unfold classCounts
    split <;> split <;> omega
  | cons x l ih =>
    unfold classCounts
    extract_lets own r
    have hr : r.1 + r.2 ≤ left - own := ih x.2 (left - own)
    have ho : own ≤ left := min_le_left _ _
    dsimp only
    split <;> split <;> omega

/-- Changes from before the step do not count. -/
theorem oldChanges_dropped {c : Nat} {l : List (Nat × Nat)} (h : ∀ x ∈ l, 64 ≤ elapsed x.1 c) :
    l.filter (fun x => decide (elapsed x.1 c < 64)) = [] :=
  List.filter_eq_nil_iff.mpr fun x hx => by simpa using h x hx

/-- A phase that does not change in the step gives it whole to what it counts as. -/
theorem rippleCounts_steady {s : State} {n : Fin 48} (h : ∀ x ∈ (s.ph n).hist, 64 ≤ elapsed x.1 s.clock) :
    s.rippleCounts n = (if s.rippleClass n = 2 then 64 else 0, if s.rippleClass n = 1 then 64 else 0) :=
  congrArg (classCounts s.clock (s.rippleClass n) 64) (oldChanges_dropped h)

/-- One that changes once in the step gives what came after the change to what it counts as now, the rest to what it counted as. -/
theorem rippleCounts_once {s : State} {n : Fin 48} {x : Nat × Nat} {rest : List (Nat × Nat)} (hh : (s.ph n).hist = x :: rest)
    (hx : elapsed x.1 s.clock < 64) (hr : ∀ y ∈ rest, 64 ≤ elapsed y.1 s.clock) : s.rippleCounts n =
      ((if s.rippleClass n = 2 then elapsed x.1 s.clock else 0) + (if x.2 = 2 then 64 - elapsed x.1 s.clock else 0),
        (if s.rippleClass n = 1 then elapsed x.1 s.clock else 0) + (if x.2 = 1 then 64 - elapsed x.1 s.clock else 0)) := by
  have hch : (s.ph n).hist.filter (fun x => decide (elapsed x.1 s.clock < 64)) = [x] := by
    rw [hh, List.filter_cons_of_pos (by simpa using hx), oldChanges_dropped hr]
  have hown : min 64 (elapsed x.1 s.clock - (64 - 64)) = elapsed x.1 s.clock := by omega
  unfold State.rippleCounts
  rw [hch]
  simp only [classCounts, hown]
  exact Prod.ext (Nat.add_comm _ _) (Nat.add_comm _ _)

theorem rippleClass_on {s : State} {n : Fin 48} (h : (s.ph n).out ≠ .off) :
    s.rippleClass n = if (s.ph n).out == .high then 2 else 1 := by
  unfold State.rippleClass
  cases ho : (s.ph n).out with
  | high => rfl
  | low => rfl
  | off => exact absurd ho h

theorem rippleClass_mid {s : State} {n : Fin 48} (ho : (s.ph n).out = .off) (hd : (s.ph n).dead = .none)
    (hc : s.gb (F.PHASE_STATUS_CUT n.val) = false) : s.rippleClass n = 0 := by
  unfold State.rippleClass
  rw [ho, hd, hc]
  rfl

/-! ### ACC and RIPCODE (R118) -/

/-- HF of rail k: the fine steps of the step that its phases were high. -/
def State.ripHigh (s : State) (k : Fin 8) : Int := (((s.ringTail k).map s.rippleCounts).map fun x => (x.1 : Int)).sum

/-- LF of rail k. -/
def State.ripLow (s : State) (k : Fin 8) : Int := (((s.ringTail k).map s.rippleCounts).map fun x => (x.2 : Int)).sum

/-- ACC of rail k after a step with these HF and LF. -/
def State.ripAcc (s : State) (k : Fin 8) (hf lf : Int) : Int :=
  sat32 ((s.ra k).md.acc + asr ((hf * 20 * (s.ra k).md.vinc - (hf + lf) * (s.ra k).md.vsetc) * s.g (F.RAIL_RIP_RIPGAIN k.val)) 6
    - asr (s.ra k).md.acc (s.g (F.RAIL_RIP_RIPLEAK k.val)))

theorem rippleStep_enabled {k : Fin 8} {s : State} (h : s.enabled k = true) : rippleStep k s = s.modMd k fun m =>
    { m with acc := s.ripAcc k (s.ripHigh k) (s.ripLow k),
             ripcode := clampInt (asr (s.ripAcc k (s.ripHigh k) (s.ripLow k)) 16) (-512) 511 } :=
  if_pos h

theorem rippleStep_disabled {k : Fin 8} {s : State} (h : s.enabled k = false) : rippleStep k s = s := if_neg (by simp [h])

/-- What a ripple step leaves of an enabled rail. -/
structure RippleStepped (k : Fin 8) (s u : State) : Prop where
  acc : (u.ra k).md.acc = s.ripAcc k (s.ripHigh k) (s.ripLow k)
  ripcode : (u.ra k).md.ripcode = clampInt (asr (u.ra k).md.acc 16) (-512) 511
  regs : u.regs = s.regs
  others : ∀ j, j ≠ k → u.ra j = s.ra j

theorem rippleStep_stepped {k : Fin 8} {s : State} (h : s.enabled k = true) : RippleStepped k s (rippleStep k s) := by
  rw [rippleStep_enabled h]
  have hmd := modMd_md s k fun m =>
    { m with acc := s.ripAcc k (s.ripHigh k) (s.ripLow k),
             ripcode := clampInt (asr (s.ripAcc k (s.ripHigh k) (s.ripLow k)) 16) (-512) 511 }
  exact ⟨by rw [hmd], by rw [hmd], rfl, fun j hj => modMd_ra_ne s k _ hj⟩

@[simp] theorem atTime_ripAcc (s : State) (t : Time) (k : Fin 8) (hf lf : Int) : (s.atTime t).ripAcc k hf lf = s.ripAcc k hf lf := by
  unfold State.ripAcc
  rw [atTime_ra, atTime_g, atTime_g]

@[simp] theorem atTime_rippleClass (s : State) (t : Time) (n : Fin 48) : (s.atTime t).rippleClass n = s.rippleClass n :=
  atTime_eq (·.rippleClass n) (fun _ _ _ => rfl) s t

/-- A sum that takes 64 from the elements of a kind and nothing from the others. -/
theorem sum_ite_64 {α : Type} (p : α → Bool) (F : α → Nat) (l : List α) (h : ∀ x ∈ l, F x = if p x then 64 else 0) :
    (l.map fun x => (F x : Int)).sum = 64 * ((l.filter p).length : Int) := by
  induction l with
  | nil => rfl
  | cons x l ih =>
    obtain ⟨hx, hl⟩ := List.forall_mem_cons.mp h
    rw [List.map_cons, List.sum_cons, ih hl, hx]
    cases hp : p x <;> simp [hp]
    ring

theorem ripHigh_eq (s : State) (k : Fin 8) : s.ripHigh k = ((s.ringTail k).map fun n => ((s.rippleCounts n).1 : Int)).sum := by
  unfold State.ripHigh
  rw [List.map_map]
  rfl

theorem ripLow_eq (s : State) (k : Fin 8) : s.ripLow k = ((s.ringTail k).map fun n => ((s.rippleCounts n).2 : Int)).sum := by
  unfold State.ripLow
  rw [List.map_map]
  rfl

/-- With every phase high or low throughout, HF and LF count the phases of each kind. -/
theorem ripple_driven {s : State} {k : Fin 8} (ho : ∀ n ∈ s.ringTail k, (s.ph n).out ≠ .off)
    (hh : ∀ n ∈ s.ringTail k, ∀ x ∈ (s.ph n).hist, 64 ≤ elapsed x.1 s.clock) :
    s.ripHigh k = 64 * ((s.ringTail k).filter fun n => (s.ph n).out == .high).length
      ∧ s.ripLow k = 64 * ((s.ringTail k).filter fun n => (s.ph n).out == .low).length := by
  rw [ripHigh_eq, ripLow_eq]
  constructor <;> refine sum_ite_64 _ _ _ fun n hn => ?_ <;>
  · rw [rippleCounts_steady (hh n hn), rippleClass_on (ho n hn)]
    have := ho n hn
    cases hout : (s.ph n).out <;> simp_all

/-- With every phase at mid throughout, HF and LF are 0. -/
theorem ripple_mid {s : State} {k : Fin 8} (hc : ∀ n ∈ s.ringTail k, s.rippleClass n = 0)
    (hh : ∀ n ∈ s.ringTail k, ∀ x ∈ (s.ph n).hist, 64 ≤ elapsed x.1 s.clock) : s.ripHigh k = 0 ∧ s.ripLow k = 0 := by
  have h0 : ∀ n ∈ s.ringTail k, s.rippleCounts n = (0, 0) := fun n hn => by
    rw [rippleCounts_steady (hh n hn), hc n hn]
    rfl
  rw [ripHigh_eq, ripLow_eq]
  constructor <;> refine List.sum_eq_zero fun x hx => ?_ <;>
  · obtain ⟨n, hn, rfl⟩ := List.mem_map.mp hx
    rw [h0 n hn]
    rfl

theorem clampInt_bounds (x : Int) {lo hi : Int} (h : lo ≤ hi) : lo ≤ clampInt x lo hi ∧ clampInt x lo hi ≤ hi :=
  ⟨le_max_left _ _, max_le h (min_le_right _ _)⟩

theorem completes_ripple {k : Fin 8} {t : Time} {s : State} {P : State → Prop} (h : P (rippleStep k (s.atTime t))) :
    Completes (.rippleStep k t) s P := ⟨_, rfl, h⟩

/-- Settles O23: VINC by the kind of frame, and a ripple step by what its HF and LF count. -/
theorem feedForwardAndRipple : Obligations.FeedForwardAndRipple := by
  unfold Obligations.FeedForwardAndRipple
  refine ⟨fun s c hc hs hf => ?_, fun s hc hs => congrArg done (vinffUpdate_failed hc hs), fun s c hc hs => ?_,
    fun s k t he ho hh => ?_, fun s k t he => ?_, fun s n x rest hh hx hr => rippleCounts_once hh hx hr,
    fun s n => classCounts_le _ _ 64 _, fun s k t he ho hh => ?_, fun s k t he => ?_,
    fun s k t he => congrArg done (rippleStep_disabled (by simpa))⟩
  · obtain ⟨hv, hsrc, hw⟩ := vinffData_written (vinffSample (some c) s)
      (min (((c.toNat :: s.vinff).take 4).sum * s.g F.VINFF_CFG_VINGAIN / 2 ^ 14) 0xFFFF) 0 (by omega) (by decide)
    refine ⟨vinffUpdate (some c) s, rfl, ?_⟩
    rw [vinffUpdate_code c hc hs hf]
    exact ⟨rfl, hv, hsrc, hw⟩
  · obtain ⟨hv, hsrc, hw⟩ := vinffData_written (vinffSample c s) (s.g F.VINFF_FIX_VINFIX) 2 (State.g_lt s F.VINFF_FIX_VINFIX) (by decide)
    refine ⟨vinffUpdate c s, rfl, ?_⟩
    rw [vinffUpdate_fixed c hc hs]
    exact ⟨hv, hsrc, fun a ha => (hw a ha).trans (vinffSample_word c s a)⟩
  · have hst := rippleStep_stepped (k := k) (s := s.atTime t) (by simpa)
    obtain ⟨hhf, hlf⟩ := ripple_driven (s := s.atTime t) (k := k) (by simpa) (by simpa using hh)
    have hacc := hst.acc
    rw [hhf, hlf, atTime_ripAcc] at hacc
    simp only [atTime_ringTail, atTime_ph] at hacc
    exact completes_ripple ⟨hacc, hst.ripcode, hst.regs.trans (atTime_regs s t)⟩
  · have hst := rippleStep_stepped (k := k) (s := s.atTime t) (by simpa)
    have hacc := hst.acc
    unfold State.ripHigh State.ripLow at hacc
    rw [atTime_ripAcc, atTime_ringTail] at hacc
    exact completes_ripple ⟨hacc, hst.regs.trans (atTime_regs s t)⟩
  · have hst := rippleStep_stepped (k := k) (s := s.atTime t) (by simpa)
    obtain ⟨hhf, hlf⟩ := ripple_mid (s := s.atTime t) (k := k) (fun n hn => by
      obtain ⟨hoff, hd, hcut⟩ := ho n (by simpa using hn)
      rw [atTime_rippleClass, rippleClass_mid hoff hd hcut]) (by simpa using hh)
    have hacc := hst.acc
    rw [hhf, hlf, atTime_ripAcc] at hacc
    refine completes_ripple ⟨hacc.trans ?_, hst.ripcode, hst.regs.trans (atTime_regs s t), fun j hj => ?_⟩
    · simp [State.ripAcc, asr]
    · rw [hst.others j hj, atTime_ra]
  · have hst := rippleStep_stepped (k := k) (s := s.atTime t) (by simpa)
    refine completes_ripple ⟨?_, ?_, ?_, ?_⟩
    · rw [hst.acc]
      exact (clampInt_bounds _ (by decide)).1
    · rw [hst.acc]
      exact (clampInt_bounds _ (by decide)).2
    · rw [hst.ripcode]
      exact (clampInt_bounds _ (by decide)).1
    · rw [hst.ripcode]
      exact (clampInt_bounds _ (by decide)).2

end Sys2Proof.Machine
end

section
/-!
SUPPORT. What a ring rewrite that takes effect leaves alone (R126, R252-R256): role changes and the phases that come and go reach
neither the modulator's state of the rail, nor what of its ring still waits, nor the staging of coupled groups.
-/

open Sys2Proof Sys2Proof.Machine
namespace Sys2Proof.Machine

/-- A projection that sees nothing of role changes and of phases that come to or go from rail k's ring: of the rail it may see the
modulator's state and the waiting rewrite. -/
structure RingFrame {β : Type} (k : Fin 8) (π : State → β) : Prop where
  setWord : ∀ s a w, π (State.setWord s a w) = π s
  modPh : ∀ s n f, π (State.modPh s n f) = π s
  modRl : ∀ s n f, π (State.modRl s n f) = π s
  modPl : ∀ s p f, π (State.modPl s p f) = π s
  setQ : ∀ s q l, π (State.setQ s q l) = π s
  nv : ∀ (s : State) n, π { s with nv := n } = π s
  sup : ∀ (s : State) u, π { s with sup := u } = π s
  beside : ∀ s f, (∀ r : RailState, (f r).md = r.md ∧ (f r).ink.rewrite = r.ink.rewrite) → π (State.modRa s k f) = π s

theorem ringFrame_md (k : Fin 8) : RingFrame k fun s => (s.ra k).md where
  setWord _ _ _ := rfl
  modPh _ _ _ := rfl
  modRl _ _ _ := rfl
  modPl _ _ _ := rfl
  setQ _ _ _ := rfl
  nv _ _ := rfl
  sup _ _ := rfl
  beside s f hf := by rw [State.modRa_same, (hf _).1]

theorem ringFrame_rewrite (k : Fin 8) : RingFrame k fun s => (s.ra k).ink.rewrite where
  setWord _ _ _ := rfl
  modPh _ _ _ := rfl
  modRl _ _ _ := rfl
  modPl _ _ _ := rfl
  setQ _ _ _ := rfl
  nv _ _ := rfl
  sup _ _ := rfl
  beside s f hf := by rw [State.modRa_same, (hf _).2]

theorem ringFrame_img (k : Fin 8) : RingFrame k (·.img) := by
  constructor <;> intros <;> rfl

section
variable {β : Type} {π : State → β} {k : Fin 8} (h : RingFrame k π)
include h

theorem RingFrame.p_eq (s : State) (f : Fld) (v : Nat) : π (s.p f v) = π s := h.setWord s _ _
theorem RingFrame.pb_eq (s : State) (f : Fld) (b : Bool) : π (s.pb f b) = π s := h.setWord s _ _
theorem RingFrame.inc_eq (s : State) (f : Fld) : π (s.inc f) = π s := h.setWord s _ _

theorem RingFrame.modOl_eq (s : State) (f : OuterState → OuterState) : π (s.modOl k f) = π s := h.beside s _ fun _ => ⟨rfl, rfl⟩

theorem RingFrame.switch (n : Fin 48) : SwitchFrame n π := switchFrame_of h.setWord h.modPl fun s f => h.modPh s n f

/-! ### Phases that come and go (R126, R136, R137) -/

theorem RingFrame.startPhase_eq (n : Fin 48) (s : State) : π (startPhase n s) = π s :=
  (h.modPh _ _ _).trans (((h.switch n).phOff_eq _).trans (h.pb_eq s _ _))

theorem RingFrame.dropTrim_eq (n : Fin 48) (s : State) : π (dropTrim k n s) = π s :=
  (h.modOl_eq _ _).trans (h.setWord s _ _)

theorem RingFrame.leaveRing_eq (n : Fin 48) (s : State) : π (leaveRing k n s) = π s := by
  unfold leaveRing
  dsimp only
  split
  · exact ((h.switch n).phOff_eq _).trans (h.dropTrim_eq n s)
  · exact (h.modPh _ _ _).trans (h.dropTrim_eq n s)

theorem RingFrame.ffPhase_eq (i : Nat) (n : Fin 48) (s : State) : π (ffPhase k i n s) = π s := by
  unfold ffPhase
  split
  · exact h.modPh s _ _
  · split
    · rfl
    · exact h.modPh s _ _

theorem RingFrame.writeRing_eq (l : List (Fin 48)) (s : State) : π (writeRing k l s) = π s :=
  (h.pb_eq _ _ _).trans ((h.p_eq _ _ _).trans (forEach_keep π _ (fun s _ => h.setWord s _ _) _ s))

/-- Beside phases and their balance, a change of the ring writes the ring and sets POS to 0. -/
theorem RingFrame.changeRing_eq (l : List (Fin 48)) (s : State) :
    π (changeRing k l s) = π ((writeRing k l s).modMd k fun m => { m with pos := 0 }) := by
  have hout : ∀ (l : List (Fin 48)) s, π (forEach (fun s n => leaveRing k n s) l s) = π s :=
    forEach_keep π _ fun s n => h.leaveRing_eq n s
  have hin : ∀ (l : List (Fin 48)) s, π (forEach (fun s n => startPhase n (dropTrim k n s)) l s) = π s :=
    forEach_keep π _ fun s n => (h.startPhase_eq n _).trans (h.dropTrim_eq n s)
  have htrim : ∀ (l : List (Fin 48)) s, π (forEach (fun s n => dropTrim k n s) l s) = π s :=
    forEach_keep π _ fun s n => h.dropTrim_eq n s
  have hff : ∀ s : State, π (if s.g (F.RAIL_MSTAT_EFFMODE k.val) = 2 then ffRing k s else s) = π s := by
    intro s
    split
    · exact forEach_keep π (fun s (x : Fin 48 × Nat) => ffPhase k x.2 x.1 s) (fun s x => h.ffPhase_eq x.2 x.1 s) _ s
    · rfl
  unfold changeRing
  dsimp only
  split
  · exact (updateSmods_keep π h.p_eq h.sup _).trans ((h.pb_eq _ _ _).trans ((h.beside _ _ fun _ => ⟨by rfl, by rfl⟩).trans
      ((hff _).trans ((hin _ _).trans (hout _ _)))))
  · exact htrim _ _

/-! ### Messages and roles (R244, R254-R256, R265) -/

theorem RingFrame.inkMessage_eq (kind : Nat) (n : Option (Fin 48)) (rail before after val : Nat) (s : State) :
    π (inkMessage kind n rail before after val s) = π s := by
  have hsent : ∀ e, π (if s.room 14 1 then qAppend 14 e s else (qDrop 14 s).inc F.INK_REQSTAT_MSGLOST) = π s := by
    intro e
    split
    · exact (routerEdge_keep π h.setWord h.modPl _ _ _).trans (h.setQ s 14 _)
    · exact (h.inc_eq _ _).trans ((h.pb_eq _ _ _).trans (h.inc_eq s _))
  unfold inkMessage
  extract_lets ep ph e s1
  have h1 : π s1 = π s := hsent e
  clear_value s1
  split
  · exact (queueRecord_keep π h.setWord h.modPl h.nv _ _ _ s1).trans h1
  · exact h1

theorem RingFrame.changeRole_eq (n : Fin 48) (r : Role) (val : Nat) (s : State) : π (changeRole n r val s) = π s := by
  unfold changeRole
  dsimp only
  split
  · rfl
  · exact (h.inkMessage_eq _ _ _ _ _ _ _).trans (h.modRl s _ _)

theorem RingFrame.releaseHold_eq (n : Fin 48) (s : State) : π (releaseHold n s) = π s := by
  unfold releaseHold
  split
  · exact (noting_keep π h.modPh n _ _).trans ((h.modPh _ _ _).trans ((h.pb_eq _ _ _).trans ((h.modPh _ _ _).trans (h.pb_eq s _ _))))
  · rfl

theorem RingFrame.promote_eq (n m : Fin 48) (r : Role) (s : State) : π (promote k n m r s) = π s :=
  (h.inc_eq _ _).trans ((h.p_eq _ _ _).trans (h.changeRole_eq m r n.val s))

theorem RingFrame.rewriteOne_eq (act ret : List (Fin 48)) (promo : List (Fin 48 × Fin 48)) (s : State) (n : Fin 48) :
    π (rewriteOne k act ret promo s n) = π s := by
  have hret : ∀ v, π (releaseHold n (changeRole n .retired v s)) = π s :=
    fun v => (h.releaseHold_eq n _).trans (h.changeRole_eq n .retired v s)
  unfold rewriteOne
  split
  · dsimp only
    split
    · exact (h.promote_eq _ _ _ _).trans (hret _)
    · exact hret _
  · split
    · exact (h.inc_eq _ _).trans (h.changeRole_eq n .shed 0 s)
    · exact (h.inc_eq _ _).trans (h.changeRole_eq n .active 0 s)
    · split
      · exact h.promote_eq _ n .active s
      · rfl
    · rfl

theorem RingFrame.railCause_eq (lo : Nat) (j : Fin 8) (s : State) : π (railCause lo j s) = π s := by
  refine forEach_keep π _ (fun s pe => ?_) _ s
  split
  · exact forEach_keep π _ (fun s _ => h.setWord s _ _) _ s
  · rfl

theorem RingFrame.capacityCheck_eq (s : State) : π (capacityCheck k s) = π s := by
  unfold capacityCheck
  extract_lets c fell s1
  have h1 : π s1 = π s := h.beside s _ fun _ => ⟨by rfl, by rfl⟩
  clear_value s1
  split
  · exact (h.inkMessage_eq _ _ _ _ _ _ _).trans ((h.railCause_eq _ _ _).trans ((h.modOl_eq _ _).trans h1))
  · exact h1

end

/-! ### A rewrite that takes effect (R126, R252) -/

/-- The new base order stands, and nothing of the rewrite waits. -/
def endRewrite (k : Fin 8) (base : List (Fin 48)) (s : State) : State :=
  s.modInk k fun i => { i with base := base, rewrite := none, ret := [], promo := [], want := none }

/-- A rewrite changes roles, settles what waits, and changes the ring. -/
theorem applyRewrite_some {k : Fin 8} {s : State} {act : List (Fin 48)} (h : (s.ra k).ink.rewrite = some act) :
    ∃ ret promo base live, applyRewrite k s = capacityCheck k (changeRing k live (endRewrite k base
      (forEach (rewriteOne k act ret promo) (s.ra k).ink.base s))) := by
  unfold applyRewrite
  dsimp only
  rw [h]
  exact ⟨_, _, _, _, rfl⟩

/-- What a rewrite that takes effect leaves: nothing waits, POS is 0, and no commit has changed. -/
structure Rewritten (k : Fin 8) (s u : State) : Prop where
  rewrite : (u.ra k).ink.rewrite = none
  pos : (u.ra k).md.pos = 0
  img : u.img = s.img

theorem applyRewrite_rewritten {k : Fin 8} {s : State} {act : List (Fin 48)} (h : (s.ra k).ink.rewrite = some act) :
    Rewritten k s (applyRewrite k s) := by
  obtain ⟨ret, promo, base, live, heq⟩ := applyRewrite_some h
  have hring : ∀ {β : Type} {π : State → β}, RingFrame k π → ∀ v, π (capacityCheck k (changeRing k live v))
      = π ((writeRing k live v).modMd k fun m => { m with pos := 0 }) := fun hf v =>
    (hf.capacityCheck_eq _).trans (hf.changeRing_eq live v)
  rw [heq]
  refine ⟨(hring (ringFrame_rewrite k) _).trans ?_, congrArg ModState.pos ((hring (ringFrame_md k) _).trans (modMd_md _ k _)),
    (hring (ringFrame_img k) _).trans ?_⟩
  · rw [modMd_ink, (ringFrame_rewrite k).writeRing_eq]
    exact congrArg (fun r : RailState => r.ink.rewrite) (State.modRa_same _ k _)
  · rw [State.modMd_img, (ringFrame_img k).writeRing_eq]
    exact forEach_keep (·.img) _ (fun s n => (ringFrame_img k).rewriteOne_eq act ret promo s n) _ s

end Sys2Proof.Machine
end

section
/-!
PROOFS. Sequence boundaries, the frequency lock, and forecast windows (O24).
-/

open Sys2Proof Sys2Proof.Machine
namespace Sys2Proof.Machine

/-! ### Fields through a boundary -/

theorem gb_pb_of_apart {e f : Fld} (s : State) (b : Bool) (hf : f.lo + f.w ≤ 32) (h : e.Apart f) : (s.pb f b).gb e = s.gb e :=
  gb_p_of_apart s _ hf h

theorem enabled_pb (s : State) (f : Fld) (b : Bool) (k : Fin 8) : (s.pb f b).enabled k = s.enabled k := rfl
theorem enabled_inc (s : State) (f : Fld) (k : Fin 8) : (s.inc f).enabled k = s.enabled k := rfl
theorem enabled_pi (s : State) (f : Fld) (i : Int) (k : Fin 8) : (s.pi f i).enabled k = s.enabled k := rfl
theorem clock_pb (s : State) (f : Fld) (b : Bool) : (s.pb f b).clock = s.clock := rfl
theorem clock_inc (s : State) (f : Fld) : (s.inc f).clock = s.clock := rfl

theorem g_pi_of_apart {e f : Fld} (s : State) (i : Int) (hf : f.lo + f.w ≤ 32) (h : e.Apart f) : (s.pi f i).g e = s.g e :=
  g_p_of_apart s _ hf h

theorem mctl_ne_mstat (k : Nat) : A.RAIL_MCTL k ≠ A.RAIL_MSTAT k := by unfold A.RAIL_MCTL A.RAIL_MSTAT; omega
theorem mctl_ne_lockstat (k : Nat) : A.RAIL_MCTL k ≠ A.RAIL_LOCKSTAT k := by unfold A.RAIL_MCTL A.RAIL_LOCKSTAT; omega
theorem lockofs_ne_mstat (k : Nat) : A.RAIL_LOCKOFS k ≠ A.RAIL_MSTAT k := by unfold A.RAIL_LOCKOFS A.RAIL_MSTAT; omega
theorem lockcfg_ne_mstat (k : Nat) : A.RAIL_LOCKCFG k ≠ A.RAIL_MSTAT k := by unfold A.RAIL_LOCKCFG A.RAIL_MSTAT; omega
theorem lockcfg_ne_lockstat (k : Nat) : A.RAIL_LOCKCFG k ≠ A.RAIL_LOCKSTAT k := by unfold A.RAIL_LOCKCFG A.RAIL_LOCKSTAT; omega
theorem lockstat_ne_mstat (k : Nat) : A.RAIL_LOCKSTAT k ≠ A.RAIL_MSTAT k := by unfold A.RAIL_LOCKSTAT A.RAIL_MSTAT; omega
theorem lockstat_ne_mcnt (k : Nat) : A.RAIL_LOCKSTAT k ≠ A.RAIL_MCNT k := by unfold A.RAIL_LOCKSTAT A.RAIL_MCNT; omega
theorem mcnt_ne_mstat (k : Nat) : A.RAIL_MCNT k ≠ A.RAIL_MSTAT k := by unfold A.RAIL_MCNT A.RAIL_MSTAT; omega
theorem syncCtl_ne_mstat (k : Nat) : A.PE_SYNC_CTL ≠ A.RAIL_MSTAT k := by unfold A.PE_SYNC_CTL A.RAIL_MSTAT; omega

theorem lockTick_g (k : Fin 8) (s : State) (e : Fld) (h1 : e.Apart (F.RAIL_MSTAT_FLOCK k.val))
    (h2 : e.Apart (F.RAIL_MSTAT_LOCKFRZ k.val)) : (lockTick k s).g e = s.g e := settleLock_g k _ e h1 h2

theorem lockTick_g_addr (k : Fin 8) (s : State) (e : Fld) (h : e.addr ≠ A.RAIL_MSTAT k.val) : (lockTick k s).g e = s.g e :=
  lockTick_g k s e (.inl h) (.inl h)

/-- What neither onset mode, nor a freeze of the lock, nor its count shows. -/
theorem OnsetFrame.lockTick_eq {β : Type} {π : State → β} {k : Fin 8} (h : OnsetFrame k π)
    (hf : ∀ (s : State) (f : ModState → Nat), π (s.modMd k fun m => { m with lockFreeze := f m }) = π s) (s : State) :
    π (lockTick k s) = π s :=
  (h.settleLock_eq _).trans (hf s _)

theorem lockTick_md {β : Type} (k : Fin 8) (F : ModState → β) (hu : ∀ m : ModState, F m.unfrozen = F m)
    (hf : ∀ (m : ModState) n, F { m with lockFreeze := n } = F m) (s : State) : F ((lockTick k s).ra k).md = F (s.ra k).md :=
  (onsetFrame_md k F hu).lockTick_eq (fun s f => by rw [modMd_md, hf]) s

/-- With LOCKEN 0 the lock of an enabled rail stands frozen. -/
theorem lockTick_disabled {k : Fin 8} {s : State} (he : s.enabled k = true) (hl : s.gb (F.RAIL_MCTL_LOCKEN k.val) = false) :
    (lockTick k s).gb (F.RAIL_MSTAT_FLOCK k.val) = false ∧ (lockTick k s).gb (F.RAIL_MSTAT_LOCKFRZ k.val) = true := by
  have hfrz : (s.modMd k fun m => { m with lockFreeze := m.lockFreeze - 1 }).lockFrozen k = true := by simp [State.lockFrozen, hl]
  unfold lockTick settleLock
  rw [if_pos (by simp [he, hfrz]), modMd_gb, modMd_gb]
  refine ⟨?_, State.gb_pb _ _ true rfl (show 5 + 1 ≤ 32 by decide)⟩
  rw [gb_pb_of_apart _ _ (show 5 + 1 ≤ 32 by decide) (.inr (.inr (show 5 + 1 ≤ 6 by decide)))]
  exact State.gb_pb _ _ false rfl (show 6 + 1 ≤ 32 by decide)

/-! ### A boundary at which no ring change takes effect (R126) -/

/-- No ring change of rail k waits, nor one cancelled. -/
structure RingRests (k : Fin 8) (s : State) : Prop where
  armed : s.isArmed 2 k.val = false
  cancelled : ∀ x ∈ s.img.cancelled, x.commit.group = 2 → x.commit.index ≠ k.val

theorem RingRests.congr {k : Fin 8} {u s : State} (h : RingRests k s) (hi : u.img = s.img) : RingRests k u :=
  ⟨(isArmed_congr hi 2 k.val).trans h.armed, by rw [hi]; exact h.cancelled⟩

/-- With none of a group's commits cancelled none stands again at its boundary. -/
theorem reviveLate_none (w : Nat) {g i : Nat} {s : State} (h : ∀ x ∈ s.img.cancelled, x.commit.group = g → x.commit.index ≠ i) :
    reviveLate w g i s = s := by
  have hown : ∀ x ∈ s.img.cancelled, (x.commit.group == g && x.commit.index == i) = false := by
    intro x hx
    by_cases hg : x.commit.group = g
    · simp [hg, h x hx hg]
    · simp [hg]
  have hlate : s.lateAbort w g i = none := List.find?_eq_none.mpr fun x hx => by simp [hown x hx]
  have hkeep : (s.img.cancelled.filter fun x => !(x.commit.group == g && x.commit.index == i)) = s.img.cancelled :=
    List.filter_eq_self.mpr fun x hx => by simp [hown x hx]
  unfold reviveLate
  rw [hlate]
  dsimp only
  rw [hkeep]

theorem isDue_unarmed (w : Nat) {g i : Nat} {s : State} (h : s.isArmed g i = false) : s.isDue w g i = false := by
  unfold State.isArmed at h
  unfold State.isDue
  rw [List.any_eq_false] at h ⊢
  intro x hx
  have := h x hx
  simp_all

/-- Nothing waits for a sequence boundary any more. -/
def seqDone (k : Fin 8) (s : State) : State :=
  (s.modMd k fun m => { m with seqPend := false, seqWait := 0, forcePend := false }).pb (F.RAIL_MSTAT_SEQPEND k.val) false

section
variable (k : Fin 8) (s : State)

@[simp] theorem seqDone_md : ((seqDone k s).ra k).md = { (s.ra k).md with seqPend := false, seqWait := 0, forcePend := false } := by
  unfold seqDone
  rw [ra_pb, modMd_md]

@[simp] theorem seqDone_ink : ((seqDone k s).ra k).ink = (s.ra k).ink := by
  unfold seqDone
  rw [ra_pb, modMd_ink]

@[simp] theorem seqDone_enabled : (seqDone k s).enabled k = s.enabled k := by
  unfold seqDone
  rw [enabled_pb, modMd_enabled]

theorem seqDone_g (e : Fld) (h : e.Apart (F.RAIL_MSTAT_SEQPEND k.val)) : (seqDone k s).g e = s.g e := by
  unfold seqDone
  rw [g_pb_of_apart _ _ (show 7 + 1 ≤ 32 by decide) h, State.modMd_g]

theorem seqDone_g_addr (e : Fld) (h : e.addr ≠ A.RAIL_MSTAT k.val) : (seqDone k s).g e = s.g e := seqDone_g k s e (.inl h)

@[simp] theorem seqDone_phase : (seqDone k s).phase = s.phase := (State.pb_phase _ _ _).trans (State.modMd_phase s k _)
@[simp] theorem seqDone_queue : (seqDone k s).queue = s.queue := (State.pb_queue _ _ _).trans (State.modMd_queue s k _)
@[simp] theorem seqDone_clock : (seqDone k s).clock = s.clock := clock_pb _ _ _
@[simp] theorem seqDone_sync : (seqDone k s).sync = s.sync := (State.pb_sync _ _ _).trans (State.modMd_sync s k _)

end

theorem seqSettle_done {k : Fin 8} {s : State} (ha : s.isArmed 2 k.val = false) (hr : (s.ra k).ink.rewrite = none) :
    seqSettle k s = seqDone k s := by
  have hw : s.ringWaits k = false := by
    unfold State.ringWaits
    rw [hr]
    exact (Bool.or_false _).trans ha
  unfold seqSettle
  rw [hw, Bool.and_false]
  rfl

theorem ringBoundary_rests {k : Fin 8} {s : State} (h : RingRests k s) (hr : (s.ra k).ink.rewrite = none) :
    ringBoundary k s = seqDone k s := by
  have hdue : s.rewriteDue k = false := by simp [State.rewriteDue, hr]
  unfold ringBoundary
  rw [reviveLate_none ns35 h.cancelled]
  dsimp only
  rw [isDue_unarmed ns35 h.armed, hdue]
  exact seqSettle_done h.armed hr

/-- A rewrite that is due takes effect, and nothing waits after it. -/
theorem ringBoundary_rewrites {k : Fin 8} {s : State} (h : RingRests k s) {act : List (Fin 48)}
    (hr : (s.ra k).ink.rewrite = some act) (hd : s.rewriteDue k = true) : ringBoundary k s = seqDone k (applyRewrite k s) := by
  have hw := applyRewrite_rewritten hr
  unfold ringBoundary
  rw [reviveLate_none ns35 h.cancelled]
  dsimp only
  rw [isDue_unarmed ns35 h.armed, hd]
  exact seqSettle_done (h.congr hw.img).armed hw.rewrite

/-! ### The lock measurement (R130) -/

/-- What freezes the lock is told by these fields and the count after a PLL changeover. -/
theorem lockFrozen_congr {k : Fin 8} {u s : State} (hl : u.g (F.RAIL_MCTL_LOCKEN k.val) = s.g (F.RAIL_MCTL_LOCKEN k.val))
    (ho : u.g (F.RAIL_MSTAT_ONSET k.val) = s.g (F.RAIL_MSTAT_ONSET k.val))
    (hd : u.g (F.RAIL_MSTAT_DEACT k.val) = s.g (F.RAIL_MSTAT_DEACT k.val))
    (he : u.g (F.RAIL_MSTAT_EFFMODE k.val) = s.g (F.RAIL_MSTAT_EFFMODE k.val))
    (hf : (u.ra k).md.lockFreeze = (s.ra k).md.lockFreeze) : u.lockFrozen k = s.lockFrozen k := by
  unfold State.lockFrozen State.onset State.effMode State.gb
  rw [hl, ho, hd, he, hf]

/-- FLOCK after a measurement: set, cleared or kept. -/
def flockTo (k : Fin 8) (o : Option Bool) (s : State) : State :=
  match o with
  | some b => s.pb (F.RAIL_MSTAT_FLOCK k.val) b
  | none => s

theorem flockTo_keep {β : Type} (π : State → β) (k : Fin 8) (h : ∀ s b, π (State.pb s (F.RAIL_MSTAT_FLOCK k.val) b) = π s)
    (o : Option Bool) (s : State) : π (flockTo k o s) = π s := by
  cases o with
  | none => rfl
  | some b => exact h s b

/-- The limit of TRIM. -/
def State.lockLim (s : State) (k : Fin 8) : Int := s.g (F.RAIL_LOCKCFG_LOCKLIM k.val)

/-- The lock's integral after a measurement. -/
def State.nextTrimi (s : State) (k : Fin 8) : Int :=
  clampInt ((s.ra k).md.trimi - asr (s.lockErr k) (s.g (F.RAIL_LOCKCFG_FLKI k.val))) (-s.lockLim k) (s.lockLim k)

/-- TRIM after a measurement. -/
def State.nextTrim (s : State) (k : Fin 8) : Int :=
  clampInt (s.nextTrimi k - asr (s.lockErr k) (s.g (F.RAIL_LOCKCFG_FLKP k.val))) (-s.lockLim k) (s.lockLim k)

/-- The lock error is written. -/
def noteLockErr (k : Fin 8) (s : State) : State := s.pi (F.RAIL_LOCKSTAT_LOCKERR k.val) (clampInt (s.lockErr k) (-32767) 32767)

theorem noteLockErr_g_addr (k : Fin 8) (s : State) (e : Fld) (h : e.addr ≠ A.RAIL_LOCKSTAT k.val) : (noteLockErr k s).g e = s.g e :=
  State.g_p_addr s _ e _ h

theorem noteLockErr_ra (k j : Fin 8) (s : State) : (noteLockErr k s).ra j = s.ra j := ra_pi s _ _ j
theorem noteLockErr_enabled (k : Fin 8) (s : State) : (noteLockErr k s).enabled k = s.enabled k := enabled_pi s _ _ k
theorem noteLockErr_phase (k : Fin 8) (s : State) : (noteLockErr k s).phase = s.phase := State.pi_phase s _ _
theorem noteLockErr_queue (k : Fin 8) (s : State) : (noteLockErr k s).queue = s.queue := State.pi_queue s _ _

theorem noteLockErr_frozen (k : Fin 8) (s : State) : (noteLockErr k s).lockFrozen k = s.lockFrozen k := by
  have hstat := (lockstat_ne_mstat k.val).symm
  exact lockFrozen_congr (noteLockErr_g_addr k s _ (mctl_ne_lockstat k.val)) (noteLockErr_g_addr k s _ hstat)
    (noteLockErr_g_addr k s _ hstat) (noteLockErr_g_addr k s _ hstat) (by rw [noteLockErr_ra])

theorem lockMeasure_frozen {k : Fin 8} {s : State} (h : s.lockFrozen k = true) : lockMeasure k s = noteLockErr k s := by
  have hf := (noteLockErr_frozen k s).trans h
  unfold noteLockErr at hf ⊢
  exact if_pos hf

/-- A lock that runs takes the integral and TRIM by its settings. -/
theorem lockMeasure_runs {k : Fin 8} {s : State} (h : s.lockFrozen k = false) : ∃ good o, lockMeasure k s = flockTo k o
    (((noteLockErr k s).modMd k fun m => { m with trimi := s.nextTrimi k, lockGood := good }).pi (F.RAIL_LOCKSTAT_TRIM k.val)
      (s.nextTrim k)) := by
  have hf := (noteLockErr_frozen k s).trans h
  have hcfg : ∀ e : Fld, e.addr = A.RAIL_LOCKCFG k.val → (noteLockErr k s).g e = s.g e := fun e he =>
    noteLockErr_g_addr k s e (he ▸ lockcfg_ne_lockstat k.val)
  unfold lockMeasure
  extract_lets e s1 lim ti tr tol good s2
  change s1.lockFrozen k = false at hf
  have hlim : lim = s.lockLim k := congrArg Nat.cast (hcfg _ rfl)
  have hti : ti = s.nextTrimi k := by
    unfold State.nextTrimi
    rw [← hlim, ← hcfg (F.RAIL_LOCKCFG_FLKI k.val) rfl]
    rfl
  have htr : tr = s.nextTrim k := by
    unfold State.nextTrim
    rw [← hlim, ← hti, ← hcfg (F.RAIL_LOCKCFG_FLKP k.val) rfl]
    rfl
  have hs2 : s2 = ((noteLockErr k s).modMd k fun m => { m with trimi := s.nextTrimi k, lockGood := good }).pi
      (F.RAIL_LOCKSTAT_TRIM k.val) (s.nextTrim k) := by
    rw [← hti, ← htr]
    rfl
  rw [if_neg (by simp [hf]), hs2]
  split
  · exact ⟨good, some true, rfl⟩
  · split
    · exact ⟨good, some false, rfl⟩
    · exact ⟨good, none, rfl⟩

/-- What a measurement of the lock leaves. -/
structure LockMeasured (k : Fin 8) (s u : State) : Prop where
  err : u.gi (F.RAIL_LOCKSTAT_LOCKERR k.val) = clampInt (s.lockErr k) (-32767) 32767
  frozen : s.lockFrozen k = true → u.g (F.RAIL_LOCKSTAT_TRIM k.val) = s.g (F.RAIL_LOCKSTAT_TRIM k.val)
    ∧ (u.ra k).md.trimi = (s.ra k).md.trimi
  runs : s.lockFrozen k = false → u.g (F.RAIL_LOCKSTAT_TRIM k.val) = ofSigned 16 (s.nextTrim k) ∧ (u.ra k).md.trimi = s.nextTrimi k
  mctl : u.gb (F.RAIL_MCTL_LOCKEN k.val) = s.gb (F.RAIL_MCTL_LOCKEN k.val)
  enabled : u.enabled k = s.enabled k
  phase : u.phase = s.phase
  queue : u.queue = s.queue

theorem noteLockErr_gi (k : Fin 8) (s : State) :
    (noteLockErr k s).gi (F.RAIL_LOCKSTAT_LOCKERR k.val) = clampInt (s.lockErr k) (-32767) 32767 := by
  obtain ⟨hl, hu⟩ := clampInt_bounds (s.lockErr k) (show (-32767 : Int) ≤ 32767 by decide)
  unfold noteLockErr State.gi State.pi
  rw [State.g_p s _ _ (show 0 + 16 ≤ 32 by decide)]
  exact toSigned_ofSigned _ (by omega) (by omega)

theorem ofSigned_mod (w : Nat) (i : Int) : ofSigned w i % 2 ^ w = ofSigned w i := by
  refine Nat.mod_eq_of_lt ?_
  unfold ofSigned
  have h : (0 : Int) < 2 ^ w := by positivity
  have := Int.emod_lt_of_pos i h
  have := Int.emod_nonneg i h.ne'
  zify
  omega

theorem lockMeasure_measured (k : Fin 8) (s : State) : LockMeasured k s (lockMeasure k s) := by
  have hmctl := mctl_ne_lockstat k.val
  have hap : (F.RAIL_LOCKSTAT_TRIM k.val).Apart (F.RAIL_LOCKSTAT_LOCKERR k.val) := .inr (.inr (show 0 + 16 ≤ 16 by decide))
  cases h : s.lockFrozen k with
  | true =>
    rw [lockMeasure_frozen h]
    exact ⟨noteLockErr_gi k s, fun _ => ⟨g_pi_of_apart s _ (show 0 + 16 ≤ 32 by decide) hap, by rw [noteLockErr_ra]⟩,
      fun hf => by simp [h] at hf,
      congrArg (· != 0) (noteLockErr_g_addr k s _ hmctl), noteLockErr_enabled k s, noteLockErr_phase k s,
      noteLockErr_queue k s⟩
  | false =>
    obtain ⟨good, o, heq⟩ := lockMeasure_runs h
    rw [heq]
    have hfg : ∀ e : Fld, e.addr ≠ A.RAIL_MSTAT k.val → ∀ v, (flockTo k o v).g e = v.g e := fun e he =>
      flockTo_keep (·.g e) k (fun s b => g_pb_of_apart s b (show 6 + 1 ≤ 32 by decide) (.inl he)) o
    have hfr : ∀ v, (flockTo k o v).rail = v.rail := flockTo_keep (·.rail) k (fun _ _ => rfl) o
    have hra : ∀ v, (flockTo k o v).ra k = v.ra k := fun v => congrArg (vget · k) (hfr v)
    refine ⟨?_, fun hf => by simp [h] at hf, fun _ => ⟨?_, ?_⟩, ?_, ?_, ?_, ?_⟩
    · refine (congrArg (toSigned 16) ?_).trans (noteLockErr_gi k s)
      rw [hfg _ (lockstat_ne_mstat k.val), g_pi_of_apart _ _ (show 16 + 16 ≤ 32 by decide) (.inr (.inl (show 0 + 16 ≤ 16 by decide))),
        State.modMd_g]
    · rw [hfg _ (lockstat_ne_mstat k.val)]
      exact (State.g_p _ (F.RAIL_LOCKSTAT_TRIM k.val) _ (show 16 + 16 ≤ 32 by decide)).trans (ofSigned_mod 16 _)
    · rw [hra, ra_pi, modMd_md]
    · refine congrArg (· != 0) ?_
      rw [hfg _ (mctl_ne_mstat k.val), g_pi_of_apart _ _ (show 16 + 16 ≤ 32 by decide) (.inl hmctl), State.modMd_g,
        noteLockErr_g_addr k s _ hmctl]
    · unfold State.enabled State.st
      rw [hra, ra_pi]
      exact (modMd_enabled _ k _ k).trans (noteLockErr_enabled k s)
    · rw [flockTo_keep (·.phase) k (fun _ _ => State.pb_phase _ _ _), State.pi_phase, State.modMd_phase, noteLockErr_phase]
    · rw [flockTo_keep (·.queue) k (fun _ _ => State.pb_queue _ _ _), State.pi_queue, State.modMd_queue, noteLockErr_queue]

/-! ### Boundaries, forced ones and those a delivery sets free (R126, R130) -/

theorem sequenceBoundary_rests {k : Fin 8} {s : State} (he : s.enabled k = true) (hp : s.effMode k = 2 ∨ (s.ra k).md.pos = 0)
    (h : RingRests k s) (hr : (s.ra k).ink.rewrite = none) : sequenceBoundary k s = lockTick k (lockMeasure k (seqDone k s)) := by
  unfold sequenceBoundary
  rw [if_pos (by simpa [he] using hp), ringBoundary_rests h hr]

theorem sequenceBoundary_disabled {k : Fin 8} {s : State} (h : s.enabled k = false) : sequenceBoundary k s = s := if_neg (by simp [h])

theorem forceSequence_falls {k : Fin 8} {s : State} (he : s.enabled k = true) (hp : (s.ra k).md.seqPend = true) :
    forceSequence k s = lockTick k (ringBoundary k (s.inc (F.RAIL_MCNT_FORCEDSEQ k.val))) := if_pos (by simp [he, hp])

/-- What a forced boundary leaves at which no ring change takes effect. -/
structure ForcedThrough (k : Fin 8) (s u : State) : Prop where
  counted : u.g (F.RAIL_MCNT_FORCEDSEQ k.val) = incHold (F.RAIL_MCNT_FORCEDSEQ k.val).w (s.g (F.RAIL_MCNT_FORCEDSEQ k.val))
  lockErr : u.g (F.RAIL_LOCKSTAT_LOCKERR k.val) = s.g (F.RAIL_LOCKSTAT_LOCKERR k.val)
  seqPend : (u.ra k).md.seqPend = false
  forcePend : (u.ra k).md.forcePend = false
  inFlight : (u.ra k).md.inFlight = (s.ra k).md.inFlight
  phase : u.phase = s.phase
  queue : u.queue = s.queue

theorem forceSequence_through {k : Fin 8} {s : State} (he : s.enabled k = true) (hp : (s.ra k).md.seqPend = true)
    (h : RingRests k s) (hr : (s.ra k).ink.rewrite = none) : ForcedThrough k s (forceSequence k s) := by
  have hcnt := mcnt_ne_mstat k.val
  have hstat := lockstat_ne_mstat k.val
  rw [forceSequence_falls he hp,
    ringBoundary_rests (s := s.inc (F.RAIL_MCNT_FORCEDSEQ k.val)) (h.congr (State.inc_img s _)) (by rw [ra_inc, hr])]
  constructor
  · rw [lockTick_g_addr k _ _ hcnt, seqDone_g_addr k _ _ hcnt, State.g_inc _ _ (show 24 + 8 ≤ 32 by decide)]
  · rw [lockTick_g_addr k _ _ hstat, seqDone_g_addr k _ _ hstat]
    exact State.g_p_addr s _ _ _ (lockstat_ne_mcnt k.val)
  · rw [lockTick_md k (·.seqPend) (fun _ => rfl) (fun _ _ => rfl), seqDone_md]
  · rw [lockTick_md k (·.forcePend) (fun _ => rfl) (fun _ _ => rfl), seqDone_md]
  · rw [lockTick_md k (·.inFlight) (fun _ => rfl) (fun _ _ => rfl), seqDone_md, ra_inc]
  · rw [(onsetFrame_phase k).lockTick_eq fun _ _ => rfl, seqDone_phase, State.inc_phase]
  · rw [(onsetFrame_queue k).lockTick_eq fun _ _ => rfl, seqDone_queue, State.inc_queue]

/-- Whether a rewrite is due is told by the rail, the roles, RCAUSE and the instant. -/
theorem rewriteDue_congr {k : Fin 8} {u s : State} (hra : u.ra k = s.ra k) (hrole : u.role = s.role) (hclock : u.clock = s.clock)
    (hg : ∀ n : Fin 48, u.g (F.PHASE_ROLE_RCAUSE n.val) = s.g (F.PHASE_ROLE_RCAUSE n.val)) : u.rewriteDue k = s.rewriteDue k := by
  unfold State.rewriteDue State.unmerged State.retiring State.atLeast State.rl
  simp only [hra, hrole, hclock, hg]

theorem rewriteDue_inc (k : Fin 8) (s : State) : (s.inc (F.RAIL_MCNT_FORCEDSEQ k.val)).rewriteDue k = s.rewriteDue k := by
  refine rewriteDue_congr (ra_inc s _ k) (State.inc_role s _) (clock_inc s _) fun n => State.g_p_addr s _ _ _ ?_
  show A.PHASE_ROLE n.val ≠ A.RAIL_MCNT k.val
  unfold A.PHASE_ROLE A.RAIL_MCNT
  omega

theorem forcedSequenceBoundary_free {k : Fin 8} {s : State} (h : (s.ra k).md.inFlight = []) :
    forcedSequenceBoundary k s = forceSequence k s := if_pos (by simp [h])

theorem forcedSequenceBoundary_waits {k : Fin 8} {s : State} (he : s.enabled k = true) (hp : (s.ra k).md.seqPend = true)
    (h : (s.ra k).md.inFlight ≠ []) : forcedSequenceBoundary k s = s.modMd k fun m => { m with forcePend := true } := by
  unfold forcedSequenceBoundary
  rw [if_neg (by simp [h]), if_pos (by simp [he, hp])]

theorem forcedSequenceBoundary_disabled {k : Fin 8} {s : State} (h : s.enabled k = false) : forcedSequenceBoundary k s = s := by
  unfold forcedSequenceBoundary forceSequence
  split <;> exact if_neg (by simp [h])

/-- The delivery of the last launch on its way, here a stale one, sets free the forced boundary that waited for it. -/
theorem launch_forces {k : Fin 8} {l : Launch} {s : State} (hi : (s.ra k).md.inFlight = [l])
    (hep : l.epoch ≠ (s.rl l.phase).epoch) (hf : (s.ra k).md.forcePend = true) :
    launch k s = forceSequence k (launchLost k ((takeLaunch k [] s).inc (F.PHASE_STALE_STALE l.phase.val))) := by
  have hd := deliver_stale (k := k) (l := l) (s := takeLaunch k [] s) hep
  have hmd : ((takeLaunch k [] s).ra k).md = { (s.ra k).md with inFlight := [] } := by
    unfold takeLaunch
    rw [modMd_md]
  unfold launch
  rw [hi]
  unfold takeLaunch at hd hmd ⊢
  dsimp only
  rw [hd]
  refine if_pos ?_
  unfold launchLost
  rw [ra_pb, ra_inc, hmd]
  simp [hf]

/-- The stale launch is lost and counted, and the boundary that waited for it falls. -/
theorem launch_through {k : Fin 8} {l : Launch} {s : State} (he : s.enabled k = true) (hp : (s.ra k).md.seqPend = true)
    (hi : (s.ra k).md.inFlight = [l]) (hep : l.epoch ≠ (s.rl l.phase).epoch) (hf : (s.ra k).md.forcePend = true)
    (h : RingRests k s) (hr : (s.ra k).ink.rewrite = none) :
    let u := launch k s
    u.g (F.RAIL_MCNT_FORCEDSEQ k.val) = incHold (F.RAIL_MCNT_FORCEDSEQ k.val).w (s.g (F.RAIL_MCNT_FORCEDSEQ k.val))
      ∧ (u.ra k).md.seqPend = false ∧ (u.ra k).md.forcePend = false ∧ (u.ra k).md.inFlight = [] := by
  have hstale : A.RAIL_MCNT k.val ≠ A.PHASE_STALE l.phase.val := by unfold A.RAIL_MCNT A.PHASE_STALE; omega
  intro u
  have hu : u = forceSequence k _ := launch_forces hi hep hf
  obtain ⟨v, hv⟩ : ∃ v, v = launchLost k ((takeLaunch k [] s).inc (F.PHASE_STALE_STALE l.phase.val)) := ⟨_, rfl⟩
  have hra : v.ra k = (takeLaunch k [] s).ra k := by
    rw [hv, launchLost, ra_pb, ra_inc]
  have hmd : (v.ra k).md = { (s.ra k).md with inFlight := [] } := by
    rw [hra]
    unfold takeLaunch
    rw [modMd_md]
  have hink : (v.ra k).ink = (s.ra k).ink := by
    rw [hra]
    unfold takeLaunch
    rw [modMd_ink]
  have hen : v.enabled k = true := by
    rw [hv, launchLost, enabled_pb, enabled_inc, takeLaunch_enabled, he]
  have himg : v.img = s.img := by
    rw [hv, launchLost, State.pb_img, State.inc_img, takeLaunch_img]
  have hg : v.g (F.RAIL_MCNT_FORCEDSEQ k.val) = s.g (F.RAIL_MCNT_FORCEDSEQ k.val) := by
    rw [hv, launchLost, g_pb_of_apart _ _ (show 13 + 1 ≤ 32 by decide) (.inl (mcnt_ne_mstat k.val)), State.inc,
      State.g_p_addr _ (F.PHASE_STALE_STALE l.phase.val) (F.RAIL_MCNT_FORCEDSEQ k.val) _ hstale, takeLaunch_g]
  have hth := forceSequence_through hen (by rw [hmd]; exact hp) (h.congr himg) (by rw [hink, hr])
  rw [hu, ← hv]
  exact ⟨by rw [hth.counted, hg], hth.seqPend, hth.forcePend, by rw [hth.inFlight, hmd]⟩

/-! ### Forecast windows (R127, R128) -/

theorem enterOnset_onset {k : Fin 8} {s : State} (h : s.effMode k = 1) : (enterOnset k s).onset k = true := by
  unfold enterOnset
  cases ho : s.onset k with
  | true => simpa [h] using ho
  | false =>
    rw [if_pos (by simp [h]), settleLock_onset, modMd_onset]
    refine (gb_p_of_apart _ _ (show 0 + 8 ≤ 32 by decide) (.inl (mcnt_ne_mstat k.val).symm)).trans ?_
    exact State.gb_pb _ _ true rfl (show 4 + 1 ≤ 32 by decide)

theorem enterOnset_fcarmed (k : Fin 8) (s : State) :
    (enterOnset k s).g (F.RAIL_MSTAT_FCARMED k.val) = s.g (F.RAIL_MSTAT_FCARMED k.val) := by
  unfold enterOnset
  split
  · rw [settleLock_g k _ _ (.inr (.inl (show 3 + 1 ≤ 6 by decide))) (.inr (.inl (show 3 + 1 ≤ 5 by decide))), State.modMd_g]
    refine (g_p_of_apart _ _ (show 0 + 8 ≤ 32 by decide) (.inl (mcnt_ne_mstat k.val).symm)).trans ?_
    exact g_pb_of_apart s _ (show 4 + 1 ≤ 32 by decide) (.inr (.inl (show 3 + 1 ≤ 4 by decide)))
  · rfl

/-- The forecast's window is marked open, and FCARMED is set. -/
def armWindow (k : Fin 8) (f : Forecast) (s : State) : State :=
  (s.modMd k fun m => { m with fc := some { f with windowOpen := true }, deExit := true }).pb (F.RAIL_MSTAT_FCARMED k.val) true

theorem forecastWindowOpen_opens {k : Fin 8} {s : State} {f : Forecast} (hf : (s.ra k).md.fc = some f) (hd : 0 < f.deltaI)
    (ho : f.windowOpen = false) (hc : f.closed = false) (he : s.effMode k = 1) :
    forecastWindowOpen k s = enterOnset k (armWindow k f s) := by
  unfold forecastWindowOpen
  rw [hf]
  exact if_pos (by simp [hd, ho, hc, he])

theorem forecastWindowOpen_none {k : Fin 8} {s : State} (h : (s.ra k).md.fc = none) : forecastWindowOpen k s = s := by
  unfold forecastWindowOpen
  rw [h]

theorem forecastWindowClose_none {k : Fin 8} {s : State} (h : (s.ra k).md.fc = none) : forecastWindowClose k s = s := by
  unfold forecastWindowClose
  rw [h]

theorem forecastWindowClose_closes {k : Fin 8} {s : State} {f : Forecast} (hf : (s.ra k).md.fc = some f) (ho : f.windowOpen = true) :
    forecastWindowClose k s = (s.modMd k fun m => { m with fc := some { f with windowOpen := false, closed := true } }).pb
      (F.RAIL_MSTAT_FCARMED k.val) false := by
  unfold forecastWindowClose
  rw [hf]
  exact if_pos ho

theorem windowOpen_of_fc {s : State} {k : Fin 8} {f : Forecast} (h : (s.ra k).md.fc = some f) : s.windowOpen k = f.windowOpen := by
  unfold State.windowOpen
  rw [h]

/-- An open window stands in onset mode, with FCARMED, and no phase has changed. -/
theorem forecastWindowOpen_leaves {k : Fin 8} {s : State} {f : Forecast} (hf : (s.ra k).md.fc = some f) (hd : 0 < f.deltaI)
    (ho : f.windowOpen = false) (hc : f.closed = false) (he : s.effMode k = 1) :
    let u := forecastWindowOpen k s
    u.gb (F.RAIL_MSTAT_FCARMED k.val) = true ∧ u.onset k = true ∧ u.windowOpen k = true ∧ u.phase = s.phase := by
  have harm : (armWindow k f s).effMode k = 1 := by
    refine Eq.trans ?_ he
    unfold armWindow State.effMode
    rw [g_pb_of_apart _ _ (show 3 + 1 ≤ 32 by decide) (.inr (.inl (show 0 + 2 ≤ 3 by decide))), State.modMd_g]
  have hfc : ((enterOnset k (armWindow k f s)).ra k).md.fc = some { f with windowOpen := true } := by
    refine ((onsetFrame_md k (·.fc) fun _ => rfl).enterOnset_eq _).trans ?_
    unfold armWindow
    rw [ra_pb, modMd_md]
  intro u
  have hu : u = enterOnset k (armWindow k f s) := forecastWindowOpen_opens hf hd ho hc he
  rw [hu]
  exact ⟨(congrArg (· != 0) (enterOnset_fcarmed k _)).trans (State.gb_pb _ _ true rfl (show 3 + 1 ≤ 32 by decide)),
    enterOnset_onset harm, windowOpen_of_fc hfc, (onsetFrame_phase k).enterOnset_eq _⟩

/-- A flag written beside a change of the modulator's state. -/
theorem onlyWords_flag (s : State) (k : Fin 8) (f : ModState → ModState) (e : Fld) (b : Bool) :
    OnlyWords { (s.modMd k f).pb e b with rail := s.rail } s [e.addr] :=
  (onlyWords_refl s _).p e (if b then 1 else 0) (List.mem_singleton.mpr rfl)

theorem forecastWindowClose_leaves {k : Fin 8} {s : State} {f : Forecast} (hf : (s.ra k).md.fc = some f) (ho : f.windowOpen = true) :
    let u := forecastWindowClose k s
    u.gb (F.RAIL_MSTAT_FCARMED k.val) = false ∧ u.windowOpen k = false
      ∧ OnlyWords { u with rail := s.rail } s [A.RAIL_MSTAT k.val] := by
  intro u
  have hu : u = _ := forecastWindowClose_closes hf ho
  have hfc : (u.ra k).md.fc = some { f with windowOpen := false, closed := true } := by
    rw [hu, ra_pb, modMd_md]
  refine ⟨?_, windowOpen_of_fc hfc, ?_⟩
  · rw [hu]
    exact State.gb_pb _ _ false rfl (show 3 + 1 ≤ 32 by decide)
  · rw [hu]
    exact onlyWords_flag s k _ (F.RAIL_MSTAT_FCARMED k.val) false

/-! ### The boundary's measurement, told of the state before it -/

section
variable (k : Fin 8) (s : State)

theorem seqDone_lockFrozen : (seqDone k s).lockFrozen k = s.lockFrozen k := by
  exact lockFrozen_congr (seqDone_g_addr k s _ (mctl_ne_mstat k.val)) (seqDone_g k s _ (.inr (.inl (show 4 + 1 ≤ 7 by decide))))
    (seqDone_g k s _ (.inr (.inl (show 2 + 1 ≤ 7 by decide)))) (seqDone_g k s _ (.inr (.inl (show 0 + 2 ≤ 7 by decide))))
    (by rw [seqDone_md])

theorem seqDone_lockErr : (seqDone k s).lockErr k = s.lockErr k := by
  unfold State.lockErr State.syncFine
  rw [seqDone_clock, seqDone_sync, seqDone_g_addr k s (F.RAIL_LOCKOFS_LOCKOFS k.val) (lockofs_ne_mstat k.val),
    seqDone_g_addr k s F.PE_SYNC_CTL_SYNCPER (syncCtl_ne_mstat k.val)]

theorem seqDone_nextTrimi : (seqDone k s).nextTrimi k = s.nextTrimi k := by
  unfold State.nextTrimi State.lockLim
  rw [seqDone_lockErr, seqDone_md, seqDone_g_addr k s (F.RAIL_LOCKCFG_FLKI k.val) (lockcfg_ne_mstat k.val),
    seqDone_g_addr k s (F.RAIL_LOCKCFG_LOCKLIM k.val) (lockcfg_ne_mstat k.val)]

theorem seqDone_nextTrim : (seqDone k s).nextTrim k = s.nextTrim k := by
  unfold State.nextTrim State.lockLim
  rw [seqDone_lockErr, seqDone_nextTrimi, seqDone_g_addr k s (F.RAIL_LOCKCFG_FLKP k.val) (lockcfg_ne_mstat k.val),
    seqDone_g_addr k s (F.RAIL_LOCKCFG_LOCKLIM k.val) (lockcfg_ne_mstat k.val)]

end

/-- What a sequence boundary with no ring change leaves: a lock measured, and the lock settled after it. -/
structure BoundaryMeasured (k : Fin 8) (s u : State) : Prop where
  err : u.gi (F.RAIL_LOCKSTAT_LOCKERR k.val) = clampInt (s.lockErr k) (-32767) 32767
  frozen : s.lockFrozen k = true → u.g (F.RAIL_LOCKSTAT_TRIM k.val) = s.g (F.RAIL_LOCKSTAT_TRIM k.val)
    ∧ (u.ra k).md.trimi = (s.ra k).md.trimi
  runs : s.lockFrozen k = false → (u.ra k).md.trimi = s.nextTrimi k ∧ u.g (F.RAIL_LOCKSTAT_TRIM k.val) = ofSigned 16 (s.nextTrim k)
  disabled : s.gb (F.RAIL_MCTL_LOCKEN k.val) = false → u.gb (F.RAIL_MSTAT_FLOCK k.val) = false
    ∧ u.gb (F.RAIL_MSTAT_LOCKFRZ k.val) = true
  phase : u.phase = s.phase
  queue : u.queue = s.queue

theorem sequenceBoundary_measured {k : Fin 8} {s : State} (he : s.enabled k = true) (hp : s.effMode k = 2 ∨ (s.ra k).md.pos = 0)
    (h : RingRests k s) (hr : (s.ra k).ink.rewrite = none) : BoundaryMeasured k s (sequenceBoundary k s) := by
  have hstat := lockstat_ne_mstat k.val
  have hm := lockMeasure_measured k (seqDone k s)
  have htrimi : ((lockTick k (lockMeasure k (seqDone k s))).ra k).md.trimi = ((lockMeasure k (seqDone k s)).ra k).md.trimi :=
    lockTick_md k (·.trimi) (fun _ => rfl) (fun _ _ => rfl) _
  rw [sequenceBoundary_rests he hp h hr]
  refine ⟨?_, fun hf => ?_, fun hf => ?_, fun hl => ?_, ?_, ?_⟩
  · rw [← seqDone_lockErr, ← hm.err]
    exact congrArg (toSigned 16) (lockTick_g_addr k _ _ hstat)
  · obtain ⟨ht, hi⟩ := hm.frozen ((seqDone_lockFrozen k s).trans hf)
    rw [htrimi, hi, lockTick_g_addr k _ _ hstat, ht, seqDone_g_addr k s _ hstat, seqDone_md]
    exact ⟨rfl, rfl⟩
  · obtain ⟨ht, hi⟩ := hm.runs ((seqDone_lockFrozen k s).trans hf)
    rw [htrimi, hi, lockTick_g_addr k _ _ hstat, ht, seqDone_nextTrimi, seqDone_nextTrim]
    exact ⟨rfl, rfl⟩
  · exact lockTick_disabled (by rw [hm.enabled, seqDone_enabled, he])
      (hm.mctl.trans ((congrArg (· != 0) (seqDone_g_addr k s (F.RAIL_MCTL_LOCKEN k.val) (mctl_ne_mstat k.val))).trans hl))
  · exact ((onsetFrame_phase k).lockTick_eq (fun _ _ => rfl) _).trans hm.phase
  · exact ((onsetFrame_queue k).lockTick_eq (fun _ _ => rfl) _).trans hm.queue

/-- The rewrite that is due takes effect at a forced boundary. -/
theorem forceSequence_rewrites {k : Fin 8} {s : State} {act : List (Fin 48)} (he : s.enabled k = true)
    (hp : (s.ra k).md.seqPend = true) (h : RingRests k s) (hr : (s.ra k).ink.rewrite = some act) (hd : s.rewriteDue k = true) :
    let u := forceSequence k s
    (u.ra k).ink.rewrite = none ∧ (u.ra k).md.seqPend = false ∧ (u.ra k).md.pos = 0 := by
  have hri : ((s.inc (F.RAIL_MCNT_FORCEDSEQ k.val)).ra k).ink.rewrite = some act := by rw [ra_inc, hr]
  have hw := applyRewrite_rewritten hri
  intro u
  have hu : u = lockTick k (seqDone k (applyRewrite k (s.inc (F.RAIL_MCNT_FORCEDSEQ k.val)))) := by
    rw [← ringBoundary_rewrites (h.congr (State.inc_img s _)) hri ((rewriteDue_inc k s).trans hd)]
    exact forceSequence_falls he hp
  rw [hu, lockTick_md k (·.seqPend) (fun _ => rfl) (fun _ _ => rfl), lockTick_md k (·.pos) (fun _ => rfl) (fun _ _ => rfl), seqDone_md]
  refine ⟨?_, rfl, hw.pos⟩
  rw [(onsetFrame_ink k).lockTick_eq (fun s f => modMd_ink s k _ k), seqDone_ink, hw.rewrite]

theorem RingRests.atTime {k : Fin 8} {s : State} (t : Time) (ha : s.isArmed 2 k.val = false)
    (hc : ∀ x ∈ s.img.cancelled, x.commit.group = 2 → x.commit.index ≠ k.val) : RingRests k (s.atTime t) :=
  RingRests.congr ⟨ha, hc⟩ (atTime_img s t)

@[simp] theorem atTime_lockFrozen (s : State) (t : Time) (k : Fin 8) : (s.atTime t).lockFrozen k = s.lockFrozen k :=
  lockFrozen_congr (atTime_g s t _) (atTime_g s t _) (atTime_g s t _) (atTime_g s t _) (by rw [atTime_ra])

/-- Settles O24: boundaries by what waits at them, the lock by one measurement, and windows by the forecast they belong to. -/
theorem sequenceAndForecastWindows : Obligations.SequenceAndForecastWindows := by
  unfold Obligations.SequenceAndForecastWindows
  refine ⟨fun s k t he hp ha hc hr => ⟨sequenceBoundary k (s.atTime t), rfl, ?_⟩, fun s k t he hp hi ha hc hr => ?_,
    fun s k act t he hp hi ha hc hr hd => ?_, fun s k t he hp hi => ?_, fun s k l t he hp hi hep hf ha hc hr => ?_,
    fun s k t he => ⟨?_, ?_⟩, fun s k f hf hd ho hc he => ⟨_, rfl, forecastWindowOpen_leaves hf hd ho hc he⟩,
    fun s k f hf ho => ⟨_, rfl, forecastWindowClose_leaves hf ho⟩,
    fun s k h => ⟨congrArg done (forecastWindowOpen_none h), congrArg done (forecastWindowClose_none h)⟩⟩
  · have hm := sequenceBoundary_measured (k := k) (s := s.atTime t) (by simpa) (by simpa) (.atTime t ha hc) (by simpa)
    beta_reduce
    extract_lets e lim ti
    have herr : (s.atTime t).lockErr k = e := by
      unfold State.lockErr State.syncFine
      rw [atTime_sync, atTime_g, atTime_g]
      rfl
    have hti : (s.atTime t).nextTrimi k = ti := by
      unfold State.nextTrimi State.lockLim
      rw [herr, atTime_ra, atTime_g, atTime_g]
    have htr : (s.atTime t).nextTrim k = clampInt (ti - asr e (s.g (F.RAIL_LOCKCFG_FLKP k.val))) (-lim) lim := by
      unfold State.nextTrim State.lockLim
      rw [hti, herr, atTime_g, atTime_g]
    refine ⟨herr ▸ hm.err, ?_, fun hl => hm.disabled (by simpa), hm.phase.trans (atTime_phase s t), hm.queue.trans (atTime_queue s t)⟩
    split
    · next hf =>
      obtain ⟨ht, hi⟩ := hm.frozen (by simpa)
      exact ⟨by rw [ht, atTime_g], by rw [hi, atTime_ra]⟩
    · next hf =>
      obtain ⟨hi, ht⟩ := hm.runs (by simpa using hf)
      exact ⟨hi.trans hti, by rw [ht, htr]⟩
  · have hth := forceSequence_through (k := k) (s := s.atTime t) (by simpa) (by simpa) (.atTime t ha hc) (by simpa)
    refine ⟨forcedSequenceBoundary k (s.atTime t), rfl, ?_⟩
    rw [forcedSequenceBoundary_free (by simpa)]
    exact ⟨by rw [hth.counted, atTime_g], hth.seqPend, by rw [hth.lockErr, atTime_g], by rw [hth.phase, atTime_phase],
      by rw [hth.queue, atTime_queue]⟩
  · refine ⟨forcedSequenceBoundary k (s.atTime t), rfl, ?_⟩
    rw [forcedSequenceBoundary_free (by simpa)]
    exact forceSequence_rewrites (act := act) (by simpa) (by simpa) (.atTime t ha hc) (by simpa) hd
  · exact congrArg done (forcedSequenceBoundary_waits (by simpa) (by simpa) (by simpa))
  · have hth := launch_through (k := k) (l := l) (s := s.atTime t) (by simpa) (by simpa) (by simpa) (by simpa) (by simpa)
      (.atTime t ha hc) (by simpa)
    obtain ⟨hcount, hseq, hforce, hin⟩ := hth
    exact ⟨launch k (s.atTime t), rfl, by rw [hcount, atTime_g], hseq, hforce, hin⟩
  · exact congrArg done (forcedSequenceBoundary_disabled (by simpa))
  · exact congrArg done (sequenceBoundary_disabled (by simpa))

end Sys2Proof.Machine
end

section
/-!
SUPPORT. The graph's state of a rail, what a report of the fault manager leaves beside registers, queues, Plates, the store and the
PMBus latches, and the retirement of a lane that serves no rail (R163, R289, R294).
-/

open Sys2Proof Sys2Proof.Machine
namespace Sys2Proof.Machine

/-! ### A change of the graph's state -/

@[simp] theorem modGr_gr (s : State) (k : Fin 8) (f : GraphState → GraphState) : ((s.modGr k f).ra k).gr = f (s.ra k).gr :=
  congrArg RailState.gr (State.modRa_same s k _)

theorem modGr_ra_ne (s : State) {j k : Fin 8} (f : GraphState → GraphState) (h : j ≠ k) : (s.modGr k f).ra j = s.ra j :=
  State.modRa_ne s k j _ h

@[simp] theorem modGr_gb (s : State) (k : Fin 8) (f : GraphState → GraphState) (e : Fld) : (s.modGr k f).gb e = s.gb e :=
  gb_of_regs (State.modGr_regs s k f) e

/-! ### Bits and counts -/

theorem bitAt_putBit_same (x i : Nat) : bitAt (putBit x i true) i = true := by
  unfold putBit bitIf
  rw [bitAt_eq_testBit, bitAt_eq_testBit]
  cases h : x.testBit i with
  | true =>
    rw [if_pos rfl, Nat.sub_add_cancel (Nat.ge_two_pow_of_testBit h), h]
  | false =>
    rw [if_neg (by decide), if_pos rfl, Nat.sub_zero, Nat.add_comm, Nat.testBit_two_pow_add_eq, h]
    rfl

theorem bitAt_mod {x i w : Nat} (h : i < w) : bitAt (x % 2 ^ w) i = bitAt x i := by
  rw [bitAt_eq_testBit, bitAt_eq_testBit, Nat.testBit_mod_two_pow]
  simp [h]

/-- A count of several in a field that holds at its maximum. -/
theorem State.g_incBy (s : State) (f : Fld) (n : Nat) (h : f.lo + f.w ≤ 32) :
    (s.incBy f n).g f = min (s.g f + n) (2 ^ f.w - 1) := by
  have hw : 0 < 2 ^ f.w := Nat.two_pow_pos f.w
  exact (State.g_p s f _ h).trans (Nat.mod_eq_of_lt (by omega))

/-- A fold over all indices of which one alone changes the state. -/
theorem forAll_single {n : Nat} (f : State → Fin n → State) (c : Fin n) (h : ∀ s x, x ≠ c → f s x = s) (s : State) :
    forAll f s = f s c := by
  obtain ⟨v, rfl, hf⟩ := forAll_at id f c h s
  exact hf

/-! ### Reports and retirements recorded -/

/-- A projection that sees nothing of a report: registers, Plates, queues, the store and the PMBus latches. -/
structure ReportFrame {β : Type} (π : State → β) : Prop where
  setWord : ∀ s a w, π (State.setWord s a w) = π s
  modPl : ∀ s p f, π (State.modPl s p f) = π s
  setQ : ∀ s q l, π (State.setQ s q l) = π s
  nv : ∀ (s : State) n, π { s with nv := n } = π s
  latches : ∀ (s : State) l, π { s with latches := l } = π s

theorem reportFrame_rail : ReportFrame (·.rail) := by constructor <;> intros <;> rfl
theorem reportFrame_phase : ReportFrame (·.phase) := by constructor <;> intros <;> rfl

section
variable {β : Type} {π : State → β} (h : ReportFrame π)
include h

theorem ReportFrame.routerEvent_eq (src : Nat) (s : State) : π (routerEvent src s) = π s :=
  routerEdge_keep π h.setWord h.modPl src true s

/-- A push into a queue that is no rail's. -/
theorem ReportFrame.qPush_eq {q : Fin 16} (hq : 8 ≤ q.val) (e : QEntry) (s : State) : π (qPush q e s) = π s := by
  have hm : ∀ s, markPushed q s = s := fun s => if_neg (by omega)
  unfold qPush
  split
  · unfold qAppend
    rw [hm]
    exact (h.routerEvent_eq _ _).trans (h.setQ s q _)
  · exact (h.setWord _ _ _).trans (h.setWord s _ _)

theorem ReportFrame.latchFid_eq (fid : Nat) (k : Option (Fin 8)) (s : State) : π (latchFid fid k s) = π s := by
  have hscope : ∀ k vo io inp tmp, π (latchScope k vo io inp tmp s) = π s := by
    intro k vo io inp tmp
    unfold latchScope
    split
    · exact h.latches s _
    · exact forAll_keep π _ (fun s j => h.latches s _) s
  unfold latchFid
  split
  case h_17 => rfl
  all_goals exact hscope _ _ _ _ _

theorem ReportFrame.report_eq (e : FmEvent) (c : Nat) (perm : Bool) (s : State) : π (report e c perm s) = π s := by
  have hpend : ∀ x : State, π (if x.g F.FM_CTL_FPMIN ≤ c then x.pb F.FM_STATUS_FPEND true else x) = π x := by
    intro x
    split
    · exact h.setWord x _ _
    · rfl
  have hstatus : ∀ x : State, π ((x.p F.FM_STATUS_LASTFID e.fid).p F.FM_STATUS_LASTCLS c) = π x :=
    fun x => (h.setWord _ _ _).trans (h.setWord x _ _)
  unfold report
  dsimp only
  rw [plateFault_keep π h.setWord h.modPl, h.routerEvent_eq, queueRecord_keep π h.setWord h.modPl h.nv, h.latchFid_eq]
  split
  · exact (h.setWord _ _ _).trans ((hpend _).trans ((hstatus _).trans (h.qPush_eq (by decide) _ s)))
  · exact (hpend _).trans ((hstatus _).trans (h.qPush_eq (by decide) _ s))

theorem ReportFrame.recordRetire_eq (t i cause : Nat) (s : State) : π (recordRetire t i cause s) = π s :=
  (q15Put_keep π h.setWord h.modPl h.nv _ _).trans (queueRecord_keep π h.setWord h.modPl h.nv _ _ _ s)

end

theorem recordRetire_g (t i cause : Nat) (s : State) (f : Fld) (hr : ¬ RouterWord f.addr) (hl : f.addr ≠ A.LG_INFO)
    (hq : f.addr ≠ A.Q_STAT 15) : (recordRetire t i cause s).g f = s.g f :=
  congrArg (getBits · _ _) ((q15Put_word _ _ _ hr).trans (queueRecord_word _ _ _ s _ hr hl hq))

/-! ### A lane retires (R163, R164) -/

theorem leStatus_not_report : ¬ ReportWord A.LE_STATUS := not_reportWord_of_lt (by decide) (by decide)

theorem report_laneRet (e : FmEvent) (c : Nat) (perm : Bool) (s : State) (m : Nat) (he : e.phase = none) :
    (report e c perm s).laneRet m = s.laneRet m :=
  congrArg (fun w => bitAt (getBits w _ _) m) (report_word e c perm s A.LE_STATUS he leStatus_not_report)

theorem laneBusy_congr {u s : State} (h : u.rail = s.rail) (m : Fin 5) : u.laneBusy m = s.laneBusy m := by
  unfold State.laneBusy State.halfFree State.ra
  rw [h]

/-- A lane that is not busy is no rail's home. -/
theorem home_ne_of_idle {s : State} {m : Fin 5} (h : s.laneBusy m = false) (k : Fin 8) (b : Bool) :
    (s.ra k).gr.home ≠ some (m, b) := by
  have hboth : s.halfFree m false = true ∧ s.halfFree m true = true := by simpa [State.laneBusy] using h
  have hfree : s.halfFree m b = true := by
    cases b
    · exact hboth.1
    · exact hboth.2
  unfold State.halfFree at hfree
  simpa using List.all_eq_true.mp hfree k (List.mem_finRange k)

/-- Lane m is marked retired, and its retirement is recorded. -/
def markLaneRetired (m fid : Nat) (s : State) : State :=
  recordRetire 4 m fid (s.p F.LE_STATUS_RETIRED (putBit (s.g F.LE_STATUS_RETIRED) m true))

theorem markLaneRetired_laneRet (m : Fin 5) (fid : Nat) (s : State) : (markLaneRetired m.val fid s).laneRet m.val = true := by
  have hg : (markLaneRetired m.val fid s).g F.LE_STATUS_RETIRED = putBit (s.g F.LE_STATUS_RETIRED) m.val true % 2 ^ 5 :=
    (recordRetire_g _ _ _ _ F.LE_STATUS_RETIRED (not_routerWord_of_lt (by decide)) (by decide) (by decide)).trans
      (State.g_p s F.LE_STATUS_RETIRED _ (by decide))
  unfold State.laneRet
  rw [hg, bitAt_mod m.isLt, bitAt_putBit_same]

theorem markLaneRetired_lastfid (m fid : Nat) (s : State) :
    (markLaneRetired m fid s).g F.FM_STATUS_LASTFID = s.g F.FM_STATUS_LASTFID :=
  (recordRetire_g _ _ _ _ F.FM_STATUS_LASTFID fmStatus_not_router (by decide) (by decide)).trans
    (State.g_p_addr s _ _ _ (by decide))

theorem ReportFrame.markLaneRetired_eq {β : Type} {π : State → β} (h : ReportFrame π) (m fid : Nat) (s : State) :
    π (markLaneRetired m fid s) = π s := (h.recordRetire_eq _ _ _ _).trans (h.setWord s _ _)

/-- No rail moves from a lane that serves none. -/
theorem retireLane_idle {m : Fin 5} {s : State} (h : s.laneBusy m = false) (fid : Nat) :
    retireLane m.val fid s = (markLaneRetired m.val fid s, []) := by
  unfold retireLane
  extract_lets rails s1
  have hrails : rails = [] := by
    refine List.filter_eq_nil_iff.mpr fun k _ => ?_
    cases hh : (s.ra k).gr.home with
    | none => simp
    | some x =>
      have hne : x.1 ≠ m := fun e => home_ne_of_idle h k x.2 (by rw [hh, ← e])
      simpa using fun e => hne (Fin.ext e)
  rw [hrails]
  split <;> rfl

/-- A permanent fault of a lane in service, of a class that only reports, retires the lane (R163, R277, R289). -/
theorem raise_lanePermanent {m : Fin 5} {s : State} (hr : s.laneRet m.val = false) (hc : s.classOf 0x16 none < 4) :
    ∃ c, raise (chanEvent 0x16 4 m.val false true) s
      = updateDev (retireChannel (chanEvent 0x16 4 m.val false true) (report (chanEvent 0x16 4 m.val false true) c true s)) := by
  refine ⟨(respond (chanEvent 0x16 4 m.val false true) (s.classOf 0x16 none) s).2, ?_⟩
  have hresp := respond_reportOnly (chanEvent 0x16 4 m.val false true) (s.classOf 0x16 none) s rfl rfl hc
  have hret : s.chanRetired 4 m.val = false := hr
  unfold raise
  simp only [chanEvent, Bool.false_eq_true, if_false, hret, Bool.not_false, Bool.true_and, Bool.true_or, if_true,
    Option.getD_none] at hresp ⊢
  rw [hresp]

theorem chanRetired_lane (s : State) (m : Nat) : s.chanRetired 4 m = s.laneRet m := rfl

/-- In service, a lane named by a permanent fault retires; the rails left without a half-frame are answered (R164, R165). -/
theorem retireChannel_lane {fid m : Nat} {strike perm : Bool} {s : State} (h : s.laneRet m = false) :
    retireChannel (chanEvent fid 4 m strike perm) s
      = forEach (fun s k => raiseNoLane k s) (retireLane m fid s).2 (retireLane m fid s).1 := by
  unfold retireChannel
  simp [chanEvent, chanRetired_lane, h]

/-- What the retirement of a lane that serves no rail leaves. -/
structure IdleLaneRetired (m : Fin 5) (s u : State) : Prop where
  retired : u.laneRet m.val = true
  lastfid : u.g F.FM_STATUS_LASTFID = 0x16
  rail : u.rail = s.rail
  phase : u.phase = s.phase

theorem retireChannel_idleLane {m : Fin 5} {s v : State} {strike perm : Bool} (hret : v.laneRet m.val = false)
    (hbusy : s.laneBusy m = false) (hrail : v.rail = s.rail) (hphase : v.phase = s.phase) (hfid : v.g F.FM_STATUS_LASTFID = 0x16) :
    IdleLaneRetired m s (updateDev (retireChannel (chanEvent 0x16 4 m.val strike perm) v)) := by
  have hmark : retireChannel (chanEvent 0x16 4 m.val strike perm) v = markLaneRetired m.val 0x16 v := by
    rw [retireChannel_lane hret, retireLane_idle ((laneBusy_congr hrail m).trans hbusy)]
    rfl
  rw [hmark]
  exact ⟨(updateDev_keep (·.laneRet m.val) (fun _ _ _ => rfl) _).trans (markLaneRetired_laneRet m 0x16 v),
    (updateDev_fmStatus _).trans ((markLaneRetired_lastfid m.val 0x16 v).trans hfid),
    (updateDev_keep (·.rail) (fun _ _ _ => rfl) _).trans ((reportFrame_rail.markLaneRetired_eq _ _ v).trans hrail),
    (updateDev_keep (·.phase) (fun _ _ _ => rfl) _).trans ((reportFrame_phase.markLaneRetired_eq _ _ v).trans hphase)⟩

theorem raise_idleLane {m : Fin 5} {s : State} (hr : s.laneRet m.val = false) (hb : s.laneBusy m = false)
    (hc : s.classOf 0x16 none < 4) : IdleLaneRetired m s (raise (chanEvent 0x16 4 m.val false true) s) := by
  obtain ⟨c, hraise⟩ := raise_lanePermanent hr hc
  rw [hraise]
  exact retireChannel_idleLane ((report_laneRet _ c true s m.val rfl).trans hr) hb (reportFrame_rail.report_eq _ c true s)
    (reportFrame_phase.report_eq _ c true s) (report_lastfid _ c true s)

end Sys2Proof.Machine
end

section
/-!
PROOFS. The statements of 06_loop_engine.md (R156-R164): lane tests, moves, the scrub of the graph store, the end of COAST, and
where a coasting rail's missing marker leaves the output register.
-/

open Sys2Proof Sys2Proof.Machine
namespace Sys2Proof.Machine

/-! ### Self-tests (R163) -/

theorem laneSelfTest_passed {m : Fin 5} {s : State} (h : s.core = true) (hr : s.laneRet m.val = false)
    (hb : s.laneBusy m = false) : laneSelfTest m true s = s.pb (F.LANE_STATUS_TESTOK m.val) true := by
  simp [laneSelfTest, h, hr, hb]

theorem laneSelfTest_raises {m : Fin 5} {s : State} (h : s.core = true) (hr : s.laneRet m.val = false)
    (hb : s.laneBusy m = false) : laneSelfTest m false s
      = raise (chanEvent 0x16 4 m.val false true) (s.pb (F.LANE_STATUS_TESTOK m.val) false) := by
  simp [laneSelfTest, h, hr, hb]

theorem laneSelfTest_retired {m : Fin 5} {s : State} (h : s.laneRet m.val = true) (ok : Bool) : laneSelfTest m ok s = s :=
  if_neg (by simp [h])

theorem laneSelfTest_failed {m : Fin 5} {s : State} (h : s.core = true) (hr : s.laneRet m.val = false)
    (hb : s.laneBusy m = false) (hc : s.classOf 0x16 none < 4) : IdleLaneRetired m s (laneSelfTest m false s) := by
  have hne : ∀ a, a < 0x108100 ∨ 0x108150 ≤ a → a ≠ A.LANE_STATUS m.val := by
    intro a ha
    unfold A.LANE_STATUS
    omega
  have hret : (s.pb (F.LANE_STATUS_TESTOK m.val) false).laneRet m.val = false :=
    (congrArg (bitAt · m.val) (State.g_p_addr s _ F.LE_STATUS_RETIRED _ (hne _ (by decide)))).trans hr
  have hcls : (s.pb (F.LANE_STATUS_TESTOK m.val) false).classOf 0x16 none = s.classOf 0x16 none :=
    congrArg (getBits · _ _) (State.word_p_ne s _ _ _ (hne _ (by decide)))
  rw [laneSelfTest_raises h hr hb]
  obtain ⟨hretired, hfid, hrail, hphase⟩ := raise_idleLane hret (hb : (s.pb _ _).laneBusy m = false) (hcls ▸ hc)
  exact ⟨hretired, hfid, hrail, hphase⟩

/-! ### Lane moves (R164) -/

/-- The programs of rail k are copied if it is on its way to lane m. -/
def copyProgram (m : Fin 5) (s : State) (k : Fin 8) : State :=
  match (s.ra k).gr.moveTo with
  | some t => if t.1 = m then s.modGr k fun g => { g with copied := true } else s
  | none => s

theorem laneMoveCopyDone_eq (m : Fin 5) (s : State) : laneMoveCopyDone m s = forAll (copyProgram m) s := rfl

theorem copyProgram_bound {m : Fin 5} {s : State} {k : Fin 8} (h : ∃ b, (s.ra k).gr.moveTo = some (m, b)) :
    copyProgram m s k = s.modGr k fun g => { g with copied := true } := by
  obtain ⟨b, hb⟩ := h
  unfold copyProgram
  rw [hb]
  exact if_pos rfl

theorem copyProgram_else {m : Fin 5} {s : State} {k : Fin 8} (h : ¬ ∃ b, (s.ra k).gr.moveTo = some (m, b)) :
    copyProgram m s k = s := by
  unfold copyProgram
  split
  · next t ht => exact if_neg fun e => h ⟨t.2, by rw [ht, ← e]⟩
  · rfl

theorem copyProgram_ne (m : Fin 5) (s : State) {j k : Fin 8} (h : j ≠ k) : (copyProgram m s j).ra k = s.ra k := by
  by_cases hb : ∃ b, (s.ra j).gr.moveTo = some (m, b)
  · rw [copyProgram_bound hb, modGr_ra_ne _ _ h.symm]
  · rw [copyProgram_else hb]

theorem copyProgram_beside (m : Fin 5) (r : Vector RailState 8) (s : State) (k : Fin 8) :
    ({ copyProgram m s k with rail := r } : State) = { s with rail := r } := by
  by_cases hb : ∃ b, (s.ra k).gr.moveTo = some (m, b)
  · rw [copyProgram_bound hb]
    rfl
  · rw [copyProgram_else hb]

/-- States that are equal once they hold the same rails differ in their rails alone. -/
theorem eq_of_beside {u s : State} (h : ∀ r, ({ u with rail := r } : State) = { s with rail := r }) :
    u = { s with rail := u.rail } := h u.rail

theorem laneMoveCopyDone_beside (m : Fin 5) (s : State) :
    laneMoveCopyDone m s = { s with rail := (laneMoveCopyDone m s).rail } := by
  refine eq_of_beside fun r => ?_
  rw [laneMoveCopyDone_eq]
  exact forAll_keep (fun u : State => { u with rail := r }) (copyProgram m) (copyProgram_beside m r) s

theorem laneMoveCopyDone_ra (m : Fin 5) (s : State) (k : Fin 8) :
    ((∃ b, (s.ra k).gr.moveTo = some (m, b)) →
      (laneMoveCopyDone m s).ra k = { s.ra k with gr := { (s.ra k).gr with copied := true } })
    ∧ ((¬ ∃ b, (s.ra k).gr.moveTo = some (m, b)) → (laneMoveCopyDone m s).ra k = s.ra k) := by
  obtain ⟨v, hv, hall⟩ := forAll_at (·.ra k) (copyProgram m) k (fun s j h => copyProgram_ne m s h) s
  rw [laneMoveCopyDone_eq, hall]
  rw [← hv]
  exact ⟨fun h => by rw [copyProgram_bound h]; exact State.modRa_same v k _, fun h => by rw [copyProgram_else h]⟩

/-! ### The scrub of the graph store (R161, R162) -/

theorem graphStoreScrub_runs {s : State} (h : s.core = true) (n : BitVec 16) (lost : Vector Nat 8) :
    graphStoreScrub n lost s = forAll (n := 8) (fun s k => if vget lost k = 0 then s
      else raiseRail 0x0E k (s.incBy F.LE_STORE_LOST (vget lost k))) (s.incBy F.LE_STORE_CORR n.toNat) := if_pos h

theorem graphStoreScrub_clean {s : State} (h : s.core = true) (n : BitVec 16) :
    graphStoreScrub n (.replicate 8 0) s = s.incBy F.LE_STORE_CORR n.toNat :=
  (graphStoreScrub_runs h n _).trans (forEach_id _ _ _ fun k _ => if_pos (vget_replicate 0 k))

theorem graphStoreScrub_lost {s : State} (h : s.core = true) (n : BitVec 16) (k : Fin 8) {l : Nat} (hl : l ≠ 0) :
    graphStoreScrub n ((Vector.replicate 8 0).set k.val l) s
      = raiseRail 0x0E k ((s.incBy F.LE_STORE_CORR n.toNat).incBy F.LE_STORE_LOST l) := by
  have hk : vget ((Vector.replicate 8 0).set k.val l) k = l := vget_vset_same _ k l
  have hj : ∀ j, j ≠ k → vget ((Vector.replicate 8 0).set k.val l) j = 0 :=
    fun j h => (vget_vset_ne _ l h).trans (vget_replicate 0 j)
  rw [graphStoreScrub_runs h, forAll_single _ k fun s j hne => if_pos (hj j hne), if_neg (by rwa [hk]), hk]

/-! ### The end of COAST (R157) -/

theorem coastExpiry_runs {s : State} {k : Fin 8} (he : s.enabled k = true) (hc : s.gb (F.GRAPH_STATUS_COASTING k.val) = true) :
    coastExpiry k s = coastExpire k s := if_pos (by simp [he, hc])

theorem coastExpiry_idle {s : State} {k : Fin 8} (hc : s.gb (F.GRAPH_STATUS_COASTING k.val) = false) : coastExpiry k s = s :=
  if_neg (by simp [hc])

/-- The flags that the expiry of rail k's COAST writes. -/
def coastFlags (k : Fin 8) (s : State) : State :=
  ((s.pb (F.GRAPH_CTL_COAST k.val) false).pb (F.GRAPH_STATUS_COASTEXP k.val) true).pb (F.GRAPH_STATUS_COASTING k.val) false

theorem coastExpire_eq (k : Fin 8) (s : State) :
    coastExpire k s = (coastFlags k s).modGr k fun g => { g with mark := true } := rfl

theorem coastFlags_rail (k : Fin 8) (s : State) : (coastFlags k s).rail = s.rail := by
  unfold coastFlags
  rw [State.pb_rail, State.pb_rail, State.pb_rail]

theorem coastFlags_onlyWords (k : Fin 8) (s : State) :
    OnlyWords (coastFlags k s) s [A.GRAPH_CTL k.val, A.GRAPH_STATUS k.val] :=
  (((onlyWords_refl s _).p (F.GRAPH_CTL_COAST k.val) 0 List.mem_cons_self).p (F.GRAPH_STATUS_COASTEXP k.val) 1
    (List.mem_cons_of_mem _ List.mem_cons_self)).p (F.GRAPH_STATUS_COASTING k.val) 0 (List.mem_cons_of_mem _ List.mem_cons_self)

theorem coastFlags_gb (k : Fin 8) (s : State) : (coastFlags k s).gb (F.GRAPH_CTL_COAST k.val) = false
    ∧ (coastFlags k s).gb (F.GRAPH_STATUS_COASTING k.val) = false ∧ (coastFlags k s).gb (F.GRAPH_STATUS_COASTEXP k.val) = true := by
  have hne : A.GRAPH_CTL k.val ≠ A.GRAPH_STATUS k.val := by
    unfold A.GRAPH_CTL A.GRAPH_STATUS
    omega
  refine ⟨?_, State.gb_pb _ _ false rfl (show 24 + 1 ≤ 32 by decide), ?_⟩
  · exact (gb_p_of_apart _ _ (show 24 + 1 ≤ 32 by decide) (.inl hne)).trans
      ((gb_p_of_apart _ _ (show 16 + 1 ≤ 32 by decide) (.inl hne)).trans (State.gb_pb s _ false rfl (show 0 + 1 ≤ 32 by decide)))
  · exact (gb_p_of_apart _ _ (show 24 + 1 ≤ 32 by decide) (.inr (.inl (show 16 + 1 ≤ 24 by decide)))).trans
      (State.gb_pb _ _ true rfl (show 16 + 1 ≤ 32 by decide))

/-- A change of a rail leaves what is seen of the words. -/
theorem onlyWords_modGr {u s : State} {l : List Nat} (h : OnlyWords u s l) (k : Fin 8) (f : GraphState → GraphState) :
    OnlyWords { u.modGr k f with rail := s.rail } s l := by
  obtain ⟨hu, hw⟩ := h
  exact ⟨congrArg (fun x : State => { x with rail := s.rail }) hu, hw⟩

/-- What the expiry of rail k's COAST leaves. -/
structure CoastExpired (k : Fin 8) (s u : State) : Prop where
  coast : u.gb (F.GRAPH_CTL_COAST k.val) = false
  coasting : u.gb (F.GRAPH_STATUS_COASTING k.val) = false
  coastexp : u.gb (F.GRAPH_STATUS_COASTEXP k.val) = true
  mark : (u.ra k).gr.mark = true
  others : ∀ j, j ≠ k → u.ra j = s.ra j
  words : OnlyWords { u with rail := s.rail } s [A.GRAPH_CTL k.val, A.GRAPH_STATUS k.val]

theorem coastExpire_leaves (k : Fin 8) (s : State) : CoastExpired k s (coastExpire k s) := by
  obtain ⟨hcoast, hcoasting, hexp⟩ := coastFlags_gb k s
  rw [coastExpire_eq]
  exact ⟨(modGr_gb _ k _ _).trans hcoast, (modGr_gb _ k _ _).trans hcoasting, (modGr_gb _ k _ _).trans hexp,
    congrArg GraphState.mark (modGr_gr _ k _),
    fun j h => (modGr_ra_ne _ _ h).trans (congrArg (vget · j) (coastFlags_rail k s)), onlyWords_modGr (coastFlags_onlyWords k s) k _⟩

/-- Settles O32: a self test by what a permanent fault of an idle lane does, the copy rail by rail, a scrub by the rails that lost
words, and COAST's expiry by the flags it writes. -/
theorem laneTestsAndMoves : Obligations.LaneTestsAndMoves := by
  unfold Obligations.LaneTestsAndMoves
  refine ⟨fun s m h hr hb => ?_, fun s m h hr hb hc => ?_, fun s m ok hr => ?_, fun s m => ?_, fun s n h => ?_,
    fun s n k l h hl => ?_, fun s k he hc => ?_, fun s k hc => ?_⟩
  · refine ⟨laneSelfTest m true s, rfl, ?_⟩
    rw [laneSelfTest_passed h hr hb]
    exact ⟨State.gb_pb s _ true rfl (show 0 + 1 ≤ 32 by decide),
      (onlyWords_refl s _).p (F.LANE_STATUS_TESTOK m.val) 1 (List.mem_singleton.mpr rfl)⟩
  · obtain ⟨hretired, hfid, hrail, hphase⟩ := laneSelfTest_failed h hr hb hc
    exact ⟨laneSelfTest m false s, rfl, hretired, hfid, hrail, hphase⟩
  · exact congrArg done (laneSelfTest_retired hr ok)
  · refine ⟨laneMoveCopyDone m s, rfl, laneMoveCopyDone_beside m s, fun k => ?_⟩
    obtain ⟨hbound, helse⟩ := laneMoveCopyDone_ra m s k
    split
    · exact hbound ‹_›
    · exact helse ‹_›
  · refine ⟨graphStoreScrub n (.replicate 8 0) s, rfl, ?_⟩
    rw [graphStoreScrub_clean h]
    exact ⟨State.g_incBy s F.LE_STORE_CORR _ (by decide), State.g_p_apart s _ _ _ (by decide) (by decide),
      (onlyWords_refl s _).p F.LE_STORE_CORR _ (List.mem_singleton.mpr rfl)⟩
  · exact ⟨_, rfl, by rw [graphStoreScrub_lost h n k hl]; exact raiseRail_lastfid 0x0E k _⟩
  · obtain ⟨hcoast, hcoasting, hexp, hmark, hothers, hwords⟩ := coastExpire_leaves k s
    exact ⟨coastExpire k s, congrArg done (coastExpiry_runs he hc), hcoast, hcoasting, hexp, hmark, hothers, hwords⟩
  · exact congrArg done (coastExpiry_idle hc)

/-! ### The slot of a coasting rail without its end-of-work marker -/

/-- RUN with rail 0 in ON and coasting on lane 0, every lane in service; its graph's output register holds 1, and YOUT, the value last
loaded, is 0. -/
def loadedApart : State :=
  let s := { State.reset with dev := .run }.modTr 0 fun t => { t with st := .on }
  (s.modGr 0 fun g => { g with y := 1, place := some (0, false) }).pb (F.GRAPH_STATUS_COASTING 0) true

/-- The conditions of the ninth clause of O31. -/
theorem loadedApart_meets : loadedApart.coastLane 0 = some 0 ∧ (loadedApart.ra 0).gr.place = some (0, false)
    ∧ (loadedApart.ra 0).gr.moveTo = none ∧ loadedApart.laneRet (0 : Fin 5).val = false ∧ loadedApart.spareLane = some 1
    ∧ loadedApart.classOf 0x16 none < 4 := by
  decide +kernel

/-- The lane's retirement sends the rail to the spare, with the output held at YOUT. -/
theorem loadedApart_held : ((laneSlot 0 .noMarker loadedApart).ra 0).gr.y = 0 ∧ (loadedApart.ra 0).gr.y = 1 := by
  decide +kernel

/-- Refutes O31: its ninth clause keeps the output register y of a coasting rail whose lane retires, while the move that follows
holds the rail's output at its YOUT (R164 step 2) and so sets y to it. It rests on an output register that differs from YOUT while
the rail coasts, which the loads of a window do not leave (R156). -/
theorem not_laneSlotsCompute : ¬ Obligations.LaneSlotsCompute := by
  unfold Obligations.LaneSlotsCompute
  rintro ⟨-, -, -, -, -, -, -, -, hmarker, -⟩
  obtain ⟨hlane, hplace, hmove, hret, hspare, hcls⟩ := loadedApart_meets
  obtain ⟨hheld, hout⟩ := loadedApart_held
  obtain ⟨u, ⟨-, -, hkeeps, -⟩, hrail⟩ := completes_rail (v := laneSlot 0 .noMarker loadedApart) rfl
    (hmarker loadedApart 0 0 1 false hlane hplace hmove hret hspare hcls)
  have hra : u.ra 0 = (laneSlot 0 .noMarker loadedApart).ra 0 := congrArg (vget · 0) hrail
  rw [hra, hheld, hout] at hkeeps
  exact absurd hkeeps (by decide)

end Sys2Proof.Machine
end

section
/-!
SUPPORT. The episodes of a rail's overvoltage and undervoltage counts (R285, R286): a fault that reaches the fault manager with
no channel of its own changes phases, roles, rings and the states of rails, and leaves which rails have declared in the present
episode.
-/

open Sys2Proof Sys2Proof.Machine
namespace Sys2Proof.Machine

/-! ### What leaves the rails alone -/

section
variable (s : State)

@[simp] theorem forEach_rail {α : Type} (f : State → α → State) (l : List α) (h : ∀ s x, (f s x).rail = s.rail) :
    (forEach f l s).rail = s.rail := forEach_keep (·.rail) f h l s

@[simp] theorem routerEdge_rail (src : Nat) (r : Bool) : (routerEdge src r s).rail = s.rail :=
  routerEdge_keep (·.rail) (fun _ _ _ => rfl) (fun _ _ _ => rfl) src r s

@[simp] theorem routerEvent_rail (src : Nat) : (routerEvent src s).rail = s.rail := routerEdge_rail s src true

@[simp] theorem phOff_rail (n : Fin 48) : (phOff n s).rail = s.rail := (switchFrame_rail n).phOff_eq s

@[simp] theorem phLow_rail (n : Fin 48) : (phLow n s).rail = s.rail := (switchFrame_rail n).phLow_eq s

@[simp] theorem unlatchPhase_rail (n : Fin 48) : (unlatchPhase n s).rail = s.rail :=
  noting_keep (·.rail) (fun _ _ _ => rfl) n _ s

@[simp] theorem releaseSameCycle_rail (n : Fin 48) : (releaseSameCycle n s).rail = s.rail := by
  unfold releaseSameCycle
  split
  · split <;> simp
  · rfl

@[simp] theorem startPhase_rail (n : Fin 48) : (startPhase n s).rail = s.rail := by
  rw [startPhase, State.modPh_rail, phOff_rail, State.pb_rail]

@[simp] theorem stopPhase_rail (hard : Bool) (n : Fin 48) : (stopPhase hard n s).rail = s.rail := by
  unfold stopPhase
  dsimp only
  split <;> simp

@[simp] theorem ffRing_rail (k : Fin 8) : (ffRing k s).rail = s.rail := by
  refine forEach_keep (·.rail) (fun s (x : Fin 48 × Nat) => ffPhase k x.2 x.1 s) (fun s x => ?_) _ s
  unfold ffPhase
  split
  · rfl
  · split <;> rfl

@[simp] theorem updateSmods_rail : (updateSmods s).rail = s.rail :=
  updateSmods_keep (·.rail) (fun _ _ _ => rfl) (fun _ _ => rfl) s

@[simp] theorem updateDev_rail : (updateDev s).rail = s.rail := updateDev_keep (·.rail) (fun _ _ _ => rfl) s

@[simp] theorem queueRecord_rail (r : LedgerRec) (pin res : Bool) : (queueRecord r pin res s).rail = s.rail :=
  queueRecord_keep (·.rail) (fun _ _ _ => rfl) (fun _ _ _ => rfl) (fun _ _ => rfl) r pin res s

@[simp] theorem report_rail (e : FmEvent) (c : Nat) (perm : Bool) : (report e c perm s).rail = s.rail :=
  reportFrame_rail.report_eq e c perm s

@[simp] theorem commitFields_rail (c : Com) (a : Nat) (w : Word) : (commitFields c a w s).rail = s.rail := by
  unfold commitFields
  split
  · exact forEach_keep (·.rail) _ (fun s _ => State.p_rail s _ _) _ s
  · rfl

@[simp] theorem transferOwn_rail (n : Fin 48) : (transferOwn n s).rail = s.rail :=
  forEach_keep (·.rail) (fun s (x : Nat × Word) => commitFields .boundary x.1 x.2 s)
    (fun s x => commitFields_rail s .boundary x.1 x.2) _ s

@[simp] theorem discardStaging_rail (keep : Bool) : (discardStaging keep s).rail = s.rail := by
  unfold discardStaging
  dsimp only
  split <;> rfl

@[simp] theorem deviceCause_rail (b : Nat) : (deviceCause b s).rail = s.rail := by
  refine forEach_keep (·.rail) _ (fun s x => ?_) _ s
  split <;> rfl

@[simp] theorem railCause_rail (lo : Nat) (k : Fin 8) : (railCause lo k s).rail = s.rail := by
  refine forEach_keep (·.rail) _ (fun s x => ?_) _ s
  split
  · exact forEach_keep (·.rail) (fun s sl => setSlotCause x.1 x.2 lo sl s) (fun s _ => State.setWord_rail s _ _) _ s
  · rfl

@[simp] theorem entryArrived_rail (tag : BitVec 16) (k : Fin 8) : (entryArrived tag k s).rail = s.rail := by
  unfold entryArrived
  split
  · rfl
  · split
    · split <;> rfl
    · rfl

@[simp] theorem entryRevoked_rail (tag : BitVec 16) (k : Fin 8) : (entryRevoked tag k s).rail = s.rail := by
  unfold entryRevoked
  split
  · rfl
  · split
    · split <;> rfl
    · rfl

@[simp] theorem updateTail_rail (k : Fin 8) : (updateTail k s).rail = s.rail := rfl

@[simp] theorem updateRateLim_rail (k : Fin 8) : (updateRateLim k s).rail = s.rail := rfl

@[simp] theorem writeRing_rail (k : Fin 8) (l : List (Fin 48)) : (writeRing k l s).rail = s.rail :=
  (updateRateLim_rail _ k).trans ((State.p_rail _ _ _).trans (forEach_keep (·.rail) _ (fun s _ => State.setWord_rail s _ _) _ s))

/-- A push into a queue that is no rail's. -/
theorem qAppend_rail {q : Fin 16} (h : 8 ≤ q.val) (e : QEntry) : (qAppend q e s).rail = s.rail := by
  have hmark : ∀ s, markPushed q s = s := fun s => if_neg (by omega)
  unfold qAppend
  rw [hmark, routerEvent_rail, State.setQ_rail]

@[simp] theorem supPush_rail (a : Nat) (w : Word) : (supPush a w s).rail = s.rail := qAppend_rail s (by decide) _

@[simp] theorem inkMessage_rail (kind : Nat) (n : Option (Fin 48)) (rail before after val : Nat) :
    (inkMessage kind n rail before after val s).rail = s.rail := by
  unfold inkMessage
  extract_lets ep ph e s1
  have h1 : s1.rail = s.rail := by
    unfold s1
    split
    · exact qAppend_rail s (by decide) e
    · rw [State.inc_rail, qDrop, State.pb_rail, State.inc_rail]
  split
  · exact (queueRecord_rail _ _ _ _).trans h1
  · exact h1

@[simp] theorem changeRole_rail (n : Fin 48) (r : Role) (val : Nat) : (changeRole n r val s).rail = s.rail := by
  unfold changeRole
  dsimp only
  split
  · rfl
  · rw [inkMessage_rail, State.modRl_rail]

@[simp] theorem releaseHold_rail (n : Fin 48) : (releaseHold n s).rail = s.rail := by
  unfold releaseHold
  split <;> simp

@[simp] theorem promote_rail (k : Fin 8) (n m : Fin 48) (r : Role) : (promote k n m r s).rail = s.rail := by
  rw [promote, State.inc_rail, State.p_rail, changeRole_rail]

@[simp] theorem rewriteOne_rail (k : Fin 8) (act ret : List (Fin 48)) (promo : List (Fin 48 × Fin 48)) (n : Fin 48) :
    (rewriteOne k act ret promo s n).rail = s.rail := by
  unfold rewriteOne
  split
  · dsimp only
    split
    · rw [promote_rail, releaseHold_rail, changeRole_rail]
    · rw [releaseHold_rail, changeRole_rail]
  · split
    iterate 2 rw [State.inc_rail, changeRole_rail]
    · split
      · exact promote_rail s k _ n .active
      · rfl
    · rfl

@[simp] theorem assignRoles_rail (k : Fin 8) (old : List (Fin 48)) : (assignRoles k old s).rail = s.rail := by
  refine forEach_keep (·.rail) _ (fun s n => ?_) _ s
  dsimp only
  split
  iterate 3 rfl
  · split <;> simp [abandonTest]
  · simp

@[simp] theorem putStaging_rail (g i : Nat) : (putStaging g i s).rail = s.rail :=
  putStaging_keep (·.rail) (fun _ _ _ => rfl) (fun _ _ => rfl) g i s

@[simp] theorem groupResult_rail (g i r : Nat) : (groupResult g i r s).rail = s.rail := by
  unfold groupResult
  split <;> rfl

@[simp] theorem recordMove_rail (src : Option (Fin 5 × Bool)) (spread : Bool) (dest : Nat) :
    (recordMove src spread dest s).rail = s.rail := by
  unfold recordMove
  split
  · rfl
  · split
    · rfl
    · rw [State.inc_rail, State.p_rail, State.p_rail]

@[simp] theorem groupLatched_rail (k : Fin 8) : (groupLatched k s).rail = s.rail := by
  unfold groupLatched
  split
  · dsimp only
    split
    · rfl
    · split <;> rfl
  · rfl

end

/-! ### Episodes -/

/-- Which rails have declared an overvoltage, and an undervoltage, in the present episode. -/
def episodes (v : Vector RailState 8) : Vector (Bool × Bool) 8 := v.map fun r => (r.pr.ovDone, r.pr.uvDone)

theorem episodes_modRa (s : State) (k : Fin 8) (f : RailState → RailState)
    (h : ∀ r, (f r).pr.ovDone = r.pr.ovDone ∧ (f r).pr.uvDone = r.pr.uvDone) :
    episodes (s.modRa k f).rail = episodes s.rail := by
  refine Vector.ext fun i hi => ?_
  unfold episodes
  rw [Vector.getElem_map, Vector.getElem_map]
  by_cases hk : (⟨i, hi⟩ : Fin 8) = k
  · have e : (s.modRa k f).rail[i] = f s.rail[i] := by subst hk; exact State.modRa_same s ⟨i, hi⟩ f
    rw [e, (h _).1, (h _).2]
  · exact congrArg (fun r : RailState => (r.pr.ovDone, r.pr.uvDone)) (State.modRa_ne s k ⟨i, hi⟩ f hk)

section
variable (s : State) (k : Fin 8)

@[simp] theorem episodes_modTr (f : TransitState → TransitState) : episodes (s.modTr k f).rail = episodes s.rail :=
  episodes_modRa s k _ fun _ => ⟨rfl, rfl⟩

@[simp] theorem episodes_modMd (f : ModState → ModState) : episodes (s.modMd k f).rail = episodes s.rail :=
  episodes_modRa s k _ fun _ => ⟨rfl, rfl⟩

@[simp] theorem episodes_modGr (f : GraphState → GraphState) : episodes (s.modGr k f).rail = episodes s.rail :=
  episodes_modRa s k _ fun _ => ⟨rfl, rfl⟩

@[simp] theorem episodes_modOl (f : OuterState → OuterState) : episodes (s.modOl k f).rail = episodes s.rail :=
  episodes_modRa s k _ fun _ => ⟨rfl, rfl⟩

@[simp] theorem episodes_modEp (f : EphState → EphState) : episodes (s.modEp k f).rail = episodes s.rail :=
  episodes_modRa s k _ fun _ => ⟨rfl, rfl⟩

@[simp] theorem episodes_modInk (f : InnRail → InnRail) : episodes (s.modInk k f).rail = episodes s.rail :=
  episodes_modRa s k _ fun _ => ⟨rfl, rfl⟩

/-- The flags of a rail's protection beside its episodes. -/
@[simp] theorem episodes_modPr (f : ProtState → ProtState) (h : ∀ p, (f p).ovDone = p.ovDone ∧ (f p).uvDone = p.uvDone) :
    episodes (s.modPr k f).rail = episodes s.rail := episodes_modRa s k _ fun r => h r.pr

@[simp] theorem episodes_forEach {α : Type} (f : State → α → State) (l : List α)
    (h : ∀ s x, episodes (f s x).rail = episodes s.rail) : episodes (forEach f l s).rail = episodes s.rail :=
  forEach_keep (fun s => episodes s.rail) f h l s

@[simp] theorem episodes_forAll {n : Nat} (f : State → Fin n → State)
    (h : ∀ s x, episodes (f s x).rail = episodes s.rail) : episodes (forAll f s).rail = episodes s.rail :=
  episodes_forEach s f _ h

/-! ### Rings and their commits -/

@[simp] theorem episodes_dropTrim (n : Fin 48) : episodes (dropTrim k n s).rail = episodes s.rail := by
  rw [dropTrim, episodes_modOl, State.pi_rail]

@[simp] theorem episodes_leaveRing (n : Fin 48) : episodes (leaveRing k n s).rail = episodes s.rail := by
  unfold leaveRing
  dsimp only
  split <;> simp

@[simp] theorem episodes_changeRing (l : List (Fin 48)) : episodes (changeRing k l s).rail = episodes s.rail := by
  unfold changeRing
  dsimp only
  split
  · simp only [updateSmods_rail, updateTail_rail, episodes_modEp]
    split <;> simp
  · simp

@[simp] theorem episodes_capacityCheck : episodes (capacityCheck k s).rail = episodes s.rail := by
  unfold capacityCheck
  extract_lets c fell s1
  have h1 : episodes s1.rail = episodes s.rail := episodes_modInk s k _
  split <;> simp [h1]

@[simp] theorem episodes_applyArmed (g i : Nat) : episodes (applyArmed g i s).rail = episodes s.rail := by
  unfold applyArmed
  split
  · unfold applyGroup
    dsimp only
    split
    · simp [ringCommitted]
    · split <;> simp
  · rfl

@[simp] theorem episodes_formRewrite : episodes (formRewrite k s).rail = episodes s.rail := by
  unfold formRewrite
  dsimp only
  split <;> simp

@[simp] theorem episodes_applyRewrite : episodes (applyRewrite k s).rail = episodes s.rail := by
  unfold applyRewrite
  dsimp only
  split <;> simp

/-! ### A rail's states -/

@[simp] theorem episodes_setPG (b : Bool) : episodes (setPG k b s).rail = episodes s.rail := by
  unfold setPG
  split <;> simp

@[simp] theorem episodes_transArrives : episodes (transArrives k s).rail = episodes s.rail := by
  unfold transArrives
  split <;> simp

@[simp] theorem episodes_enterState (st : SeqState) : episodes (enterState k st s).rail = episodes s.rail := by
  unfold enterState
  cases st <;> simp [onOffArrive, pendingLost, dropForecast]

@[simp] theorem episodes_leaveMove : episodes (leaveMove k s).rail = episodes s.rail := by
  unfold leaveMove
  dsimp only
  split <;> simp

@[simp] theorem episodes_applySamples : episodes (applySamples k s).rail = episodes s.rail := by
  have hput : ∀ l, (putSamples l s).rail = s.rail := fun l =>
    forEach_keep (·.rail) (fun s (x : Nat × Nat × Word) => commitFields .sample x.2.1 x.2.2 s)
      (fun s _ => commitFields_rail s _ _ _) l s
  exact (episodes_modRa _ k _ fun _ => by exact ⟨rfl, rfl⟩).trans (congrArg episodes (hput _))

@[simp] theorem episodes_stopBlocks : episodes (stopBlocks k s).rail = episodes s.rail := by
  unfold stopBlocks
  dsimp only
  rw [episodes_modInk, episodes_leaveMove, episodes_modPr _ _ _ fun _ => by exact ⟨rfl, rfl⟩, episodes_modTr, episodes_modMd]
  iterate 6 rw [State.pb_rail]
  iterate 3 rw [State.p_rail]
  rw [episodes_applyRewrite, episodes_formRewrite, episodes_applyArmed, episodes_applyArmed, episodes_forEach,
    episodes_applySamples]
  intro s n
  rw [episodes_applyArmed, transferOwn_rail]

@[simp] theorem episodes_stopRail (hard : Bool) (st : SeqState) : episodes (stopRail hard st k s).rail = episodes s.rail := by
  unfold stopRail
  dsimp only
  split <;> simp

/-! ### Responses -/

@[simp] theorem episodes_respondDisable (fid : Nat) (st : SeqState) :
    episodes (respondDisable fid st k s).rail = episodes s.rail := by
  have hlow : ∀ (s : State) (n : Fin 48),
      (if s.gb (F.STAGEGRP_CFG_FORCEOFF (groupOf n.val)) then s else phLow n s).rail = s.rail := by
    intro s n
    split <;> simp
  unfold respondDisable
  dsimp only
  rw [updateSmods_rail]
  split <;> simp [hlow]

theorem episodes_safeRail (fid : Nat) (own : Option (Fin 8)) : episodes (safeRail fid own s k).rail = episodes s.rail := by
  unfold safeRail
  split
  iterate 2 rfl
  iterate 2 simp
  split
  · simp
  · refine (episodes_modTr _ k _).trans ((episodes_modPr _ k _ fun _ => by exact ⟨rfl, rfl⟩).trans ?_)
    split <;> simp

@[simp] theorem episodes_enterSafe (fid : Nat) (own : Option (Fin 8)) : episodes (enterSafe fid own s).rail = episodes s.rail := by
  have hall : episodes (forAll (safeRail fid own) s).rail = episodes s.rail :=
    episodes_forAll s _ fun s k => episodes_safeRail s k fid own
  unfold enterSafe
  split <;> simp [hall]

theorem episodes_railRespond (fid c : Nat) : episodes (railRespond fid c k s).1.rail = episodes s.rail := by
  unfold railRespond
  dsimp only
  split
  · split
    iterate 4 simp
    split <;> simp
  · split
    · split <;> simp
    · split
      · simp only [episodes_enterSafe]
        split <;> simp
      · simp

/-- A fault of a rail is answered and reported; it names no channel that could take a strike or retire. -/
theorem raiseRail_eq (fid : Nat) : ∃ c, raiseRail fid k s
    = updateDev (report (railEvent fid k) c false (respond (railEvent fid k) (s.classOf fid (some k)) s).1) := ⟨_, rfl⟩

/-- A fault of rail scope ends no episode and starts none. -/
theorem episodes_raiseRail {fid : Nat} (hp : isPhaseFid fid = false) (hr : isRailFid fid = true) :
    episodes (raiseRail fid k s).rail = episodes s.rail := by
  have hresp : ∀ c, (respond (railEvent fid k) c s).1 = (railRespond fid c k s).1 := by
    intro c
    simp [respond, railEvent, hp, hr]
  obtain ⟨c, hraise⟩ := raiseRail_eq s k fid
  rw [hraise, updateDev_rail, report_rail, hresp, episodes_railRespond]

end

/-- Where the episodes are the same, so are a rail's two marks. -/
theorem marks_of_episodes {u s : State} (h : episodes u.rail = episodes s.rail) (k : Fin 8) :
    (u.ra k).pr.ovDone = (s.ra k).pr.ovDone ∧ (u.ra k).pr.uvDone = (s.ra k).pr.uvDone := by
  have hget : ∀ v : Vector RailState 8, vget (episodes v) k = ((vget v k).pr.ovDone, (vget v k).pr.uvDone) := fun v => by
    simp [episodes, vget]
  have hpair := congrArg (vget · k) h
  simp only [hget] at hpair
  exact Prod.mk.inj hpair

end Sys2Proof.Machine
end

section
/-!
PROOFS. The declarations of the rail monitors and power-good (O28).
-/

open Sys2Proof Sys2Proof.Machine
namespace Sys2Proof.Machine

/-! ### The declarations (R176, R285, R286) -/

@[simp] theorem modPr_pr (s : State) (k : Fin 8) (f : ProtState → ProtState) : ((s.modPr k f).ra k).pr = f (s.ra k).pr :=
  congrArg RailState.pr (State.modRa_same s k _)

theorem railOv_declares {s : State} {k : Fin 8} (hc : s.core = true) (ha : s.fnArmed (96 + k.val) = true)
    (ho : s.fnOut (96 + k.val) = true) (hd : (s.ra k).pr.ovDone = false) :
    (railOv k s).g F.FM_STATUS_LASTFID = 7 ∧ ((railOv k s).ra k).pr.ovDone = true := by
  have hrun : railOv k s = raiseRail 7 k (s.modPr k fun p =>
      { p with ov := s.g (F.FM_RAIL_PROT_OVDLY k.val) + 1, ovDone := true }) := if_pos (by simp [hc, ha, ho, hd])
  rw [hrun]
  refine ⟨raiseRail_lastfid 7 k _, ?_⟩
  rw [(marks_of_episodes (episodes_raiseRail _ k rfl rfl) k).1, modPr_pr]

theorem railUv_declares {s : State} {k : Fin 8} (hc : s.uvArm k = true) (ha : s.fnArmed (104 + k.val) = true)
    (ho : s.fnOut (104 + k.val) = true) (hd : (s.ra k).pr.uvDone = false) :
    (railUv k s).g F.FM_STATUS_LASTFID = 8 ∧ ((railUv k s).ra k).pr.uvDone = true := by
  have hrun : railUv k s = raiseRail 8 k (s.modPr k fun p =>
      { p with uv := s.g (F.FM_RAIL_PROT_UVDLY k.val), uvDone := true }) := if_pos (by simp [hc, ha, ho, hd])
  rw [hrun]
  refine ⟨raiseRail_lastfid 8 k _, ?_⟩
  rw [(marks_of_episodes (episodes_raiseRail _ k rfl rfl) k).2, modPr_pr]

theorem followErr_declares {s : State} {k : Fin 8} (he : s.enabled k = true) (hx : s.exceeds k = true) :
    (followErr k s).g F.FM_STATUS_LASTFID = 9 := by
  have hrun : followErr k s = raiseRail 9 k (s.p (F.OL_STATUS_FECNT k.val) 0) := if_pos (by simp [he, hx])
  rw [hrun]
  exact raiseRail_lastfid 9 k _

/-! ### Power-good (R211, R213) -/

/-- What PG taking a value leaves: the value in TSTAT, and all but rail k's sequencing state as it was. -/
structure PGTaken (k : Fin 8) (b : Bool) (s u : State) : Prop where
  pg : u.gb (F.RAIL_TSTAT_PG k.val) = b
  phase : u.phase = s.phase
  queue : u.queue = s.queue
  others : ∀ j, j ≠ k → u.ra j = s.ra j

theorem railTstat_not_router (k : Fin 8) : ¬ RouterWord (A.RAIL_TSTAT k.val) :=
  not_routerWord_of_lt (by unfold A.RAIL_TSTAT; omega)

theorem setPG_taken (k : Fin 8) (b : Bool) (s : State) : PGTaken k b s (setPG k b s) := by
  unfold setPG
  split
  · next h => exact ⟨eq_of_beq h, rfl, rfl, fun _ _ => rfl⟩
  · generalize hv : (s.pb (F.RAIL_TSTAT_PG k.val) b).modTr k (fun r => { r with pgSeen := r.pgSeen || b }) = v
    have hkeep : ∀ {β : Type} (π : State → β), (∀ s a w, π (State.setWord s a w) = π s) →
        (∀ s p f, π (State.modPl s p f) = π s) → π (routerEdge (0xC8 + k.val) b v) = π v :=
      fun π hw hm => routerEdge_keep π hw hm _ b v
    refine ⟨?_, (hkeep (·.phase) (fun _ _ _ => rfl) fun _ _ _ => rfl).trans ?_,
      (hkeep (·.queue) (fun _ _ _ => rfl) fun _ _ _ => rfl).trans ?_,
      fun j hj => (hkeep (·.ra j) (fun _ _ _ => rfl) fun _ _ _ => rfl).trans ?_⟩
    · have hword : (routerEdge (0xC8 + k.val) b v).gb (F.RAIL_TSTAT_PG k.val) = v.gb (F.RAIL_TSTAT_PG k.val) :=
        congrArg (fun w => getBits w _ _ != 0) (routerEdge_word _ b v _ (railTstat_not_router k))
      rw [hword, ← hv]
      exact State.gb_pb s _ b rfl (show 0 + 1 ≤ 32 by decide)
    · rw [← hv]
      rfl
    · rw [← hv]
      rfl
    · rw [← hv]
      exact State.modRa_ne _ k j _ hj

theorem pgAssert_on {s : State} {k : Fin 8} (hs : s.st k = .on) (ht : s.timers k = false) (hw : s.inWindow k = true) :
    pgAssert k s = setPG k true s := if_pos (by simp [hs, ht, hw])

theorem pgDeassert_out {s : State} {k : Fin 8} (ht : s.timers k = false) (hw : s.inWindow k = false) :
    pgDeassert k s = setPG k false s := if_pos (by simp [ht, hw])

/-- Settles O28: each declaration by the rail fault it raises, which reports its FID and leaves the episode marked, and PG by what
taking a value leaves. -/
theorem monitorsDeclare : Obligations.MonitorsDeclare := by
  unfold Obligations.MonitorsDeclare
  refine ⟨fun s k hc ha ho hd => ?_, fun s k hd => ?_, fun s k hu ha ho hd => ?_, fun s k hd => ?_, fun s k hu => ?_,
    fun s k he hx => ?_, fun s k hx => ?_, fun s k hs ht hw => ?_, fun s k ht hw => ?_, fun s k ht => ⟨?_, ?_⟩⟩
  · exact ⟨railOv k s, rfl, railOv_declares hc ha ho hd⟩
  · exact congrArg done (if_neg (by simp [hd]))
  · exact ⟨railUv k s, rfl, railUv_declares hu ha ho hd⟩
  · exact congrArg done (if_neg (by simp [hd]))
  · exact congrArg done (if_neg (by simp [hu]))
  · exact ⟨followErr k s, rfl, followErr_declares he hx⟩
  · exact congrArg done (if_neg (by simp [hx]))
  · obtain ⟨hpg, hphase, hqueue, hothers⟩ := setPG_taken k true s
    exact ⟨setPG k true s, congrArg done (pgAssert_on hs ht hw), hpg, hphase, hqueue, hothers⟩
  · obtain ⟨hpg, hphase, hqueue, hothers⟩ := setPG_taken k false s
    exact ⟨setPG k false s, congrArg done (pgDeassert_out ht hw), hpg, hphase, hqueue, hothers⟩
  · exact congrArg done (if_neg (by simp [ht]))
  · exact congrArg done (if_neg (by simp [ht]))

end Sys2Proof.Machine
end

section
/-!
PROOFS. Horizon's silence and the periods of the Ephemeris (O33).
-/

open Sys2Proof Sys2Proof.Machine
namespace Sys2Proof.Machine

/-! ### Horizon's silence (R181) -/

theorem horizonTimeout_silent {s : State} {k : Fin 8} (he : s.enabled k = true) (hz : s.gb (F.OL_HZCTL_HZEN k.val) = true)
    (hr : (s.ra k).ol.reported ≠ 0) : horizonTimeout k s = marginEvent k (s.pb (F.OL_STATUS_HZTOUT k.val) true) :=
  if_pos (by simpa [he, hz] using hr)

theorem marginEvent_ol (k : Fin 8) (s : State) : ((marginEvent k s).ra k).ol.mZero = (s.ra k).ol.mZero ++ [s.clock] :=
  congrArg (fun r : RailState => r.ol.mZero) (State.modRa_same s k _)

/-! ### The period (R188) -/

theorem ephTimeout_lost {s : State} {k : Fin 8} (hc : s.core = true) (hp : s.g (F.EPH_CTL_PSRC k.val) ≠ 1)
    (ht : s.g (F.EPH_PER_EPTO k.val) ≠ 0) : ephTimeout k s = s.pb (F.EPH_STATUS_ELOST k.val) true :=
  if_pos (by simp [hc, hp, ht])

@[simp] theorem modEp_ep (s : State) (k : Fin 8) (f : EphState → EphState) : ((s.modEp k f).ra k).ep = f (s.ra k).ep :=
  congrArg RailState.ep (State.modRa_same s k _)

/-- What a period taken within its range leaves. -/
structure PeriodTaken (k : Fin 8) (t : Nat) (u : State) : Prop where
  tnow : u.g (F.EPH_TNOW_TNOW k.val) = t
  period : (u.ra k).ep.t = some t
  elost : u.gb (F.EPH_STATUS_ELOST k.val) = false

theorem takePeriod_inRange {k : Fin 8} {t : Nat} {s : State} (hlo : 16 * s.ts k.val ≤ t) (hhi : t ≤ 16777215) :
    PeriodTaken k t (takePeriod k t s) := by
  unfold takePeriod
  extract_lets ts change s1 s2
  rw [if_pos ⟨hlo, hhi⟩]
  have hs2 : (s2.ra k).ep.t = some t := congrArg EphState.t (modEp_ep s1 k _)
  clear_value s2
  refine ⟨?_, hs2, State.gb_pb _ _ false rfl (show 4 + 1 ≤ 32 by decide)⟩
  rw [g_pb_of_apart _ _ (show 4 + 1 ≤ 32 by decide) (.inl ?_), g_p_of_apart _ _ (show 0 + 32 ≤ 32 by decide) (.inl ?_),
    State.g_p s2 _ t (show 0 + 24 ≤ 32 by decide)]
  · exact Nat.mod_eq_of_lt (by show t < 2 ^ 24; omega)
  · show A.EPH_TNOW k.val ≠ A.EPH_PINC k.val
    unfold A.EPH_TNOW A.EPH_PINC
    omega
  · show A.EPH_TNOW k.val ≠ A.EPH_STATUS k.val
    unfold A.EPH_TNOW A.EPH_STATUS
    omega

/-- An edge of rail k at instant t is remembered, and the position returns to 0 at the next boundary. -/
def rememberEdge (k : Fin 8) (t : BitVec 52) (s : State) : State :=
  s.modEp k fun e => { e with edge := some t.toNat, zero := true }

theorem rememberEdge_ep (k : Fin 8) (t : BitVec 52) (s : State) :
    ((rememberEdge k t s).ra k).ep = { (s.ra k).ep with edge := some t.toNat, zero := true } := modEp_ep s k _

theorem ephEdge_first {s : State} {k : Fin 8} (hc : s.core = true) (hp : s.g (F.EPH_CTL_PSRC k.val) = 2)
    (he : (s.ra k).ep.edge = none) (t : BitVec 52) : ephEdge k t s = rememberEdge k t s := by
  unfold ephEdge
  rw [if_pos (by simp [hc, hp]), he]
  rfl

/-- The interval between two stamps of which the counter has not wrapped in between. -/
theorem stamp_interval (t : BitVec 52) {o : Nat} (h : o ≤ t.toNat) : (t.toNat + (2 ^ 52 - o)) % 2 ^ 52 = t.toNat - o := by
  have := t.isLt
  omega

theorem ephEdge_again {s : State} {k : Fin 8} {t : BitVec 52} {o : Nat} (hc : s.core = true)
    (hp : s.g (F.EPH_CTL_PSRC k.val) = 2) (he : (s.ra k).ep.edge = some o) (h : o ≤ t.toNat) :
    ephEdge k t s = rememberEdge k t (takePeriod k (((t.toNat - o) * 5 + 32) / 64) s) := by
  unfold ephEdge
  rw [if_pos (by simp [hc, hp]), he]
  dsimp only
  rw [stamp_interval t h]
  rfl

/-! ### A write of ECLR (R190) -/

/-- EPH[k].CTL as the map gives it (R393-R396). -/
def RegSpec.ephCtl : RegSpec := ⟨.ephCtl, 0x120000, [(8, 0x40)], 0,
  [⟨24, 4, .rw, .sample⟩, ⟨16, 8, .rw, .halt⟩, ⟨8, 8, .rw, .sample⟩, ⟨5, 1, .rw, .sample⟩, ⟨4, 1, .wo, .live⟩,
    ⟨3, 1, .rw, .sample⟩, ⟨1, 2, .rw, .halt⟩, ⟨0, 1, .rw, .sample⟩]⟩

theorem locate_ephCtl : ∀ k : Fin 8, locate (A.EPH_CTL k.val) = some ⟨.ephCtl, k.val, 0, 0⟩ := by decide +kernel

/-- A field takes its part of a written word in the registers alone. -/
theorem putField_keep {β : Type} (π : State → β) (hw : ∀ s a w, π (State.setWord s a w) = π s) (x : Loc) (a : Nat)
    (w : Word) (s : State) (f : FieldSpec) : π (putField x a w s f) = π s := by
  have hp : ∀ (e : Fld) (v : Nat), π (s.p e v) = π s := fun e v => hw s _ _
  have hif : ∀ (c : Bool) (e : Fld) (v : Nat), π (if c then s else s.p e v) = π s := by
    intro c e v
    split
    · rfl
    · exact hp e v
  unfold putField
  dsimp only
  split
  iterate 2
    split
    iterate 2 exact hif _ _ _
    · rfl
    · exact hp _ _
  · exact hif _ _ _
  · exact hp _ _
  · rfl

/-- A write of EPH[k].CTL beside ECLR changes registers and its rail's waiting writes alone. -/
theorem ephCtl_put {β : Type} (π : State → β) (hw : ∀ s a w, π (State.setWord s a w) = π s)
    (hr : ∀ s k f, π (State.modRa s k f) = π s) (m : Master) (k : Fin 8) (w : Word) (s : State) :
    π (putAll m ⟨.ephCtl, k.val, 0, 0⟩ (A.EPH_CTL k.val) w s) = π s := by
  have hfields : ∀ (l : List FieldSpec) (s : State),
      π (l.foldl (putField ⟨.ephCtl, k.val, 0, 0⟩ (A.EPH_CTL k.val) w) s) = π s :=
    forEach_keep π _ fun s f => putField_keep π hw _ _ w s f
  show π (waitWrites ⟨.ephCtl, k.val, 0, 0⟩ (A.EPH_CTL k.val) w _) = π s
  refine Eq.trans ?_ (hfields RegSpec.ephCtl.fields s)
  unfold waitWrites
  extract_lets s1
  rw [if_pos (by rfl)]
  unfold s1
  split
  · exact hr _ _ _
  · rfl

/-- A granted write of ECLR asks for a clear of rail k's table, and reaches no phase and no queue. -/
theorem ephCtl_write {m : Master} {k : Fin 8} {w : Word} {s : State} (h : judge m (A.EPH_CTL k.val) w s = .ok)
    (hw : getBits w 4 1 = 1) : ∃ v : State, (regWrite m (A.EPH_CTL k.val) w s).1 = v.modEp k (fun e => { e with clear := true })
      ∧ v.phase = s.phase ∧ v.queue = s.queue := by
  have hk : Fin.ofNat 8 k.val = k := Fin.ofNat_val_eq_self k
  have heffect : ∀ t u : State, effect1 m ⟨.ephCtl, k.val, 0, 0⟩ w t u
      = u.modEp (Fin.ofNat 8 k.val) fun e => { e with clear := true } := fun t u => if_pos hw
  refine ⟨putAll m ⟨.ephCtl, k.val, 0, 0⟩ (A.EPH_CTL k.val) w (accepted m (A.EPH_CTL k.val) w s), ?_, ?_, ?_⟩
  · rw [regWrite_accepted h (locate_ephCtl k), heffect, hk]
    rfl
  · rw [ephCtl_put (·.phase) (fun _ _ _ => rfl) (fun _ _ _ => rfl), accepted_phase]
  · rw [ephCtl_put (·.queue) (fun _ _ _ => rfl) (fun _ _ _ => rfl), accepted_queue]

/-- Settles O33: the silence and the lost period by the flag each sets, an edge by the period it ends, and a write of ECLR by the
mark it leaves for the next boundary. -/
theorem horizonAndEphemeris : Obligations.HorizonAndEphemeris := by
  unfold Obligations.HorizonAndEphemeris
  refine ⟨fun s k he hz hr => ?_, fun s k hr => ?_, fun s k hc hp ht => ?_, fun s k ht => ?_, fun s k t hc hp he => ?_,
    fun s k t o hc hp he h hlo hhi => ?_, fun s k t hp => ?_, fun s m k h => ?_⟩
  · refine ⟨_, congrArg done (horizonTimeout_silent he hz hr), ?_, marginEvent_ol k _,
      fun j hj => State.modRa_ne _ k j _ hj, ?_⟩
    · exact State.gb_pb s _ true rfl (show 3 + 1 ≤ 32 by decide)
    · exact (onlyWords_refl s _).p (F.OL_STATUS_HZTOUT k.val) 1 (List.mem_singleton.mpr rfl)
  · exact congrArg done (if_neg (by simp [hr]))
  · exact ⟨_, congrArg done (ephTimeout_lost hc hp ht), State.gb_pb s _ true rfl (show 4 + 1 ≤ 32 by decide),
      (onlyWords_refl s _).p (F.EPH_STATUS_ELOST k.val) 1 (List.mem_singleton.mpr rfl)⟩
  · exact congrArg done (if_neg (by simp [ht]))
  · exact congrArg done (ephEdge_first hc hp he t)
  · obtain ⟨htnow, hperiod, helost⟩ := takePeriod_inRange hlo hhi
    refine ⟨_, congrArg done (ephEdge_again hc hp he h), htnow, ?_, helost, ?_, ?_⟩ <;> rw [rememberEdge_ep]
    exact hperiod
  · exact congrArg done (if_neg (by simp [hp]))
  · have hbit : getBits (s.withField (F.EPH_CTL_ECLR k.val) 1) 4 1 = 1 := getBits_setBits _ 4 1 1 (by decide)
    obtain ⟨v, hv, hphase, hqueue⟩ := ephCtl_write h hbit
    exact ⟨_, congrArg done hv, congrArg EphState.clear (modEp_ep v k _), hphase, hqueue⟩

end Sys2Proof.Machine
end

section
/-!
SUPPORT. What a push of the host into a rail's queue does (R199, R370, R372): with room the entry stands at the queue's end and the
instant beside it, with the queue full nothing is held and the drop is shown.
-/

open Sys2Proof Sys2Proof.Machine
namespace Sys2Proof.Machine

/-! ### The queue of a rail -/

theorem railQueue_val (k : Fin 8) : (Fin.ofNat 16 k.val).val = k.val := Nat.mod_eq_of_lt (by omega)

theorem markPushed_railQueue (k : Fin 8) (s : State) : markPushed (Fin.ofNat 16 k.val) s
    = s.modRa k fun r => { r with pushed := r.pushed ++ [s.clock] } := by
  unfold markPushed
  rw [railQueue_val, if_pos k.isLt, Fin.ofNat_val_eq_self]

/-- Between s and u an entry completed in the queue of rail k: it stands at its end, its instant beside it, and no other queue, no
other rail and no phase changed (R27, R370). -/
structure RailPushed (k : Fin 8) (e : QEntry) (s u : State) : Prop where
  queue : u.q (Fin.ofNat 16 k.val) = s.q (Fin.ofNat 16 k.val) ++ [e]
  queues : ∀ q, q ≠ Fin.ofNat 16 k.val → u.q q = s.q q
  phase : u.phase = s.phase
  rail : u.ra k = { s.ra k with pushed := (s.ra k).pushed ++ [s.clock] }
  rails : ∀ j, j ≠ k → u.ra j = s.ra j

theorem qAppend_railPushed (k : Fin 8) (e : QEntry) (s : State) :
    RailPushed k e s (qAppend (Fin.ofNat 16 k.val) e s) := by
  unfold qAppend
  rw [markPushed_railQueue]
  generalize hv : State.modRa (s.setQ (Fin.ofNat 16 k.val) (s.q (Fin.ofNat 16 k.val) ++ [e])) k _ = v
  have hqueue : ∀ q, v.q q = (s.setQ (Fin.ofNat 16 k.val) (s.q (Fin.ofNat 16 k.val) ++ [e])).q q := fun q => by rw [← hv]; rfl
  have hkeep : ∀ {β : Type} (π : State → β), (∀ s a w, π (State.setWord s a w) = π s) →
      (∀ s p f, π (State.modPl s p f) = π s) → π (routerEvent (0xB0 + (Fin.ofNat 16 k.val).val) v) = π v :=
    fun π hw hm => routerEdge_keep π hw hm _ true v
  refine ⟨?_, fun q hq => ?_, ?_, ?_, fun j hj => ?_⟩
  · rw [hkeep (·.q _) (fun _ _ _ => rfl) fun _ _ _ => rfl, hqueue, State.setQ_same]
  · rw [hkeep (·.q q) (fun _ _ _ => rfl) fun _ _ _ => rfl, hqueue, State.setQ_ne _ _ _ _ hq]
  · rw [hkeep (·.phase) (fun _ _ _ => rfl) fun _ _ _ => rfl, ← hv]
    rfl
  · rw [hkeep (·.ra k) (fun _ _ _ => rfl) fun _ _ _ => rfl, ← hv, State.modRa_same]
    rfl
  · rw [hkeep (·.ra j) (fun _ _ _ => rfl) fun _ _ _ => rfl, ← hv, State.modRa_ne _ _ _ _ hj]
    rfl

/-- The push may be told from any state with the same queues, rails, phases and clock. -/
theorem RailPushed.of_same {k : Fin 8} {e : QEntry} {s t u : State} (h : RailPushed k e t u) (hq : t.queue = s.queue)
    (hr : t.rail = s.rail) (hp : t.phase = s.phase) (hc : t.clock = s.clock) : RailPushed k e s u := by
  have hqs : ∀ q, t.q q = s.q q := fun q => congrArg (vget · q) hq
  have hrs : ∀ j, t.ra j = s.ra j := fun j => congrArg (vget · j) hr
  refine ⟨?_, fun q hne => ?_, h.phase.trans hp, ?_, fun j hne => ?_⟩
  · rw [h.queue, hqs]
  · rw [h.queues q hne, hqs]
  · rw [h.rail, hrs, hc]
  · rw [h.rails j hne, hrs]

theorem room_of_queue {u s : State} (h : u.queue = s.queue) (q : Fin 16) (n : Nat) : u.room q n = s.room q n := by
  unfold State.room State.q
  rw [h]

/-! ### A command of the host (R199) -/

/-- The entry a host write of VSET or ON pushes: its data, the master in the tag, and its kind (R196). -/
def hostEntry (m : Master) (data : Word) (kind : Nat) : QEntry :=
  ⟨data, BitVec.ofNat 16 (masterCode m * 8192), BitVec.ofNat 16 (kind * 4096)⟩

theorem pushCommand_room {k : Fin 8} {s : State} (h : s.room (Fin.ofNat 16 k.val) 1 = true) (m : Master) (data : Word)
    (kind : Nat) : RailPushed k (hostEntry m data kind) s (pushCommand m k data kind s) := by
  unfold pushCommand
  rw [if_pos h]
  exact qAppend_railPushed k _ s

/-- Between s and u a push of the host for rail k found its queue full: QFULL is set, the drop counts, and every queue holds what it
held (R199, R372). -/
structure RailPushDropped (k : Fin 8) (s u : State) : Prop where
  queue : u.queue = s.queue
  qfull : u.gb (F.RAIL_TSTAT_QFULL k.val) = true
  ovf : u.gb (F.Q_STAT_OVF k.val) = true
  drops : u.g (F.Q_STAT_DROPS k.val) = incHold (F.Q_STAT_DROPS k.val).w (s.g (F.Q_STAT_DROPS k.val))

theorem qStat_ne_tstat (k : Fin 8) : A.Q_STAT k.val ≠ A.RAIL_TSTAT k.val := by
  unfold A.Q_STAT A.RAIL_TSTAT
  omega

/-- A push into a full queue writes QFULL and the queue's STAT alone. -/
theorem pushCommand_full {k : Fin 8} {s : State} (h : s.room (Fin.ofNat 16 k.val) 1 = false) (m : Master) (data : Word)
    (kind : Nat) : pushCommand m k data kind s = ((s.pb (F.RAIL_TSTAT_QFULL k.val) true).inc (F.Q_STAT_DROPS k.val)).pb
      (F.Q_STAT_OVF k.val) true := by
  unfold pushCommand qDrop
  rw [if_neg (Bool.eq_false_iff.mp h), railQueue_val]

theorem pushCommand_dropped {k : Fin 8} {s : State} (h : s.room (Fin.ofNat 16 k.val) 1 = false) (m : Master) (data : Word)
    (kind : Nat) : RailPushDropped k s (pushCommand m k data kind s) := by
  rw [pushCommand_full h]
  refine ⟨?_, ?_, State.gb_pb _ _ true rfl (show 16 + 1 ≤ 32 by decide), ?_⟩
  · rw [State.pb_queue, State.inc_queue, State.pb_queue]
  · rw [gb_pb_of_apart _ _ (show 16 + 1 ≤ 32 by decide) (.inl (qStat_ne_tstat k).symm)]
    exact (gb_p_of_apart _ _ (show 24 + 8 ≤ 32 by decide) (.inl (qStat_ne_tstat k).symm)).trans
      (State.gb_pb s _ true rfl (show 8 + 1 ≤ 32 by decide))
  · rw [g_pb_of_apart _ _ (show 16 + 1 ≤ 32 by decide) (.inr (.inr (show 16 + 1 ≤ 24 by decide))),
      State.g_inc _ _ (show 24 + 8 ≤ 32 by decide),
      g_pb_of_apart s _ (show 8 + 1 ≤ 32 by decide) (.inl (qStat_ne_tstat k))]

theorem RailPushDropped.of_same {k : Fin 8} {s t u : State} (h : RailPushDropped k t u) (hq : t.queue = s.queue)
    (hd : t.g (F.Q_STAT_DROPS k.val) = s.g (F.Q_STAT_DROPS k.val)) : RailPushDropped k s u :=
  ⟨h.queue.trans hq, h.qfull, h.ovf, hd ▸ h.drops⟩

theorem pushCommand_word {k : Fin 8} {s : State} (h : s.room (Fin.ofNat 16 k.val) 1 = false) (m : Master) (data : Word)
    (kind : Nat) {a : Nat} (ht : a ≠ A.RAIL_TSTAT k.val) (hq : a ≠ A.Q_STAT k.val) :
    (pushCommand m k data kind s).word a = s.word a := by
  rw [pushCommand_full h]
  exact (State.word_p_ne _ _ _ a hq).trans ((State.word_p_ne _ _ _ a hq).trans (State.word_p_ne s _ _ a ht))

end Sys2Proof.Machine
end

section
/-!
PROOFS. The set-points, requests and groups a host write commands (O25).
-/

open Sys2Proof Sys2Proof.Machine
namespace Sys2Proof.Machine

/-! ### The registers (R393-R396) -/

/-- RAIL[k].VSET, RAIL[k].ON and SEQGRP[g].CTL as the map gives them. -/
def RegSpec.railVset : RegSpec := ⟨.railVset, 0x110000, [(8, 0x100)], 0, [⟨16, 16, .rw, .live⟩, ⟨0, 16, .rw, .live⟩]⟩
def RegSpec.railOn : RegSpec := ⟨.railOn, 0x11002C, [(8, 0x100)], 0, [⟨0, 1, .rw, .live⟩]⟩
def RegSpec.seqgrpCtl : RegSpec := ⟨.seqgrpCtl, 0x110800, [(4, 0x10)], 0, [⟨1, 1, .rw, .halt⟩, ⟨0, 1, .rw, .live⟩]⟩

theorem locate_railVset : ∀ k : Fin 8, locate (A.RAIL_VSET k.val) = some ⟨.railVset, k.val, 0, 0⟩ := by decide +kernel
theorem locate_railOn : ∀ k : Fin 8, locate (A.RAIL_ON k.val) = some ⟨.railOn, k.val, 0, 0⟩ := by decide +kernel
theorem locate_seqgrpCtl : ∀ g : Fin 4, locate (A.SEQGRP_CTL g.val) = some ⟨.seqgrpCtl, g.val, 0, 0⟩ := by decide +kernel

/-! ### What each write comes to (R199, R209) -/

/-- VSET and SLEWOVR take the written values. -/
def putVset (k : Fin 8) (v : Word) (s : State) : State :=
  (s.p (F.RAIL_VSET_SLEWOVR k.val) (getBits v 16 16)).p (F.RAIL_VSET_VSET k.val) (getBits v 0 16)

/-- A write of VSET holds its value where the queue has room and the old one where it has none, and pushes. -/
theorem railVset_put (m : Master) (k : Fin 8) (v : Word) (t : State) : effect1 m ⟨.railVset, k.val, 0, 0⟩ v t
    (effect0 m ⟨.railVset, k.val, 0, 0⟩ v t (putAll m ⟨.railVset, k.val, 0, 0⟩ (A.RAIL_VSET k.val) v t))
    = vsetWrite m k t (putVset k v t) := by
  show vsetWrite m (Fin.ofNat 8 k.val) t (putVset k v t) = _
  rw [Fin.ofNat_val_eq_self]

/-- The data of a SET entry: the voltage above the slew override (R196). -/
def setData (v : Word) : Word := BitVec.ofNat 32 (getBits v 0 16 * 65536 + getBits v 16 16)

theorem putVset_setData (k : Fin 8) (v : Word) (t : State) : setData ((putVset k v t).word (A.RAIL_VSET k.val)) = setData v := by
  have hv : getBits ((putVset k v t).word (A.RAIL_VSET k.val)) 0 16 = getBits v 0 16 :=
    g_p_getBits _ (F.RAIL_VSET_VSET k.val) v 0 16 rfl (show 0 + 16 ≤ 32 by decide)
  have hs : getBits ((putVset k v t).word (A.RAIL_VSET k.val)) 16 16 = getBits v 16 16 :=
    (State.g_p_apart _ (F.RAIL_VSET_VSET k.val) (F.RAIL_VSET_SLEWOVR k.val) _ (show 0 + 16 ≤ 32 by decide)
      (.inr (show 0 + 16 ≤ 16 by decide))).trans
      (g_p_getBits t (F.RAIL_VSET_SLEWOVR k.val) v 16 16 rfl (show 16 + 16 ≤ 32 by decide))
  unfold setData
  rw [hv, hs]

theorem vsetWrite_room {k : Fin 8} {t : State} (h : t.room (Fin.ofNat 16 k.val) 1 = true) (m : Master) (v : Word) :
    vsetWrite m k t (putVset k v t) = pushCommand m k (setData v) 1 (putVset k v t) := by
  show pushCommand m k (setData ((putVset k v t).word (A.RAIL_VSET k.val))) 1 _ = _
  rw [h, if_pos rfl, putVset_setData]

theorem vsetWrite_full {k : Fin 8} {t : State} (h : t.room (Fin.ofNat 16 k.val) 1 = false) (m : Master) (v : Word) :
    vsetWrite m k t (putVset k v t)
      = pushCommand m k (setData v) 1 ((putVset k v t).setWord (A.RAIL_VSET k.val) (t.word (A.RAIL_VSET k.val))) := by
  show pushCommand m k (setData ((putVset k v t).word (A.RAIL_VSET k.val))) 1 _ = _
  rw [h, if_neg (by decide), putVset_setData]

/-- ON takes the written bit. -/
def putOn (k : Fin 8) (v : Word) (s : State) : State := s.p (F.RAIL_ON_ON k.val) (getBits v 0 1)

/-- The kind of entry a written ON asks for (R196). -/
def onKind (v : Word) : Nat := if getBits v 0 1 = 1 then 3 else 4

/-- A write of ON holds its bit where the queue has room and the old one where it has none, and pushes. -/
theorem railOn_put (m : Master) (k : Fin 8) (v : Word) (t : State) : effect1 m ⟨.railOn, k.val, 0, 0⟩ v t
    (effect0 m ⟨.railOn, k.val, 0, 0⟩ v t (putAll m ⟨.railOn, k.val, 0, 0⟩ (A.RAIL_ON k.val) v t))
    = pushCommand m k 0 (onKind v) (if t.room (Fin.ofNat 16 k.val) 1 then putOn k v t
      else (putOn k v t).setWord (A.RAIL_ON k.val) (t.word (A.RAIL_ON k.val))) := by
  show pushCommand m (Fin.ofNat 8 k.val) 0 (onKind v) (if t.room (Fin.ofNat 16 (Fin.ofNat 8 k.val).val) 1 then putOn k v t
    else (putOn k v t).setWord (A.RAIL_ON (Fin.ofNat 8 k.val).val) (t.word (A.RAIL_ON (Fin.ofNat 8 k.val).val))) = _
  rw [Fin.ofNat_val_eq_self]

/-- GFAULT and GEN take the written bits. -/
def putGen (g : Fin 4) (v : Word) (s : State) : State :=
  (s.p (F.SEQGRP_CTL_GFAULT g.val) (getBits v 1 1)).p (F.SEQGRP_CTL_GEN g.val) (getBits v 0 1)

theorem seqgrpCtl_put (m : Master) (g : Fin 4) (v : Word) (t : State) : effect1 m ⟨.seqgrpCtl, g.val, 0, 0⟩ v t
    (effect0 m ⟨.seqgrpCtl, g.val, 0, 0⟩ v t (putAll m ⟨.seqgrpCtl, g.val, 0, 0⟩ (A.SEQGRP_CTL g.val) v t))
    = noteGen (Fin.ofNat 4 g.val) (t.gb (F.SEQGRP_CTL_GEN g.val)) (putGen g v t) := rfl

/-! ### Where the write was accepted (R371) -/

/-- The counts of a rail's queue are none that the router writes. -/
theorem railQStat_not_router (k : Fin 8) : ¬ RouterWord (A.Q_STAT k.val) := by
  rintro (e | ⟨p, e | e⟩)
  · simp only [A.Q_STAT, A.EV_PEND] at e; omega
  · simp only [A.Q_STAT, A.PL_TTSLO] at e; omega
  · simp only [A.Q_STAT, A.PL_TTSHI] at e; omega

theorem railVset_ne_stat (k : Fin 8) : A.RAIL_VSET k.val ≠ A.RAIL_TSTAT k.val ∧ A.RAIL_VSET k.val ≠ A.Q_STAT k.val := by
  unfold A.RAIL_VSET A.RAIL_TSTAT A.Q_STAT
  omega

theorem completes_regWrite {c : Instr} {m : Master} {a : Nat} {v : Word} {s : State} {x : Loc} {P : State → Prop}
    (hc : exec c s = write m a v s) (hj : judge m a v s = .ok) (hx : locate a = some x)
    (hp : P (effect1 m x v (accepted m a v s) (effect0 m x v (accepted m a v s) (putAll m x a v (accepted m a v s))))) :
    Completes c s P := ⟨_, hc, by rw [regWrite_accepted hj hx]; exact hp⟩

theorem accepted_room (m : Master) (a : Nat) (v : Word) (s : State) (q : Fin 16) (n : Nat) :
    (accepted m a v s).room q n = s.room q n := room_of_queue (accepted_queue m a v s) q n

/-- A granted write of the register at a that finds rail k's queue full: the register holds its old word again, and the push is a
drop that reaches QFULL and the queue's STAT alone (R199). -/
theorem pushCommand_restored {m : Master} {a : Nat} {v : Word} {k : Fin 8} {s u : State}
    (hword : ∀ c, c ≠ a → u.word c = (accepted m a v s).word c) (hqueue : u.queue = (accepted m a v s).queue)
    (hr : s.room (Fin.ofNat 16 k.val) 1 = false) (data : Word) (kind : Nat) :
    RailPushDropped k s (pushCommand m k data kind (u.setWord a ((accepted m a v s).word a)))
      ∧ ∀ b, ¬ RouterWord b → b ≠ A.RAIL_TSTAT k.val → b ≠ A.Q_STAT k.val →
        (pushCommand m k data kind (u.setWord a ((accepted m a v s).word a))).word b = s.word b := by
  generalize hw : u.setWord a ((accepted m a v s).word a) = w
  have hkept : ∀ b, ¬ RouterWord b → w.word b = s.word b := by
    intro b hb
    rw [← hw, State.word_setWord, ← accepted_word m a v s b hb]
    split
    · next e => rw [e]
    · next e => exact hword b e
  have hwq : w.queue = s.queue := by rw [← hw, State.setWord_queue, hqueue, accepted_queue]
  have hfull := (room_of_queue hwq _ _).trans hr
  exact ⟨(pushCommand_dropped hfull m data kind).of_same hwq (congrArg (getBits · _ _) (hkept _ (railQStat_not_router k))),
    fun b hb ht hq => (pushCommand_word hfull m data kind ht hq).trans (hkept b hb)⟩

theorem putVset_word (k : Fin 8) (v : Word) (t : State) {a : Nat} (h : a ≠ A.RAIL_VSET k.val) :
    (putVset k v t).word a = t.word a := (State.word_p_ne _ _ _ a h).trans (State.word_p_ne t _ _ a h)

theorem putOn_word (k : Fin 8) (v : Word) (t : State) {a : Nat} (h : a ≠ A.RAIL_ON k.val) :
    (putOn k v t).word a = t.word a := State.word_p_ne t _ _ a h

/-- Settles O25, by the register write each command comes to and the push it ends in. -/
theorem setPointWritesPush : Obligations.SetPointWritesPush := by
  unfold Obligations.SetPointWritesPush
  refine ⟨fun s m k v hj hr => ?_, fun s m k v hj hr => ?_, fun s m k v hj hr => ?_, fun s m k v hj hr => ?_,
    fun s m g v hj => ?_⟩
  · refine completes_regWrite rfl hj (locate_railVset k) ?_
    have ht := (accepted_room m (A.RAIL_VSET k.val) v s _ _).trans hr
    rw [railVset_put, vsetWrite_room ht]
    obtain ⟨hq, hqs, hp, hk, hks⟩ := (pushCommand_room (s := putVset k v _) ht m (setData v) 1).of_same
      (accepted_queue m _ v s) (accepted_rail m _ v s) (accepted_phase m _ v s) (accepted_clock m _ v s)
    exact ⟨hq, hqs, hp, hk, hks⟩
  · refine completes_regWrite rfl hj (locate_railVset k) ?_
    have ht := (accepted_room m (A.RAIL_VSET k.val) v s _ _).trans hr
    rw [railVset_put, vsetWrite_full ht]
    obtain ⟨⟨hq, hf, ho, hd⟩, hword⟩ := pushCommand_restored (u := putVset k v _) (fun c => putVset_word k v _)
      (by rfl) hr (setData v) 1
    exact ⟨hq, hf, hword _ (not_routerWord_of_lt (by unfold A.RAIL_VSET; omega)) (railVset_ne_stat k).1 (railVset_ne_stat k).2,
      ho, hd⟩
  · refine completes_regWrite rfl hj (locate_railOn k) ?_
    rw [railOn_put, accepted_room, hr, if_neg (by decide)]
    obtain ⟨⟨hq, hf, ho, hd⟩, -⟩ := pushCommand_restored (u := putOn k v _) (fun c => putOn_word k v _) (by rfl) hr 0
      (onKind v)
    exact ⟨hq, hf, ho, hd⟩
  · refine completes_regWrite rfl hj (locate_railOn k) ?_
    have ht := (accepted_room m (A.RAIL_ON k.val) v s _ _).trans hr
    rw [railOn_put, if_pos ht]
    obtain ⟨hq, hqs, hp, hk, hks⟩ := (pushCommand_room (s := putOn k v _) ht m 0 (onKind v)).of_same
      (accepted_queue m _ v s) (accepted_rail m _ v s) (accepted_phase m _ v s) (accepted_clock m _ v s)
    refine ⟨?_, hqs, hp, hk, hks⟩
    rw [hq, hostEntry, onKind]
    split <;> rfl
  · refine completes_regWrite rfl hj (locate_seqgrpCtl g) ?_
    rw [seqgrpCtl_put]
    exact ⟨g_p_getBits _ (F.SEQGRP_CTL_GEN g.val) v 0 1 rfl (show 0 + 1 ≤ 32 by decide), accepted_queue m _ v s,
      accepted_rail m _ v s, accepted_phase m _ v s⟩

end Sys2Proof.Machine
end

section
/-!
SUPPORT. What a change of a rail's sequencing state leaves (R198, R203, R211, R235): the state it enters, and which registers its
outcomes write.
-/

open Sys2Proof Sys2Proof.Machine
namespace Sys2Proof.Machine

/-! ### The sequencing state of a rail -/

section
variable (s : State) (k : Fin 8)

theorem modRa_st (f : RailState → RailState) (h : ∀ r, (f r).tr.st = r.tr.st) : (s.modRa k f).st k = s.st k := by
  unfold State.st
  rw [State.modRa_same, h]

theorem modTr_st (f : TransitState → TransitState) : (s.modTr k f).st k = (f (s.ra k).tr).st :=
  congrArg (fun r : RailState => r.tr.st) (State.modRa_same s k _)

@[simp] theorem modMd_st (f : ModState → ModState) : (s.modMd k f).st k = s.st k := modRa_st s k _ fun _ => rfl
@[simp] theorem modOl_st (f : OuterState → OuterState) : (s.modOl k f).st k = s.st k := modRa_st s k _ fun _ => rfl
@[simp] theorem modEp_st (f : EphState → EphState) : (s.modEp k f).st k = s.st k := modRa_st s k _ fun _ => rfl
@[simp] theorem modInk_st (f : InnRail → InnRail) : (s.modInk k f).st k = s.st k := modRa_st s k _ fun _ => rfl

@[simp] theorem p_st (f : Fld) (v : Nat) : (s.p f v).st k = s.st k := rfl
@[simp] theorem pb_st (f : Fld) (b : Bool) : (s.pb f b).st k = s.st k := rfl
@[simp] theorem routerEdge_st (src : Nat) (r : Bool) : (routerEdge src r s).st k = s.st k := st_of_rail (routerEdge_rail s src r) k
@[simp] theorem routerEvent_st (src : Nat) : (routerEvent src s).st k = s.st k := routerEdge_st s k src true
@[simp] theorem entryArrived_st (tag : BitVec 16) (j : Fin 8) : (entryArrived tag j s).st k = s.st k :=
  st_of_rail (entryArrived_rail s tag j) k
@[simp] theorem entryRevoked_st (tag : BitVec 16) (j : Fin 8) : (entryRevoked tag j s).st k = s.st k :=
  st_of_rail (entryRevoked_rail s tag j) k
@[simp] theorem railCause_st (lo : Nat) (j : Fin 8) : (railCause lo j s).st k = s.st k := st_of_rail (railCause_rail s lo j) k

@[simp] theorem forEach_st {α : Type} (f : State → α → State) (l : List α) (h : ∀ s x, (f s x).st k = s.st k) :
    (forEach f l s).st k = s.st k := forEach_keep (·.st k) f h l s

@[simp] theorem setPG_st (b : Bool) : (setPG k b s).st k = s.st k := by
  unfold setPG
  split
  · rfl
  · rw [routerEdge_st, modTr_st]
    rfl

@[simp] theorem dropForecast_st : (dropForecast k s).st k = s.st k := by
  unfold dropForecast
  rw [pb_st, pb_st, modTr_st]
  exact (modInk_st _ k _).trans (modMd_st s k _)

@[simp] theorem transArrives_st : (transArrives k s).st k = s.st k := by
  unfold transArrives
  split
  · rfl
  · simp only [routerEvent_st, entryArrived_st, pb_st, modEp_st, modOl_st]
    exact modTr_st s k _

@[simp] theorem onOffArrive_st (kind : Nat) : (onOffArrive k kind s).st k = s.st k :=
  (forEach_st _ k (fun s (t : Trans) => entryArrived t.tag k s) _ fun s t => entryArrived_st s k t.tag k).trans (modTr_st s k _)

@[simp] theorem pendingLost_st : (pendingLost k s).st k = s.st k := by
  unfold pendingLost
  dsimp only
  exact (forEach_st _ k _ _ fun s (t : Trans) => entryRevoked_st s k t.tag k).trans ((pb_st _ k _ _).trans (modTr_st s k _))

/-- The outcomes of a change of state leave the state that was entered. -/
@[simp] theorem enterState_st (st : SeqState) : (enterState k st s).st k = st := by
  unfold enterState
  cases st <;> simp [modTr_st]

theorem settleLock_st : (settleLock k s).st k = s.st k := by
  unfold settleLock
  split
  · exact modMd_st _ k _
  · rfl

/-- A rail that is disabled is in the state its response or its stop names. -/
theorem disableRail_st (hard : Bool) (st : SeqState) : (disableRail hard st k s).st k = st := by
  unfold disableRail stopRail
  rw [st_of_rail (updateSmods_rail _) k]
  dsimp only
  split
  · rw [updateTail, pb_st, forEach_st _ k _ _ fun s n => st_of_rail (stopPhase_rail s hard n) k, enterState_st]
  · exact enterState_st s k st

end

/-! ### Registers a change of state writes -/

/-- A field below the link's block that shares no bit with what the outcomes of a change of rail k's state show in its own
registers. -/
structure SeqApart (k : Fin 8) (e : Fld) : Prop where
  below : e.addr < 0x160000
  pg : e.Apart (F.RAIL_TSTAT_PG k.val)
  trans : e.Apart (F.RAIL_TSTAT_TRANS k.val)
  arrv : e.Apart (F.RAIL_TSTAT_ARRV k.val)
  fpact : e.Apart (F.RAIL_TSTAT_FPACT k.val)
  fcarmed : e.Apart (F.RAIL_MSTAT_FCARMED k.val)

/-- A field outside the two status registers. -/
theorem seqApart_of_addr {k : Fin 8} {e : Fld} (hb : e.addr < 0x160000) (ht : e.addr ≠ A.RAIL_TSTAT k.val)
    (hm : e.addr ≠ A.RAIL_MSTAT k.val) : SeqApart k e := ⟨hb, .inl ht, .inl ht, .inl ht, .inl ht, .inl hm⟩

section
variable {k : Fin 8} {e : Fld} (h : SeqApart k e)
include h

theorem SeqApart.not_router : ¬ RouterWord e.addr := not_routerWord_of_lt (Nat.lt_trans h.below (by decide))

theorem SeqApart.setWord_g (s : State) {a : Nat} (ha : 0x160000 ≤ a) (w : Word) : (s.setWord a w).g e = s.g e :=
  congrArg (getBits · e.lo e.w) (State.word_setWord_ne s a e.addr w (Nat.ne_of_lt (Nat.lt_of_lt_of_le h.below ha)))

theorem SeqApart.cause_g (p j lo sl : Nat) (s : State) : (setSlotCause p j lo sl s).g e = s.g e :=
  h.setWord_g s (by unfold A.LNK_EP_CAUSE; omega) _

theorem SeqApart.entryArrived_g (tag : BitVec 16) (j : Fin 8) (s : State) : (entryArrived tag j s).g e = s.g e := by
  unfold entryArrived
  split
  · rfl
  · split
    · split
      · rfl
      · exact (h.setWord_g _ (by unfold A.LNK_EP_ARVTAG; omega) _).trans (h.cause_g _ _ _ _ s)
    · rfl

theorem SeqApart.entryRevoked_g (tag : BitVec 16) (j : Fin 8) (s : State) : (entryRevoked tag j s).g e = s.g e := by
  unfold entryRevoked
  split
  · rfl
  · split
    · split
      · rfl
      · exact h.cause_g _ _ _ _ s
    · rfl

theorem SeqApart.railCause_g (lo : Nat) (j : Fin 8) (s : State) : (railCause lo j s).g e = s.g e := by
  refine forEach_keep (·.g e) _ (fun s x => ?_) _ s
  split
  · exact forEach_keep (·.g e) (fun s sl => setSlotCause x.1 x.2 lo sl s) (fun s sl => h.cause_g _ _ _ _ s) _ s
  · rfl

theorem SeqApart.setPG_g (b : Bool) (s : State) : (setPG k b s).g e = s.g e := by
  unfold setPG
  split
  · rfl
  · refine (congrArg (getBits · e.lo e.w) (routerEdge_word _ b _ e.addr h.not_router)).trans ?_
    exact g_pb_of_apart s b (show 0 + 1 ≤ 32 by decide) h.pg

theorem SeqApart.dropForecast_g (s : State) : (dropForecast k s).g e = s.g e :=
  (g_pb_of_apart _ false (show 4 + 1 ≤ 32 by decide) h.fpact).trans (g_pb_of_apart _ false (show 3 + 1 ≤ 32 by decide) h.fcarmed)

theorem SeqApart.transArrives_g (s : State) : (transArrives k s).g e = s.g e := by
  unfold transArrives
  split
  · rfl
  · refine (congrArg (getBits · e.lo e.w) (routerEdge_word _ true _ e.addr h.not_router)).trans ?_
    exact (h.entryArrived_g _ k _).trans ((g_pb_of_apart _ true (show 1 + 1 ≤ 32 by decide) h.arrv).trans
      (g_pb_of_apart _ false (show 2 + 1 ≤ 32 by decide) h.trans))

theorem SeqApart.onOffArrive_g (kind : Nat) (s : State) : (onOffArrive k kind s).g e = s.g e :=
  forEach_keep (·.g e) (fun s (t : Trans) => entryArrived t.tag k s) (fun s t => h.entryArrived_g t.tag k s) _ _

theorem SeqApart.pendingLost_g (s : State) : (pendingLost k s).g e = s.g e :=
  (forEach_keep (·.g e) (fun s (t : Trans) => entryRevoked t.tag k s) (fun s t => h.entryRevoked_g t.tag k s) _ _).trans
    (g_pb_of_apart _ false (show 2 + 1 ≤ 32 by decide) h.trans)

/-- Such a field keeps its value through the outcomes of any change of state. -/
theorem SeqApart.enterState_g (st : SeqState) (s : State) : (enterState k st s).g e = s.g e := by
  unfold enterState
  cases st <;> simp only [reduceCtorEq, if_true, if_false, h.setPG_g, h.dropForecast_g, h.onOffArrive_g, h.transArrives_g,
    h.railCause_g, h.pendingLost_g] <;> rfl

end

/-- ENBLK is none of what a change of state shows. -/
theorem seqApart_enblk (k : Fin 8) : SeqApart k (F.RAIL_TSTAT_ENBLK k.val) where
  below := by
    show A.RAIL_TSTAT k.val < 0x160000
    unfold A.RAIL_TSTAT
    omega
  pg := .inr (.inr (show 0 + 1 ≤ 9 by decide))
  trans := .inr (.inr (show 2 + 1 ≤ 9 by decide))
  arrv := .inr (.inr (show 1 + 1 ≤ 9 by decide))
  fpact := .inr (.inr (show 4 + 1 ≤ 9 by decide))
  fcarmed := .inl (show A.RAIL_TSTAT k.val ≠ A.RAIL_MSTAT k.val by unfold A.RAIL_TSTAT A.RAIL_MSTAT; omega)

end Sys2Proof.Machine
end

section
/-!
SUPPORT. What enabling a rail leaves of the fault manager's records (R204, R263, R281): the counts of its rails and phases.
-/

open Sys2Proof Sys2Proof.Machine
namespace Sys2Proof.Machine

/-- A field of the fault manager's records of rails and phases. -/
structure FaultRecord (e : Fld) : Prop where
  above : 0x150100 ≤ e.addr
  below : e.addr < 0x160000

theorem faultRecord_hiccnt (k : Fin 8) : FaultRecord (F.FM_RAIL_STAT_HICCNT k.val) := by
  constructor
  · show 0x150100 ≤ A.FM_RAIL_STAT k.val
    unfold A.FM_RAIL_STAT
    omega
  · show A.FM_RAIL_STAT k.val < 0x160000
    unfold A.FM_RAIL_STAT
    omega

section
variable {e : Fld} (h : FaultRecord e)
include h

theorem FaultRecord.not_router : ¬ RouterWord e.addr := not_routerWord_of_lt (Nat.lt_trans h.below (by decide))

theorem FaultRecord.not_report : ¬ ReportWord e.addr := by
  have habove := h.above
  refine not_reportWord_of (Nat.lt_trans h.below (by decide)) ?_ ?_
  · unfold A.FM_STATUS
    omega
  · unfold A.LG_INFO
    omega

/-- A write below the fault manager's records. -/
theorem FaultRecord.setWord_g (s : State) {a : Nat} (ha : a < 0x150100) (w : Word) : (s.setWord a w).g e = s.g e :=
  congrArg (getBits · e.lo e.w) (State.word_setWord_ne s a e.addr w (Nat.ne_of_gt (Nat.lt_of_lt_of_le ha h.above)))

theorem FaultRecord.qPush_g (q : Fin 16) (x : QEntry) (s : State) : (qPush q x s).g e = s.g e := by
  refine congrArg (getBits · e.lo e.w) (qPush_word q x s e.addr h.not_router ?_)
  have hbelow := h.below
  unfold A.Q_STAT
  omega

/-! ### Messages and roles -/

theorem FaultRecord.inkMessage_g (kind : Nat) (n : Option (Fin 48)) (rail before after val : Nat) (s : State) :
    (inkMessage kind n rail before after val s).g e = s.g e := by
  unfold inkMessage
  extract_lets ep ph x s1
  have h1 : s1.g e = s.g e := by
    unfold s1
    by_cases hroom : s.room 14 1 = true
    · have hpush := h.qPush_g 14 x s
      unfold qPush at hpush
      rwa [if_pos hroom] at hpush ⊢
    · have hpush := h.qPush_g 14 x s
      unfold qPush at hpush
      rw [if_neg hroom] at hpush ⊢
      exact (h.setWord_g _ (show A.INK_REQSTAT < 0x150100 by decide) _).trans hpush
  split
  · exact (record_g _ _ _ e h.not_report).trans h1
  · exact h1

theorem FaultRecord.changeRole_g (n : Fin 48) (r : Role) (val : Nat) (s : State) : (changeRole n r val s).g e = s.g e := by
  unfold changeRole
  dsimp only
  split
  · rfl
  · exact h.inkMessage_g _ _ _ _ _ _ _

theorem FaultRecord.endTest_g (n : Fin 48) (s : State) : (endTest n s).g e = s.g e := by
  have hrole : A.PHASE_ROLE n.val < 0x150100 := by
    unfold A.PHASE_ROLE
    omega
  unfold endTest
  dsimp only
  split
  · rfl
  · refine (congrArg (getBits · e.lo e.w) (q15Put_word _ _ e.addr h.not_router)).trans ((h.inkMessage_g _ _ _ _ _ _ _).trans
      ((h.changeRole_g _ _ _ _).trans ?_))
    exact (h.setWord_g _ hrole _).trans ((switchFrame_g h.not_router).phOff_eq s)

/-! ### Rings and phases -/

theorem FaultRecord.startPhase_g (n : Fin 48) (s : State) : (startPhase n s).g e = s.g e := by
  have hctl : A.PHASE_CTL n.val < 0x150100 := by
    unfold A.PHASE_CTL
    omega
  exact ((switchFrame_g (n := n) h.not_router).phOff_eq _).trans (h.setWord_g s hctl _)

theorem FaultRecord.writeRing_g (k : Fin 8) (l : List (Fin 48)) (s : State) : (writeRing k l s).g e = s.g e := by
  have hring : ∀ j, j < 8 → A.RAIL_RING k.val j < 0x150100 := fun j hj => by
    unfold A.RAIL_RING
    omega
  have hseq : A.RAIL_SEQ k.val < 0x150100 := by
    unfold A.RAIL_SEQ
    omega
  have hmstat : A.RAIL_MSTAT k.val < 0x150100 := by
    unfold A.RAIL_MSTAT
    omega
  unfold writeRing
  refine (h.setWord_g _ hmstat _).trans ((h.setWord_g _ hseq _).trans ?_)
  refine List.foldlRecOn (motive := fun u : State => u.g e = s.g e) _ _ rfl fun u hu i hi => ?_
  have hi : i < 32 := List.mem_range.mp hi
  exact (h.setWord_g u (hring (i / 4) (by omega)) _).trans hu

/-! ### The rail's own registers -/

theorem FaultRecord.clearAtEnable_g (k : Fin 8) (s : State) : (clearAtEnable k s).g e = s.g e := by
  have hol : A.OL_HZNOW k.val < 0x150100 ∧ A.OL_STATUS k.val < 0x150100 := by
    unfold A.OL_HZNOW A.OL_STATUS
    omega
  have hrail : A.RAIL_LOCKSTAT k.val < 0x150100 ∧ A.RAIL_MSTAT k.val < 0x150100 := by
    unfold A.RAIL_LOCKSTAT A.RAIL_MSTAT
    omega
  have hgraph : A.GRAPH_CTL k.val < 0x150100 ∧ A.GRAPH_STATUS k.val < 0x150100 ∧ A.GRAPH_YOUT k.val < 0x150100 := by
    unfold A.GRAPH_CTL A.GRAPH_STATUS A.GRAPH_YOUT
    omega
  obtain ⟨hznow, hstatus⟩ := hol
  obtain ⟨hlock, hmstat⟩ := hrail
  obtain ⟨hctl, hgstat, hyout⟩ := hgraph
  unfold clearAtEnable
  calc _ = _ := h.setWord_g _ hyout _
    _ = _ := h.setWord_g _ hgstat _
    _ = _ := h.setWord_g _ hgstat _
    _ = _ := h.setWord_g _ hgstat _
    _ = _ := h.setWord_g _ hctl _
    _ = _ := h.setWord_g _ hmstat _
    _ = _ := h.setWord_g _ hlock _
    _ = _ := h.setWord_g _ hstatus _
    _ = _ := h.setWord_g _ hstatus _
    _ = _ := h.setWord_g s hznow _

theorem FaultRecord.fitPeriod_g (k : Fin 8) (s : State) : (fitPeriod k s).g e = s.g e := by
  have heph : A.EPH_PINC k.val < 0x150100 ∧ A.EPH_STATUS k.val < 0x150100 := by
    unfold A.EPH_PINC A.EPH_STATUS
    omega
  obtain ⟨hpinc, hstatus⟩ := heph
  unfold fitPeriod
  split
  · rfl
  · split
    · exact h.setWord_g s hpinc _
    · exact h.setWord_g s hstatus _

theorem FaultRecord.showStates_g (k : Fin 8) (s : State) : (showStates k s).g e = s.g e := by
  have hstate : ∀ (i : Fin 16) (j : Fin 4), A.GRAPH_STG_STATE k.val i.val j.val < 0x150100 := fun i j => by
    unfold A.GRAPH_STG_STATE
    omega
  have hofs : A.GRAPH_HOFS k.val 0 < 0x150100 ∧ A.GRAPH_HOFS k.val 1 < 0x150100 := by
    unfold A.GRAPH_HOFS
    omega
  obtain ⟨hofs0, hofs1⟩ := hofs
  unfold showStates
  refine (h.setWord_g _ hofs1 _).trans ((h.setWord_g _ hofs0 _).trans (forAll_keep (·.g e) _ (fun s i => ?_) s))
  exact forAll_keep (·.g e) _ (fun s j => h.setWord_g s (hstate i j) _) s

theorem FaultRecord.freshRail_g (k : Fin 8) (ring : List (Fin 48)) (s : State) : (freshRail k ring s).g e = s.g e := by
  have htrim : ∀ n : Fin 48, A.OLPH_TRIM n.val < 0x150100 := fun n => by
    unfold A.OLPH_TRIM
    omega
  unfold freshRail
  refine (forEach_keep (·.g e) _ (fun s n => h.setWord_g s (htrim n) _) _ _).trans ((h.showStates_g k _).trans ?_)
  exact h.fitPeriod_g k _

theorem FaultRecord.settleLock_g (k : Fin 8) (s : State) : (settleLock k s).g e = s.g e := by
  have hmstat : e.addr ≠ A.RAIL_MSTAT k.val := by
    have habove := h.above
    unfold A.RAIL_MSTAT
    omega
  exact Machine.settleLock_g k s e (.inl hmstat) (.inl hmstat)

theorem FaultRecord.updateSmods_g (s : State) : (updateSmods s).g e = s.g e := by
  have hcfg : ∀ g : Fin 6, A.STAGEGRP_CFG g.val < 0x150100 := fun g => by
    unfold A.STAGEGRP_CFG
    omega
  refine forAll_keep (·.g e) _ (fun s g => ?_) s
  unfold updateSmod
  dsimp only
  split
  · exact h.setWord_g s (hcfg g) _
  · split
    · exact h.setWord_g s (hcfg g) _
    · rfl

theorem FaultRecord.seqApart (k : Fin 8) : SeqApart k e := by
  have habove := h.above
  refine seqApart_of_addr h.below ?_ ?_
  · unfold A.RAIL_TSTAT
    omega
  · unfold A.RAIL_MSTAT
    omega

/-- Enabling a rail leaves the fault manager's records. -/
theorem FaultRecord.enableRail_g (k : Fin 8) (s : State) : (enableRail k s).g e = s.g e := by
  have htstat : A.RAIL_TSTAT k.val < 0x150100 := by
    unfold A.RAIL_TSTAT
    omega
  have hmstat : A.RAIL_MSTAT k.val < 0x150100 := by
    unfold A.RAIL_MSTAT
    omega
  unfold enableRail
  split
  · exact ((h.seqApart k).enterState_g .off _).trans (h.setWord_g s htstat _)
  · have htests : ∀ (s : State) (n : Fin 48), (if s.railOf n.val = some k then endTest n s else s).g e = s.g e := fun s n => by
      split
      · exact h.endTest_g n s
      · rfl
    extract_lets s1 pool s2 s3 s4 s5 s6
    calc _ = s6.g e := (h.updateSmods_g _).trans ((h.settleLock_g k _).trans ((h.seqApart k).enterState_g .wake s6))
      _ = s5.g e := h.setWord_g s5 hmstat _
      _ = s4.g e := forEach_keep (·.g e) _ (fun s n => h.startPhase_g n s) pool s4
      _ = s3.g e := (h.freshRail_g k pool _).trans ((h.clearAtEnable_g k _).trans (h.writeRing_g k pool s3))
      _ = s2.g e := rfl
      _ = s1.g e := forEach_keep (·.g e) _ (fun s n => h.changeRole_g n .active 0 s) pool s1
      _ = s.g e := forAll_keep (·.g e) _ htests s

end

end Sys2Proof.Machine
end

section
/-!
SUPPORT. The conditions and the steps of a start and a stop (R47, R143, R147, R204, R206, R209, R210).
-/

open Sys2Proof Sys2Proof.Machine
namespace Sys2Proof.Machine

/-! ### The graph's validity (R143, R147) -/

/-- Two states whose registers describe the same graph of rail k and the same cost of its outer loops. -/
structure SameGraph (u s : State) (k : Nat) : Prop where
  hdr : u.word (A.GRAPH_HDR k) = s.word (A.GRAPH_HDR k)
  desc : ∀ i, u.word (A.GRAPH_STG_DESC k i) = s.word (A.GRAPH_STG_DESC k i)
  olCtl : u.word (A.OL_CTL k) = s.word (A.OL_CTL k)

section
variable {u s : State} {k : Nat} (h : SameGraph u s k)
include h

theorem SameGraph.nstage : u.nstage k = s.nstage k := congrArg (fun w => getBits w 8 4 + 1) h.hdr

theorem SameGraph.rate : u.rate k = s.rate k := congrArg (getBits · 16 3) h.hdr

theorem SameGraph.outerCyc : u.g (F.GRAPH_HDR_OUTERCYC k) = s.g (F.GRAPH_HDR_OUTERCYC k) := congrArg (getBits · _ _) h.hdr

theorem SameGraph.stageType (i : Nat) : u.g (F.GRAPH_STG_DESC_TYPE k i) = s.g (F.GRAPH_STG_DESC_TYPE k i) :=
  congrArg (getBits · _ _) (h.desc i)

theorem SameGraph.stageBranch (i : Nat) : u.g (F.GRAPH_STG_DESC_BRANCH k i) = s.g (F.GRAPH_STG_DESC_BRANCH k i) :=
  congrArg (getBits · _ _) (h.desc i)

theorem SameGraph.stage (i : Nat) : u.stage k i = s.stage k i := by
  have ha : u.g (F.GRAPH_STG_DESC_SRCA k i) = s.g (F.GRAPH_STG_DESC_SRCA k i) := congrArg (getBits · _ _) (h.desc i)
  have hb : u.g (F.GRAPH_STG_DESC_SRCB k i) = s.g (F.GRAPH_STG_DESC_SRCB k i) := congrArg (getBits · _ _) (h.desc i)
  unfold State.stage
  rw [h.stageType, h.stageBranch, ha, hb]

theorem SameGraph.innerCyc : u.innerCyc k = s.innerCyc k := by
  unfold State.innerCyc
  simp only [h.nstage, h.stageType]

theorem SameGraph.sliceCost : u.sliceCost k = s.sliceCost k := by
  have hp : u.g (F.OL_CTL_PMAX k) = s.g (F.OL_CTL_PMAX k) := congrArg (getBits · _ _) h.olCtl
  have hi : u.g (F.OL_CTL_KI k) = s.g (F.OL_CTL_KI k) := congrArg (getBits · _ _) h.olCtl
  have hh : u.g (F.OL_CTL_KH k) = s.g (F.OL_CTL_KH k) := congrArg (getBits · _ _) h.olCtl
  unfold State.sliceCost
  rw [hp, hi, hh]

theorem SameGraph.tainted (br : Nat) : u.tainted k br = s.tainted k br := by
  unfold State.tainted
  simp only [h.nstage, h.stage]

theorem SameGraph.readsBranch (br code : Nat) : u.readsBranch k br code = s.readsBranch k br code := by
  unfold State.readsBranch
  rw [h.stageBranch]

theorem SameGraph.stageOk (i : Nat) : u.stageOk k i = s.stageOk k i := by
  unfold State.stageOk
  simp only [h.nstage, h.stage, h.readsBranch, h.tainted]

theorem SameGraph.gvalid : u.gvalid k = s.gvalid k := by
  unfold State.gvalid
  simp only [h.nstage, h.stageOk, h.innerCyc, h.outerCyc, h.rate, h.sliceCost]

end

theorem sameGraph_setWord_fmRailStat (s : State) (k : Fin 8) (w : Word) :
    SameGraph (s.setWord (A.FM_RAIL_STAT k.val) w) s k.val := by
  have hne : ∀ a, a ≠ A.FM_RAIL_STAT k.val → (s.setWord (A.FM_RAIL_STAT k.val) w).word a = s.word a :=
    fun a ha => State.word_setWord_ne s _ a w ha
  refine ⟨hne _ ?_, fun i => hne _ ?_, hne _ ?_⟩
  · unfold A.GRAPH_HDR A.FM_RAIL_STAT
    omega
  · unfold A.GRAPH_STG_DESC A.FM_RAIL_STAT
    omega
  · unfold A.OL_CTL A.FM_RAIL_STAT
    omega

/-- The count of hiccups is no condition of a start. -/
theorem canEnable_inc_hiccnt (s : State) (k : Fin 8) :
    (s.inc (F.FM_RAIL_STAT_HICCNT k.val)).canEnable k = s.canEnable k := by
  have hgraph : (s.inc (F.FM_RAIL_STAT_HICCNT k.val)).gvalid k.val = s.gvalid k.val :=
    (sameGraph_setWord_fmRailStat s k _).gvalid
  have hne : A.RAIL_SEQ k.val ≠ A.FM_RAIL_STAT k.val := by
    unfold A.RAIL_SEQ A.FM_RAIL_STAT
    omega
  have hring : (s.inc (F.FM_RAIL_STAT_HICCNT k.val)).g (F.RAIL_SEQ_RINGLEN k.val) = s.g (F.RAIL_SEQ_RINGLEN k.val) :=
    State.g_p_addr s _ _ _ hne
  have hra : (s.inc (F.FM_RAIL_STAT_HICCNT k.val)).ra k = s.ra k := congrArg (vget · k) (State.inc_rail s _)
  unfold State.canEnable
  rw [hgraph, hring, hra]

/-! ### Enabling a rail (R204, R205) -/

theorem enableRail_refused {s : State} {k : Fin 8} (h : s.canEnable k = false) :
    enableRail k s = enterState k .off (s.pb (F.RAIL_TSTAT_ENBLK k.val) true) := if_pos (by simp [h])

theorem enableRail_st {s : State} {k : Fin 8} (h : s.canEnable k = true) : (enableRail k s).st k = .wake := by
  unfold enableRail
  rw [if_neg (by simp [h])]
  exact (st_of_rail (updateSmods_rail _) k).trans ((settleLock_st _ k).trans (enterState_st _ k .wake))

/-- A rail that may not be enabled goes to OFF and shows why. -/
theorem enableRail_blocked {s : State} {k : Fin 8} (h : s.canEnable k = false) :
    (enableRail k s).st k = .off ∧ (enableRail k s).gb (F.RAIL_TSTAT_ENBLK k.val) = true := by
  rw [enableRail_refused h]
  refine ⟨enterState_st _ k .off, ?_⟩
  have hkept := (seqApart_enblk k).enterState_g .off (s.pb (F.RAIL_TSTAT_ENBLK k.val) true)
  exact (congrArg (· != 0) hkept).trans (State.gb_pb s _ true rfl (show 9 + 1 ≤ 32 by decide))

/-! ### The wait for the group's turn (R209) -/

/-- A wait shows GBLOCK at most. -/
theorem blockCheck_waits (k : Fin 8) (s : State) : (blockCheck k s).st k = s.st k ∧ (blockCheck k s).rail = s.rail
    ∧ (blockCheck k s).phase = s.phase := by
  unfold blockCheck
  split <;> exact ⟨rfl, rfl, rfl⟩

/-! ### The wake of a ring's groups (R47) -/

/-- The group of phase n counts as awake where its SMODg is high. -/
def wakeGroup (s : State) (n : Fin 48) : State :=
  if s.gb (F.STAGEGRP_CFG_SMODOUT (groupOf n.val)) then
    { s with sup := { s.sup with groupAwake := vset s.sup.groupAwake (Fin.ofNat 6 (groupOf n.val)) true } }
  else s

theorem wakeRing_eq (k : Fin 8) (s : State) : wakeRing k s = forEach wakeGroup (s.ring k) s := rfl

theorem wakeGroup_regs (s : State) (n : Fin 48) : (wakeGroup s n).regs = s.regs := by
  unfold wakeGroup
  split <;> rfl

theorem wakeGroup_phase (s : State) (n : Fin 48) : (wakeGroup s n).phase = s.phase := by
  unfold wakeGroup
  split <;> rfl

theorem wakeGroup_awake {s : State} {n : Fin 48} (h : s.gb (F.STAGEGRP_CFG_SMODOUT (groupOf n.val)) = true) :
    (wakeGroup s n).awake (groupOf n.val) = true := by
  unfold wakeGroup
  rw [if_pos h]
  exact vget_vset_same _ _ _

/-- No group goes back to sleep. -/
theorem wakeGroup_awake_of_awake {s : State} {g : Nat} (n : Fin 48) (h : s.awake g = true) : (wakeGroup s n).awake g = true := by
  unfold wakeGroup
  split
  · by_cases hg : Fin.ofNat 6 g = Fin.ofNat 6 (groupOf n.val)
    · exact (congrArg (vget _) hg).trans (vget_vset_same _ _ _)
    · exact (vget_vset_ne _ _ hg).trans h
  · exact h

/-- Of the phases in turn, each whose SMODg is high has its group awake at the end. -/
theorem forEach_wakeGroup_awake (l : List (Fin 48)) (s : State) {n : Fin 48} (hn : n ∈ l)
    (h : s.gb (F.STAGEGRP_CFG_SMODOUT (groupOf n.val)) = true) : (forEach wakeGroup l s).awake (groupOf n.val) = true := by
  induction l generalizing s with
  | nil => exact absurd hn List.not_mem_nil
  | cons m l ih =>
    show (forEach wakeGroup l (wakeGroup s m)).awake _ = true
    by_cases hm : n = m
    · subst hm
      exact forEach_inv (·.awake (groupOf n.val) = true) wakeGroup (fun s x => wakeGroup_awake_of_awake x) l _ (wakeGroup_awake h)
    · refine ih (wakeGroup s m) ((List.mem_cons.mp hn).resolve_left hm) ?_
      have hregs := wakeGroup_regs s m
      unfold State.gb State.g State.word at h ⊢
      rwa [hregs]

/-- PG leaves the pins and the groups' wake flags. -/
theorem setPG_sup (k : Fin 8) (b : Bool) (s : State) : (setPG k b s).sup = s.sup := by
  unfold setPG
  split
  · rfl
  · exact routerEdge_keep (·.sup) (fun _ _ _ => rfl) (fun _ _ _ => rfl) _ b _

/-- Into RAMP a rail takes its groups awake, and no phase changes. -/
theorem enterRamp_woken (k : Fin 8) (s : State) :
    (enterState k .ramp (wakeRing k s)).st k = .ramp
      ∧ (∀ n ∈ s.ring k, s.gb (F.STAGEGRP_CFG_SMODOUT (groupOf n.val)) = true →
          (enterState k .ramp (wakeRing k s)).awake (groupOf n.val) = true)
      ∧ (enterState k .ramp (wakeRing k s)).phase = s.phase := by
  generalize hv : (wakeRing k s).modTr k (fun t => { t with st := .ramp, cnt := 0, inCnt := 0, outCnt := 0 }) = v
  have henter : enterState k .ramp (wakeRing k s) = setPG k false v := by
    rw [← hv]
    rfl
  have hsup : v.sup = (forEach wakeGroup (s.ring k) s).sup := by rw [← hv, State.modTr_sup, wakeRing_eq]
  have hphase : v.phase = s.phase := by
    rw [← hv, State.modTr_phase, wakeRing_eq]
    exact forEach_keep (·.phase) wakeGroup wakeGroup_phase _ s
  refine ⟨enterState_st _ k .ramp, fun n hn hhigh => ?_, ?_⟩
  · have hawake := forEach_wakeGroup_awake (s.ring k) s hn hhigh
    unfold State.awake at hawake ⊢
    rwa [henter, setPG_sup, hsup]
  · rw [henter]
    exact (setPG_taken k false v).phase.trans hphase

/-! ### A stop after its delay (R206) -/

theorem proceedStop_st (k : Fin 8) (s : State) :
    (proceedStop k s).st k = if s.gb (F.RAIL_SEQCTL_STOPMODE k.val) then .off else .stopping := by
  unfold proceedStop
  split
  · exact disableRail_st s k false .off
  · exact (modTr_st _ k _).trans (enterState_st s k .stopping)

/-! ### The progress check (R210) -/

theorem progressCheck_passes {s : State} {k : Fin 8} (hx : -(s.g (F.OL_FE_FELIM k.val) : Int) ≤ (s.ra k).gr.x)
    (hw : (s.ra k).gr.winNeg = false) : progressCheck k s = s := if_neg (by simp [hx, hw])

theorem progressCheck_fails {s : State} {k : Fin 8} (hx : (s.ra k).gr.x < -(s.g (F.OL_FE_FELIM k.val) : Int)) :
    (progressCheck k s).g F.FM_STATUS_LASTFID = 0x0A := by
  unfold progressCheck
  rw [if_pos (by simp [hx])]
  exact raiseRail_lastfid 0x0A k _

end Sys2Proof.Machine
end

section
/-!
PROOFS. The timers of starts, stops and retries (O26).
-/

open Sys2Proof Sys2Proof.Machine
namespace Sys2Proof.Machine

section
variable {s : State} {k : Fin 8}

theorem startDelayExpiry_turn (hs : s.st k = .delay) (hr : s.request k = true) (ht : s.turn k = true) :
    startDelayExpiry k s = enableRail k s := by
  unfold startDelayExpiry
  rw [if_pos (by simp [hs, hr]), if_pos ht]

/-- Before the group's turn the delay's end leaves the rail waiting. -/
theorem startDelayExpiry_waits (hs : s.st k = .delay) (ht : s.turn k = false) :
    (startDelayExpiry k s).st k = .delay ∧ (startDelayExpiry k s).rail = s.rail ∧ (startDelayExpiry k s).phase = s.phase := by
  unfold startDelayExpiry
  split
  · rw [if_neg (by simp [ht])]
    obtain ⟨hst, hrail, hphase⟩ := blockCheck_waits k s
    exact ⟨hst.trans hs, hrail, hphase⟩
  · exact ⟨hs, rfl, rfl⟩

theorem startDelayExpiry_idle (h : s.st k ≠ .delay ∨ s.request k = false) : startDelayExpiry k s = s :=
  if_neg (by rcases h with h | h <;> simp [h])

theorem wakeExpiry_ramp (hs : s.st k = .wake) (hr : s.request k = true) :
    wakeExpiry k s = enterState k .ramp (wakeRing k s) := if_pos (by simp [hs, hr])

theorem wakeExpiry_idle (h : s.st k ≠ .wake ∨ s.request k = false) : wakeExpiry k s = s :=
  if_neg (by rcases h with h | h <;> simp [h])

theorem stopDelayExpiry_proceeds (hs : s.st k = .stopdly) (hr : s.request k = false) :
    stopDelayExpiry k s = proceedStop k s := if_pos (by simp [hs, hr])

theorem stopDelayExpiry_idle (h : s.st k ≠ .stopdly ∨ s.request k = true) : stopDelayExpiry k s = s :=
  if_neg (by rcases h with h | h <;> simp [h])

theorem startProgressCheck_on (hs : s.st k = .on) (hg : (s.ra k).tr.grace ≠ none) :
    startProgressCheck k s = progressCheck k (s.modTr k fun t => { t with grace := none }) :=
  if_pos (by simp [hs, Option.isSome_iff_ne_none, hg])

theorem startProgressCheck_ramp (hs : s.st k = .ramp) : startProgressCheck k s = progressCheck k s := by
  unfold startProgressCheck
  rw [if_neg (by simp [hs]), if_pos hs]

theorem startProgressCheck_idle (h : s.st k ≠ .on ∨ (s.ra k).tr.grace = none) (hr : s.st k ≠ .ramp) :
    startProgressCheck k s = s := by
  unfold startProgressCheck
  rw [if_neg (by rcases h with h | h <;> simp [h]), if_neg hr]

/-- The sample a check reads is none of what the end of its wait changes. -/
theorem modTr_gr (s : State) (k : Fin 8) (f : TransitState → TransitState) : ((s.modTr k f).ra k).gr = (s.ra k).gr := by
  unfold State.modTr
  rw [State.modRa_same]

theorem hiccupRetry_runs (hs : s.st k = .hiccup) (hr : s.request k = true) (hn : (s.ra k).tr.needOff = false)
    (hd : s.running = true) : hiccupRetry k s = enableRail k (s.inc (F.FM_RAIL_STAT_HICCNT k.val)) :=
  if_pos (by simp [hs, hr, hn, hd])

theorem hiccupRetry_idle (h : s.st k ≠ .hiccup ∨ s.request k = false ∨ (s.ra k).tr.needOff = true ∨ s.running = false) :
    hiccupRetry k s = s := if_neg (by rcases h with h | h | h | h <;> simp [h])

theorem hiccupCountClear_good (h : s.gb (F.RAIL_TSTAT_PG k.val) = true) :
    hiccupCountClear k s = s.p (F.FM_RAIL_STAT_HICCNT k.val) 0 := if_pos h

theorem hiccupCountClear_idle (h : s.gb (F.RAIL_TSTAT_PG k.val) = false) : hiccupCountClear k s = s := if_neg (by simp [h])

theorem safeStopTimeout_stops (he : s.enabled k = true) (hp : (s.ra k).pr.safeStop = true) :
    safeStopTimeout k s = disableRail true .off k s := if_pos (by simp [he, hp])

theorem safeStopTimeout_idle (h : s.enabled k = false ∨ (s.ra k).pr.safeStop = false) : safeStopTimeout k s = s :=
  if_neg (by rcases h with h | h <;> simp [h])

end

/-- Settles O26: each timer by the step of the sequencer it takes in its state, and by the guard that keeps it idle in every other. -/
theorem sequencerTimersAct : Obligations.SequencerTimersAct := by
  unfold Obligations.SequencerTimersAct
  refine ⟨fun s k hs hr ht hc => ?_, fun s k hs hr ht hc => ?_, fun s k hs ht => ?_, fun s k hs hr => ?_,
    fun s k hs hr => ?_, fun s k hs hg hx hw => ?_, fun s k hs hg hx => ?_, fun s k hs hx => ?_,
    fun s k hs hr hn hd hc => ?_, fun s k hp => ?_, fun s k he hp => ?_, fun s k h => ?_, fun s k h => ?_,
    fun s k h => ?_, fun s k h hr => ?_, fun s k h => ?_, fun s k h => ?_, fun s k h => ?_⟩
  · exact ⟨_, congrArg done (startDelayExpiry_turn hs hr ht), enableRail_st hc⟩
  · exact ⟨_, congrArg done (startDelayExpiry_turn hs hr ht), enableRail_blocked hc⟩
  · exact ⟨_, rfl, startDelayExpiry_waits hs ht⟩
  · exact ⟨_, congrArg done (wakeExpiry_ramp hs hr), enterRamp_woken k s⟩
  · exact ⟨_, congrArg done (stopDelayExpiry_proceeds hs hr), proceedStop_st k s⟩
  · rw [← modTr_gr s k fun t => { t with grace := none }] at hx hw
    exact congrArg done ((startProgressCheck_on hs hg).trans (progressCheck_passes hx hw))
  · rw [← modTr_gr s k fun t => { t with grace := none }] at hx
    exact ⟨_, congrArg done (startProgressCheck_on hs hg), progressCheck_fails hx⟩
  · exact ⟨_, congrArg done (startProgressCheck_ramp hs), progressCheck_fails hx⟩
  · refine ⟨_, congrArg done (hiccupRetry_runs hs hr hn hd), enableRail_st ((canEnable_inc_hiccnt s k).trans hc), ?_⟩
    exact ((faultRecord_hiccnt k).enableRail_g k _).trans (State.g_inc s _ (show 28 + 4 ≤ 32 by decide))
  · refine ⟨_, congrArg done (hiccupCountClear_good hp), State.g_p s _ 0 (show 28 + 4 ≤ 32 by decide), ?_⟩
    exact (onlyWords_refl s _).p (F.FM_RAIL_STAT_HICCNT k.val) 0 (List.mem_singleton.mpr rfl)
  · exact ⟨_, congrArg done (safeStopTimeout_stops he hp), disableRail_st s k true .off⟩
  · exact congrArg done (startDelayExpiry_idle h)
  · exact congrArg done (wakeExpiry_idle h)
  · exact congrArg done (stopDelayExpiry_idle h)
  · exact congrArg done (startProgressCheck_idle h hr)
  · exact congrArg done (hiccupRetry_idle h)
  · exact congrArg done (hiccupCountClear_idle h)
  · exact congrArg done (safeStopTimeout_idle h)

end Sys2Proof.Machine
end

section
/-!
SUPPORT. The frames of the load link: the opcodes of a slot (R224), the checks of R222 one by one, and what an answer and a
remembered frame leave (R219, R223).
-/

open Sys2Proof Sys2Proof.Machine
namespace Sys2Proof.Machine

/-! ### The opcodes of a slot (R224) -/

theorem opBase_slot {b : Nat} (hb : 4 ≤ b ∧ b % 4 = 0) (i : Fin 4) : opBase (b + i.val) = b := by
  unfold opBase
  split <;> omega

theorem slot_of_opcode {b : Nat} (hb : 4 ≤ b ∧ b % 4 = 0) (i : Fin 4) :
    (if b + i.val < 4 then 0 else (b + i.val) % 4) = i.val := by
  split <;> omega

theorem opBase_port {op : Nat} (h : op < 4) : opBase op = op := if_pos h

theorem opDup_read {op : Nat} (h : 2 < op) (h' : op < 0x10) : opDup op = false := by
  simp [opDup]
  omega

theorem opDup_command {op : Nat} (h : 0x10 ≤ op) (h' : op < 0x28) : opDup op = true := by
  simp [opDup, h, h']

theorem opWrites_read {op : Nat} (h : opBase op < 0x10) (arg : BitVec 8) : opWrites op arg = false := by
  simp [opWrites]
  omega

/-- Opcodes below MARGIN are in both versions (R239). -/
theorem opKnown_both {op : Nat} (h : op < 0x18) (v : Nat) : opKnown op v = true := by
  have hb : opBase op < 0x18 := by
    unfold opBase
    split <;> omega
  simp [opKnown]
  omega

theorem opKnown_unassigned {op : Nat} (h : 0x28 ≤ op) (v : Nat) : opKnown op v = false := by
  simp [opKnown]
  omega

/-- What takes no part in duplicate detection repeats nothing (R223). -/
theorem duplicate_read {op : Nat} (h : opDup op = false) (s : State) (p : Fin 2) (f : Frame) : s.duplicate p op f = none := by
  unfold State.duplicate
  split
  · rfl
  · simp [h]

/-! ### A frame that is heard (R222) -/

section
variable {s : State} {p : Fin 2} {op : Nat} {f : Frame}

theorem Heard.linkOn (h : Heard s p op f) : s.linkOn p = true := h.1
theorem Heard.known (h : Heard s p op f) : opKnown op (s.g (F.LNK_STATUS_VER p.val)) = true := h.2.1
theorem Heard.fresh (h : Heard s p op f) : s.duplicate p op f = none := h.2.2.1
theorem Heard.epOn (h : Heard s p op f) : s.epOn p.val f.ep.val = true := h.2.2.2

section
variable {b : Nat} {k : Fin 8} (h : HeardFor s p b f k)
include h

theorem HeardFor.heard : Heard s p (b + f.slot.val) f := h.1
theorem HeardFor.slotRail : s.slotRail p.val f.ep.val f.slot.val = some k := h.2.1
theorem HeardFor.notSafe : s.dev ≠ .safe := h.2.2

end
end

/-! ### Access (check 4) -/

section
variable {s : State} {p : Fin 2} {op slot : Nat} {f : Frame}

theorem linkAccess_disabled (h : s.epOn p.val f.ep.val = false) : s.linkAccess p op slot f = (false, none) := by
  simp [State.linkAccess, h]

theorem linkAccess_invalidSlot (h : s.slotRail p.val f.ep.val slot = none) (hop : 4 ≤ op) (hb : opBase op ≠ 4) :
    s.linkAccess p op slot f = (false, none) := by
  simp [State.linkAccess, h, hop, hb]

/-- An opcode of the port that names no slot in its argument. -/
theorem linkAccess_port (h : s.epOn p.val f.ep.val = true) (hop : op < 4) (harg : op = 3 → f.arg.toNat < 0x10) :
    s.linkAccess p op slot f = (true, none) := by
  have hw : opWrites op f.arg = false := opWrites_read (by rw [opBase_port hop]; omega) _
  have h4 : ¬ 4 ≤ op := by omega
  have hg : ¬ (op = 3 ∧ 16 ≤ f.arg.toNat) := fun ⟨h3, hle⟩ => absurd (harg h3) (by omega)
  simp only [State.linkAccess, h, hw, h4]
  simp
  omega

/-- A page of GETSTAT that is the endpoint's or the device's. -/
theorem linkAccess_page (h : s.epOn p.val f.ep.val = true) (hop : 4 ≤ op) (hb : opBase op = 4) (hlo : 1 ≤ f.arg.toNat)
    (hhi : f.arg.toNat ≤ 4) : s.linkAccess p op slot f = (true, none) := by
  have hw : opWrites op f.arg = false := opWrites_read (by omega) _
  have h3 : op ≠ 3 := by omega
  simp [State.linkAccess, h, hw, hb, hlo, hhi, h3]

section
variable {k : Fin 8} (h : s.epOn p.val f.ep.val = true) (hk : s.slotRail p.val f.ep.val slot = some k) (hop : 4 ≤ op)
include h hk hop

/-- A frame that writes nothing of a rail, or whose write the Gatehouse grants. -/
theorem linkAccess_granted
    (hg : opWrites op f.arg = true → s.gateWrite (linkMaster p) (A.RAIL_VSET k.val) false = none) :
    s.linkAccess p op slot f = (true, none) := by
  have h3 : op ≠ 3 := by omega
  cases hw : opWrites op f.arg with
  | false => simp [State.linkAccess, h, hk, h3, hw]
  | true => simp [State.linkAccess, h, hk, h3, hw, hg hw]

theorem linkAccess_denied (hw : opWrites op f.arg = true) {kind : Nat}
    (hg : s.gateWrite (linkMaster p) (A.RAIL_VSET k.val) false = some kind) :
    s.linkAccess p op slot f = (false, some kind) := by
  have h3 : op ≠ 3 := by omega
  simp [State.linkAccess, h, hk, h3, hw, hg]

end

/-! ### The device's and the rail's state (check 5) -/

theorem linkState_getstat {k : Fin 8} (hb : opBase op = 4) : s.linkState op k = true := by
  simp [State.linkState, hb]

/-- Outside SAFE the readings, set-points and margins ask for no state of the rail. -/
theorem linkState_free {k : Fin 8} (hs : s.dev ≠ .safe) (hb : opBase op < 0x1C) : s.linkState op k = true := by
  unfold State.linkState
  rw [if_neg hs, if_neg (by omega), if_neg (by omega), if_neg (by omega)]

theorem linkState_port {k : Fin 8} (hop : opBase op < 4) (h : s.dev ≠ .safe ∨ opBase op = 0 ∨ opBase op = 3) :
    s.linkState op k = true := by
  by_cases hs : s.dev = .safe
  · have h' : opBase op = 0 ∨ opBase op = 3 := by simpa [hs] using h
    rcases h' with h' | h' <;> simp [State.linkState, hs, h']
  · exact linkState_free hs (by omega)

/-- In SAFE a frame is served for PING, GETT and GETSTAT alone (R17). -/
theorem linkState_safe {k : Fin 8} (hs : s.dev = .safe) (hb : 4 < opBase op) : s.linkState op k = false := by
  have h0 : opBase op ≠ 0 ∧ opBase op ≠ 3 ∧ opBase op ≠ 4 := by omega
  simp [State.linkState, hs, h0]

theorem linkState_forecast {k : Fin 8} (hs : s.dev ≠ .safe) (hb : opBase op = 0x1C)
    (hk : s.st k = .wake ∨ s.st k = .ramp ∨ s.st k = .on) : s.linkState op k = true := by
  rcases hk with hk | hk | hk <;> simp [State.linkState, hs, hb, hk]

theorem linkState_forecast_off {k : Fin 8} (hs : s.dev ≠ .safe) (hb : opBase op = 0x1C) (hk : s.st k = .off) :
    s.linkState op k = false := by
  simp [State.linkState, hs, hb, hk]

theorem linkState_period {k : Fin 8} (hs : s.dev ≠ .safe) (hb : opBase op = 0x20)
    (hk : s.st k = .wake ∨ s.st k = .ramp ∨ s.st k = .on) (hsrc : s.g (F.EPH_CTL_PSRC k.val) = 0) :
    s.linkState op k = true := by
  rcases hk with hk | hk | hk <;> simp [State.linkState, hs, hb, hk, hsrc]

theorem linkState_power {k : Fin 8} (hs : s.dev ≠ .safe) (hb : opBase op = 0x24) : s.linkState op k
    = (s.g (F.RAIL_SEQCTL_ENMODE k.val) == 0 || s.g (F.RAIL_SEQCTL_ENMODE k.val) == 2) := by
  simp [State.linkState, hs, hb]

/-! ### The checks in their order (R222) -/

theorem linkRun_noAccess (h : s.linkAccess p op slot f = (false, none)) : linkRun p op slot f s = (4, 0, s) := by
  simp [linkRun, h]

theorem linkRun_denied {kind : Nat} {k : Fin 8} (hk : s.slotRail p.val f.ep.val slot = some k)
    (h : s.linkAccess p op slot f = (false, some kind)) :
    linkRun p op slot f s = (4, 0, ghRefuse (linkMaster p) kind (A.RAIL_VSET k.val) s) := by
  simp [linkRun, h, hk]

theorem linkRun_wrongState (h : s.linkAccess p op slot f = (true, none))
    (hs : s.linkState op ((s.slotRail p.val f.ep.val slot).getD 0) = false) : linkRun p op slot f s = (5, 0, s) := by
  simp [linkRun, h, hs]

theorem linkRun_effect (h : s.linkAccess p op slot f = (true, none))
    (hs : s.linkState op ((s.slotRail p.val f.ep.val slot).getD 0) = true) :
    linkRun p op slot f s = linkEffect p op slot f ((s.slotRail p.val f.ep.val slot).getD 0) s := by
  simp [linkRun, h, hs]

end

/-! ### An answer (R219) -/

theorem nframe_fits (p : Fin 2) : (F.LNK_NFRAME_FRAMES p.val).lo + (F.LNK_NFRAME_FRAMES p.val).w ≤ 32 :=
  show 0 + 32 ≤ 32 by decide

/-- Port p holds this response. -/
def setResponse (p : Fin 2) (r : Response) (s : State) : State :=
  { s with port := vset s.port p { vget s.port p with resp := some r } }

theorem linkRespond_eq (p : Fin 2) (a : Nat) (tag : BitVec 4) (d : BitVec 16) (s : State) :
    linkRespond p a tag d s = (setResponse p (makeResponse a tag d) s).inc (F.LNK_NFRAME_FRAMES p.val) := rfl

/-- An answer touches the port and its count of frames alone. -/
theorem linkRespond_keep {β : Type} (π : State → β) (hw : ∀ s a w, π (State.setWord s a w) = π s)
    (hp : ∀ (s : State) x, π { s with port := x } = π s) (p : Fin 2) (a : Nat) (tag : BitVec 4) (d : BitVec 16) (s : State) :
    π (linkRespond p a tag d s) = π s := (hw _ _ _).trans (hp s _)

section
variable (p : Fin 2) (a : Nat) (tag : BitVec 4) (d : BitVec 16) (s : State)

@[simp] theorem linkRespond_rail : (linkRespond p a tag d s).rail = s.rail :=
  linkRespond_keep (·.rail) (fun _ _ _ => rfl) (fun _ _ => rfl) p a tag d s
@[simp] theorem linkRespond_phase : (linkRespond p a tag d s).phase = s.phase :=
  linkRespond_keep (·.phase) (fun _ _ _ => rfl) (fun _ _ => rfl) p a tag d s
@[simp] theorem linkRespond_queue : (linkRespond p a tag d s).queue = s.queue :=
  linkRespond_keep (·.queue) (fun _ _ _ => rfl) (fun _ _ => rfl) p a tag d s

end

theorem linkRespond_word (p : Fin 2) (a : Nat) (tag : BitVec 4) (d : BitVec 16) (s : State) {b : Nat}
    (h : b ≠ A.LNK_NFRAME p.val) : (linkRespond p a tag d s).word b = s.word b := State.word_p_ne _ _ _ b h

theorem linkRespond_g (p : Fin 2) (a : Nat) (tag : BitVec 4) (d : BitVec 16) (s : State) {e : Fld}
    (h : e.addr ≠ A.LNK_NFRAME p.val) : (linkRespond p a tag d s).g e = s.g e :=
  congrArg (getBits · e.lo e.w) (linkRespond_word p a tag d s h)

theorem linkRespond_onlyWords {s t : State} {l : List Nat} (h : OnlyWords { t with port := s.port } s l) (p : Fin 2) (a : Nat)
    (tag : BitVec 4) (d : BitVec 16) (hl : A.LNK_NFRAME p.val ∈ l) :
    OnlyWords { linkRespond p a tag d t with port := s.port } s l := h.p (F.LNK_NFRAME_FRAMES p.val) _ hl

/-- An answer to a frame whose effect left the count of frames alone. -/
theorem linkRespond_answered {s t : State} {p : Fin 2} (h : t.g (F.LNK_NFRAME_FRAMES p.val) = s.g (F.LNK_NFRAME_FRAMES p.val))
    (a : Nat) (f : Frame) (d : BitVec 16) : Answered s (linkRespond p a f.tag d t) p a f d := by
  refine ⟨?_, ?_⟩
  · rw [linkRespond_eq, State.inc, State.p_port]
    exact congrArg PortState.resp (vget_vset_same _ _ _)
  · rw [← h]
    exact State.g_inc (setResponse p (makeResponse a f.tag d) t) _ (nframe_fits p)

/-- An answer alone: the frame is counted and answered and changes nothing else. -/
theorem linkRespond_alone (s : State) (p : Fin 2) (a : Nat) (f : Frame) (d : BitVec 16) :
    Answered s (linkRespond p a f.tag d s) p a f d
      ∧ OnlyWords { linkRespond p a f.tag d s with port := s.port } s [A.LNK_NFRAME p.val] :=
  ⟨linkRespond_answered rfl a f d, linkRespond_onlyWords (onlyWords_refl s _) p a f.tag d (List.mem_singleton.mpr rfl)⟩

/-! ### A remembered frame (R223) -/

theorem remember_keep {β : Type} (π : State → β) (hw : ∀ s a w, π (State.setWord s a w) = π s)
    (hp : ∀ (s : State) x, π { s with port := x } = π s) (p : Fin 2) (op : Nat) (f : Frame) (a : Nat) (d : BitVec 16)
    (s : State) : π (remember p op f a d s) = π s := (hw _ _ _).trans (hp s _)

theorem remember_word (p : Fin 2) (op : Nat) (f : Frame) (a : Nat) (d : BitVec 16) (s : State) {b : Nat}
    (h : b ≠ A.LNK_EP_LAST p.val f.ep.val) : (remember p op f a d s).word b = s.word b := State.word_setWord_ne _ _ b _ h

section
variable (p : Fin 2) (op : Nat) (f : Frame) (a : Nat) (d : BitVec 16) (s : State)

@[simp] theorem remember_rail : (remember p op f a d s).rail = s.rail :=
  remember_keep (·.rail) (fun _ _ _ => rfl) (fun _ _ => rfl) p op f a d s
@[simp] theorem remember_phase : (remember p op f a d s).phase = s.phase :=
  remember_keep (·.phase) (fun _ _ _ => rfl) (fun _ _ => rfl) p op f a d s
@[simp] theorem remember_queue : (remember p op f a d s).queue = s.queue :=
  remember_keep (·.queue) (fun _ _ _ => rfl) (fun _ _ => rfl) p op f a d s

end

/-- The answer to a frame that its endpoint remembers. -/
def answerKept (p : Fin 2) (op : Nat) (f : Frame) (a : Nat) (d : BitVec 16) (s : State) : State :=
  linkRespond p a f.tag d (remember p op f a d s)

section
variable (p : Fin 2) (op : Nat) (f : Frame) (a : Nat) (d : BitVec 16) (s : State)

@[simp] theorem answerKept_rail : (answerKept p op f a d s).rail = s.rail :=
  (linkRespond_rail p a f.tag d _).trans (remember_rail p op f a d s)
@[simp] theorem answerKept_phase : (answerKept p op f a d s).phase = s.phase :=
  (linkRespond_phase p a f.tag d _).trans (remember_phase p op f a d s)
@[simp] theorem answerKept_queue : (answerKept p op f a d s).queue = s.queue :=
  (linkRespond_queue p a f.tag d _).trans (remember_queue p op f a d s)

end

theorem answerKept_ra (p : Fin 2) (op : Nat) (f : Frame) (a : Nat) (d : BitVec 16) (t : State) (j : Fin 8) :
    (answerKept p op f a d t).ra j = t.ra j := congrArg (vget · j) (answerKept_rail p op f a d t)

theorem lnkEpLast_ne_nframe (p : Fin 2) (e : Fin 4) : A.LNK_NFRAME p.val ≠ A.LNK_EP_LAST p.val e.val := by
  unfold A.LNK_NFRAME A.LNK_EP_LAST
  omega

theorem answerKept_word (p : Fin 2) (op : Nat) (f : Frame) (a : Nat) (d : BitVec 16) (s : State) {b : Nat}
    (h : b ≠ A.LNK_NFRAME p.val) (h' : b ≠ A.LNK_EP_LAST p.val f.ep.val) : (answerKept p op f a d s).word b = s.word b :=
  (linkRespond_word p a f.tag d _ h).trans (remember_word p op f a d s h')

/-- Registers below the link's block. -/
theorem answerKept_g (p : Fin 2) (op : Nat) (f : Frame) (a : Nat) (d : BitVec 16) (s : State) {e : Fld}
    (h : e.addr < 0x160000) : (answerKept p op f a d s).g e = s.g e :=
  congrArg (getBits · e.lo e.w) (answerKept_word p op f a d s (by unfold A.LNK_NFRAME; omega) (by unfold A.LNK_EP_LAST; omega))

theorem answerKept_gb (p : Fin 2) (op : Nat) (f : Frame) (a : Nat) (d : BitVec 16) (s : State) {e : Fld}
    (h : e.addr < 0x160000) : (answerKept p op f a d s).gb e = s.gb e := congrArg (· != 0) (answerKept_g p op f a d s h)

theorem remember_nframe (p : Fin 2) (op : Nat) (f : Frame) (a : Nat) (d : BitVec 16) (s : State) :
    (remember p op f a d s).g (F.LNK_NFRAME_FRAMES p.val) = s.g (F.LNK_NFRAME_FRAMES p.val) :=
  congrArg (getBits · 0 32) (remember_word p op f a d s (lnkEpLast_ne_nframe p f.ep))

theorem answerKept_answered {s t : State} {p : Fin 2} (h : t.g (F.LNK_NFRAME_FRAMES p.val) = s.g (F.LNK_NFRAME_FRAMES p.val))
    (op : Nat) (f : Frame) (a : Nat) (d : BitVec 16) : Answered s (answerKept p op f a d t) p a f d :=
  linkRespond_answered ((remember_nframe p op f a d t).trans h) a f d

/-- The word of LNK[p].EP[e].LAST that keeps an opcode, a tag and an ACK (R223). -/
def lastWord (op tag a : Nat) : Word := BitVec.ofNat 32 (op * 2 ^ 26 + tag * 2 ^ 22 + a * 2 ^ 18 + 2 ^ 17)

theorem lastWord_fields {op tag a : Nat} (hop : op < 64) (ht : tag < 16) (ha : a < 16) :
    getBits (lastWord op tag a) 26 6 = op ∧ getBits (lastWord op tag a) 22 4 = tag
      ∧ getBits (lastWord op tag a) 18 4 = a := by
  unfold getBits lastWord
  rw [BitVec.toNat_ofNat]
  omega

theorem remember_last (p : Fin 2) (op : Nat) (f : Frame) (a : Nat) (d : BitVec 16) (s : State) :
    (remember p op f a d s).word (A.LNK_EP_LAST p.val f.ep.val) = lastWord op f.tag.toNat a := by
  unfold remember lastWord
  exact State.word_setWord_same _ _ _

theorem remember_dup (p : Fin 2) (op : Nat) (f : Frame) (a : Nat) (d : BitVec 16) (s : State) :
    vget (vget (remember p op f a d s).port p).dup f.ep = some ⟨f.arg, f.data, d⟩ := by
  unfold remember
  rw [State.setWord_port, vget_vset_same, vget_vset_same]

theorem linkRespond_dup (p : Fin 2) (a : Nat) (tag : BitVec 4) (d : BitVec 16) (s : State) :
    (vget (linkRespond p a tag d s).port p).dup = (vget s.port p).dup := by
  rw [linkRespond_eq, State.inc, State.p_port, setResponse, vget_vset_same]

/-- The same frame again is a duplicate, with the response it had (R223). -/
theorem answerKept_duplicate {p : Fin 2} {op : Nat} {f : Frame} {a : Nat} (d : BitVec 16) (s : State) (h : 0x10 ≤ op)
    (h' : op < 0x28) (ha : a < 16) : (answerKept p op f a d s).duplicate p op f = some (a, d) := by
  have hlast := (linkRespond_word p a f.tag d _ (lnkEpLast_ne_nframe p f.ep).symm).trans (remember_last p op f a d s)
  obtain ⟨ho, ht, hk⟩ := lastWord_fields (op := op) (tag := f.tag.toNat) (a := a) (by omega) f.tag.isLt ha
  have hop : (answerKept p op f a d s).g (F.LNK_EP_LAST_OP p.val f.ep.val) = op := (congrArg (getBits · 26 6) hlast).trans ho
  have htag : (answerKept p op f a d s).g (F.LNK_EP_LAST_TAG p.val f.ep.val) = f.tag.toNat :=
    (congrArg (getBits · 22 4) hlast).trans ht
  have hack : (answerKept p op f a d s).g (F.LNK_EP_LAST_ACK p.val f.ep.val) = a :=
    (congrArg (getBits · 18 4) hlast).trans hk
  have hdup : vget (vget (answerKept p op f a d s).port p).dup f.ep = some ⟨f.arg, f.data, d⟩ := by
    rw [answerKept, linkRespond_dup, remember_dup]
  unfold State.duplicate
  rw [hdup]
  simp [hop, htag, hack, opDup_command h h']

/-! ### A frame from its first check to its answer (R222) -/

section
variable {s : State} {p : Fin 2} {op : Nat} {f : Frame}

theorem linkFrame_unknown (hon : s.linkOn p = true) (hk : opKnown op (s.g (F.LNK_STATUS_VER p.val)) = false) :
    linkFrame p op f s = linkRespond p 7 f.tag 0 s := by
  simp [linkFrame, hon, hk]

theorem linkFrame_duplicate (hon : s.linkOn p = true) (hk : opKnown op (s.g (F.LNK_STATUS_VER p.val)) = true) {a : Nat}
    {d : BitVec 16} (hd : s.duplicate p op f = some (a, d)) :
    linkFrame p op f s = linkRespond p a f.tag d (s.inc (F.LNK_CNT_DUP p.val)) := by
  simp [linkFrame, hon, hk, hd]

section
variable {a : Nat} {d : BitVec 16} {t : State} (hon : s.linkOn p = true)
  (hk : opKnown op (s.g (F.LNK_STATUS_VER p.val)) = true) (hd : s.duplicate p op f = none)
  (hr : linkRun p op (if op < 4 then 0 else op % 4) f s = (a, d, t))
include hon hk hd hr

/-- A reading, and a frame that a check refuses, is answered and not remembered. -/
theorem linkFrame_answers (h : opDup op = false ∨ 1 < a) : linkFrame p op f s = linkRespond p a f.tag d t := by
  have h1 : ¬ (op = 1 ∧ a = 0) := by
    rintro ⟨rfl, rfl⟩
    rcases h with h | h
    · exact absurd h (by decide)
    · omega
  have h2 : ¬ (opDup op = true ∧ a ≤ 1) := by
    rintro ⟨ho, ha⟩
    rcases h with h | h
    · rw [h] at ho
      cases ho
    · omega
  simp [linkFrame, hon, hk, hd, hr, h1, h2]

/-- A command that is accepted is remembered with its answer. -/
theorem linkFrame_keeps (h : opDup op = true) (ha : a ≤ 1) (hop : op ≠ 1) :
    linkFrame p op f s = answerKept p op f a d t := by
  simp [linkFrame, hon, hk, hd, hr, h, ha, hop, answerKept]

end

/-- An accepted NEGOTIATE is remembered, and the agreed version applies (R233). -/
theorem linkFrame_negotiates {d : BitVec 16} {t : State} (hon : s.linkOn p = true)
    (hk : opKnown 1 (s.g (F.LNK_STATUS_VER p.val)) = true) (hd : s.duplicate p 1 f = none)
    (hr : linkRun p 1 0 f s = (0, d, t)) :
    linkFrame p 1 f s = linkRespond p 0 f.tag d (setVersion p (agreed s p f) (remember p 1 f 0 d t)) := by
  simp [linkFrame, hon, hk, hd, hr, show opDup 1 = true from rfl]

theorem linkRun_port {o : LinkOut} (hop : op < 4) (hep : s.epOn p.val f.ep.val = true)
    (harg : op = 3 → f.arg.toNat < 0x10) (hst : s.dev ≠ .safe ∨ op = 0 ∨ op = 3)
    (he : ∀ k, linkEffect p op 0 f k s = o) : linkRun p op (if op < 4 then 0 else op % 4) f s = o := by
  rw [if_pos hop, linkRun_effect (linkAccess_port hep hop harg)
    (linkState_port (by rwa [opBase_port hop]) (by rwa [opBase_port hop])), he]

theorem linkRun_slotOf {b : Nat} (hb : 4 ≤ b ∧ b % 4 = 0) (p : Fin 2) (f : Frame) (s : State) :
    linkRun p (b + f.slot.val) (if b + f.slot.val < 4 then 0 else (b + f.slot.val) % 4) f s
      = linkRun p (b + f.slot.val) f.slot.val f s := by
  rw [slot_of_opcode hb]

section
variable {b : Nat} {k : Fin 8} (hb : 4 ≤ b ∧ b % 4 = 0) (h : HeardFor s p b f k)
include hb h

theorem linkRun_slot {o : LinkOut}
    (hg : opWrites (b + f.slot.val) f.arg = true → s.gateWrite (linkMaster p) (A.RAIL_VSET k.val) false = none)
    (hst : s.linkState (b + f.slot.val) k = true) (he : linkEffect p (b + f.slot.val) f.slot.val f k s = o) :
    linkRun p (b + f.slot.val) (if b + f.slot.val < 4 then 0 else (b + f.slot.val) % 4) f s = o := by
  have hr := h.slotRail
  have hacc := linkAccess_granted h.heard.epOn hr (Nat.le_add_right_of_le hb.1) hg
  rw [linkRun_slotOf hb, linkRun_effect hacc (by rwa [hr]), hr]
  exact he

theorem linkRun_slot_wrongState
    (hg : opWrites (b + f.slot.val) f.arg = true → s.gateWrite (linkMaster p) (A.RAIL_VSET k.val) false = none)
    (hst : s.linkState (b + f.slot.val) k = false) :
    linkRun p (b + f.slot.val) (if b + f.slot.val < 4 then 0 else (b + f.slot.val) % 4) f s = (5, 0, s) := by
  have hr := h.slotRail
  have hacc := linkAccess_granted h.heard.epOn hr (Nat.le_add_right_of_le hb.1) hg
  rw [linkRun_slotOf hb, linkRun_wrongState hacc (by rwa [hr])]

end

end

end Sys2Proof.Machine
end

section
/-!
PROOFS. Frames that read, clear causes and negotiate, and frames that fail (O43).
-/

open Sys2Proof Sys2Proof.Machine
namespace Sys2Proof.Machine

/-! ### Readings (R230, R231) -/

/-- The answer to a reading: its value, or the refusal of its argument. -/
def readingAnswer (p : Fin 2) (f : Frame) (v : Option Int) (s : State) : State :=
  linkRespond p (reading v s).1 f.tag (reading v s).2.1 s

section
variable {s : State} {p : Fin 2} {f : Frame} {v : Option Int}

theorem reading_state (v : Option Int) (s : State) : (reading v s).2.2 = s := by
  cases v <;> rfl

theorem readingAnswer_some {x : Int} (h : v = some x) : Answered s (readingAnswer p f v s) p 0 f (BitVec.ofInt 16 x) := by
  rw [h]
  exact (linkRespond_alone s p 0 f _).1

theorem readingAnswer_none (h : v = none) : Answered s (readingAnswer p f v s) p 3 f 0 := by
  rw [h]
  exact (linkRespond_alone s p 3 f 0).1

theorem readingAnswer_onlyWords (p : Fin 2) (f : Frame) (v : Option Int) (s : State) :
    OnlyWords { readingAnswer p f v s with port := s.port } s [A.LNK_NFRAME p.val] := (linkRespond_alone s p _ f _).2

theorem linkFrame_reading {op : Nat} (hon : s.linkOn p = true) (hk : opKnown op (s.g (F.LNK_STATUS_VER p.val)) = true)
    (hlo : 2 < op) (hhi : op < 0x10) (hr : linkRun p op (if op < 4 then 0 else op % 4) f s = reading v s) :
    linkFrame p op f s = readingAnswer p f v s := by
  have hdup := opDup_read hlo hhi
  refine linkFrame_answers hon hk (duplicate_read hdup s p f) (hr.trans ?_) (.inl hdup)
  exact Prod.ext rfl (Prod.ext rfl (reading_state v s))

/-- A reading of the rail a slot names. -/
theorem linkFrame_slotReading {b : Nat} {k : Fin 8} (hb : 4 ≤ b ∧ b % 4 = 0) (hhi : b < 0x10) (h : HeardFor s p b f k)
    (he : linkEffect p (b + f.slot.val) f.slot.val f k s = reading v s) :
    linkFrame p (b + f.slot.val) f s = readingAnswer p f v s := by
  have hbase := opBase_slot hb f.slot
  have hread : opWrites (b + f.slot.val) f.arg = false := opWrites_read (by omega) _
  refine linkFrame_reading h.heard.linkOn h.heard.known (by omega) (by omega)
    (linkRun_slot hb h ?_ (linkState_free h.notSafe (by omega)) he)
  rw [hread]
  exact fun hw => nomatch hw

theorem linkEffect_getstat {op slot x : Nat} (h : opBase op = 4) (hx : s.getstat p f.ep.val slot f.arg.toNat = some x)
    (k : Fin 8) : linkEffect p op slot f k s = reading (some (x : Int)) s := by
  simp [linkEffect, h, hx]

theorem linkEffect_getv {op : Nat} (h : opBase op = 8) (slot : Nat) (k : Fin 8) : linkEffect p op slot f k s
    = reading (s.getv k (s.g (F.LNK_STATUS_VER p.val)) f.arg.toNat) s := by
  simp only [linkEffect, h]

theorem linkEffect_geti {op : Nat} (h : opBase op = 0xC) (slot : Nat) (k : Fin 8) : linkEffect p op slot f k s
    = reading (s.geti k f.arg.toNat) s := by
  simp only [linkEffect, h]

end

theorem getv_none (s : State) (k : Fin 8) {arg : Nat} (h : 6 ≤ arg) : s.getv k 2 arg = none :=
  List.getElem?_eq_none h

theorem geti_none (s : State) (k : Fin 8) {arg : Nat} (h : 3 ≤ arg) : s.geti k arg = none := by
  match arg, h with
  | _ + 3, _ => rfl

theorem gett_main (s : State) (p : Fin 2) (e : Nat) {arg : Nat} (h : arg ≤ 8) :
    s.gett p e arg = some (s.mcV (62 + arg)) := if_pos h

theorem ofNat_low (w : Word) : BitVec.ofNat 16 (w.toNat % 2 ^ 16) = w.setWidth 16 := by
  apply BitVec.eq_of_toNat_eq
  simp

theorem getstat_causes {s : State} {p : Fin 2} {e slot arg : Nat} (h : arg = 1) : s.getstat p e slot arg
    = some ((s.word (A.LNK_EP_CAUSE p.val e)).toNat % 2 ^ 16) := by
  rw [h]
  rfl

theorem getstat_page {s : State} {p : Fin 2} {e slot arg : Nat} {k : Fin 8} (h : s.slotRail p.val e slot = some k)
    (ha : arg = 0) : s.getstat p e slot arg = some (s.statPage p e slot k) := by
  simp [State.getstat, h, ha]

/-! ### Causes and versions (R232, R233) -/

theorem linkClear_causes {s : State} {p : Fin 2} {f : Frame} (h : f.arg = 1) : linkClear p f s
    = (0, ((clearCauses p.val f.ep.val f.data.toNat s).word (A.LNK_EP_CAUSE p.val f.ep.val)).setWidth 16,
      clearCauses p.val f.ep.val f.data.toNat s) := by
  rw [← ofNat_low]
  exact if_pos (by rw [h]; rfl)

theorem clearCauses_word (p : Fin 2) (e : Fin 4) (d : BitVec 16) (s : State) :
    (clearCauses p.val e.val d.toNat s).word (A.LNK_EP_CAUSE p.val e.val) = s.word (A.LNK_EP_CAUSE p.val e.val)
      &&& ~~~ (d.setWidth 32 &&& ~~~ BitVec.ofNat 32 (s.standing p.val e.val)) := by
  rw [clearCauses, State.word_setWord_same, BitVec.ofNat_toNat]

theorem lnkEpCause_apart (p : Fin 2) (e : Fin 4) : A.LNK_EP_CAUSE p.val e.val ≠ A.LNK_NFRAME p.val
    ∧ A.LNK_EP_CAUSE p.val e.val ≠ A.LNK_EP_LAST p.val e.val := by
  unfold A.LNK_EP_CAUSE A.LNK_NFRAME A.LNK_EP_LAST
  omega

theorem clearCauses_nframe (p : Fin 2) (e : Fin 4) (m : Nat) (s : State) :
    (clearCauses p.val e.val m s).g (F.LNK_NFRAME_FRAMES p.val) = s.g (F.LNK_NFRAME_FRAMES p.val) :=
  congrArg (getBits · 0 32) (State.word_setWord_ne s _ _ _ (lnkEpCause_apart p e).1.symm)

theorem linkEffect_negotiate {s : State} {p : Fin 2} {f : Frame} (ha : f.arg ≠ 0) (hd : f.data = 0) (k : Fin 8) :
    linkEffect p 1 0 f k s = (0, BitVec.ofNat 16 (agreed s p f * 256 + s.g (F.LNK_CTL_MAXVER p.val)), s) := by
  refine if_neg ?_
  have : f.arg.toNat ≠ 0 := fun h => ha (BitVec.eq_of_toNat_eq h)
  simp [this, hd]

theorem agreed_lt (s : State) (p : Fin 2) (f : Frame) : agreed s p f < 2 ^ 2 :=
  Nat.lt_of_le_of_lt (Nat.min_le_right _ _) (State.g_lt s (F.LNK_CTL_MAXVER p.val))

theorem lnkStatus_ne_nframe (p : Fin 2) : A.LNK_STATUS p.val ≠ A.LNK_NFRAME p.val := by
  unfold A.LNK_STATUS A.LNK_NFRAME
  omega

section
variable (p : Fin 2) (v : Nat) (s : State)

theorem setVersion_rail : (setVersion p v s).rail = s.rail :=
  setVersion_keep (·.rail) (fun _ _ _ => rfl) (fun _ _ => rfl) p v s
theorem setVersion_phase : (setVersion p v s).phase = s.phase :=
  setVersion_keep (·.phase) (fun _ _ _ => rfl) (fun _ _ => rfl) p v s
theorem setVersion_queue : (setVersion p v s).queue = s.queue :=
  setVersion_keep (·.queue) (fun _ _ _ => rfl) (fun _ _ => rfl) p v s

end

/-- The duplicate memories hold no count of frames. -/
theorem clearDup_nframe (p : Fin 2) (s : State) :
    (clearDup p s).g (F.LNK_NFRAME_FRAMES p.val) = s.g (F.LNK_NFRAME_FRAMES p.val) :=
  forEach_keep (·.g (F.LNK_NFRAME_FRAMES p.val)) (fun s e => s.setWord (A.LNK_EP_LAST p.val e) 0)
    (fun s e => congrArg (getBits · 0 32) (State.word_setWord_ne s _ _ _ (by
      simp only [A.LNK_EP_LAST, F.LNK_NFRAME_FRAMES, A.LNK_NFRAME]; omega))) _ _

theorem setVersion_nframe (p : Fin 2) (v : Nat) (s : State) :
    (setVersion p v s).g (F.LNK_NFRAME_FRAMES p.val) = s.g (F.LNK_NFRAME_FRAMES p.val) := by
  unfold setVersion
  split
  · rfl
  · rw [clearDup_nframe]
    exact State.g_p_addr s (F.LNK_STATUS_VER p.val) (F.LNK_NFRAME_FRAMES p.val) v (lnkStatus_ne_nframe p).symm

/-! ### Link errors (R240) -/

/-- An error of port p is counted in the field c of LNK[p].CNT and shown in the flag e of LNK[p].STATUS. -/
def linkError (c e : Fld) (s : State) : State := (s.inc c).pb e true

section
variable {c e : Fld} {p : Fin 2} (hc : c.addr = A.LNK_CNT p.val) (he : e.addr = A.LNK_STATUS p.val)
include hc he

theorem linkError_counts (hcw : c.lo + c.w ≤ 32) (hew : e.lo + e.w ≤ 32) (h1 : e.w = 1) (s : State) :
    (linkError c e s).g c = incHold c.w (s.g c) ∧ (linkError c e s).gb e = true := by
  have hne : c.addr ≠ e.addr := by
    rw [hc, he]
    unfold A.LNK_CNT A.LNK_STATUS
    omega
  exact ⟨(g_pb_of_apart _ true hew (.inl hne)).trans (State.g_inc s c hcw), State.gb_pb _ e true h1 hew⟩

theorem linkError_onlyWords {l : List Nat} (hl : A.LNK_CNT p.val ∈ l) (hl' : A.LNK_STATUS p.val ∈ l) (s : State) :
    OnlyWords { linkError c e s with port := s.port } s l :=
  ((onlyWords_refl s l).p c (incHold c.w (s.g c)) (by rwa [hc])).p e 1 (by rwa [he])

theorem linkError_nframe (s : State) :
    (linkError c e s).g (F.LNK_NFRAME_FRAMES p.val) = s.g (F.LNK_NFRAME_FRAMES p.val) := by
  have hne : A.LNK_NFRAME p.val ≠ c.addr ∧ A.LNK_NFRAME p.val ≠ e.addr := by
    rw [hc, he]
    unfold A.LNK_NFRAME A.LNK_CNT A.LNK_STATUS
    omega
  exact (State.g_p_addr _ e (F.LNK_NFRAME_FRAMES p.val) _ hne.2).trans
    (State.g_p_addr s c (F.LNK_NFRAME_FRAMES p.val) _ hne.1)

end

theorem noResponse_resp (p : Fin 2) (s : State) : (vget (noResponse p s).port p).resp = none :=
  congrArg PortState.resp (vget_vset_same _ _ _)

theorem linkCnt_ne_nframe (p : Fin 2) : A.LNK_CNT p.val ≠ A.LNK_NFRAME p.val := by
  unfold A.LNK_CNT A.LNK_NFRAME
  omega

/-! ### The statement -/

/-- Settles O43: each frame comes to one answer by the checks of R222 in their order, and the answer touches the port and its count
of frames beside what the frame's own effect touches. -/
theorem linkFramesAnswer : Obligations.LinkFramesAnswer := by
  unfold Obligations.LinkFramesAnswer
  refine ⟨fun s p f h => ?ping, fun s p f h harg => ?gett, fun s p f h harg => ?causes, fun s p f k h harg => ?page,
    fun s p f k h hver => ?getv, fun s p f k h => ?geti, fun s p f h hs harg => ?clear, fun s p f h hs harg hdata => ?negotiate,
    fun s p f h hs hslot => ?safe, fun s p f hon hep => ?disabled, fun s p f hon hslot => ?invalid,
    fun s p op f hon hop => ?unknown, fun s p op f hon => ?crc, fun s p hon => ?framing, fun s p c hon => ?timeout,
    fun s p f hon => ?off, fun s p f a d hon hd => ?duplicate⟩
  case ping =>
    obtain ⟨hon, hk, hd, hep⟩ := h
    have hr := linkRun_port (o := (0, f.data, s)) (op := 0) (by decide) hep (fun h => nomatch h) (.inr (.inl rfl)) fun _ => rfl
    exact ⟨_, congrArg done (linkFrame_answers hon hk hd hr (.inl rfl)), linkRespond_alone s p 0 f f.data⟩
  case gett =>
    obtain ⟨hon, hk, -, hep⟩ := h
    have hr := linkRun_port (o := reading (s.gett p f.ep.val f.arg.toNat) s) (op := 3) (by decide) hep (fun _ => by omega)
      (.inr (.inr rfl)) fun _ => rfl
    exact ⟨_, congrArg done (linkFrame_reading hon hk (by decide) (by decide) hr),
      readingAnswer_some (gett_main s p f.ep.val harg), readingAnswer_onlyWords p f (s.gett p f.ep.val f.arg.toNat) s⟩
  case causes =>
    obtain ⟨hon, hk, -, hep⟩ := h
    have hb := opBase_slot (b := 4) (by decide) f.slot
    have ha : f.arg.toNat = 1 := by rw [harg]; rfl
    have hacc := linkAccess_page (slot := f.slot.val) hep (by omega) hb (by omega) (by omega)
    have hr := (linkRun_effect hacc (linkState_getstat hb)).trans (linkEffect_getstat hb (getstat_causes ha) _)
    refine ⟨_, congrArg done (linkFrame_reading hon hk (by omega) (by omega) ((linkRun_slotOf (by decide) p f s).trans hr)), ?_,
      readingAnswer_onlyWords p f _ s⟩
    rw [← ofNat_low, ← BitVec.ofInt_natCast]
    exact readingAnswer_some rfl
  case page =>
    have hb := opBase_slot (b := 4) (by decide) f.slot
    have he := linkEffect_getstat hb (getstat_page h.slotRail (by rw [harg]; rfl)) k
    refine ⟨_, congrArg done (linkFrame_slotReading (by decide) (by decide) h he), ?_, rfl, rfl⟩
    rw [← BitVec.ofInt_natCast]
    exact readingAnswer_some rfl
  case getv =>
    have hb := opBase_slot (b := 8) (by decide) f.slot
    refine ⟨_, congrArg done (linkFrame_slotReading (by decide) (by decide) h (linkEffect_getv hb _ k)), fun ha => ?_,
      fun ha => ?_, fun ha => ?_, readingAnswer_onlyWords p f _ s⟩
    · refine readingAnswer_some ?_
      rw [hver, ha]
      rfl
    · rw [← BitVec.ofInt_natCast]
      refine readingAnswer_some ?_
      rw [hver, ha]
      rfl
    · refine readingAnswer_none ?_
      rw [hver, getv_none s k ha]
  case geti =>
    have hb := opBase_slot (b := 0xC) (by decide) f.slot
    refine ⟨_, congrArg done (linkFrame_slotReading (by decide) (by decide) h (linkEffect_geti hb _ k)), fun ha => ?_,
      fun ha => ?_, fun ha => readingAnswer_none (geti_none s k ha), readingAnswer_onlyWords p f _ s⟩
    · refine readingAnswer_some ?_
      rw [ha]
      rfl
    · rw [← BitVec.ofInt_natCast]
      refine readingAnswer_some ?_
      rw [ha]
      rfl
  case clear =>
    obtain ⟨hon, hk, hd, hep⟩ := h
    have hr := linkRun_port (op := 2) (by decide) hep (fun h => nomatch h) (.inl hs) fun _ => linkClear_causes harg
    obtain ⟨hn, hl⟩ := lnkEpCause_apart p f.ep
    refine ⟨_, congrArg done (linkFrame_keeps hon hk hd hr rfl (by decide) (by decide)), ?_, ?_, ?_, ?_, ?_⟩
    · rw [answerKept_word _ _ _ _ _ _ hn hl, clearCauses_word]
    · rw [answerKept_word _ _ _ _ _ _ hn hl]
      exact answerKept_answered (clearCauses_nframe p f.ep _ s) 2 f 0 _
    · exact answerKept_rail _ _ _ _ _ _
    · exact answerKept_phase _ _ _ _ _ _
    · exact answerKept_queue _ _ _ _ _ _
  case negotiate =>
    obtain ⟨hon, hk, hd, hep⟩ := h
    have hr := linkRun_port (op := 1) (by decide) hep (fun h => nomatch h) (.inl hs) (linkEffect_negotiate harg hdata)
    refine ⟨_, congrArg done (linkFrame_negotiates hon hk hd hr), ?_, ?_, ?_, ?_, ?_⟩
    · rw [linkRespond_g p 0 f.tag _ _ (e := F.LNK_STATUS_VER p.val) (lnkStatus_ne_nframe p)]
      exact setVersion_same p _ _ (agreed_lt s p f)
    · exact linkRespond_answered ((setVersion_nframe p _ _).trans (remember_nframe p 1 f 0 _ s)) 0 f _
    · rw [linkRespond_rail, setVersion_rail, remember_rail]
    · rw [linkRespond_phase, setVersion_phase, remember_phase]
    · rw [linkRespond_queue, setVersion_queue, remember_queue]
  case safe =>
    obtain ⟨hon, hk, hd, hep⟩ := h
    obtain ⟨k, hr⟩ := Option.ne_none_iff_exists'.mp hslot
    have hb := opBase_slot (b := 8) (by decide) f.slot
    have hacc := linkAccess_granted (op := 8 + f.slot.val) hep hr (by omega)
      (by rw [opWrites_read (by omega)]; exact fun h => nomatch h)
    have hrun := (linkRun_slotOf (by decide) p f s).trans (linkRun_wrongState hacc (linkState_safe hs (by omega)))
    exact ⟨_, congrArg done (linkFrame_answers hon hk hd hrun (.inr (by decide))), (linkRespond_alone s p 5 f 0).1⟩
  case disabled =>
    exact ⟨_, congrArg done (linkFrame_answers hon (opKnown_both (by decide) _) (duplicate_read rfl s p f)
      (linkRun_noAccess (linkAccess_disabled hep)) (.inl rfl)), (linkRespond_alone s p 4 f 0).1⟩
  case invalid =>
    have hb := opBase_slot (b := 0xC) (by decide) f.slot
    have hrun := (linkRun_slotOf (by decide) p f s).trans
      (linkRun_noAccess (linkAccess_invalidSlot (op := 0xC + f.slot.val) hslot (by omega) (by omega)))
    have hdup := opDup_read (op := 0xC + f.slot.val) (by omega) (by omega)
    exact ⟨_, congrArg done (linkFrame_answers hon (opKnown_both (by omega) _) (duplicate_read hdup s p f) hrun (.inl hdup)),
      (linkRespond_alone s p 4 f 0).1⟩
  case unknown =>
    exact ⟨_, congrArg done (linkFrame_unknown hon (opKnown_unassigned hop _)), linkRespond_alone s p 7 f 0⟩
  case crc =>
    have hu : (if s.linkOn p then linkRespond p 6 f.tag 0 ((s.inc (F.LNK_CNT_CRC p.val)).pb (F.LNK_STATUS_CRCERR p.val) true)
        else noResponse p s) = linkRespond p 6 f.tag 0 (linkError (F.LNK_CNT_CRC p.val) (F.LNK_STATUS_CRCERR p.val) s) :=
      if_pos hon
    obtain ⟨hcount, hflag⟩ := linkError_counts (c := F.LNK_CNT_CRC p.val) (e := F.LNK_STATUS_CRCERR p.val) (p := p) rfl rfl
      (show 24 + 8 ≤ 32 by decide) (show 2 + 1 ≤ 32 by decide) rfl s
    refine ⟨_, congrArg done hu, linkRespond_answered (linkError_nframe rfl rfl s) 6 f 0, ?_, ?_, ?_⟩
    · exact (linkRespond_g p 6 f.tag 0 _ (linkCnt_ne_nframe p)).trans hcount
    · exact (congrArg (· != 0) (linkRespond_g p 6 f.tag 0 _ (lnkStatus_ne_nframe p))).trans hflag
    · refine linkRespond_onlyWords ?_ p 6 f.tag 0 (by simp)
      exact linkError_onlyWords (p := p) rfl rfl (by simp) (by simp) s
  case framing =>
    exact ⟨_, congrArg (fun x => done (noResponse p x)) (if_pos hon), noResponse_resp p _,
      linkError_counts (c := F.LNK_CNT_FRAME p.val) (e := F.LNK_STATUS_FRAMEERR p.val) (p := p) rfl rfl
        (show 16 + 8 ≤ 32 by decide) (show 3 + 1 ≤ 32 by decide) rfl s⟩
  case timeout =>
    exact ⟨_, congrArg (fun x => done (noResponse p x)) (if_pos hon), noResponse_resp p _,
      linkError_counts (c := F.LNK_CNT_TIMEOUT p.val) (e := F.LNK_STATUS_FRAMETO p.val) (p := p) rfl rfl
        (show 8 + 8 ≤ 32 by decide) (show 1 + 1 ≤ 32 by decide) rfl s⟩
  case off =>
    refine congrArg done ?_
    unfold linkFrame
    rw [if_pos (by simp [hon])]
  case duplicate =>
    refine ⟨_, congrArg done (linkFrame_duplicate hon (opKnown_both (by omega) _) hd), ?_, ?_, ?_⟩
    · exact linkRespond_answered (State.g_p_addr s (F.LNK_CNT_DUP p.val) (F.LNK_NFRAME_FRAMES p.val) _
        (linkCnt_ne_nframe p).symm) a f d
    · exact (linkRespond_g p a f.tag d _ (linkCnt_ne_nframe p)).trans (State.g_inc s _ (show 0 + 8 ≤ 32 by decide))
    · refine linkRespond_onlyWords ?_ p a f.tag d (by simp)
      exact (onlyWords_refl s _).p (F.LNK_CNT_DUP p.val) _ (by simp [F.LNK_CNT_DUP])

end Sys2Proof.Machine
end

section
/-!
SUPPORT. What the commands of a frame leave: the entry in its rail's queue (R225, R234), a refusal of the Gatehouse (R381), slack
reports (R181, R228), forecasts (R226) and periods (R227).
-/

open Sys2Proof Sys2Proof.Machine
namespace Sys2Proof.Machine

/-! ### What the opcodes of a rail come to, and the entries they make (R224, R225, R228, R229, R234) -/

theorem railQueue_eq (k : Fin 8) : Fin.ofNat 16 k.val = ⟨k.val, by omega⟩ := Fin.ext (railQueue_val k)

theorem qAppend_low {q : Fin 16} {s : State} (h : s.room q 1 = true) (e : QEntry) {a : Nat} (ha : a < 0x180000) :
    (qAppend q e s).word a = s.word a := by
  have hp : qPush q e s = qAppend q e s := if_pos h
  rw [← hp]
  exact qPush_word q e s a (not_routerWord_of_lt ha) (by unfold A.Q_STAT; omega)

/-- The occupancy a frame answers after its entry. -/
def occupancy (s : State) (k : Fin 8) : BitVec 16 := BitVec.ofNat 16 (((s.q ⟨k.val, by omega⟩).length + 1) * 256)

section
variable {s : State} {p : Fin 2} {f : Frame} {k : Fin 8} {kind : Nat} {data : Word}

theorem enqueue_room (h : s.room ⟨k.val, by omega⟩ 1 = true) : enqueue p f k kind data s
    = (1, occupancy s k, qAppend ⟨k.val, by omega⟩ (linkEntry p f kind data) s) := by
  have hq := (qAppend_railPushed k (linkEntry p f kind data) s).queue
  rw [railQueue_eq] at hq
  unfold enqueue occupancy
  rw [railQueue_eq, if_pos h]
  refine Prod.ext rfl (Prod.ext (congrArg (fun n => BitVec.ofNat 16 (n * 256)) ?_) rfl)
  exact (congrArg List.length hq).trans List.length_append

theorem enqueue_full (h : s.room ⟨k.val, by omega⟩ 1 = false) : enqueue p f k kind data s
    = (2, 0, qDrop ⟨k.val, by omega⟩ s) := by
  unfold enqueue
  rw [railQueue_eq, if_neg (by simp [h])]

theorem linkSet_inLimits (hver : s.g (F.LNK_STATUS_VER p.val) = 2) (hlim : s.inLimits k.val f.data.toNat = true) (w : Nat) :
    linkSet p f k (some w) s = enqueue p f k 1 (BitVec.ofNat 32 (f.data.toNat * 2 ^ 16 + w)) s := by
  simp [linkSet, State.setCode, hver, hlim]

theorem linkSet_outside (hver : s.g (F.LNK_STATUS_VER p.val) = 2) (hlim : s.inLimits k.val f.data.toNat = false) (w : Nat) :
    linkSet p f k (some w) s = (3, 0, s) := by
  simp [linkSet, State.setCode, hver, hlim, badRange]

theorem linkMargin_command (h : f.arg = 0) :
    linkMargin p f k s = enqueue p f k 2 (BitVec.ofNat 32 (f.data.toNat * 2 ^ 16)) s := by
  simp [linkMargin, h]

theorem linkMargin_report (h : f.arg = 0x80) : linkMargin p f k s = (0, 0, slackReport p f.ep k f.data.toInt s) := by
  simp [linkMargin, h]

theorem linkPower_entry (h : f.arg = 0 ∨ f.arg = 1) (hd : f.data = 0) :
    linkPower p f k s = enqueue p f k (if f.arg = 1 then 3 else 4) 0 s := by
  rcases h with h | h <;> simp [linkPower, h, hd]

theorem linkEffect_setv {op slot : Nat} (h : opBase op = 0x10) (ha : f.arg = 0) :
    linkEffect p op slot f k s = linkSet p f k (some 0) s := by
  simp [linkEffect, h, ha]

theorem linkEffect_setvSlew {op slot : Nat} (h : opBase op = 0x14) :
    linkEffect p op slot f k s = linkSet p f k (slewOverride f.arg.toNat) s := by
  simp only [linkEffect, h]

theorem linkEffect_margin {op slot : Nat} (h : opBase op = 0x18) : linkEffect p op slot f k s = linkMargin p f k s := by
  simp only [linkEffect, h]

theorem linkEffect_forecast {op slot : Nat} (h : opBase op = 0x1C) :
    linkEffect p op slot f k s = (0, 0, linkForecast k f.data.toInt f.arg.toNat s) := by
  simp only [linkEffect, h]

theorem linkEffect_period {op slot : Nat} (h : opBase op = 0x20) :
    linkEffect p op slot f k s = (0, 0, linkPeriod f k s) := by
  simp only [linkEffect, h]

theorem linkEffect_power {op slot : Nat} (h : opBase op = 0x24) : linkEffect p op slot f k s = linkPower p f k s := by
  simp only [linkEffect, h]

end

theorem slewOverride_bounds {arg : BitVec 8} {w : Nat} (h : slewOverride arg.toNat = some w) : 1 ≤ w ∧ w ≤ 8000 := by
  have he : arg.toNat / 64 = 0 ∨ arg.toNat / 64 = 1 ∨ arg.toNat / 64 = 2 ∨ arg.toNat / 64 = 3 := by omega
  rcases he with he | he | he | he <;> simp [slewOverride, he] at h <;> omega

/-- A frame changed to its command or its report form is the frame where it had that form (R228). -/
theorem frame_arg {f : Frame} {a : BitVec 8} (h : a = f.arg) : { f with arg := a } = f := by
  rw [h]

theorem opWrites_margin {op : Nat} {arg : BitVec 8} (h : opBase op = 0x18) : opWrites op arg = decide (arg.toNat < 128) := by
  simp [opWrites, h]

/-! ### A frame whose entry is appended -/

/-- Between s and u the frame f of opcode op put the entry e into rail k's queue: it is answered with the occupancy and remembered,
and no other queue, no other rail and no phase changed (R223, R225, R234). -/
structure LinkQueued (p : Fin 2) (op : Nat) (f : Frame) (k : Fin 8) (e : QEntry) (s u : State) : Prop where
  queue : u.q ⟨k.val, by omega⟩ = s.q ⟨k.val, by omega⟩ ++ [e]
  queues : ∀ q : Fin 16, q.val ≠ k.val → u.q q = s.q q
  answered : Answered s u p 1 f (occupancy s k)
  remembered : u.duplicate p op f = some (1, occupancy s k)
  rail : u.ra k = { s.ra k with pushed := (s.ra k).pushed ++ [s.clock] }
  rails : ∀ j, j ≠ k → u.ra j = s.ra j
  phase : u.phase = s.phase

section
variable {s : State} {p : Fin 2} {b : Nat} {f : Frame} {k : Fin 8} (h : HeardFor s p b f k)
include h

theorem linkFrame_refused {a : Nat} {d : BitVec 16} {t : State}
    (hr : linkRun p (b + f.slot.val) (if b + f.slot.val < 4 then 0 else (b + f.slot.val) % 4) f s = (a, d, t)) (ha : 1 < a) :
    linkFrame p (b + f.slot.val) f s = linkRespond p a f.tag d t :=
  linkFrame_answers h.heard.linkOn h.heard.known h.heard.fresh hr (.inr ha)

variable (hb : 0x10 ≤ b ∧ b < 0x28 ∧ b % 4 = 0)
include hb

theorem linkFrame_accepted {a : Nat} {d : BitVec 16} {t : State}
    (hr : linkRun p (b + f.slot.val) (if b + f.slot.val < 4 then 0 else (b + f.slot.val) % 4) f s = (a, d, t)) (ha : a ≤ 1) :
    linkFrame p (b + f.slot.val) f s = answerKept p (b + f.slot.val) f a d t :=
  linkFrame_keeps h.heard.linkOn h.heard.known h.heard.fresh hr (opDup_command (by omega) (by omega)) ha (by omega)

theorem linkFrame_queues {kind : Nat} {data : Word}
    (hg : s.gateWrite (linkMaster p) (A.RAIL_VSET k.val) false = none) (hst : s.linkState (b + f.slot.val) k = true)
    (he : linkEffect p (b + f.slot.val) f.slot.val f k s = enqueue p f k kind data s)
    (hroom : s.room ⟨k.val, by omega⟩ 1 = true) :
    LinkQueued p (b + f.slot.val) f k (linkEntry p f kind data) s (linkFrame p (b + f.slot.val) f s) := by
  have hr := linkRun_slot (by omega) h (fun _ => hg) hst (he.trans (enqueue_room hroom))
  have hpush := qAppend_railPushed k (linkEntry p f kind data) s
  have hcount := congrArg (getBits · 0 32) (qAppend_low hroom (linkEntry p f kind data)
    (show A.LNK_NFRAME p.val < 0x180000 by unfold A.LNK_NFRAME; omega))
  rw [linkFrame_accepted h hb hr (Nat.le_refl 1)]
  rw [railQueue_eq] at hpush
  generalize qAppend _ (linkEntry p f kind data) s = t at hpush hcount
  refine ⟨?_, fun q hq => ?_, answerKept_answered hcount _ f 1 _, answerKept_duplicate _ t (by omega) (by omega) (by decide),
    ?_, fun j hj => ?_, ?_⟩
  · exact (congrArg (vget · _) (answerKept_queue p _ f 1 _ t)).trans (railQueue_eq k ▸ hpush.queue)
  · refine (congrArg (vget · q) (answerKept_queue p _ f 1 _ t)).trans (hpush.queues q fun e => hq ?_)
    rw [e, railQueue_val]
  · exact (congrArg (vget · k) (answerKept_rail p _ f 1 _ t)).trans hpush.rail
  · exact (congrArg (vget · j) (answerKept_rail p _ f 1 _ t)).trans (hpush.rails j hj)
  · exact (answerKept_phase p _ f 1 _ t).trans hpush.phase

end

/-! ### A refusal of the Gatehouse (R381) -/

theorem ghRefuse_counts (m : Master) (kind a : Nat) (s : State) :
    (ghRefuse m kind a s).g F.GH_DENYCNT_COUNT = incHold F.GH_DENYCNT_COUNT.w (s.g F.GH_DENYCNT_COUNT) := by
  have hc := State.g_inc s F.GH_DENYCNT_COUNT (by decide)
  unfold ghRefuse
  dsimp only
  split
  · exact hc
  · exact (congrArg (getBits · 0 16) (State.word_setWord_ne _ _ _ _ (by decide))).trans hc

/-! ### Slack reports (R181, R228) -/

theorem modOl_ol (s : State) (k : Fin 8) (f : OuterState → OuterState) : ((s.modOl k f).ra k).ol = f (s.ra k).ol :=
  congrArg RailState.ol (State.modRa_same s k _)

section
variable {p : Fin 2} {e : Fin 4} {k : Fin 8} {x : Int} {s : State}

theorem slackReport_idle (h : s.gb (F.OL_HZCTL_HZEN k.val) = false) : slackReport p e k x s = s := if_neg (by simp [h])

theorem slackReport_keep {β : Type} (π : State → β) (hw : ∀ s a w, π (State.setWord s a w) = π s)
    (hm : ∀ s f, π (State.modOl s k f) = π s) : π (slackReport p e k x s) = π s := by
  unfold slackReport
  split
  · extract_lets s1
    split
    · exact (hm _ _).trans ((hw _ _ _).trans (hm s _))
    · exact hm s _
  · rfl

theorem slackReport_word {a : Nat} (h : a ≠ A.OL_STATUS k.val) : (slackReport p e k x s).word a = s.word a := by
  unfold slackReport
  split
  · extract_lets s1
    split
    · exact State.word_p_ne s1 (F.OL_STATUS_HZCRIT k.val) _ a h
    · rfl
  · rfl

/-- Under a running Horizon the report is kept for its boundary with its instant; a critical one sets HZCRIT and takes M to 0. -/
theorem slackReport_kept (hz : s.gb (F.OL_HZCTL_HZEN k.val) = true) (he : s.enabled k = true)
    (ht : (s.ra k).tr.trans = none) : ((slackReport p e k x s).ra k).ol.reports = (s.ra k).ol.reports ++ [(s.clock, x)]
      ∧ ((slackReport p e k x s).ra k).ol.smin = (s.ra k).ol.smin
      ∧ (if x < s.gi (F.OL_HZSTEP_SLKCRIT k.val) then (slackReport p e k x s).gb (F.OL_STATUS_HZCRIT k.val) = true
          ∧ ((slackReport p e k x s).ra k).ol.mZero = (s.ra k).ol.mZero ++ [s.clock]
        else ((slackReport p e k x s).ra k).ol.mZero = (s.ra k).ol.mZero) := by
  unfold slackReport
  rw [if_pos (by simp [hz, he, ht])]
  extract_lets s1
  have hgi : s1.gi (F.OL_HZSTEP_SLKCRIT k.val) = s.gi (F.OL_HZSTEP_SLKCRIT k.val) := rfl
  have hclock : (s1.pb (F.OL_STATUS_HZCRIT k.val) true).clock = s.clock := rfl
  have hol := modOl_ol s k fun o => { o with
    reports := o.reports ++ [(s.clock, x)], reported := o.reported ||| BitVec.ofNat 8 (2 ^ (4 * p.val + e.val)) }
  change (s1.ra k).ol = _ at hol
  rw [hgi]
  clear_value s1
  split
  · have hm := modOl_ol (s1.pb (F.OL_STATUS_HZCRIT k.val) true) k fun o =>
      { o with mZero := o.mZero ++ [(s1.pb (F.OL_STATUS_HZCRIT k.val) true).clock] }
    change ((marginEvent k (s1.pb (F.OL_STATUS_HZCRIT k.val) true)).ra k).ol = _ at hm
    rw [hm, ra_pb, hol, hclock]
    exact ⟨rfl, rfl, State.gb_pb s1 (F.OL_STATUS_HZCRIT k.val) true rfl (show 4 + 1 ≤ 32 by decide), rfl⟩
  · rw [hol]
    exact ⟨rfl, rfl, rfl⟩

end

/-! ### Forecasts (R226, R249) -/

theorem modInk_ink (s : State) (k : Fin 8) (f : InnRail → InnRail) : ((s.modInk k f).ra k).ink = f (s.ra k).ink :=
  congrArg RailState.ink (State.modRa_same s k _)

theorem modInk_md (s : State) (k : Fin 8) (f : InnRail → InnRail) : ((s.modInk k f).ra k).md = (s.ra k).md := by
  rw [State.modInk, State.modRa_same]

theorem decideAdd_keep {β : Type} (π : State → β) (k : Fin 8) (hm : ∀ s f, π (State.modInk s k f) = π s) (m : Nat)
    (b : Bool) (s : State) : π (decideAdd k m b s) = π s := by
  unfold decideAdd
  extract_lets add keep
  exact hm s _

/-- Phases brought in ahead of a forecast change the Innkeeper's state of the rail alone. -/
theorem forecastPhases_keep {β : Type} (π : State → β) (k : Fin 8) (hm : ∀ s f, π (State.modInk s k f) = π s) (d : Int)
    (s : State) : π (forecastPhases k d s) = π s := by
  unfold forecastPhases
  extract_lets s1 shed act m
  have h1 : π s1 = π s := hm s _
  split
  · split
    · exact (decideAdd_keep π k hm m true s1).trans h1
    · exact h1
  · exact h1

theorem forecastPhases_pending (k : Fin 8) (d : Int) (s : State) :
    ((forecastPhases k d s).ra k).ink.fcPending = true := by
  unfold forecastPhases
  extract_lets s1 shed act m
  have h1 : (s1.ra k).ink.fcPending = true := congrArg InnRail.fcPending (modInk_ink s k _)
  split
  · split
    · exact (congrArg InnRail.fcPending (modInk_ink s1 k _)).trans h1
    · exact h1
  · exact h1

/-- The forecast a frame hands over (R226). -/
def handedForecast (d : Int) (lead : Nat) (s : State) : Forecast :=
  ⟨d, s.clock, s.clock + 12800 * lead, false, false, false, none, false⟩

/-- What a forecast leaves: rail k's modulator and Innkeeper have it, FCARMED is 0, and no other rail, no queue and no other
register changed. -/
structure Forecasted (k : Fin 8) (c : Forecast) (s u : State) : Prop where
  forecast : (u.ra k).md.fc = some c
  pending : (u.ra k).ink.fcPending = true
  disarmed : u.gb (F.RAIL_MSTAT_FCARMED k.val) = false
  rails : ∀ j, j ≠ k → u.ra j = s.ra j
  queue : u.queue = s.queue
  words : ∀ a, a ≠ A.RAIL_MSTAT k.val → u.word a = s.word a

theorem linkForecast_hands (k : Fin 8) (d : Int) (lead : Nat) (s : State) :
    Forecasted k (handedForecast d lead s) s (linkForecast k d lead s) := by
  unfold linkForecast
  extract_lets c s1
  have hmd : (s1.ra k).md.fc = some c := congrArg ModState.fc (modMd_md s k fun m => { m with fc := some c })
  have hflag : s1.gb (F.RAIL_MSTAT_FCARMED k.val) = false :=
    State.gb_pb _ (F.RAIL_MSTAT_FCARMED k.val) false rfl (show 3 + 1 ≤ 32 by decide)
  have hrails : ∀ j, j ≠ k → s1.ra j = s.ra j := fun j hj =>
    modMd_ra_ne s k (fun m => { m with fc := some c }) hj
  have hqueue : s1.queue = s.queue := rfl
  have hwords : ∀ a, a ≠ A.RAIL_MSTAT k.val → s1.word a = s.word a := fun a ha =>
    State.word_p_ne _ (F.RAIL_MSTAT_FCARMED k.val) _ a ha
  clear_value s1
  refine ⟨?_, forecastPhases_pending k d s1, ?_, fun j hj => ?_, ?_, fun a ha => ?_⟩
  · exact (forecastPhases_keep (fun u => (u.ra k).md.fc) k (fun s f => congrArg ModState.fc (modInk_md s k f)) d s1).trans hmd
  · exact (forecastPhases_keep (·.gb (F.RAIL_MSTAT_FCARMED k.val)) k (fun _ _ => rfl) d s1).trans hflag
  · exact (forecastPhases_keep (·.ra j) k (fun s f => State.modRa_ne s k j _ hj) d s1).trans (hrails j hj)
  · exact (forecastPhases_keep (·.queue) k (fun _ _ => rfl) d s1).trans hqueue
  · exact (forecastPhases_keep (·.word a) k (fun _ _ => rfl) d s1).trans (hwords a ha)

/-! ### Periods (R188, R227) -/

/-- The period in ns a frame gives, and its alignment flag (R227). -/
def framePeriod (f : Frame) : Nat := f.data.toNat + f.arg.toNat % 128 * 2 ^ 16

theorem linkPeriod_inRange {f : Frame} {k : Fin 8} {s : State} (h : 16 * s.ts k.val ≤ framePeriod f) : linkPeriod f k s
    = s.modEp k fun e => { e with msgs := e.msgs ++ [(s.clock, some (framePeriod f), decide (128 ≤ f.arg.toNat))] } :=
  if_pos h

theorem takePeriod_absent {k : Fin 8} {t : Nat} {s : State} (h : t < 16 * s.ts k.val) :
    takePeriod k t s = s.pb (F.EPH_STATUS_ELOST k.val) true := if_neg (by omega)

theorem linkPeriod_absent {f : Frame} {k : Fin 8} {s : State} (h : framePeriod f < 16 * s.ts k.val) : linkPeriod f k s
    = (s.pb (F.EPH_STATUS_ELOST k.val) true).modEp k fun e => { e with
        msgs := (e.msgs.map fun x => (x.1, none, x.2.2)) ++ [(s.clock, none, decide (128 ≤ f.arg.toNat))] } := by
  rw [← takePeriod_absent h]
  exact if_neg (Nat.not_le_of_lt h)

/-! ### The count of frames, which the effects of frames leave to their answers (R240) -/

/-- The registers of rails stand below those of the link. -/
theorem railWord_ne_nframe {a : Nat} (h : a < 0x160000) (p : Fin 2) : A.LNK_NFRAME p.val ≠ a := by
  unfold A.LNK_NFRAME
  omega

theorem qDrop_nframe (q : Fin 16) (p : Fin 2) (s : State) :
    (qDrop q s).g (F.LNK_NFRAME_FRAMES p.val) = s.g (F.LNK_NFRAME_FRAMES p.val) := by
  have hne : A.LNK_NFRAME p.val ≠ A.Q_STAT q.val := by
    unfold A.LNK_NFRAME A.Q_STAT
    omega
  exact congrArg (getBits · 0 32) ((State.word_p_ne _ _ _ _ hne).trans (State.word_p_ne s _ _ _ hne))

theorem qDrop_queue (q : Fin 16) (s : State) : (qDrop q s).queue = s.queue := by
  rw [qDrop, State.pb_queue, State.inc_queue]

theorem qDrop_drops (q : Fin 16) (s : State) :
    (qDrop q s).g (F.Q_STAT_DROPS q.val) = incHold (F.Q_STAT_DROPS q.val).w (s.g (F.Q_STAT_DROPS q.val)) :=
  (g_pb_of_apart _ true (show 16 + 1 ≤ 32 by decide) (.inr (.inr (show 16 + 1 ≤ 24 by decide)))).trans
    (State.g_inc s (F.Q_STAT_DROPS q.val) (show 24 + 8 ≤ 32 by decide))

theorem ghRefuse_nframe (m : Master) (kind a : Nat) (p : Fin 2) (s : State) :
    (ghRefuse m kind a s).g (F.LNK_NFRAME_FRAMES p.val) = s.g (F.LNK_NFRAME_FRAMES p.val) := by
  have hne : A.LNK_NFRAME p.val ≠ A.GH_DENY ∧ A.LNK_NFRAME p.val ≠ A.GH_DENYCNT := by
    unfold A.LNK_NFRAME A.GH_DENY A.GH_DENYCNT
    omega
  exact congrArg (getBits · 0 32) (ghRefuse_word m kind a s _ hne.1 hne.2)

theorem slackReport_nframe (p : Fin 2) (e : Fin 4) (k : Fin 8) (x : Int) (s : State) :
    (slackReport p e k x s).g (F.LNK_NFRAME_FRAMES p.val) = s.g (F.LNK_NFRAME_FRAMES p.val) :=
  congrArg (getBits · 0 32) (slackReport_word (railWord_ne_nframe (by unfold A.OL_STATUS; omega) p))

theorem Forecasted.nframe {k : Fin 8} {c : Forecast} {s u : State} (h : Forecasted k c s u) (p : Fin 2) :
    u.g (F.LNK_NFRAME_FRAMES p.val) = s.g (F.LNK_NFRAME_FRAMES p.val) :=
  congrArg (getBits · 0 32) (h.words _ (railWord_ne_nframe (by unfold A.RAIL_MSTAT; omega) p))

end Sys2Proof.Machine
end

section
/-!
PROOFS. Frames that command a rail (O44).
-/

open Sys2Proof Sys2Proof.Machine
namespace Sys2Proof.Machine

/-! ### Commands that are answered with ACK 0 -/

section
variable {s : State} {p : Fin 2} {b : Nat} {f : Frame} {k : Fin 8} (h : HeardFor s p b f k)
  (hb : 0x10 ≤ b ∧ b < 0x28 ∧ b % 4 = 0)
include h hb

/-- A command of a slot that the Gatehouse grants and the rail's state allows, with ACK 0 and no data. -/
theorem linkFrame_acts {t : State}
    (hg : opWrites (b + f.slot.val) f.arg = true → s.gateWrite (linkMaster p) (A.RAIL_VSET k.val) false = none)
    (hst : s.linkState (b + f.slot.val) k = true) (he : linkEffect p (b + f.slot.val) f.slot.val f k s = (0, 0, t)) :
    linkFrame p (b + f.slot.val) f s = answerKept p (b + f.slot.val) f 0 0 t :=
  linkFrame_accepted h hb (linkRun_slot (by omega) h hg hst he) (by decide)

end

/-! ### The statement -/

/-- Settles O44: a command that passes the checks of R222 comes to its effect and is remembered; one that fails them is answered
and not remembered, so that nothing but the answer and the count of its cause changed. -/
theorem linkFramesCommand : Obligations.LinkFramesCommand := by
  unfold Obligations.LinkFramesCommand
  refine ⟨fun s p f k h harg hg hver hlim hroom => ?setv, fun s p f k h harg hg hver hlim hroom => ?full,
    fun s p f k h harg hg hver hlim => ?limits, fun s p f k kind h hg => ?denied, fun s p f k w h hw hg hver hlim hroom => ?slew,
    fun s p f k h harg hg hroom => ?margin, fun s p f k h harg hdata hg hen hroom => ?power,
    fun s p f k h hg hen => ?pinned, fun s p f k h harg => ?report, fun s p f k h hg hlive => ?forecast,
    fun s p f k h hg hlive hsrc ht => ?period, fun s p f k h hg hlive hsrc ht => ?absent,
    fun s p f k h hoff hg => ?forecastOff⟩
  case setv =>
    have hb := opBase_slot (b := 0x10) (by decide) f.slot
    obtain ⟨hq, hqs, ha, hrem, hr, hrs, hp⟩ := linkFrame_queues h (by decide) hg (linkState_free h.notSafe (by omega))
      ((linkEffect_setv hb harg).trans (linkSet_inLimits hver hlim 0)) hroom
    rw [Nat.add_zero] at hq
    exact ⟨_, rfl, hq, ha, hrem, hr, hrs, hp, hqs⟩
  case full =>
    have hb := opBase_slot (b := 0x10) (by decide) f.slot
    have he := ((linkEffect_setv (slot := f.slot.val) hb harg).trans (linkSet_inLimits hver hlim 0)).trans (enqueue_full hroom)
    have hr := linkRun_slot (by decide) h (fun _ => hg) (linkState_free h.notSafe (by omega)) he
    refine ⟨_, congrArg done (linkFrame_refused h hr (by decide)), linkRespond_answered (qDrop_nframe _ p s) 2 f 0, ?_, ?_⟩
    · rw [linkRespond_queue, qDrop_queue]
    · refine (linkRespond_g p 2 f.tag 0 _ ?_).trans (qDrop_drops ⟨k.val, by omega⟩ s)
      show A.Q_STAT k.val ≠ A.LNK_NFRAME p.val
      unfold A.Q_STAT A.LNK_NFRAME
      omega
  case limits =>
    have hb := opBase_slot (b := 0x10) (by decide) f.slot
    have hr := linkRun_slot (by decide) h (fun _ => hg) (linkState_free h.notSafe (by omega))
      ((linkEffect_setv hb harg).trans (linkSet_outside hver hlim 0))
    exact ⟨_, congrArg done (linkFrame_refused h hr (by decide)), linkRespond_alone s p 3 f 0⟩
  case denied =>
    have hb := opBase_slot (b := 0x10) (by decide) f.slot
    have hw : opWrites (0x10 + f.slot.val) f.arg = true := by simp [opWrites, hb]
    have hr := (linkRun_slotOf (by decide) p f s).trans
      (linkRun_denied h.slotRail (linkAccess_denied h.heard.epOn h.slotRail (by omega) hw hg))
    refine ⟨_, congrArg done (linkFrame_refused h hr (by decide)), linkRespond_answered (ghRefuse_nframe _ _ _ p s) 4 f 0, ?_, ?_,
      ?_, ?_⟩
    · exact (linkRespond_queue _ _ _ _ _).trans (ghRefuse_keep (·.queue) (fun _ _ _ => rfl) _ _ _ s)
    · exact (linkRespond_rail _ _ _ _ _).trans (ghRefuse_keep (·.rail) (fun _ _ _ => rfl) _ _ _ s)
    · refine (linkRespond_g p 4 f.tag 0 _ ?_).trans (ghRefuse_counts _ _ _ s)
      show A.GH_DENYCNT ≠ A.LNK_NFRAME p.val
      unfold A.GH_DENYCNT A.LNK_NFRAME
      omega
    · exact (linkRespond_word p 4 f.tag 0 _ (railWord_ne_nframe (by decide) p).symm).trans
        (ghRefuse_word _ _ _ s _ (by decide) (by decide))
  case slew =>
    have hb := opBase_slot (b := 0x14) (by decide) f.slot
    have he : linkEffect p (0x14 + f.slot.val) f.slot.val f k s = linkSet p f k (some w) s := hw ▸ linkEffect_setvSlew hb
    obtain ⟨hlo, hhi⟩ := slewOverride_bounds hw
    obtain ⟨hq, -, -, -, hr, hrs, hp⟩ := linkFrame_queues h (by decide) hg (linkState_free h.notSafe (by omega))
      (he.trans (linkSet_inLimits hver hlim w)) hroom
    exact ⟨_, rfl, hq, hlo, hhi, hr, hrs, hp⟩
  case margin =>
    have hb := opBase_slot (b := 0x18) (by decide) f.slot
    obtain ⟨hq, -, -, -, hr, hrs, hp⟩ := linkFrame_queues h (by decide) hg (linkState_free h.notSafe (by omega))
      ((linkEffect_margin hb).trans (linkMargin_command harg)) hroom
    have hf : { f with arg := f.arg &&& 0x7F } = f := frame_arg (by rw [harg]; rfl)
    exact ⟨_, congrArg (fun x => slotFrame p 0x18 x s) hf, hq, hr, hrs, hp⟩
  case power =>
    have hb := opBase_slot (b := 0x24) (by decide) f.slot
    obtain ⟨hq, -, -, -, hr, hrs, hp⟩ := linkFrame_queues h (by decide) hg (by rw [linkState_power h.notSafe hb, hen]; rfl)
      ((linkEffect_power hb).trans (linkPower_entry harg hdata)) hroom
    exact ⟨_, rfl, hq, hr, hrs, hp⟩
  case pinned =>
    have hb := opBase_slot (b := 0x24) (by decide) f.slot
    have hr := linkRun_slot_wrongState (by decide) h (fun _ => hg) (by rw [linkState_power h.notSafe hb, hen]; rfl)
    exact ⟨_, congrArg done (linkFrame_refused h hr (by decide)), (linkRespond_alone s p 5 f 0).1, linkRespond_queue _ _ _ _ _⟩
  case report =>
    have hb := opBase_slot (b := 0x18) (by decide) f.slot
    have hread : opWrites (0x18 + f.slot.val) f.arg = false := by rw [opWrites_margin hb, harg]; rfl
    have hact := linkFrame_acts h (by decide) (fun hw => nomatch hread.symm.trans hw) (linkState_free h.notSafe (by omega))
      ((linkEffect_margin hb).trans (linkMargin_report harg))
    have hf : { f with arg := f.arg ||| 0x80 } = f := frame_arg (by rw [harg]; rfl)
    refine ⟨_, (congrArg (fun x => slotFrame p 0x18 x s) hf).trans (congrArg done hact),
      answerKept_answered (slackReport_nframe _ _ _ _ s) _ f 0 0, ?_, fun hz he ht => ?_, fun hz => ?_⟩
    · exact (answerKept_queue _ _ _ _ _ _).trans (slackReport_keep (·.queue) (fun _ _ _ => rfl) fun _ _ => rfl)
    · rw [answerKept_ra, answerKept_gb _ _ _ _ _ _ (show A.OL_STATUS k.val < 0x160000 by unfold A.OL_STATUS; omega)]
      exact slackReport_kept hz he ht
    · exact (answerKept_rail _ _ _ _ _ _).trans (congrArg State.rail (slackReport_idle hz))
  case forecast =>
    have hb := opBase_slot (b := 0x1C) (by decide) f.slot
    have hact := linkFrame_acts h (by decide) (fun _ => hg) (linkState_forecast h.notSafe hb hlive) (linkEffect_forecast hb)
    have hfc := linkForecast_hands k f.data.toInt f.arg.toNat s
    refine ⟨_, congrArg done hact, answerKept_answered (hfc.nframe p) _ f 0 0, ?_, ?_, ?_, ?_, fun j hj => ?_⟩
    · exact (answerKept_queue _ _ _ _ _ _).trans hfc.queue
    · rw [answerKept_ra]
      exact hfc.forecast
    · rw [answerKept_ra]
      exact hfc.pending
    · rw [answerKept_gb _ _ _ _ _ _ (show A.RAIL_MSTAT k.val < 0x160000 by unfold A.RAIL_MSTAT; omega)]
      exact hfc.disarmed
    · rw [answerKept_ra]
      exact hfc.rails j hj
  case period =>
    have hb := opBase_slot (b := 0x20) (by decide) f.slot
    have hact := linkFrame_acts h (by decide) (fun _ => hg) (linkState_period h.notSafe hb hlive hsrc) (linkEffect_period hb)
    rw [linkPeriod_inRange ht] at hact
    refine ⟨_, congrArg done hact, answerKept_answered rfl _ f 0 0, ?_, ?_, ?_, fun j hj => ?_⟩
    · exact answerKept_queue _ _ _ _ _ _
    · rw [answerKept_ra, modEp_ep]
      rfl
    · rw [answerKept_g _ _ _ _ _ _ (show A.EPH_TNOW k.val < 0x160000 by unfold A.EPH_TNOW; omega)]
      rfl
    · rw [answerKept_ra]
      exact State.modRa_ne s k j _ hj
  case absent =>
    have hb := opBase_slot (b := 0x20) (by decide) f.slot
    have hact := linkFrame_acts h (by decide) (fun _ => hg) (linkState_period h.notSafe hb hlive hsrc) (linkEffect_period hb)
    have hstat : A.EPH_STATUS k.val < 0x160000 := by unfold A.EPH_STATUS; omega
    rw [linkPeriod_absent ht] at hact
    refine ⟨_, congrArg done hact, answerKept_answered ?_ _ f 0 0, ?_, ?_, ?_, ?_, ?_, fun j hj => ?_⟩
    · exact State.g_p_addr s (F.EPH_STATUS_ELOST k.val) (F.LNK_NFRAME_FRAMES p.val) _ (railWord_ne_nframe hstat p)
    · rw [answerKept_gb _ _ _ _ _ _ hstat]
      exact State.gb_pb s (F.EPH_STATUS_ELOST k.val) true rfl (show 4 + 1 ≤ 32 by decide)
    · rw [answerKept_g _ _ _ _ _ _ (show A.EPH_TNOW k.val < 0x160000 by unfold A.EPH_TNOW; omega)]
      exact State.g_p_addr s (F.EPH_STATUS_ELOST k.val) (F.EPH_TNOW_TNOW k.val) _
        (show A.EPH_TNOW k.val ≠ A.EPH_STATUS k.val by unfold A.EPH_TNOW A.EPH_STATUS; omega)
    · rw [answerKept_ra, modEp_ep]
      intro x hx
      obtain hx | hx := List.mem_append.mp hx
      · obtain ⟨y, -, rfl⟩ := List.mem_map.mp hx
        rfl
      · rw [List.mem_singleton.mp hx]
    · rw [answerKept_ra, modEp_ep]
      simp
    · exact answerKept_queue _ _ _ _ _ _
    · rw [answerKept_ra]
      exact State.modRa_ne _ k j _ hj
  case forecastOff =>
    have hb := opBase_slot (b := 0x1C) (by decide) f.slot
    have hr := linkRun_slot_wrongState (by decide) h (fun _ => hg) (linkState_forecast_off h.notSafe hb hoff)
    exact ⟨_, congrArg done (linkFrame_refused h hr (by decide)), (linkRespond_alone s p 5 f 0).1, linkRespond_rail _ _ _ _ _⟩

end Sys2Proof.Machine
end

section
/-!
SUPPORT. What messages of the Innkeeper, role changes, the end of a test and the retirement of a phase leave (R244, R255, R256,
R263, R265, R335): the registers they do not write, and the parts of the state beside them.
-/

open Sys2Proof Sys2Proof.Machine
namespace Sys2Proof.Machine

/-! ### Roles -/

theorem State.modRl_same (s : State) (n : Fin 48) (f : RoleState → RoleState) : (s.modRl n f).rl n = f (s.rl n) :=
  vget_vset_same _ _ _

theorem State.modRl_ne (s : State) {n j : Fin 48} (f : RoleState → RoleState) (h : j ≠ n) : (s.modRl n f).rl j = s.rl j :=
  vget_vset_ne _ _ h

theorem rl_of_role {u s : State} (h : u.role = s.role) (n : Fin 48) : u.rl n = s.rl n := congrArg (vget · n) h

theorem phOff_role (n : Fin 48) (s : State) : (phOff n s).role = s.role :=
  (switchFrame_of (fun _ _ _ => rfl) (fun _ _ _ => rfl) fun _ _ => rfl : SwitchFrame n (·.role)).phOff_eq s

theorem startPhase_role (n : Fin 48) (s : State) : (startPhase n s).role = s.role :=
  (phOff_role n _).trans (State.pb_role s _ _)

/-! ### Messages beside registers -/

theorem reportFrame_role : ReportFrame (·.role) := by constructor <;> intros <;> rfl
theorem reportFrame_chk : ReportFrame (·.chk) := by constructor <;> intros <;> rfl

theorem ReportFrame.q15Put_eq {β : Type} {π : State → β} (h : ReportFrame π) (w : NvWrite) (s : State) :
    π (q15Put w s) = π s := q15Put_keep π h.setWord h.modPl h.nv w s

theorem ReportFrame.inkMessage_eq {β : Type} {π : State → β} (h : ReportFrame π) (kind : Nat) (n : Option (Fin 48))
    (rail before after val : Nat) (s : State) : π (inkMessage kind n rail before after val s) = π s := by
  unfold inkMessage
  extract_lets ep ph e s1
  have h1 : π s1 = π s := by
    have hpush := h.qPush_eq (q := 14) (by decide) e s
    unfold qPush at hpush
    unfold s1
    by_cases hroom : s.room 14 1 = true
    · rwa [if_pos hroom] at hpush ⊢
    · rw [if_neg hroom] at hpush ⊢
      exact (h.setWord _ _ _).trans hpush
  split
  · exact (queueRecord_keep π h.setWord h.modPl h.nv _ _ _ s1).trans h1
  · exact h1

/-- A message of a kind that is not recorded reaches no store (R335). -/
theorem inkMessage_nv {kind : Nat} (h : ¬ (2 ≤ kind ∧ kind ≤ 5)) (n : Option (Fin 48)) (rail before after val : Nat)
    (s : State) : (inkMessage kind n rail before after val s).nv = s.nv := by
  have hpush : ∀ e, (qAppend 14 e s).nv = s.nv := fun e =>
    routerEdge_keep (·.nv) (fun _ _ _ => rfl) (fun _ _ _ => rfl) _ _ _
  unfold inkMessage
  dsimp only
  rw [if_neg (by simpa using h)]
  split
  · exact hpush _
  · rw [State.inc_nv, qDrop, State.pb_nv, State.inc_nv]

/-- A phase that takes another role takes its next epoch with it (R244). -/
theorem changeRole_rl_same {n : Fin 48} {r : Role} {s : State} (h : (s.rl n).role ≠ r) (val : Nat) :
    (changeRole n r val s).rl n = { s.rl n with role := r, epoch := (s.rl n).epoch + 1 } := by
  unfold changeRole
  rw [if_neg h, rl_of_role (reportFrame_role.inkMessage_eq _ _ _ _ _ _ _), State.modRl_same]

theorem changeRole_rl_ne {n j : Fin 48} (h : j ≠ n) (r : Role) (val : Nat) (s : State) :
    (changeRole n r val s).rl j = s.rl j := by
  unfold changeRole
  dsimp only
  split
  · rfl
  · rw [rl_of_role (reportFrame_role.inkMessage_eq _ _ _ _ _ _ _), State.modRl_ne s _ h]

theorem changeRole_nv (n : Fin 48) (r : Role) (val : Nat) (s : State) : (changeRole n r val s).nv = s.nv := by
  unfold changeRole
  dsimp only
  split
  · rfl
  · exact inkMessage_nv (by decide) _ _ _ _ _ _

theorem gb_of_g {u s : State} {f : Fld} (h : u.g f = s.g f) : u.gb f = s.gb f := congrArg (· != 0) h

/-! ### Fields that messages, records and writes into Q15 leave -/

/-- A field below the queues that no message or record counts in. -/
structure MessageApart (e : Fld) : Prop where
  below : e.addr < 0x180000
  info : e.addr ≠ A.LG_INFO
  lost : e.Apart F.INK_REQSTAT_MSGLOST

/-- A field of the registers behind INK_REQSTAT. -/
theorem messageApart_of {e : Fld} (above : A.INK_REQSTAT < e.addr) (below : e.addr < 0x180000) : MessageApart e where
  below := below
  info := Nat.ne_of_gt (Nat.lt_trans (by decide) above)
  lost := .inl (Nat.ne_of_gt above)

section
variable {e : Fld} (h : MessageApart e)
include h

theorem MessageApart.not_router : ¬ RouterWord e.addr := not_routerWord_of_lt h.below

theorem MessageApart.ne_stat (q : Nat) : e.addr ≠ A.Q_STAT q := by
  have hbelow := h.below
  unfold A.Q_STAT
  omega

theorem MessageApart.q15Put_g (w : NvWrite) (s : State) : (q15Put w s).g e = s.g e :=
  congrArg (getBits · _ _) (q15Put_word w s _ h.not_router)

theorem MessageApart.record_g (t : Nat) (ev : List Byte) (s : State) : (record t ev s).g e = s.g e :=
  congrArg (getBits · _ _) (queueRecord_word _ _ _ s _ h.not_router h.info (h.ne_stat 15))

theorem MessageApart.recordRetire_g (t i cause : Nat) (s : State) : (recordRetire t i cause s).g e = s.g e :=
  Machine.recordRetire_g t i cause s e h.not_router h.info (h.ne_stat 15)

theorem MessageApart.inkMessage_g (kind : Nat) (n : Option (Fin 48)) (rail before after val : Nat) (s : State) :
    (inkMessage kind n rail before after val s).g e = s.g e := by
  unfold inkMessage
  extract_lets ep ph x s1
  have h1 : s1.g e = s.g e := by
    have hpush : (qPush 14 x s).g e = s.g e := congrArg (getBits · _ _) (qPush_word 14 x s _ h.not_router (h.ne_stat _))
    unfold qPush at hpush
    unfold s1
    by_cases hroom : s.room 14 1 = true
    · rwa [if_pos hroom] at hpush ⊢
    · rw [if_neg hroom] at hpush ⊢
      exact (g_p_of_apart _ _ (by decide) h.lost).trans hpush
  split
  · exact (h.record_g _ _ s1).trans h1
  · exact h1

theorem MessageApart.changeRole_g (n : Fin 48) (r : Role) (val : Nat) (s : State) : (changeRole n r val s).g e = s.g e := by
  unfold changeRole
  dsimp only
  split
  · rfl
  · exact h.inkMessage_g _ _ _ _ _ _ _

theorem MessageApart.phOff_g (n : Fin 48) (s : State) : (phOff n s).g e = s.g e := (switchFrame_g h.not_router).phOff_eq s

theorem MessageApart.report_g {x : FmEvent} {n : Fin 48} (hx : x.phase = some n) (hf : e.addr ≠ A.FM_STATUS)
    (hn : e.addr ≠ A.FM_PH_STAT n.val) (c : Nat) (perm : Bool) (s : State) : (report x c perm s).g e = s.g e :=
  congrArg (getBits · _ _) ((report_word_phase hx c perm s _ (not_reportWord_of h.below hf h.info) (phStat_not_report n)).trans
    (State.word_p_ne s _ _ _ hn))

end

/-! ### The end of a test (R263) -/

/-- The result of the test of phase n: a stuck reading, else the mean of the readings of its second half against TESTIMIN. -/
def State.testResult (s : State) (n : Fin 48) : Nat :=
  if (s.rl n).stuck then 3
  else if (s.rl n).testCnt = 0 then s.g (F.PHASE_ROLE_TESTRES n.val)
  else if (s.g F.INK_TEST_TESTIMIN : Int) * 64 * (s.rl n).testCnt ≤ (s.rl n).testSum then 1 else 2

/-- Before its role changes, a test that ends leaves its phase off, its result shown and its counts cleared. -/
def testStopped (n : Fin 48) (s : State) : State :=
  ((phOff n s).p (F.PHASE_ROLE_TESTRES n.val) (s.testResult n)).modRl n fun r =>
    { r with testRun := 0, testSum := 0, testCnt := 0, stuck := false }

theorem testStopped_rl (n : Fin 48) (s : State) :
    (testStopped n s).rl n = { s.rl n with testRun := 0, testSum := 0, testCnt := 0, stuck := false } := by
  unfold testStopped
  rw [State.modRl_same, rl_of_role (State.p_role _ _ _), rl_of_role (phOff_role n s)]

theorem testStopped_rl_ne {n j : Fin 48} (h : j ≠ n) (s : State) : (testStopped n s).rl j = s.rl j :=
  (State.modRl_ne _ _ h).trans (rl_of_role (phOff_role n s) j)

theorem testStopped_rail (n : Fin 48) (s : State) : (testStopped n s).rail = s.rail := phOff_rail s n

theorem testStopped_nv (n : Fin 48) (s : State) : (testStopped n s).nv = s.nv :=
  (switchFrame_of (fun _ _ _ => rfl) (fun _ _ _ => rfl) fun _ _ => rfl : SwitchFrame n (·.nv)).phOff_eq s

theorem endTest_tested {n : Fin 48} {s : State} (h : (s.rl n).role = .test) :
    ∃ rail, endTest n s = q15Put .health (inkMessage 6 (some n) rail 0 0 (s.testResult n)
      (changeRole n (s.rl n).before 0 (testStopped n s))) :=
  ⟨_, if_neg (by simp [h])⟩

theorem endTest_untested {n : Fin 48} {s : State} (h : (s.rl n).role ≠ .test) : endTest n s = s := if_pos h

/-- What the end of a test leaves: the former role under the next epoch, the result, and every other phase and every rail. -/
structure TestEnded (n : Fin 48) (s u : State) : Prop where
  role : (u.rl n).role = (s.rl n).before
  epoch : (u.rl n).epoch = (s.rl n).epoch + 1
  run : (u.rl n).testRun = 0
  others : ∀ j, j ≠ n → u.rl j = s.rl j
  rail : u.rail = s.rail

theorem endTest_ends {n : Fin 48} {s : State} (h : (s.rl n).role = .test) (hb : (s.rl n).before ≠ .test) :
    TestEnded n s (endTest n s) := by
  obtain ⟨rail, heq⟩ := endTest_tested h
  have hkeep : ∀ {β : Type} {π : State → β}, ReportFrame π →
      π (endTest n s) = π (changeRole n (s.rl n).before 0 (testStopped n s)) := fun hf => by
    rw [heq, hf.q15Put_eq, hf.inkMessage_eq]
  have hrole : ((testStopped n s).rl n).role ≠ (s.rl n).before := by
    rw [testStopped_rl]
    exact fun e => hb (e.symm.trans h)
  have hrl : (endTest n s).rl n = _ := (rl_of_role (hkeep reportFrame_role) n).trans (changeRole_rl_same hrole 0)
  rw [testStopped_rl] at hrl
  refine ⟨by rw [hrl], by rw [hrl], by rw [hrl], fun j hj => ?_, ?_⟩
  · rw [rl_of_role (hkeep reportFrame_role), changeRole_rl_ne hj, testStopped_rl_ne hj]
  · rw [hkeep reportFrame_rail, changeRole_rail, testStopped_rail]

/-- Beside its messages, the end of a test writes TESTRES. -/
theorem MessageApart.endTest_g {e : Fld} (h : MessageApart e) {n : Fin 48} {s : State} (ht : (s.rl n).role = .test) :
    (endTest n s).g e = (s.p (F.PHASE_ROLE_TESTRES n.val) (s.testResult n)).g e := by
  have hword : (phOff n s).word (A.PHASE_ROLE n.val) = s.word (A.PHASE_ROLE n.val) := by
    have hrole : A.PHASE_ROLE n.val < 0x180000 := by
      unfold A.PHASE_ROLE
      omega
    have hf : SwitchFrame n (·.word (A.PHASE_ROLE n.val)) :=
      ⟨⟨fun s a w ha => State.word_setWord_ne s a _ w fun x => not_routerWord_of_lt hrole (x ▸ ha), fun _ _ _ => rfl⟩,
        fun _ _ _ => rfl⟩
    exact hf.phOff_eq s
  have hput : ((phOff n s).p (F.PHASE_ROLE_TESTRES n.val) (s.testResult n)).g e
      = (s.p (F.PHASE_ROLE_TESTRES n.val) (s.testResult n)).g e := by
    by_cases ha : e.addr = (F.PHASE_ROLE_TESTRES n.val).addr
    · unfold State.g
      rw [State.word_p, State.word_p, if_pos ha, if_pos ha]
      exact congrArg (fun w => getBits (setBits w 8 2 _) e.lo e.w) hword
    · exact (State.g_p_addr _ _ e _ ha).trans ((h.phOff_g n s).trans (State.g_p_addr s _ e _ ha).symm)
  obtain ⟨rail, heq⟩ := endTest_tested ht
  rw [heq, h.q15Put_g, h.inkMessage_g, h.changeRole_g]
  exact hput

/-! ### The retirement of a phase (R244, R255, R256) -/

/-- A field of the blocks between INK_REQ and the fault manager's records of phases that a retirement does not concern. -/
structure RetireApart (e : Fld) : Prop where
  above : A.INK_REQ ≤ e.addr
  below : e.addr < A.FM_PH_STAT 0
  assign : ∀ m : Fin 48, e.addr ≠ A.PHASE_ASSIGN m.val
  lost : e.Apart F.INK_REQSTAT_MSGLOST

section
variable {e : Fld} (h : RetireApart e)
include h

theorem RetireApart.message : MessageApart e where
  below := Nat.lt_trans h.below (by decide)
  info := Nat.ne_of_gt (Nat.lt_of_lt_of_le (by decide) h.above)
  lost := h.lost

/-- A write below INK_REQ. -/
theorem RetireApart.setWord_below (s : State) {a : Nat} (ha : a < A.INK_REQ) (w : Word) : (s.setWord a w).g e = s.g e :=
  congrArg (getBits · e.lo e.w) (State.word_setWord_ne s a _ w (Nat.ne_of_gt (Nat.lt_of_lt_of_le ha h.above)))

/-- A write of the fault manager's records of phases, or above them. -/
theorem RetireApart.setWord_above (s : State) {a : Nat} (ha : A.FM_PH_STAT 0 ≤ a) (w : Word) : (s.setWord a w).g e = s.g e :=
  congrArg (getBits · e.lo e.w) (State.word_setWord_ne s a _ w (Nat.ne_of_lt (Nat.lt_of_lt_of_le h.below ha)))

theorem RetireApart.releaseHold_g (n : Fin 48) (s : State) : (releaseHold n s).g e = s.g e := by
  have hstat : A.FM_PH_STAT 0 ≤ A.FM_PH_STAT n.val := by
    unfold A.FM_PH_STAT
    omega
  have hstatus : A.PHASE_STATUS n.val < A.INK_REQ := by
    unfold A.PHASE_STATUS A.INK_REQ
    omega
  unfold releaseHold
  split
  · exact (noting_keep (·.g e) (fun _ _ _ => rfl) n _ _).trans ((h.setWord_below _ hstatus _).trans (h.setWord_above s hstat _))
  · rfl

theorem RetireApart.retireNow_g (n : Fin 48) (cause : Nat) (s : State) : (retireNow n cause s).g e = s.g e :=
  (h.message.phOff_g n _).trans ((h.releaseHold_g n _).trans (h.message.changeRole_g n _ _ s))

theorem RetireApart.promoteNow_g (k : Fin 8) (n m : Fin 48) (was : Role) (s : State) : (promoteNow k n m was s).g e = s.g e := by
  have hcnt : A.INK_CNT k.val < A.INK_REQ := by
    unfold A.INK_CNT A.INK_REQ
    omega
  have hpromote : ∀ r, (promote k n m r s).g e = s.g e := fun r => (h.setWord_below _ hcnt _).trans
    ((State.g_p_addr _ (F.PHASE_ASSIGN_POOL m.val) e _ (h.assign m)).trans (h.message.changeRole_g m r _ s))
  unfold promoteNow
  dsimp only
  split
  · exact hpromote _
  · split
    · exact State.modInk_g s k _ e
    · exact hpromote _

theorem RetireApart.writeRing_g (k : Fin 8) (l : List (Fin 48)) (s : State) : (writeRing k l s).g e = s.g e := by
  have hring : ∀ j, j < 8 → A.RAIL_RING k.val j < A.INK_REQ := fun j hj => by
    unfold A.RAIL_RING A.INK_REQ
    omega
  have hseq : A.RAIL_SEQ k.val < A.INK_REQ ∧ A.RAIL_MSTAT k.val < A.INK_REQ := by
    unfold A.RAIL_SEQ A.RAIL_MSTAT A.INK_REQ
    omega
  unfold writeRing
  refine (h.setWord_below _ hseq.2 _).trans ((h.setWord_below _ hseq.1 _).trans ?_)
  refine List.foldlRecOn (motive := fun u : State => u.g e = s.g e) _ _ rfl fun u hu i hi => ?_
  have hi : i < 32 := List.mem_range.mp hi
  exact (h.setWord_below u (hring (i / 4) (by omega)) _).trans hu

/-- The ring of a rail that is not enabled changes with the balance of its phases alone. -/
theorem RetireApart.changeRing_g {k : Fin 8} {s : State} (hs : s.enabled k = false) (l : List (Fin 48)) :
    (changeRing k l s).g e = s.g e := by
  have htrim : ∀ (s : State) (n : Fin 48), (dropTrim k n s).g e = s.g e := fun s n => by
    have hbtrim : A.OLPH_TRIM n.val < A.INK_REQ := by
      unfold A.OLPH_TRIM A.INK_REQ
      omega
    exact (State.modOl_g _ k _ e).trans (h.setWord_below s hbtrim _)
  unfold changeRing
  dsimp only
  rw [if_neg (by simp [hs])]
  exact (forEach_keep (·.g e) (fun s n => dropTrim k n s) htrim _ _).trans
    ((State.modMd_g _ k _ e).trans (h.writeRing_g k l s))

theorem RetireApart.railCause_g (lo : Nat) (k : Fin 8) (s : State) : (railCause lo k s).g e = s.g e := by
  have hcause : ∀ p i, A.FM_PH_STAT 0 ≤ A.LNK_EP_CAUSE p i := fun p i => by
    unfold A.FM_PH_STAT A.LNK_EP_CAUSE
    omega
  refine forEach_keep (·.g e) _ (fun s pe => ?_) _ s
  split
  · exact forEach_keep (·.g e) _ (fun s sl => h.setWord_above s (hcause _ _) _) _ s
  · rfl

theorem RetireApart.capacityCheck_g (k : Fin 8) (s : State) : (capacityCheck k s).g e = s.g e := by
  unfold capacityCheck
  extract_lets c fell s1
  split
  · exact (h.message.inkMessage_g _ _ _ _ _ _ _).trans (h.railCause_g _ _ _)
  · rfl

/-- Beside what it leaves alone, the retirement of a phase with no cause yet writes RCAUSE. -/
theorem RetireApart.retirePhase_g {n : Fin 48} {s : State} (hc : s.g (F.PHASE_ROLE_RCAUSE n.val) = 0) (cause : Nat) :
    (retirePhase n cause s).g e = (s.p (F.PHASE_ROLE_RCAUSE n.val) cause).g e := by
  unfold retirePhase
  rw [if_neg (by simp [hc])]
  extract_lets s1 was s2
  have h1 : s1.g e = (s.p (F.PHASE_ROLE_RCAUSE n.val) cause).g e := h.message.recordRetire_g _ _ _ _
  have hnow : (retireNow n cause s1).g e = (s.p (F.PHASE_ROLE_RCAUSE n.val) cause).g e := (h.retireNow_g n cause s1).trans h1
  split
  · exact hnow
  · next k _ =>
    split
    · exact h1
    · split
      · extract_lets swap base s3 s4 s5
        have h4 : s4.g e = s3.g e := by
          unfold s4
          clear_value swap
          cases swap with
          | some m => exact h.promoteNow_g k n m was s3
          | none => rfl
        have h3 : s3.g e = s2.g e := State.modInk_g s2 k _ e
        have h5 : s5.g e = s4.g e := by
          unfold s5
          split
          · rfl
          · next hs => exact h.changeRing_g (by simpa using hs) _
        exact (h.capacityCheck_g k s5).trans (h5.trans (h4.trans (h3.trans hnow)))
      · exact hnow

end

theorem retireApart_rcause (n : Fin 48) : RetireApart (F.PHASE_ROLE_RCAUSE n.val) := by
  have haddr : (F.PHASE_ROLE_RCAUSE n.val).addr = 0x131004 + n.val * 0x20 := rfl
  refine ⟨?_, ?_, fun m => ?_, .inl ?_⟩
  all_goals
    rw [haddr]
    simp only [A.INK_REQ, A.FM_PH_STAT, A.PHASE_ASSIGN, F.INK_REQSTAT_MSGLOST, A.INK_REQSTAT]
    omega

theorem retireApart_lastfid : RetireApart F.FM_STATUS_LASTFID where
  above := by decide
  below := by decide
  assign m := by
    show A.FM_STATUS ≠ A.PHASE_ASSIGN m.val
    unfold A.FM_STATUS A.PHASE_ASSIGN
    omega
  lost := .inl (by decide)

/-- The fields of INK_REQSTAT beside the count of lost messages. -/
theorem retireApart_reqstat {e : Fld} (ha : e.addr = A.INK_REQSTAT) (hl : 8 ≤ e.lo) : RetireApart e where
  above := ha ▸ by decide
  below := ha ▸ by decide
  assign m := by
    rw [ha]
    unfold A.INK_REQSTAT A.PHASE_ASSIGN
    omega
  lost := .inr (.inr hl)

/-- The cause of a retirement stands in RCAUSE. -/
theorem retirePhase_rcause {n : Fin 48} {s : State} {cause : Nat} (hc : s.g (F.PHASE_ROLE_RCAUSE n.val) = 0) (h : cause < 16) :
    (retirePhase n cause s).g (F.PHASE_ROLE_RCAUSE n.val) = cause :=
  ((retireApart_rcause n).retirePhase_g hc cause).trans ((State.g_p s (F.PHASE_ROLE_RCAUSE n.val) cause (show 0 + 4 ≤ 32 by decide)).trans
    (Nat.mod_eq_of_lt h))

/-- Other registers a retirement leaves. -/
theorem RetireApart.retirePhase_keeps {e : Fld} (h : RetireApart e) {n : Fin 48} (ha : e.addr ≠ A.PHASE_ROLE n.val) {s : State}
    (hc : s.g (F.PHASE_ROLE_RCAUSE n.val) = 0) (cause : Nat) : (retirePhase n cause s).g e = s.g e :=
  (h.retirePhase_g hc cause).trans (State.g_p_addr s _ e _ ha)

end Sys2Proof.Machine
end

section
/-!
PROOFS. Open and blind phases (O37).
-/

open Sys2Proof Sys2Proof.Machine
namespace Sys2Proof.Machine

/-! ### Open phases (R257, R276, R289) -/

/-- A phase is declared open on a load, near zero for eight pulses in a row. -/
theorem openPhase_open {n : Fin 48} {k : Fin 8} {s : State} (hk : s.railOf n.val = some k) (he : s.enabled k = true)
    (ha : (s.rl n).role = .active) (hl : s.g (F.INK_OPEN_OPENLOAD k.val) ≠ 0) (hn : 8 ≤ (s.rl n).near) :
    openPhase n s = raisePhase 5 n false true s := by
  unfold openPhase
  rw [hk]
  exact if_pos (by simp [he, ha, hl, hn])

theorem openPhase_idle {n : Fin 48} {s : State} (h : s.railOf n.val = none ∨ (s.rl n).near < 8) : openPhase n s = s := by
  unfold openPhase
  split
  · rfl
  · next k hk =>
    have hn : (s.rl n).near < 8 := h.resolve_left (by simp [hk])
    exact if_neg (by simp [hn])

/-- An event of a phase in class 0 or 1 is reported alone (R276). -/
theorem respond_phaseReport {e : FmEvent} {n : Fin 48} {c : Nat} (hf : isPhaseFid e.fid = true) (hp : e.phase = some n)
    (hc : c < 2) (s : State) : respond e c s = (s, c) := by
  unfold respond
  rw [if_pos hf, hp]
  dsimp only
  rw [if_neg (by omega), if_neg (by omega)]

/-- The class of OPENPHASE is that of FM_CLASS, whatever the rail. -/
theorem classOf_open (s : State) (k : Option (Fin 8)) : s.classOf 5 k = s.classOf 5 none := by
  cases k <;> rfl

/-- An open phase that is not retired is reported, and retires with cause 2 (R255, R289). -/
theorem raisePhase_open {n : Fin 48} {s : State} (hc : s.classOf 5 none < 2) (hr : s.g (F.PHASE_ROLE_RCAUSE n.val) = 0) :
    ∃ x c, x.fid = 5 ∧ x.phase = some n
      ∧ raisePhase 5 n false true s = updateDev (retirePhase n 2 (report x c true s)) := by
  generalize hk : (limRail s n <|> s.railOf n.val) = k
  refine ⟨phEvent 5 n k false true, s.classOf 5 k, rfl, rfl, ?_⟩
  have hfresh : ∀ {u : State}, u.g (F.PHASE_ROLE_RCAUSE n.val) = 0 → u.chanRetired 1 n.val = false := fun hu => by
    unfold State.chanRetired
    simp [hu]
  have hreported : (report (phEvent 5 n k false true) (s.classOf 5 k) true s).g (F.PHASE_ROLE_RCAUSE n.val) = 0 := by
    refine ((retireApart_rcause n).message.report_g (n := n) rfl ?_ ?_ _ _ s).trans hr
    · show A.PHASE_ROLE n.val ≠ A.FM_STATUS
      unfold A.PHASE_ROLE A.FM_STATUS
      omega
    · show A.PHASE_ROLE n.val ≠ A.FM_PH_STAT n.val
      unfold A.PHASE_ROLE A.FM_PH_STAT
      omega
  have hretire : retireChannel (phEvent 5 n k false true) (report (phEvent 5 n k false true) (s.classOf 5 k) true s)
      = retirePhase n 2 (report (phEvent 5 n k false true) (s.classOf 5 k) true s) := by
    have hret := hfresh hreported
    unfold retireChannel
    simp only [phEvent] at hret ⊢
    simp [hret]
  have hrespond := respond_phaseReport (e := phEvent 5 n k false true) (n := n) rfl rfl
    ((classOf_open s k).trans_lt hc) s
  rw [← hretire]
  unfold raisePhase raise
  simp only [hk, phEvent, Bool.false_eq_true, if_false, hfresh hr, Bool.not_false, Bool.true_and, Bool.true_or, if_true,
    Option.getD_none] at hrespond ⊢
  rw [hrespond]

/-- What the declaration of an open phase leaves in the fault manager's status and in the phase's cause. -/
theorem raisePhase_open_leaves {n : Fin 48} {s : State} (hc : s.classOf 5 none < 2)
    (hr : s.g (F.PHASE_ROLE_RCAUSE n.val) = 0) : (raisePhase 5 n false true s).g F.FM_STATUS_LASTFID = 5
      ∧ (raisePhase 5 n false true s).g (F.PHASE_ROLE_RCAUSE n.val) = 2 := by
  have hapart : A.FM_STATUS ≠ A.PHASE_ROLE n.val ∧ A.PHASE_ROLE n.val ≠ A.FM_STATUS ∧ A.PHASE_ROLE n.val ≠ A.FM_PH_STAT n.val := by
    unfold A.FM_STATUS A.PHASE_ROLE A.FM_PH_STAT
    omega
  obtain ⟨hfid, hrole, hstat⟩ := hapart
  obtain ⟨x, c, hx, hxp, heq⟩ := raisePhase_open hc hr
  have hr' : (report x c true s).g (F.PHASE_ROLE_RCAUSE n.val) = 0 :=
    ((retireApart_rcause n).message.report_g hxp hrole hstat c true s).trans hr
  rw [heq]
  refine ⟨?_, (updateDev_keep (·.g (F.PHASE_ROLE_RCAUSE n.val)) (fun _ _ _ => rfl) _).trans (retirePhase_rcause hr' (by decide))⟩
  rw [updateDev_fmStatus, retireApart_lastfid.retirePhase_keeps hfid hr' 2, report_lastfid, hx]

/-! ### Blind phases (R258, R259) -/

/-- What the mark of a blind phase leaves: the flag, and beside registers, queues, Plates and the store everything. -/
structure BlindMarked (n : Fin 48) (s u : State) : Prop where
  blind : u.gb (F.PHASE_ROLE_BLIND n.val) = true
  phase : u.phase = s.phase
  rail : u.rail = s.rail
  chk : u.chk = s.chk

theorem messageApart_blind (n : Fin 48) : MessageApart (F.PHASE_ROLE_BLIND n.val) := by
  have haddr : A.INK_REQSTAT < A.PHASE_ROLE n.val ∧ A.PHASE_ROLE n.val < 0x180000 := by
    unfold A.INK_REQSTAT A.PHASE_ROLE
    omega
  exact messageApart_of haddr.1 haddr.2

/-- Phase n of rail k is marked blind, with a message and a write to the health area (R259). -/
def markBlind (n : Fin 48) (k : Fin 8) (s : State) : State :=
  q15Put .health (inkMessage 2 (some n) k.val 0 0 0 (s.pb (F.PHASE_ROLE_BLIND n.val) true))

theorem ReportFrame.markBlind_eq {β : Type} {π : State → β} (h : ReportFrame π) (n : Fin 48) (k : Fin 8) (s : State) :
    π (markBlind n k s) = π s := (h.q15Put_eq _ _).trans ((h.inkMessage_eq _ _ _ _ _ _ _).trans (h.setWord s _ _))

theorem markBlind_marks (n : Fin 48) (k : Fin 8) (s : State) : BlindMarked n s (markBlind n k s) := by
  refine ⟨?_, reportFrame_phase.markBlind_eq n k s, reportFrame_rail.markBlind_eq n k s, reportFrame_chk.markBlind_eq n k s⟩
  have hg : (markBlind n k s).g (F.PHASE_ROLE_BLIND n.val)
      = (s.pb (F.PHASE_ROLE_BLIND n.val) true).g (F.PHASE_ROLE_BLIND n.val) :=
    ((messageApart_blind n).q15Put_g _ _).trans ((messageApart_blind n).inkMessage_g _ _ _ _ _ _ _)
  exact (gb_of_g hg).trans (State.gb_pb s (F.PHASE_ROLE_BLIND n.val) true rfl (show 4 + 1 ≤ 32 by decide))

/-- A phase whose ring keeps another sighted one is marked. -/
theorem declareBlind_other {n m : Fin 48} {k : Fin 8} {s : State} (hk : s.railOf n.val = some k) (hb : s.blind n.val = false)
    (hm : m ∈ s.ring k) (hne : m ≠ n) (hs : s.sighted m = true) (ha : (s.rl m).role = .active) :
    declareBlind n s = markBlind n k s := by
  have hother : m ∈ (s.ring k).filter fun m => m != n && s.sighted m && (s.rl m).role == .active :=
    List.mem_filter.mpr ⟨hm, by simp [hne, hs, ha]⟩
  unfold declareBlind
  rw [hk]
  dsimp only
  rw [if_neg (by simp [hb]), if_neg (by simpa using List.ne_nil_of_mem hother)]
  rfl

/-- The last sighted phase of its ring is not marked: SENSELOST is raised. -/
theorem declareBlind_last {n : Fin 48} {k : Fin 8} {s : State} (hk : s.railOf n.val = some k) (hb : s.blind n.val = false)
    (hl : ∀ m ∈ s.ring k, m = n ∨ s.sighted m = false ∨ (s.rl m).role ≠ .active) : declareBlind n s = raiseRail 0x0D k s := by
  have hnone : ((s.ring k).filter fun m => m != n && s.sighted m && (s.rl m).role == .active) = [] := by
    refine List.filter_eq_nil_iff.mpr fun m hm => ?_
    obtain h | h | h := hl m hm <;> simp [h]
  unfold declareBlind
  rw [hk]
  dsimp only
  rw [if_neg (by simp [hb]), hnone]
  exact if_pos List.isEmpty_nil

/-! ### The tests of R258 -/

section
variable {n : Fin 48} {k : Fin 8} {s : State}

theorem blindDeclared_stuck (ha : (s.rl n).role = .active) (hk : s.railOf n.val = some k) (hf : s.stuckFails n = true) :
    blindDeclared n 0 s = declareBlind n s := by
  unfold blindDeclared
  rw [if_neg (by simp [ha]), hk]
  dsimp only
  rw [if_neg (by simp [ha]), if_pos rfl, if_pos hf]

/-- The thermal test begins anew for the group it declares a phase of. -/
theorem blindDeclared_warm (ha : (s.rl n).role = .active) (hk : s.railOf n.val = some k)
    (hf : s.thermalFails (groupOf n.val) = true)
    (hs : s.suspect (fun m => s.inRing m && groupOf m.val == groupOf n.val) = some n) : blindDeclared n 1 s
      = declareBlind n { s with chk := { s.chk with warm := vset s.chk.warm (Fin.ofNat 6 (groupOf n.val)) none } } := by
  unfold blindDeclared
  rw [if_neg (by simp [ha]), hk]
  dsimp only
  rw [if_neg (by simp [ha]), if_neg (by decide), if_pos rfl, if_pos (by simp [hf, hs])]

/-- The sum test begins anew for the rail it declares a phase of. -/
theorem blindDeclared_sum (ha : (s.rl n).role = .active) (hk : s.railOf n.val = some k) (hf : s.sumFails k = true)
    (hs : s.suspect (s.ring k).contains = some n) :
    blindDeclared n 2 s = declareBlind n (s.modInk k fun i => { i with sumBad := 0 }) := by
  unfold blindDeclared
  rw [if_neg (by simp [ha]), hk]
  dsimp only
  rw [if_neg (by simp [ha]), if_neg (by decide), if_neg (by decide), if_pos (by simp [hf, hs])]

/-- A phase under test keeps the failure for its result (R263). -/
theorem blindDeclared_tested (ht : (s.rl n).role = .test) (hf : s.stuckFails n = true) :
    blindDeclared n 0 s = s.modRl n fun r => { r with stuck := true } := by
  unfold blindDeclared
  rw [if_pos ht, if_pos (by simp [hf])]

/-- A test that has not failed declares nothing. -/
theorem blindDeclared_passed {test : Fin 3} (h0 : test = 0 → s.stuckFails n = false)
    (h1 : test = 1 → s.thermalFails (groupOf n.val) = false) (h2 : test = 2 → ∀ k, s.sumFails k = false) :
    blindDeclared n test s = s := by
  unfold blindDeclared
  split
  · exact if_neg (by simpa using h0)
  · split
    · rfl
    · next k _ =>
      dsimp only
      split
      · rfl
      · match test with
        | 0 => rw [if_pos rfl, if_neg (by simp [h0 rfl])]
        | 1 => rw [if_neg (by decide), if_pos rfl, if_neg (by simp [h1 rfl])]
        | 2 => rw [if_neg (by decide), if_neg (by decide), if_neg (by simp [h2 rfl k])]

end

theorem thermalFails_of_dwell {s : State} {g : Fin 6} {x a : Nat} (hg : g.val = x) (hw : s.tooWarm g.val = true)
    (ha : vget s.chk.warm g = some a) (hd : s.g F.INK_HCFG_TDWELL * 1280000000 ≤ elapsed a s.clock) :
    s.thermalFails x = true := by
  subst hg
  unfold State.thermalFails
  rw [Fin.ofNat_val_eq_self, ha]
  simp [hw, hd]

/-- Settles O37: an open phase by its report and retirement, a blind one by the declaration its failed test comes to. -/
theorem sensorsAreDeclared : Obligations.SensorsAreDeclared := by
  unfold Obligations.SensorsAreDeclared
  refine ⟨fun s n k hk he ha hl hn hr hc => ?_, fun s n hk => ?_, fun s n hn => ?_,
    fun s n m k hk ha hb hn hm hne hs hma => ?_, fun s n k hk ha hb hn hl => ?_, fun s n ht hn => ?_, fun s n hn => ?_,
    fun s n m k g a hk ha hb hg hw hwa hd hsus hm hne hs hma => ?_, fun s n hw => ?_,
    fun s n m k hk ha hb hx hon h8 hsus hm hne hs hma => ?_, fun s n h8 => ?_⟩
  · exact ⟨_, congrArg done (openPhase_open hk he ha hl hn), raisePhase_open_leaves hc hr⟩
  · exact congrArg done (openPhase_idle (.inl hk))
  · exact congrArg done (openPhase_idle (.inr hn))
  · have h := markBlind_marks n k s
    exact ⟨_, congrArg done ((blindDeclared_stuck ha hk (decide_eq_true hn)).trans (declareBlind_other hk hb hm hne hs hma)),
      h.blind, h.phase, h.rail⟩
  · refine ⟨_, congrArg done (blindDeclared_stuck ha hk (decide_eq_true hn)), ?_⟩
    exact (congrArg (·.g F.FM_STATUS_LASTFID) (declareBlind_last hk hb hl)).trans (raiseRail_lastfid 0x0D k s)
  · exact congrArg done (blindDeclared_tested ht (decide_eq_true hn))
  · exact congrArg done (blindDeclared_passed (fun _ => decide_eq_false (by omega)) (by simp) (by simp))
  · have h := markBlind_marks n k
      { s with chk := { s.chk with warm := vset s.chk.warm (Fin.ofNat 6 (groupOf n.val)) none } }
    refine ⟨_, congrArg done ((blindDeclared_warm ha hk (thermalFails_of_dwell hg hw hwa hd) hsus).trans
      (declareBlind_other hk hb hm hne hs hma)), h.blind, ?_, h.phase, h.rail⟩
    rw [h.chk, ← hg, Fin.ofNat_val_eq_self]
    exact vget_vset_same _ _ _
  · refine congrArg done (blindDeclared_passed (by simp) (fun _ => ?_) (by simp))
    unfold State.thermalFails
    rw [hw, Bool.false_and]
  · have hf : s.sumFails k = true := by
      unfold State.sumFails
      simp [hx, hon, h8]
    have h := markBlind_marks n k (s.modInk k fun i => { i with sumBad := 0 })
    refine ⟨_, congrArg done ((blindDeclared_sum ha hk hf hsus).trans (declareBlind_other hk hb hm hne hs hma)),
      h.blind, ?_, h.phase⟩
    unfold State.ra
    rw [h.rail]
    exact congrArg InnRail.sumBad (modInk_ink s k _)
  · refine congrArg done (blindDeclared_passed (by simp) (by simp) fun _ k => ?_)
    unfold State.sumFails
    simp [Nat.not_le.mpr (h8 k)]

end Sys2Proof.Machine
end

section
/-!
PROOFS. Ring rewrites, due forecasts, wear and the health area (O38).
-/

open Sys2Proof Sys2Proof.Machine
namespace Sys2Proof.Machine

/-! ### Ring rewrites (R252) -/

theorem ringRewrite_idle {k : Fin 8} {s : State} (hw : (s.ra k).ink.want = none) (hr : (s.ra k).ink.rewrite = none)
    (ht : s.retiring k = []) : ringRewrite k s = s := by
  have hform : formRewrite k s = s := if_pos (by simp [State.unmerged, hw, ht])
  unfold ringRewrite
  rw [hform]
  exact if_neg (by simp [hr])

/-- The rewrite of a decision to keep the phases of l, where no phase retires: those of the base order, in its order. -/
def decided (k : Fin 8) (l : List (Fin 48)) (s : State) (promo : List (Fin 48 × Fin 48)) (i : InnRail) : InnRail :=
  { i with want := none, rewrite := some ((s.ra k).ink.base.filter fun n => l.contains n), ret := [], promo := promo,
           rewriteAt := s.clock }

theorem formRewrite_decided {k : Fin 8} {l : List (Fin 48)} {s : State} (hw : (s.ra k).ink.want = some l)
    (ht : s.retiring k = []) : ∃ writes promo, formRewrite k s
      = (forEach (fun s (x : Nat × Word) => supPush x.1 x.2 s) writes s).modInk k (decided k l s promo) := by
  unfold formRewrite
  rw [ht, if_neg (by simp [State.unmerged, hw])]
  extract_lets promo held act keep used swap want
  have hpromo : promo = [] := rfl
  have hact : act = l := by
    unfold act
    rw [hw]
    rfl
  have hswap : ∀ n, swap n = n := fun n => by
    unfold swap
    rw [hpromo]
    rfl
  have hused : used = [] := by
    unfold used
    rw [hpromo]
    rfl
  have hwant : want = (s.ra k).ink.base.filter fun n => l.contains n := by
    unfold want
    rw [List.map_congr_left fun n _ => hswap n, List.map_id']
    refine List.filter_congr fun n hn => ?_
    unfold keep
    rw [hused, hact]
    simp [hn]
  exact ⟨s.ringWrites k want, promo ++ held, by rw [hwant]; rfl⟩

/-- What a decision that waits comes to on an enabled rail: the rewrite stands formed and waits for a boundary, and no phase is
reached. -/
structure RewriteWaits (k : Fin 8) (l : List (Fin 48)) (s u : State) : Prop where
  rewrite : (u.ra k).ink.rewrite = some ((s.ra k).ink.base.filter fun n => l.contains n)
  want : (u.ra k).ink.want = none
  seqPend : (u.ra k).md.seqPend = true
  shown : u.gb (F.RAIL_MSTAT_SEQPEND k.val) = true
  role : u.role = s.role
  phase : u.phase = s.phase

/-- What registers, Plates and queues do not show, the queueing of register writes leaves. -/
theorem queueWrites_keep {β : Type} (π : State → β) (hw : ∀ s a w, π (State.setWord s a w) = π s)
    (hm : ∀ s p f, π (State.modPl s p f) = π s) (hq : ∀ (s : State) l, π { s with queue := l } = π s)
    (writes : List (Nat × Word)) (s : State) : π (forEach (fun s (x : Nat × Word) => supPush x.1 x.2 s) writes s) = π s := by
  refine forEach_keep π _ (fun s x => ?_) writes s
  exact supPush_keep π hw hm hq x.1 x.2 s

theorem ringRewrite_decided {k : Fin 8} {l : List (Fin 48)} {s : State} (hw : (s.ra k).ink.want = some l)
    (ht : s.retiring k = []) (he : s.enabled k = true) : RewriteWaits k l s (ringRewrite k s) := by
  obtain ⟨writes, promo, hform⟩ := formRewrite_decided hw ht
  have hrail := queueWrites_keep (·.rail) (fun _ _ _ => rfl) (fun _ _ _ => rfl) (fun _ _ => rfl) writes s
  have hrole := queueWrites_keep (·.role) (fun _ _ _ => rfl) (fun _ _ _ => rfl) (fun _ _ => rfl) writes s
  have hphase := queueWrites_keep (·.phase) (fun _ _ _ => rfl) (fun _ _ _ => rfl) (fun _ _ => rfl) writes s
  generalize forEach (fun s (x : Nat × Word) => supPush x.1 x.2 s) writes s = v at hform hrail hrole hphase
  have hink : ((formRewrite k s).ra k).ink = decided k l s promo (v.ra k).ink := by rw [hform, modInk_ink]
  have hen : (formRewrite k s).enabled k = true := by
    rw [hform, State.enabled, modInk_st, State.st, State.ra, hrail]
    exact he
  have heq : ringRewrite k s = ((formRewrite k s).modMd k fun m =>
      { m with seqWait := if m.seqPend then m.seqWait else 0, seqPend := true }).pb (F.RAIL_MSTAT_SEQPEND k.val) true := by
    unfold ringRewrite
    dsimp only
    rw [if_pos (by rw [hink]; rfl), if_pos hen]
    exact if_pos hen
  rw [heq]
  refine ⟨?_, ?_, ?_, State.gb_pb _ (F.RAIL_MSTAT_SEQPEND k.val) true rfl (show 7 + 1 ≤ 32 by decide), ?_, ?_⟩
  · rw [ra_pb, modMd_ink, hink]
    rfl
  · rw [ra_pb, modMd_ink, hink]
    rfl
  · rw [ra_pb, modMd_md]
  · rw [State.pb_role, State.modMd_role, hform, State.modInk_role, hrole]
  · rw [State.pb_phase, State.modMd_phase, hform, State.modInk_phase, hphase]

/-! ### Forecasts (R253) -/

theorem forecastDue_none {k : Fin 8} {s : State} (h : (s.ra k).md.fc = none) : forecastDue k s = s := by
  unfold forecastDue
  rw [h]

/-- The forecast f of rail k is due, and sheds are held from now. -/
def noteDue (k : Fin 8) (f : Forecast) (s : State) : State :=
  (s.modMd k fun m => { m with fc := some { f with due := true } }).modInk k
    fun i => { i with fcPending := false, fcAdded := [], sinceDue := 0 }

/-- An ACTIVE phase added for the forecast of rail k still waits out its group's wake time. -/
def State.addedLate (s : State) (k : Fin 8) : Bool :=
  (s.ra k).ink.fcAdded.any fun n => (s.rl n).role == .active && !s.awake (groupOf n.val)

theorem forecastDue_some {k : Fin 8} {f : Forecast} {s : State} (h : (s.ra k).md.fc = some f) : forecastDue k s =
    if s.addedLate k then inkMessage 8 none k.val 0 0 0 ((noteDue k f s).inc (F.INK_CNT_FCLATE k.val)) else noteDue k f s := by
  unfold forecastDue
  rw [h]
  rfl

theorem noteDue_ra (k : Fin 8) (f : Forecast) (s : State) :
    ((noteDue k f s).ra k).md = { (s.ra k).md with fc := some { f with due := true } }
      ∧ ((noteDue k f s).ra k).ink = { (s.ra k).ink with fcPending := false, fcAdded := [], sinceDue := 0 } := by
  unfold noteDue
  rw [modInk_md, modInk_ink, modMd_md, modMd_ink]
  exact ⟨rfl, rfl⟩

theorem messageApart_fclate (k : Fin 8) : MessageApart (F.INK_CNT_FCLATE k.val) := by
  have haddr : A.INK_CNT k.val < 0x180000 ∧ A.INK_CNT k.val ≠ A.LG_INFO ∧ A.INK_CNT k.val ≠ A.INK_REQSTAT := by
    unfold A.INK_CNT A.LG_INFO A.INK_REQSTAT
    omega
  obtain ⟨hbelow, hinfo, hstat⟩ := haddr
  exact ⟨hbelow, hinfo, .inl hstat⟩

/-- A late forecast is counted and reported; the rail's own state is the same in both cases. -/
theorem forecastDue_leaves {k : Fin 8} {f : Forecast} {s : State} (h : (s.ra k).md.fc = some f) :
    (forecastDue k s).rail = (noteDue k f s).rail ∧ (forecastDue k s).g (F.INK_CNT_FCLATE k.val)
      = if s.addedLate k then incHold 8 (s.g (F.INK_CNT_FCLATE k.val)) else s.g (F.INK_CNT_FCLATE k.val) := by
  rw [forecastDue_some h]
  split
  · refine ⟨(inkMessage_rail _ _ _ _ _ _ _).trans (State.inc_rail _ _), ?_⟩
    exact ((messageApart_fclate k).inkMessage_g _ _ _ _ _ _ _).trans
      (State.g_inc (noteDue k f s) (F.INK_CNT_FCLATE k.val) (show 0 + 8 ≤ 32 by decide))
  · exact ⟨rfl, rfl⟩

/-! ### Wear (R261) -/

/-- One second of phase n: its hot seconds, its zero drift, and its wear. -/
def wearSecond (n : Fin 48) (s : State) : State := wearOne n (zeroDrift n (hotSecond n s))

theorem wearUpdate_running {s : State} (h : s.running = true) :
    wearUpdate s = forAll (n := 48) (fun s n => if s.exists_ n.val then wearSecond n s else s) s := if_pos h

/-- What sees neither a report nor the roles' own records sees nothing of a second of a phase. -/
theorem wearSecond_keep {β : Type} {π : State → β} (h : ReportFrame π) (hm : ∀ s n f, π (State.modRl s n f) = π s)
    (n : Fin 48) (s : State) : π (wearSecond n s) = π s := by
  have hhot : π (hotSecond n s) = π s := by
    unfold hotSecond
    dsimp only
    split
    · split
      · exact (h.setWord _ _ _).trans (hm s n _)
      · exact hm s n _
    · rfl
  have hdrift : ∀ s, π (zeroDrift n s) = π s := fun s => by
    unfold zeroDrift
    extract_lets r d s1
    have h1 : π s1 = π s := (hm _ n _).trans (h.setWord s _ _)
    split
    · rfl
    · split
      · exact (h.q15Put_eq _ _).trans ((h.inkMessage_eq _ _ _ _ _ _ _).trans ((h.setWord s1 _ _).trans h1))
      · exact h1
  have hwear : ∀ s, π (wearOne n s) = π s := fun s => by
    unfold wearOne
    extract_lets w max worn s1 s2
    have h1 : π s1 = π s := h.setWord s _ _
    have h2 : π s2 = π s := (h.setWord s1 _ _).trans h1
    split
    · exact h1
    · refine (h.q15Put_eq _ _).trans ?_
      split
      · exact (h.inkMessage_eq _ _ _ _ _ _ _).trans h2
      · exact h2
  exact (hwear _).trans ((hdrift _).trans hhot)

theorem hotSecond_g {e : Fld} {n : Fin 48} (hl : e.addr ≠ A.PHASE_LIFETH n.val) (s : State) : (hotSecond n s).g e = s.g e := by
  unfold hotSecond
  dsimp only
  split
  · split
    · exact State.g_p_addr _ (F.PHASE_LIFETH_HOT n.val) e _ hl
    · rfl
  · rfl

section
variable {e : Fld} (h : MessageApart e) {n : Fin 48}
include h

theorem MessageApart.zeroDrift_g (hw : e.addr ≠ A.PHASE_WEAR n.val) (hr : e.addr ≠ A.PHASE_ROLE n.val) (s : State) :
    (zeroDrift n s).g e = s.g e := by
  unfold zeroDrift
  extract_lets r d s1
  have h1 : s1.g e = s.g e := State.g_p_addr s (F.PHASE_WEAR_ZDRIFT n.val) e _ hw
  split
  · rfl
  · split
    · exact (h.q15Put_g _ _).trans ((h.inkMessage_g _ _ _ _ _ _ _).trans
        ((State.g_p_addr s1 (F.PHASE_ROLE_DRIFT n.val) e _ hr).trans h1))
    · exact h1

theorem MessageApart.wearOne_g (hw : e.addr ≠ A.PHASE_WEAR n.val) (hr : e.addr ≠ A.PHASE_ROLE n.val) (s : State) :
    (wearOne n s).g e = s.g e := by
  unfold wearOne
  extract_lets w max worn s1 s2
  have h1 : s1.g e = s.g e := State.g_p_addr s (F.PHASE_WEAR_WEAR n.val) e _ hw
  have h2 : s2.g e = s.g e := (State.g_p_addr s1 (F.PHASE_ROLE_WORN n.val) e _ hr).trans h1
  split
  · exact h1
  · refine (h.q15Put_g _ _).trans ?_
    split
    · exact (h.inkMessage_g _ _ _ _ _ _ _).trans h2
    · exact h2

theorem MessageApart.wearSecond_g (hl : e.addr ≠ A.PHASE_LIFETH n.val) (hw : e.addr ≠ A.PHASE_WEAR n.val)
    (hr : e.addr ≠ A.PHASE_ROLE n.val) (s : State) : (wearSecond n s).g e = s.g e :=
  (h.wearOne_g hw hr _).trans ((h.zeroDrift_g hw hr _).trans (hotSecond_g hl s))

end

/-- The registers the wear of phase n rests on and is shown in: INK_WEARCFG and those of the phase from ROLE to LIFETH. -/
def WearWord (n : Fin 48) (a : Nat) : Prop := a = A.INK_WEARCFG ∨ A.PHASE_ROLE n.val ≤ a ∧ a ≤ A.PHASE_LIFETH n.val

theorem wearWord_message {n : Fin 48} {e : Fld} (h : WearWord n e.addr) : MessageApart e := by
  unfold WearWord A.INK_WEARCFG A.PHASE_ROLE A.PHASE_LIFETH at h
  have haddr : e.addr < 0x180000 ∧ e.addr ≠ A.LG_INFO ∧ e.addr ≠ A.INK_REQSTAT := by
    unfold A.LG_INFO A.INK_REQSTAT
    omega
  obtain ⟨hbelow, hinfo, hstat⟩ := haddr
  exact ⟨hbelow, hinfo, .inl hstat⟩

/-- WEAR and WORN of a phase, the wear its counters give, the limit it is compared with, and whether the phase exists. -/
structure WearShown where
  wear : Nat
  worn : Bool
  counted : Nat
  limit : Nat
  present : Bool

def State.wearShown (n : Fin 48) (s : State) : WearShown :=
  ⟨s.g (F.PHASE_WEAR_WEAR n.val), s.gb (F.PHASE_ROLE_WORN n.val), s.wearOf n.val, s.g F.INK_WEARCFG_WEARMAX, s.exists_ n.val⟩

theorem wearOf_congr {u s : State} {n : Fin 48} (h : ∀ e : Fld, (e.addr = A.INK_WEARCFG ∨ A.PHASE_LIFEAH n.val ≤ e.addr
    ∧ e.addr ≤ A.PHASE_LIFETH n.val) → u.g e = s.g e) : u.wearOf n.val = s.wearOf n.val := by
  have hcfg : ∀ e : Fld, e.addr = A.INK_WEARCFG → u.g e = s.g e := fun e he => h e (.inl he)
  have hcount : ∀ e : Fld, A.PHASE_LIFEAH n.val ≤ e.addr → e.addr ≤ A.PHASE_LIFETH n.val → u.g e = s.g e :=
    fun e hlo hhi => h e (.inr ⟨hlo, hhi⟩)
  have hbounds : A.PHASE_LIFEAH n.val ≤ A.PHASE_LIFEPL n.val ∧ A.PHASE_LIFEPL n.val ≤ A.PHASE_LIFETH n.val := by
    unfold A.PHASE_LIFEAH A.PHASE_LIFEPL A.PHASE_LIFETH
    omega
  obtain ⟨hah, hpl⟩ := hbounds
  unfold State.wearOf
  rw [hcfg F.INK_WEARCFG_AHSH rfl, hcfg F.INK_WEARCFG_PLSH rfl, hcfg F.INK_WEARCFG_HOTSH rfl, hcfg F.INK_WEARCFG_CYCSH rfl,
    hcount (F.PHASE_LIFEAH_AH n.val) (Nat.le_refl _) (Nat.le_trans hah hpl), hcount (F.PHASE_LIFEPL_PULSES n.val) hah hpl,
    hcount (F.PHASE_LIFETH_HOT n.val) (Nat.le_trans hah hpl) (Nat.le_refl _),
    hcount (F.PHASE_LIFETH_TCYC n.val) (Nat.le_trans hah hpl) (Nat.le_refl _)]

theorem wearShown_congr {u s : State} {n : Fin 48} (h : ∀ e : Fld, WearWord n e.addr → u.g e = s.g e) (hs : u.sup = s.sup) :
    u.wearShown n = s.wearShown n := by
  have hbounds : A.PHASE_ROLE n.val ≤ A.PHASE_WEAR n.val ∧ A.PHASE_WEAR n.val ≤ A.PHASE_LIFEAH n.val
      ∧ A.PHASE_LIFEAH n.val ≤ A.PHASE_LIFETH n.val := by
    unfold A.PHASE_ROLE A.PHASE_WEAR A.PHASE_LIFEAH A.PHASE_LIFETH
    omega
  obtain ⟨hrole, hwear, hlife⟩ := hbounds
  have hwearOf : u.wearOf n.val = s.wearOf n.val := wearOf_congr fun e he =>
    h e (he.imp_right fun hr => ⟨Nat.le_trans (Nat.le_trans hrole hwear) hr.1, hr.2⟩)
  have hex : u.exists_ n.val = s.exists_ n.val := by
    unfold State.exists_ State.paired
    rw [hs]
  unfold State.wearShown
  rw [h (F.PHASE_WEAR_WEAR n.val) (.inr ⟨hrole, Nat.le_trans hwear hlife⟩),
    gb_of_g (h (F.PHASE_ROLE_WORN n.val) (.inr ⟨Nat.le_refl _, Nat.le_trans hrole (Nat.le_trans hwear hlife)⟩)), hwearOf,
    h F.INK_WEARCFG_WEARMAX (.inl rfl), hex]

/-- A second of another phase shows nothing of this one's wear. -/
theorem wearSecond_other {n m : Fin 48} (hne : m ≠ n) (s : State) : (wearSecond m s).wearShown n = s.wearShown n := by
  have hval : m.val ≠ n.val := fun e => hne (Fin.ext e)
  refine wearShown_congr (fun e he => ?_) (wearSecond_keep (by constructor <;> intros <;> rfl : ReportFrame (·.sup))
    (fun _ _ _ => rfl) m s)
  have hmsg := wearWord_message he
  unfold WearWord A.INK_WEARCFG A.PHASE_ROLE A.PHASE_LIFETH at he
  refine hmsg.wearSecond_g ?_ ?_ ?_ s
  all_goals
    simp only [A.PHASE_LIFETH, A.PHASE_WEAR, A.PHASE_ROLE]
    omega

theorem wearOf_lt (s : State) (n : Nat) : s.wearOf n < 2 ^ 16 :=
  Nat.lt_of_le_of_lt (Nat.min_le_left _ _) (by decide)

/-- WORN as the wear w of phase n sets it. -/
def State.wornAt (s : State) (w : Nat) : Bool := s.g F.INK_WEARCFG_WEARMAX != 0 && decide (s.g F.INK_WEARCFG_WEARMAX ≤ w)

/-- The evaluation of phase n shows its wear in WEAR and compares it with WEARMAX in WORN. -/
theorem wearOne_shows (n : Fin 48) (s : State) : (wearOne n s).g (F.PHASE_WEAR_WEAR n.val) = s.wearOf n.val
    ∧ (wearOne n s).gb (F.PHASE_ROLE_WORN n.val) = s.wornAt (s.wearOf n.val) := by
  have hwear : MessageApart (F.PHASE_WEAR_WEAR n.val) := wearWord_message (n := n) (.inr (by
    simp only [F.PHASE_WEAR_WEAR, A.PHASE_WEAR, A.PHASE_ROLE, A.PHASE_LIFETH]
    omega))
  have hrole : MessageApart (F.PHASE_ROLE_WORN n.val) := wearWord_message (n := n) (.inr (by
    simp only [F.PHASE_ROLE_WORN, A.PHASE_ROLE, A.PHASE_LIFETH]
    omega))
  have hne : A.PHASE_WEAR n.val ≠ A.PHASE_ROLE n.val := by
    unfold A.PHASE_WEAR A.PHASE_ROLE
    omega
  unfold wearOne
  extract_lets w max worn s1 s2
  have h1 : s1.g (F.PHASE_WEAR_WEAR n.val) = w :=
    (State.g_p s (F.PHASE_WEAR_WEAR n.val) w (show 16 + 16 ≤ 32 by decide)).trans (Nat.mod_eq_of_lt (wearOf_lt s n.val))
  have h2 : s2.g (F.PHASE_WEAR_WEAR n.val) = w := (State.g_p_addr s1 (F.PHASE_ROLE_WORN n.val) _ _ hne).trans h1
  have hworn : s2.gb (F.PHASE_ROLE_WORN n.val) = worn :=
    State.gb_pb s1 (F.PHASE_ROLE_WORN n.val) worn rfl (show 5 + 1 ≤ 32 by decide)
  split
  · next heq => exact ⟨h1, (eq_of_beq heq).symm⟩
  · have hkeep : ∀ e : Fld, MessageApart e → (q15Put .health (if worn = true then inkMessage 3 (some n) (s.msgRail n) 0 0 w s2
        else s2)).g e = s2.g e := fun e he => by
      refine (he.q15Put_g _ _).trans ?_
      split
      · exact he.inkMessage_g _ _ _ _ _ _ _
      · rfl
    exact ⟨(hkeep _ hwear).trans h2, (gb_of_g (hkeep _ hrole)).trans hworn⟩

/-- A second of an existing phase leaves WEAR at what its counters give, and WORN at its comparison. -/
theorem wearSecond_shows (n : Fin 48) (s : State) :
    (wearSecond n s).g (F.PHASE_WEAR_WEAR n.val) = (wearSecond n s).wearOf n.val
      ∧ (wearSecond n s).gb (F.PHASE_ROLE_WORN n.val) = s.wornAt ((wearSecond n s).wearOf n.val) := by
  have hcfg : MessageApart F.INK_WEARCFG_WEARMAX := wearWord_message (n := n) (.inl rfl)
  have hne : A.INK_WEARCFG ≠ A.PHASE_LIFETH n.val ∧ A.INK_WEARCFG ≠ A.PHASE_WEAR n.val ∧ A.INK_WEARCFG ≠ A.PHASE_ROLE n.val := by
    unfold A.INK_WEARCFG A.PHASE_LIFETH A.PHASE_WEAR A.PHASE_ROLE
    omega
  obtain ⟨hlife, hwear, hrole⟩ := hne
  have hof : ∀ t : State, (wearOne n t).wearOf n.val = t.wearOf n.val := fun t => wearOf_congr fun e he => by
    have haddr : WearWord n e.addr ∧ e.addr ≠ A.PHASE_WEAR n.val ∧ e.addr ≠ A.PHASE_ROLE n.val := by
      unfold WearWord
      simp only [A.INK_WEARCFG, A.PHASE_LIFEAH, A.PHASE_LIFETH, A.PHASE_WEAR, A.PHASE_ROLE] at he ⊢
      omega
    obtain ⟨hword, hw, hr⟩ := haddr
    exact (wearWord_message hword).wearOne_g hw hr t
  have hmax : (zeroDrift n (hotSecond n s)).g F.INK_WEARCFG_WEARMAX = s.g F.INK_WEARCFG_WEARMAX :=
    (hcfg.zeroDrift_g hwear hrole _).trans (hotSecond_g hlife s)
  obtain ⟨hw, hworn⟩ := wearOne_shows n (zeroDrift n (hotSecond n s))
  have hat : ∀ w, (zeroDrift n (hotSecond n s)).wornAt w = s.wornAt w := fun w => by
    unfold State.wornAt
    rw [hmax]
  unfold wearSecond
  rw [hof]
  exact ⟨hw, hworn.trans (hat _)⟩

theorem wearUpdate_shows {s : State} (h : s.running = true) (n : Fin 48) (hn : s.exists_ n.val = true) :
    (wearUpdate s).g (F.PHASE_WEAR_WEAR n.val) = (wearUpdate s).wearOf n.val
      ∧ (wearUpdate s).gb (F.PHASE_ROLE_WORN n.val) = s.wornAt ((wearUpdate s).g (F.PHASE_WEAR_WEAR n.val)) := by
  obtain ⟨v, hv, hu⟩ := forAll_at (State.wearShown n) (fun s m => if s.exists_ m.val then wearSecond m s else s) n
    (fun s m hm => by
      split
      · exact wearSecond_other hm s
      · rfl) s
  rw [← wearUpdate_running h] at hu
  have hex : v.exists_ n.val = true := (congrArg WearShown.present hv).trans hn
  have hmax : v.g F.INK_WEARCFG_WEARMAX = s.g F.INK_WEARCFG_WEARMAX := congrArg WearShown.limit hv
  rw [if_pos hex] at hu
  obtain ⟨hw, hworn⟩ := wearSecond_shows n v
  have hwear : (wearUpdate s).g (F.PHASE_WEAR_WEAR n.val) = (wearSecond n v).wearOf n.val := (congrArg WearShown.wear hu).trans hw
  refine ⟨hwear.trans (congrArg WearShown.counted hu).symm, (congrArg WearShown.worn hu).trans (hworn.trans ?_)⟩
  unfold State.wornAt
  rw [hmax, hwear]

/-! ### The health area (R262, R372) -/

/-- A write into Q15 goes to its end where it has room and nothing waits, and waits in order otherwise. -/
theorem q15Put_nv (w : NvWrite) (s : State) : (q15Put w s).nv = if s.q15Len < 32 ∧ s.nv.waiting = [] then
    { s.nv with q15 := s.nv.q15 ++ [w] } else { s.nv with waiting := s.nv.waiting ++ [w] } := by
  unfold q15Put
  by_cases h : s.q15Len < 32 ∧ s.nv.waiting = []
  · rw [if_pos h, if_pos (by simpa using h)]
    exact routerEdge_keep (·.nv) (fun _ _ _ => rfl) (fun _ _ _ => rfl) _ _ _
  · rw [if_neg h, if_neg (by simpa using h)]

theorem q15Put_dev (w : NvWrite) (s : State) : (q15Put w s).dev = s.dev :=
  q15Put_keep (·.dev) (fun _ _ _ => rfl) (fun _ _ _ => rfl) (fun _ _ => rfl) w s

/-- Settles O38: rewrites by what is formed, a due forecast by its note, wear by the second of each phase, and the health area by
its write into Q15. -/
theorem innkeeperActs : Obligations.InnkeeperActs := by
  unfold Obligations.InnkeeperActs
  refine ⟨fun s k hw hr ht => ?_, fun s k l hw ht he => ?_, fun s k hf => ?_, fun s k f hf => ?_, fun s hr => ?_, fun s hr => ?_,
    fun s hc => ?_, fun s hc => ?_⟩
  · exact congrArg done (ringRewrite_idle hw hr ht)
  · have h := ringRewrite_decided hw ht he
    exact ⟨_, rfl, h.rewrite, h.want, h.seqPend, h.shown, h.role, h.phase⟩
  · exact congrArg done (forecastDue_none hf)
  · obtain ⟨hrail, hlate⟩ := forecastDue_leaves hf
    obtain ⟨hmd, hink⟩ := noteDue_ra k f s
    have hra : (forecastDue k s).ra k = (noteDue k f s).ra k := congrArg (vget · k) hrail
    refine ⟨forecastDue k s, rfl, ?_, ?_, ?_, ?_, hlate⟩
    · rw [hra, hmd]
    iterate 3 rw [hra, hink]
  · exact ⟨_, rfl, fun n hn => wearUpdate_shows hr n hn⟩
  · exact congrArg done (if_neg (by simp [hr]))
  · exact ⟨_, congrArg done (if_pos hc), q15Put_dev _ s, q15Put_nv _ s⟩
  · exact congrArg done (if_neg (by simp [hc]))

end Sys2Proof.Machine
end

section
/-!
PROOFS. Requests to retire a phase, to test it and to end its test, and the end of a test (O39).
-/

open Sys2Proof Sys2Proof.Machine
namespace Sys2Proof.Machine

/-! ### A write of INK_REQ (R264) -/

def RegSpec.inkReq : RegSpec :=
  ⟨.inkReq, 0x130810, [], 0, [⟨28, 4, .rwl, .live⟩, ⟨16, 6, .rwl, .live⟩, ⟨0, 8, .rwl, .live⟩]⟩

theorem locate_inkReq : locate A.INK_REQ = some ⟨.inkReq, 0, 0, 0⟩ := by decide +kernel

/-- INK_REQ takes a written word. -/
def putReq (v : Word) (t : State) : State :=
  ((t.p F.INK_REQ_OP (getBits v 28 4)).p F.INK_REQ_PHASE (getBits v 16 6)).p F.INK_REQ_EPOCH (getBits v 0 8)

theorem putReq_g (v : Word) (t : State) : (putReq v t).g F.INK_REQ_OP = getBits v 28 4
    ∧ (putReq v t).g F.INK_REQ_PHASE = getBits v 16 6 ∧ (putReq v t).g F.INK_REQ_EPOCH = getBits v 0 8 := by
  unfold putReq
  refine ⟨?_, ?_, g_p_getBits _ F.INK_REQ_EPOCH v 0 8 rfl (by decide)⟩
  · rw [State.g_p_apart _ F.INK_REQ_EPOCH F.INK_REQ_OP _ (by decide) (.inr (by decide)),
      State.g_p_apart _ F.INK_REQ_PHASE F.INK_REQ_OP _ (by decide) (.inr (by decide))]
    exact g_p_getBits t F.INK_REQ_OP v 28 4 rfl (by decide)
  · rw [State.g_p_apart _ F.INK_REQ_EPOCH F.INK_REQ_PHASE _ (by decide) (.inr (by decide))]
    exact g_p_getBits _ F.INK_REQ_PHASE v 16 6 rfl (by decide)

/-- The word of a request spells its operation, its phase and its epoch. -/
theorem inkWord_fields {op : Nat} (h : op < 16) (n : Fin 48) (e : BitVec 8) : getBits (inkWord op n e) 28 4 = op
    ∧ getBits (inkWord op n e) 16 6 = n.val ∧ getBits (inkWord op n e) 0 8 = e.toNat := by
  have hn : n.val < 64 := Nat.lt_trans n.isLt (by decide)
  unfold inkWord
  refine ⟨?_, ?_, (getBits_setBits _ 0 8 _ (by decide)).trans (Nat.mod_eq_of_lt e.isLt)⟩
  · exact (getBits_setBits_above _ 0 8 _ 28 4 (by decide) (by decide)).trans
      ((getBits_setBits_above _ 16 6 _ 28 4 (by decide) (by decide)).trans
        ((getBits_setBits 0 28 4 op (by decide)).trans (Nat.mod_eq_of_lt h)))
  · exact (getBits_setBits_above _ 0 8 _ 16 6 (by decide) (by decide)).trans
      ((getBits_setBits _ 16 6 n.val (by decide)).trans (Nat.mod_eq_of_lt hn))

/-- In state t the request op of phase n under epoch e, which the checks let through in s, is decided: INK_REQ holds its word. -/
structure Requested (m : Master) (op : Nat) (n : Fin 48) (e : BitVec 8) (s t : State) : Prop where
  role : t.role = s.role
  phase : t.phase = s.phase
  rail : t.rail = s.rail
  sup : t.sup = s.sup
  field : ∀ f : Fld, f.addr ≠ A.INK_REQ → f.addr < 0x180000 → t.g f = s.g f
  words : OnlyWords t (accepted m A.INK_REQ (inkWord op n e) s) [A.INK_REQ, A.INK_REQSTAT]

theorem putReq_requested (m : Master) (op : Nat) (n : Fin 48) (e : BitVec 8) (s : State) :
    Requested m op n e s (putReq (inkWord op n e) (accepted m A.INK_REQ (inkWord op n e) s)) := by
  unfold putReq
  refine ⟨?_, ?_, ?_, ?_, fun f hf hb => ?_, ?_⟩
  · rw [State.p_role, State.p_role, State.p_role, accepted_role]
  · rw [State.p_phase, State.p_phase, State.p_phase, accepted_phase]
  · rw [State.p_rail, State.p_rail, State.p_rail, accepted_rail]
  · rw [State.p_sup, State.p_sup, State.p_sup, accepted_sup]
  · rw [State.g_p_addr _ F.INK_REQ_EPOCH f _ hf, State.g_p_addr _ F.INK_REQ_PHASE f _ hf, State.g_p_addr _ F.INK_REQ_OP f _ hf]
    exact accepted_g _ _ _ _ f (not_routerWord_of_lt hb)
  · exact (((onlyWords_refl _ _).p F.INK_REQ_OP _ List.mem_cons_self).p F.INK_REQ_PHASE _ List.mem_cons_self).p
      F.INK_REQ_EPOCH _ List.mem_cons_self

/-- A request comes to its decision in the state its write leaves. -/
theorem completes_inkReq {c : Instr} {m : Master} {op : Nat} {n : Fin 48} {e : BitVec 8} {s : State} {P : State → Prop}
    (hc : exec c s = write m A.INK_REQ (inkWord op n e) s) (hj : judge m A.INK_REQ (inkWord op n e) s = .ok) (ho : op < 16)
    (hp : ∀ t, Requested m op n e s t → P (inkRequest op n e t)) : Completes c s P := by
  have hput := putReq_requested m op n e s
  obtain ⟨hop, hph, hep⟩ := putReq_g (inkWord op n e) (accepted m A.INK_REQ (inkWord op n e) s)
  obtain ⟨hwop, hwph, hwep⟩ := inkWord_fields ho n e
  refine completes_regWrite hc hj locate_inkReq ?_
  generalize ht : putReq (inkWord op n e) (accepted m A.INK_REQ (inkWord op n e) s) = t at hput hop hph hep
  have heff : effect1 m ⟨.inkReq, 0, 0, 0⟩ (inkWord op n e) (accepted m A.INK_REQ (inkWord op n e) s)
      (effect0 m ⟨.inkReq, 0, 0, 0⟩ (inkWord op n e) (accepted m A.INK_REQ (inkWord op n e) s)
        (putAll m ⟨.inkReq, 0, 0, 0⟩ A.INK_REQ (inkWord op n e) (accepted m A.INK_REQ (inkWord op n e) s)))
      = inkRequest (t.g F.INK_REQ_OP) (Fin.ofNat 48 (t.g F.INK_REQ_PHASE)) (BitVec.ofNat 8 (t.g F.INK_REQ_EPOCH)) t := by
    subst ht
    rfl
  rw [heff, hop, hph, hep, hwop, hwph, hwep, Fin.ofNat_val_eq_self, BitVec.ofNat_toNat, BitVec.setWidth_eq]
  exact hp t hput

section
variable {m : Master} {op : Nat} {n : Fin 48} {e : BitVec 8} {s t : State} (h : Requested m op n e s t)
include h

theorem Requested.rl (j : Fin 48) : t.rl j = s.rl j := rl_of_role h.role j

/-- The fields of the phases' registers are those before the request. -/
theorem Requested.phaseField {f : Fld} {j : Fin 48} (hf : f.addr = A.PHASE_CTL j.val ∨ f.addr = A.PHASE_ASSIGN j.val
    ∨ f.addr = A.PHASE_ROLE j.val ∨ f.addr = A.PHASE_STALE j.val) : t.g f = s.g f := by
  have haddr : f.addr ≠ A.INK_REQ ∧ f.addr < 0x180000 := by
    unfold A.INK_REQ A.PHASE_CTL A.PHASE_ASSIGN A.PHASE_ROLE A.PHASE_STALE at *
    omega
  exact h.field f haddr.1 haddr.2

/-- A phase may be tested where it might be before the request's write. -/
theorem Requested.mayTest (j : Fin 48) : t.mayTest j = s.mayTest j := by
  have hasgn : t.gb (F.PHASE_ASSIGN_ASGN j.val) = s.gb (F.PHASE_ASSIGN_ASGN j.val) :=
    gb_of_g (h.phaseField (.inr (.inl rfl)))
  have hassign : t.g (F.PHASE_ASSIGN_RAIL j.val) = s.g (F.PHASE_ASSIGN_RAIL j.val) := h.phaseField (.inr (.inl rfl))
  have hmode : t.g (F.PHASE_CTL_MODE j.val) = s.g (F.PHASE_CTL_MODE j.val) := h.phaseField (.inl rfl)
  unfold State.mayTest State.railOf State.exists_ State.paired State.st State.ra
  rw [hasgn, hassign, hmode, h.rl, h.rail, h.sup]

end

/-! ### The result of a request -/

theorem reqResult_shows {n : Fin 48} {res : Nat} (h : res < 4) (s : State) :
    (reqResult n res s).g F.INK_REQSTAT_RESULT = res ∧ (reqResult n res s).g F.INK_REQSTAT_PHASE = n.val := by
  have hn : n.val < 64 := Nat.lt_trans n.isLt (by decide)
  unfold reqResult
  refine ⟨?_, (State.g_p _ F.INK_REQSTAT_PHASE _ (by decide)).trans (Nat.mod_eq_of_lt hn)⟩
  rw [State.g_p_apart _ F.INK_REQSTAT_PHASE F.INK_REQSTAT_RESULT _ (by decide) (.inr (by decide))]
  exact (State.g_p s F.INK_REQSTAT_RESULT res (by decide)).trans (Nat.mod_eq_of_lt h)

theorem reqResult_g {n : Fin 48} {res : Nat} {f : Fld} (h : f.addr ≠ A.INK_REQSTAT) (s : State) :
    (reqResult n res s).g f = s.g f :=
  (State.g_p_addr _ F.INK_REQSTAT_PHASE f _ h).trans (State.g_p_addr s F.INK_REQSTAT_RESULT f _ h)

theorem reqResult_role (n : Fin 48) (res : Nat) (s : State) : (reqResult n res s).role = s.role := by
  rw [reqResult, State.p_role, State.p_role]

theorem reqResult_phase (n : Fin 48) (res : Nat) (s : State) : (reqResult n res s).phase = s.phase := by
  rw [reqResult, State.p_phase, State.p_phase]

theorem reqResult_rail (n : Fin 48) (res : Nat) (s : State) : (reqResult n res s).rail = s.rail := by
  rw [reqResult, State.p_rail, State.p_rail]

theorem reqResult_rl (n : Fin 48) (res : Nat) (s : State) (j : Fin 48) : (reqResult n res s).rl j = s.rl j :=
  rl_of_role (reqResult_role n res s) j

theorem OnlyWords.reqResult {u s : State} {l : List Nat} (h : OnlyWords u s l) (hl : A.INK_REQSTAT ∈ l) (n : Fin 48)
    (res : Nat) : OnlyWords (reqResult n res u) s l := (h.p F.INK_REQSTAT_RESULT res hl).p F.INK_REQSTAT_PHASE n.val hl

theorem retireApart_result : RetireApart F.INK_REQSTAT_RESULT := retireApart_reqstat rfl (by decide)
theorem retireApart_phase : RetireApart F.INK_REQSTAT_PHASE := retireApart_reqstat rfl (by decide)

/-! ### What a request comes to -/

section
variable {op : Nat} {n : Fin 48} {s : State}

theorem inkRequest_stale {e : BitVec 8} (h : e ≠ (s.rl n).epoch) : inkRequest op n e s
    = inkMessage 7 (some n) (s.msgRail n) 0 0 op (reqResult n 3 (s.inc (F.PHASE_STALE_STALE n.val))) := if_pos h

/-- The state in which an accepted RETIRE retires its phase: a test has ended. -/
def retireReady (n : Fin 48) (s : State) : State :=
  if (s.rl n).role = .test then endTest n (reqResult n 1 s) else reqResult n 1 s

/-- A decision taken on the failure of a test, by the condition the test decides. -/
theorem ite_not_of_iff {α : Type} {b : Bool} {c : Prop} [Decidable c] (h : b = true ↔ c) (x y : α) :
    (if !b then x else y) = if c then y else x := by
  by_cases hc : c
  · simp [hc, h.mpr hc]
  · simp [hc, mt h.mp hc]

theorem inkRequest_retire {e : BitVec 8} (he : e = (s.rl n).epoch) : inkRequest 1 n e s =
    if (s.rl n).role ≠ .retired ∧ (s.rl n).role ≠ .unavailable then retirePhase n 5 (retireReady n s) else reqResult n 2 s :=
  (if_neg (not_not_intro he)).trans (ite_not_of_iff (by simp) _ _)

theorem inkRequest_test {e : BitVec 8} (he : e = (s.rl n).epoch) : inkRequest 2 n e s =
    if s.mayTest n = true then beginTest n (reqResult n 1 s) else reqResult n 2 s :=
  (if_neg (not_not_intro he)).trans (ite_not_of_iff Iff.rfl _ _)

theorem inkRequest_endtest {e : BitVec 8} (he : e = (s.rl n).epoch) : inkRequest 3 n e s =
    if (s.rl n).role = .test then endTest n (reqResult n 1 s) else reqResult n 2 s :=
  (if_neg (not_not_intro he)).trans (ite_not_of_iff (by simp) _ _)

end

/-! ### The start of a test (R263) -/

theorem not_test_of_mayTest {n : Fin 48} {s : State} (h : s.mayTest n = true) : (s.rl n).role ≠ .test := fun ht => by
  unfold State.mayTest at h
  simp [ht] at h

/-- What the start of a test leaves: TEST under the next epoch, the former role kept, and every other phase and every rail. -/
structure TestBegun (n : Fin 48) (s u : State) : Prop where
  role : (u.rl n).role = .test
  before : (u.rl n).before = (s.rl n).role
  epoch : (u.rl n).epoch = (s.rl n).epoch + 1
  stuck : (u.rl n).stuck = false
  others : ∀ j, j ≠ n → u.rl j = s.rl j
  rail : u.rail = s.rail

theorem beginTest_begins {n : Fin 48} {s : State} (h : (s.rl n).role ≠ .test) : TestBegun n s (beginTest n s) := by
  have hrl : ∀ j, (beginTest n s).rl j = (changeRole n .test 0 (s.modRl n fun r => { r with
      before := (s.rl n).role, testRun := 0, testSum := 0, testCnt := 0, stuckN := 0, stuck := false })).rl j :=
    rl_of_role (startPhase_role n _)
  have hn := hrl n
  rw [changeRole_rl_same (by rwa [State.modRl_same]) 0, State.modRl_same] at hn
  refine ⟨by rw [hn], by rw [hn], by rw [hn], by rw [hn], fun j hj => ?_, ?_⟩
  · rw [hrl, changeRole_rl_ne hj, State.modRl_ne s _ hj]
  · unfold beginTest
    rw [startPhase_rail, changeRole_rail, State.modRl_rail]

theorem MessageApart.beginTest_g {e : Fld} (h : MessageApart e) {n : Fin 48} (hc : e.addr ≠ A.PHASE_CTL n.val) (s : State) :
    (beginTest n s).g e = s.g e := by
  unfold beginTest startPhase
  rw [State.modPh_g, h.phOff_g, State.pb, State.g_p_addr _ (F.PHASE_CTL_FORCEEN n.val) e _ hc, h.changeRole_g, State.modRl_g]

/-! ### The requests' effects -/

section
variable {m : Master} {op : Nat} {n : Fin 48} {e : BitVec 8} {s t : State}

/-- A request under another epoch is counted and changes no role. -/
theorem Requested.stale_leaves (h : Requested m op n e s t) (he : e ≠ (s.rl n).epoch) :
    let u := inkRequest op n e t
    u.g F.INK_REQSTAT_RESULT = 3 ∧ u.g F.INK_REQSTAT_PHASE = n.val
      ∧ u.g (F.PHASE_STALE_STALE n.val) = incHold 16 (s.g (F.PHASE_STALE_STALE n.val))
      ∧ u.role = s.role ∧ u.phase = s.phase ∧ u.rail = s.rail := by
  intro u
  have hstale : A.INK_REQSTAT < A.PHASE_STALE n.val ∧ A.PHASE_STALE n.val < 0x180000 := by
    unfold A.INK_REQSTAT A.PHASE_STALE
    omega
  have hu : u = inkMessage 7 (some n) (t.msgRail n) 0 0 op (reqResult n 3 (t.inc (F.PHASE_STALE_STALE n.val))) :=
    inkRequest_stale (by rwa [h.rl])
  obtain ⟨hres, hph⟩ := reqResult_shows (n := n) (res := 3) (by decide) (t.inc (F.PHASE_STALE_STALE n.val))
  have hcount : (t.inc (F.PHASE_STALE_STALE n.val)).g (F.PHASE_STALE_STALE n.val)
      = incHold 16 (s.g (F.PHASE_STALE_STALE n.val)) :=
    (State.g_inc t (F.PHASE_STALE_STALE n.val) (show 0 + 16 ≤ 32 by decide)).trans
      (congrArg (incHold 16) (h.phaseField (.inr (.inr (.inr rfl)))))
  rw [hu]
  refine ⟨?_, ?_, ?_, ?_, ?_, ?_⟩
  · rw [retireApart_result.message.inkMessage_g, hres]
  · rw [retireApart_phase.message.inkMessage_g, hph]
  · rw [(messageApart_of (e := F.PHASE_STALE_STALE n.val) hstale.1 hstale.2).inkMessage_g, reqResult_g (Nat.ne_of_gt hstale.1),
      hcount]
  · rw [reportFrame_role.inkMessage_eq, reqResult_role, State.inc_role, h.role]
  · rw [reportFrame_phase.inkMessage_eq, reqResult_phase, State.inc_phase, h.phase]
  · rw [inkMessage_rail, reqResult_rail, State.inc_rail, h.rail]

/-- What is apart from TESTRES, the end of a test before a retirement leaves. -/
theorem MessageApart.retireReady_g {f : Fld} (h : MessageApart f) (ha : f.Apart (F.PHASE_ROLE_TESTRES n.val)) (s : State) :
    (retireReady n s).g f = (reqResult n 1 s).g f := by
  unfold retireReady
  split
  · next ht =>
    exact (h.endTest_g (by rwa [reqResult_rl])).trans (g_p_of_apart _ _ (show 8 + 2 ≤ 32 by decide) ha)
  · rfl

/-- A RETIRE that takes effect shows its result, and cause 5. -/
theorem Requested.retire_leaves (h : Requested m op n e s t) (hc : s.g (F.PHASE_ROLE_RCAUSE n.val) = 0) :
    let u := retirePhase n 5 (retireReady n t)
    u.g F.INK_REQSTAT_RESULT = 1 ∧ u.g F.INK_REQSTAT_PHASE = n.val ∧ u.g (F.PHASE_ROLE_RCAUSE n.val) = 5 := by
  intro u
  have hrole : A.INK_REQSTAT ≠ A.PHASE_ROLE n.val := by
    unfold A.PHASE_ROLE A.INK_REQSTAT
    omega
  have hcause : (retireReady n t).g (F.PHASE_ROLE_RCAUSE n.val) = 0 := by
    rw [(retireApart_rcause n).message.retireReady_g (.inr (.inl (show 0 + 4 ≤ 8 by decide))), reqResult_g hrole.symm,
      h.phaseField (.inr (.inr (.inl rfl))), hc]
  have hkeep : ∀ {f : Fld}, RetireApart f → f.addr ≠ A.PHASE_ROLE n.val → u.g f = (reqResult n 1 t).g f := fun hf ha =>
    (hf.retirePhase_keeps ha hcause 5).trans (hf.message.retireReady_g (.inl ha) _)
  obtain ⟨hres, hph⟩ := reqResult_shows (n := n) (res := 1) (by decide) t
  exact ⟨(hkeep retireApart_result hrole).trans hres, (hkeep retireApart_phase hrole).trans hph,
    retirePhase_rcause hcause (by decide)⟩

/-- A TEST that takes effect shows its result. -/
theorem Requested.test_leaves (h : Requested m op n e s t) (ht : (s.rl n).role ≠ .test) :
    (beginTest n (reqResult n 1 t)).g F.INK_REQSTAT_RESULT = 1 ∧ TestBegun n s (beginTest n (reqResult n 1 t)) := by
  have hctl : A.INK_REQSTAT ≠ A.PHASE_CTL n.val := by
    unfold A.INK_REQSTAT A.PHASE_CTL
    omega
  have hrl : ∀ j, (reqResult n 1 t).rl j = s.rl j := fun j => (reqResult_rl n 1 t j).trans (h.rl j)
  obtain ⟨hrole, hbefore, hepoch, hstuck, hothers, hrail⟩ := beginTest_begins (s := reqResult n 1 t) (by rwa [hrl])
  rw [hrl] at hbefore hepoch
  refine ⟨(retireApart_result.message.beginTest_g hctl _).trans (reqResult_shows (by decide) t).1, hrole, hbefore, hepoch, hstuck,
    fun j hj => (hothers j hj).trans (hrl j), ?_⟩
  rw [hrail, reqResult_rail, h.rail]

/-- An ENDTEST that takes effect shows its result. -/
theorem Requested.endtest_leaves (h : Requested m op n e s t) (ht : (s.rl n).role = .test) (hb : (s.rl n).before ≠ .test) :
    (endTest n (reqResult n 1 t)).g F.INK_REQSTAT_RESULT = 1 ∧ TestEnded n s (endTest n (reqResult n 1 t)) := by
  have hrole : A.INK_REQSTAT ≠ A.PHASE_ROLE n.val := by
    unfold A.PHASE_ROLE A.INK_REQSTAT
    omega
  have hrl : ∀ j, (reqResult n 1 t).rl j = s.rl j := fun j => (reqResult_rl n 1 t j).trans (h.rl j)
  have ht' : ((reqResult n 1 t).rl n).role = .test := by rwa [hrl]
  have hres : (endTest n (reqResult n 1 t)).g F.INK_REQSTAT_RESULT = (reqResult n 1 t).g F.INK_REQSTAT_RESULT :=
    (retireApart_result.message.endTest_g ht').trans (State.g_p_addr _ _ _ _ hrole)
  obtain ⟨hback, hepoch, hrun, hothers, hrail⟩ := endTest_ends ht' (by rwa [hrl])
  rw [hrl] at hback hepoch
  refine ⟨hres.trans (reqResult_shows (by decide) t).1, hback, hepoch, hrun, fun j hj => (hothers j hj).trans (hrl j), ?_⟩
  rw [hrail, reqResult_rail, h.rail]

/-- A request whose condition does not hold has RESULT 2, and writes INK_REQ and INK_REQSTAT alone. -/
theorem Requested.refused_leaves (h : Requested m op n e s t) : (reqResult n 2 t).g F.INK_REQSTAT_RESULT = 2
    ∧ (reqResult n 2 t).g F.INK_REQSTAT_PHASE = n.val
    ∧ OnlyWords (reqResult n 2 t) (accepted m A.INK_REQ (inkWord op n e) s) [A.INK_REQ, A.INK_REQSTAT] := by
  obtain ⟨hres, hph⟩ := reqResult_shows (n := n) (res := 2) (by decide) t
  exact ⟨hres, hph, h.words.reqResult (by simp) n 2⟩

end

/-! ### The end of a test by its length (R263) -/

theorem phaseTestEnd_ended {n : Fin 48} {s : State} (h : s.g F.INK_TEST_TESTLEN ≤ (s.rl n).testRun) :
    phaseTestEnd n (s.rl n).epoch s = endTest n s := by
  unfold phaseTestEnd
  rw [if_neg (fun h => h rfl)]
  exact if_pos h

theorem phaseTestEnd_running {n : Fin 48} {s : State} (h : (s.rl n).testRun < s.g F.INK_TEST_TESTLEN) :
    phaseTestEnd n (s.rl n).epoch s = s := by
  unfold phaseTestEnd
  rw [if_neg (fun h => h rfl)]
  exact if_neg (Nat.not_le.mpr h)

theorem phaseTestEnd_untested {n : Fin 48} {s : State} (h : (s.rl n).role ≠ .test) : phaseTestEnd n (s.rl n).epoch s = s := by
  obtain hrun | hend := Nat.lt_or_ge (s.rl n).testRun (s.g F.INK_TEST_TESTLEN)
  · exact phaseTestEnd_running hrun
  · exact (phaseTestEnd_ended hend).trans (endTest_untested h)

theorem testResult_lt (s : State) (n : Fin 48) : s.testResult n < 4 := by
  unfold State.testResult
  split
  · decide
  · split
    · exact getBits_lt _ 8 2
    · split <;> decide

theorem endTest_testres {n : Fin 48} {s : State} (h : (s.rl n).role = .test) :
    (endTest n s).g (F.PHASE_ROLE_TESTRES n.val) = s.testResult n := by
  have haddr : A.INK_REQSTAT < A.PHASE_ROLE n.val ∧ A.PHASE_ROLE n.val < 0x180000 := by
    unfold A.INK_REQSTAT A.PHASE_ROLE
    omega
  rw [(messageApart_of (e := F.PHASE_ROLE_TESTRES n.val) haddr.1 haddr.2).endTest_g h,
    State.g_p s (F.PHASE_ROLE_TESTRES n.val) _ (show 8 + 2 ≤ 32 by decide)]
  exact Nat.mod_eq_of_lt (testResult_lt s n)

/-- The end of a test puts the phase's health into Q15. -/
theorem endTest_q15 {n : Fin 48} {s : State} (h : (s.rl n).role = .test) (hq : s.q15Len < 32) (hw : s.nv.waiting = []) :
    (endTest n s).nv.q15 = s.nv.q15 ++ [.health] := by
  obtain ⟨rail, heq⟩ := endTest_tested h
  rw [heq]
  generalize hu : inkMessage 6 (some n) rail 0 0 (s.testResult n) (changeRole n (s.rl n).before 0 (testStopped n s)) = u
  have hnv : u.nv = s.nv := by
    rw [← hu, inkMessage_nv (by decide), changeRole_nv, testStopped_nv]
  have hlen : u.q15Len = s.q15Len := by
    unfold State.q15Len
    rw [hnv]
  rw [q15Put_nv, hlen, hnv, if_pos ⟨hq, hw⟩]

/-- Settles O39: each request by what it comes to in the state its write leaves, and the end of a test by endTest. -/
theorem phaseRequestsAndTests : Obligations.PhaseRequestsAndTests := by
  unfold Obligations.PhaseRequestsAndTests
  refine ⟨fun s m n e hj he => ?_, fun s m n hj hr hu hc => ?_, fun s m n hj hr => ?_, fun s m n hj hmay => ?_,
    fun s m n hj hmay => ?_, fun s m n hj ht hb => ?_, fun s m n hj ht => ?_, fun s n ht hb hlen hq hw => ?_, fun s n hrun => ?_,
    fun s n ht => ?_, fun s n e he => ?_⟩
  · exact completes_inkReq rfl hj (by decide) fun t h => h.stale_leaves he
  · refine completes_inkReq rfl hj (by decide) fun t h => ?_
    rw [inkRequest_retire (h.rl n ▸ rfl), if_pos (by rw [h.rl]; exact ⟨hr, hu⟩)]
    exact h.retire_leaves hc
  · refine completes_inkReq rfl hj (by decide) fun t h => ?_
    rw [inkRequest_retire (h.rl n ▸ rfl), if_neg (by rw [h.rl]; exact fun hx => hx.1 hr)]
    exact h.refused_leaves
  · refine completes_inkReq rfl hj (by decide) fun t h => ?_
    rw [inkRequest_test (h.rl n ▸ rfl), if_pos (by rwa [h.mayTest])]
    obtain ⟨hres, hb⟩ := h.test_leaves (not_test_of_mayTest hmay)
    exact ⟨hres, hb.role, hb.before, hb.epoch, hb.stuck, hb.others, hb.rail⟩
  · refine completes_inkReq rfl hj (by decide) fun t h => ?_
    rw [inkRequest_test (h.rl n ▸ rfl), if_neg (by simp [h.mayTest, hmay])]
    obtain ⟨hres, -, hwords⟩ := h.refused_leaves
    exact ⟨hres, hwords⟩
  · refine completes_inkReq rfl hj (by decide) fun t h => ?_
    rw [inkRequest_endtest (h.rl n ▸ rfl), if_pos (by rwa [h.rl])]
    obtain ⟨hres, he⟩ := h.endtest_leaves ht hb
    exact ⟨hres, he.role, he.epoch, he.others, he.rail⟩
  · refine completes_inkReq rfl hj (by decide) fun t h => ?_
    rw [inkRequest_endtest (h.rl n ▸ rfl), if_neg (by rwa [h.rl])]
    obtain ⟨hres, -, hwords⟩ := h.refused_leaves
    exact ⟨hres, hwords⟩
  · have h := endTest_ends ht hb
    have hres := endTest_testres ht
    refine ⟨_, congrArg done (phaseTestEnd_ended hlen), h.role, h.epoch, h.run, fun hs => ?_, fun hs hcnt => ?_,
      endTest_q15 ht hq hw, h.others, h.rail⟩
    · rw [hres, State.testResult, if_pos hs]
    · rw [hres, State.testResult, if_neg (by simp [hs]), if_neg hcnt]
  · exact congrArg done (phaseTestEnd_running hrun)
  · exact congrArg done (phaseTestEnd_untested ht)
  · exact congrArg done (if_pos he)

end Sys2Proof.Machine
end
